-- ==== Sys2Proof/Word.lean ====
section
/-! DEFINITION. The word types of the model: bytes, registers of 32 and 64 bits (R10), byte strings, and the
sparse table type in which every indexed piece of state is held (a list of index and value pairs in rising
order of index; an index that is not listed holds the table's default value). -/

namespace Sys2Proof

/-- One byte. -/
abbrev Byte := BitVec 8
/-- One 32-bit register (R10). -/
abbrev Word := BitVec 32
/-- One 64-bit register (R10). -/
abbrev DWord := BitVec 64
/-- A byte string, first byte first. -/
abbrev Bytes := List Byte
/-- A sparse table from indices to values: the indices rise strictly, and no listed value is the default. -/
abbrev Tbl (α : Type) := List (Nat × α)

end Sys2Proof
end

