-- ==== Sys2Proof/Syntax.lean ====
section
/-! DEFINITION. The commands of the module: one constructor of `Instr` for each of the 309 rows of
spec/opcode_table.json, with the operands the outside world gives it. What only the physical world can say (the
bytes a host read returns, the samples of a noise source, whether a monitor sees a condition, whether a doubled
computation was disturbed) is an operand; what the spec computes is computed by the meaning. -/

namespace Sys2Proof

/-- A function of the module: 0 is the PF (tenant 0), n is VF n (tenant n) (R47). -/
abbrev Fn := Fin 1025
/-- A Deck entry index (R136). -/
abbrev Idx := Fin 32768
/-- A pier (R16). -/
abbrev PierNo := Fin 128

/-- The two fabric PLLs (R19). -/
inductive PllName where
  | a
  | b
deriving DecidableEq, Repr

/-- An engine bay (R16). -/
inductive Bay where
  | cipher (b : Fin 4)
  | hash (b : Fin 2)
  | pk (b : Fin 6)
deriving DecidableEq, Repr

/-- The kinds of engine a pier names when it places a chain (R319, R345). -/
inductive EngKind where
  | cipher
  | hash
  | pk
deriving DecidableEq, Repr

/-- Who writes a register: the PF through BAR0, a VF through its BAR0, or the MSS through the control space. -/
inductive View where
  | pf
  | vf (n : Fn)
  | mss
deriving DecidableEq, Repr

/-- How a host read ends in error (R68, R275, event 0x040A of R715). -/
inductive ReadErr where
  | unsupported
  | abort
  | poisoned
  | timeout
deriving DecidableEq, Repr

/-- What a host read returns. -/
inductive HostRead where
  | data (bytes : Bytes)
  | error (e : ReadErr)
deriving DecidableEq, Repr

/-- The host-set fields of a tenant record (R72). -/
inductive TnField where
  | sched
  | inflightMax
  | winBase
  | winSize
  | kdirBase
  | kdirCount
deriving DecidableEq, Repr

/-- The registers that REGISTER_WRITE reaches: those with no behaviour of their own (R12), the write-one-to-clear
registers, and `readOnly` for every register that ignores writes (RO registers and reserved ranges). -/
inductive Reg where
  | qpSqBase (f : Fn) (q : Fin 64)
  | qpCqBase (f : Fn) (q : Fin 64)
  | qpCfg (f : Fn) (q : Fin 64)
  | qpImod (f : Fn) (q : Fin 64)
  | qpStatus (f : Fn) (q : Fin 64)
  | tnEvt (f : Fn)
  | tnErr (f : Fn)
  | msixAddr (f : Fn) (v : Fin 2048)
  | msixData (f : Fn) (v : Fin 2048)
  | msixMask (f : Fn) (v : Fin 2048)
  | dspCtrl
  | kcCtrl
  | pksUcodeSrc
  | pksUcodeTargetLo
  | pksUcodeTargetHi
  | pksUcodeDigest (i : Fin 12)
  | pkmRam (w : Fin 2048)
  | rngCtrl
  | rngKat
  | rngEvt
  | trsEvt
  | tgErr
  | memCtrl
  | memErr
  | memErrInfo
  | memTestCheck
  | memTestBase
  | memTestDsym
  | parLatch
  | parErr
  | parBlog (i : Fin 16)
  | evrPage
  | evrEvt
  | evrWrHdr
  | evrWrP (i : Fin 4)
  | mbxStatus
  | mbxReq (i : Fin 16384)
  | vfMbxStatus
  | vfMbxReply
  | vfMbxReq (i : Fin 28)
  | ancErr
  | ancWearSel
  | cfgFlashAddr
  | cfgLen
  | cfgMemAddr
  | pwrMode
  | pwrWakeEn
  | pwrWakePend
  | pwrWakeTimer
  | nrgPolicy
  | nrgEvt
  | mssBootInfo
  | readOnly
deriving DecidableEq, Repr

/-- A 128-byte engine request entry (R303, R341); ENGINE number and pier are the placement's. -/
structure Req where
  /-- OP (R306, R342). -/
  op : Nat
  /-- RFLAGS[0] CHAIN. -/
  chain : Bool
  /-- RFLAGS[1] KEY_CHAIN. -/
  keyChain : Bool
  /-- RFLAGS[2] TO_CHAIN. -/
  toChain : Bool
  /-- RFLAGS[3] MARK. -/
  mark : Bool
  /-- KEY_OP (R311). -/
  keyOp : Nat
  /-- SLOT (R303). -/
  slot : Nat
  /-- TENANT. -/
  tenant : Nat
  /-- DECK_IDX. -/
  deckIdx : Nat
  /-- ATTEMPT. -/
  attempt : Nat
  /-- PIER. -/
  pier : Nat
  /-- OUT_ALG. -/
  outAlg : Nat
  /-- OUT_USAGE. -/
  outUsage : Nat
  /-- LEN. -/
  len : Nat
  /-- AUX. -/
  aux : Nat
  /-- SRC. -/
  src : Nat
  /-- DST. -/
  dst : Nat
  /-- IV, 16 bytes. -/
  iv : Bytes
  /-- CMP, 16 bytes. -/
  cmp : Bytes
  /-- DATA, 48 bytes. -/
  data : Bytes
  /-- The chain data register feeds the member in place of DATA (R309). -/
  fromChainData : Bool
deriving DecidableEq, Repr

/-- The kind of an interconnect access (R452). -/
inductive AccKind where
  | read
  | write
  | fetch
deriving DecidableEq, Repr

/-- What the check code says of a word or stripe that is read (R487, R490). -/
inductive Ecc where
  | clean
  | correctable (syndrome : BitVec 8)
  | uncorrectable (syndrome : BitVec 8)
deriving DecidableEq, Repr

/-- An interconnect access (R452), with what disturbs it: `flip1`, `flip2` say that the first and the second pair
of default-map computations differ (R459), `parity` names a rule of which one or both stored copies are found lost
(R465; `true`: both), `ecc` is the state of the stored code word met. -/
structure Access where
  init : Fin 32
  unit : Fin 128
  kind : AccKind
  addr : Nat
  len : Nat
  wdata : Bytes
  flip1 : Bool
  flip2 : Bool
  parity : Option (Fin 4096 × Bool)
  ecc : Ecc
deriving DecidableEq, Repr

/-- The memories of R484 and their codes in MEM_ERR_INFO (R506). -/
inductive SramMem where
  | pool
  | pierLocal
  | mssSram
  | operand
  | controlStore
  | reqQueue
  | evrStore
deriving DecidableEq, Repr

/-- The two Trestle ports. -/
inductive Port where
  | a
  | b
deriving DecidableEq, Repr

/-- The header of a received Trestle frame (R415), less VERSION, TYPE and LEN, with the port it arrives on. -/
structure Hdr where
  port : Port
  src : Nat
  dst : Nat
  seq : Nat
  ack : Nat
  term : Nat
  tenant : Nat
  hear : Bool
deriving DecidableEq, Repr

/-- The channel keys of one neighbour link (R414): the association number, and the SAK and salt of the channel. -/
structure Sak where
  an : Nat
  sak : BitVec 256
  salt : BitVec 96
deriving DecidableEq, Repr

/-- The contents of ENROL_GRANT (step 6 of R422). -/
structure EnrolGrant where
  member : Nat
  role : Nat
  parent : Nat
  standby : Bool
  term : Nat
  clTimeout : Nat
  crk : BitVec 256
  crkEpoch : BitVec 32
  sak : Sak
deriving DecidableEq, Repr

/-- One replicated record (R427). -/
inductive ReplRec where
  | officer (i : Fin 32) (permit : BitVec 16) (valid : Bool) (key : Bytes)
  | quorum (m0 m1 : DWord)
  | tenantCreate (t : Fn) (share : Nat) (policy dectab : DWord) (tdkEpoch : BitVec 32)
  | tenantConfig (t : Fn) (suspend : Bool) (share : Nat) (policy dectab : DWord)
  | tenantRemove (t : Fn)
  | clTimeout (ms : Nat)
  | standby (member : Nat)
  | memberAdd (member role parent : Nat)
  | memberRemove (member : Nat)
deriving DecidableEq, Repr

/-- The kind of a key change (R429). -/
inductive ChangeKind where
  | stage
  | commit
  | abandon
  | revoke
deriving DecidableEq, Repr

/-- The body of PROPOSE (R429). -/
structure Proposal where
  pid : BitVec 64
  origin : Nat
  kind : ChangeKind
  tenant : Nat
  keyId : BitVec 64
  epoch : BitVec 32
  kcv : BitVec 24
  testIn : Bytes
  testOut : Bytes
  blobs : List Bytes
deriving DecidableEq, Repr

/-- The body of APPLY (R416, R434). -/
structure ApplyMsg where
  pid : BitVec 64
  tenant : Nat
  keyId : BitVec 64
  word : DWord
  ckseq : BitVec 32
  excluded : List Nat
deriving DecidableEq, Repr

/-- The body of RESYNC_DATA for one tenant (R438): the non-zero key state words, the next blobs of staged keys with
whether each passes the test of R430 at this member's own host, the CKSEQ and the configuration words. -/
structure ResyncMsg where
  tenant : Nat
  words : List (BitVec 64 × DWord)
  stagedOk : Bool
  ckseq : BitVec 32
  cfg : List DWord
deriving DecidableEq, Repr

/-- The path a management request arrives on (R562). -/
inductive Path where
  | pf
  | service
  | vf (n : Fn)
deriving DecidableEq, Repr

/-- An ACTION request (R568): path, TAG, action body, ticket, and whether the second verdict computation was
disturbed so that the two differ (R580). -/
structure ActionReq where
  path : Path
  tag : Word
  body : Bytes
  ticket : Bytes
  flip : Bool
deriving DecidableEq, Repr

/-- What the boot meets in the physical world (R608, R613, R664): the straps, anchor words whose two copies are lost,
which doubled image verdicts were disturbed (a bit per image slot of R601), and the Parapet conditions that hold. -/
structure BootObs where
  modeSel : BitVec 2
  ancLost : List (Fin 8192)
  flips : BitVec 16
  cond : BitVec 13
  fullCharge : Nat
deriving DecidableEq, Repr

/-- The wake sources of R639: the five maskable ones, and the two that cannot be masked. -/
inductive WakeSrc where
  | host
  | trestle
  | service
  | timer
  | perst
  | parapet
  | mainLoss
deriving DecidableEq, Repr

/-- A unit whose quarantines are counted (R176, R325, R359, R389). -/
inductive QUnit where
  | pier (p : PierNo)
  | engine (e : Fin 48)
  | pks (e : Fin 48)
  | source (n : Fin 4)
deriving DecidableEq, Repr

/-- What a host read that times out was for (R65, R275). -/
inductive ReadFor where
  | descriptors (tag : Nat)
  | item (d : Idx)
deriving DecidableEq, Repr

/-- The commands: one constructor for each row of spec/opcode_table.json, in the table's order. -/
inductive Instr where
  | registerWrite (v : View) (r : Reg) (value : DWord)
  | clockMonitorWindow (pll : PllName) (inTolerance : Bool)
  | fabricPllFail (cause : Fin 3)
  | standbyPllFail
  | pllQuarantineEnd (pll : PllName) (pass : Bool)
  | mssPllLoss
  | mssPllRelock
  | pierGroupPowerUp (g : Fin 16)
  | bayPowerGate (b : Bay)
  | bayWake (b : Bay)
  | bayWakeDone (b : Bay)
  | sqDoorbell (f : Fn) (q : Fin 64) (t : Word)
  | cqHeadWrite (f : Fn) (q : Fin 64) (h : Word)
  | qpEnable (f : Fn) (q : Fin 64) (cfg : Word)
  | qpDisable (f : Fn) (q : Fin 64)
  | fetchGrant
  | descriptorArrival (tag : Nat) (descs : List Bytes)
  | descriptorReadError (tag : Nat) (e : ReadErr)
  | inputReadComplete (d : Idx) (n : Nat) (r : HostRead)
  | imodTimerExpiry (f : Fn) (q : Fin 64)
  | msixUnmask (f : Fn) (v : Fin 2048)
  | tenantRecordWrite (f : Fn) (fld : TnField) (value : DWord)
  | tenantSuspend (f : Fn) (on : Bool)
  | vfFlr (f : Fn)
  | vfSessionsClear (f : Fn)
  | vfFlrReady (f : Fn)
  | pfFlr
  | pfFlrReady
  | vfEnableClear
  | vfEnableSet (numVfs : Nat)
  | hotReset
  | dlDown
  | perstAssert
  | perstDeassert
  | configRequest (f : Fn) (d3 : Option Bool)
  | takePortRead (p : PierNo)
  | itemGrant
  | itemPost (p : PierNo)
  | releaseTest (d : Idx) (entryLost : Bool) (flip : Bool)
  | releaseEnd (d : Idx)
  | deadlineExpiry (d : Idx)
  | itemWatchdogExpiry (p : PierNo)
  | pierStallDetect (p : PierNo)
  | stepMonitorFault (d : Idx)
  | pierFault (p : PierNo) (localMemory : Bool)
  | pierSelfTestEnd (p : PierNo) (pass : Bool)
  | pinTranslate (d : Idx)
  | pinVerifyOffset (d : Idx)
  | pinGenerateOffset (d : Idx)
  | dukptPinTranslate (d : Idx)
  | dukptMacVerify (d : Idx)
  | macGenerate (d : Idx)
  | macVerify (d : Idx)
  | emvArqcVerify (d : Idx)
  | emvArpcGenerate (d : Idx)
  | cvcGenerate (d : Idx)
  | cvcVerify (d : Idx)
  | fpeFf1 (d : Idx)
  | xtsSector (d : Idx)
  | pkSign (d : Idx)
  | pkVerify (d : Idx)
  | pkEcdh (d : Idx)
  | pkKeygen (d : Idx)
  | rsaDecrypt (d : Idx)
  | sessionExpiry (f : Fn) (i : Fin 4096)
  | keyImportBlock (d : Idx)
  | keyExportBlock (d : Idx)
  | keyGenerate (d : Idx)
  | keyReplaceStage (d : Idx)
  | keyReplaceCommit (d : Idx)
  | keyReplaceAbandon (d : Idx)
  | keyReplaceStatus (d : Idx)
  | keyRevoke (d : Idx)
  | keyRewrap (d : Idx)
  | random (d : Idx)
  | keyStateRead (d : Idx)
  | sessionCloseAll (d : Idx)
  | keyFillComplete (d : Idx) (r : HostRead)
  | keyBusRequest (e : Fin 96)
  | keyBusSecondDecision (e : Fin 96) (flip : Bool)
  | anchorWindowExpiry (t : Fn)
  | journalRecordPersistent
  | journalHalfErase
  | kcFlush (t : Fn)
  | kcFlushDone
  | generate
  | clear
  | chainPlace (p : PierNo) (k : EngKind) (entries : List Req)
  | ecbEncrypt (e : Fin 32)
  | ecbDecrypt (e : Fin 32)
  | cbcEncrypt (e : Fin 32)
  | cbcDecrypt (e : Fin 32)
  | ctr (e : Fin 32)
  | cfbEncrypt (e : Fin 32)
  | cfbDecrypt (e : Fin 32)
  | gcmEncrypt (e : Fin 32)
  | gcmDecrypt (e : Fin 32)
  | cmacGenerate (e : Fin 32)
  | cmacVerify (e : Fin 32)
  | alg1MacGenerate (e : Fin 32)
  | alg1MacVerify (e : Fin 32)
  | alg3MacGenerate (e : Fin 32)
  | alg3MacVerify (e : Fin 32)
  | engineCvcGenerate (e : Fin 32)
  | engineCvcVerify (e : Fin 32)
  | ff1Round (e : Fin 32)
  | xtsEncrypt (e : Fin 32)
  | xtsDecrypt (e : Fin 32)
  | deriveToSlot (e : Fin 32)
  | deriveOut (e : Fin 32)
  | pinOpen (e : Fin 32)
  | pinSeal (e : Fin 32)
  | pinOffsetGenerate (e : Fin 32)
  | pinOffsetVerify (e : Fin 32)
  | pinVvGenerate (e : Fin 32)
  | pinVvVerify (e : Fin 32)
  | sha256 (e : Fin 16)
  | sha384 (e : Fin 16)
  | sha512 (e : Fin 16)
  | hmacGenerate (e : Fin 16)
  | hmacVerify (e : Fin 16)
  | rsaPrivateOp (e : Fin 48)
  | rsaPublicOp (e : Fin 48)
  | rsaOaepDecrypt (e : Fin 48)
  | rsaV15Decrypt (e : Fin 48)
  | rsaKeygen (e : Fin 48)
  | rsaPublicFromPrivate (e : Fin 48)
  | ecdsaSign (e : Fin 48)
  | ecdsaVerify (e : Fin 48)
  | ecdhKdf (e : Fin 48)
  | ecKeygen (e : Fin 48)
  | ecPublicFromScalar (e : Fin 48)
  | x25519Kdf (e : Fin 48)
  | ed25519Sign (e : Fin 48)
  | ed25519Verify (e : Fin 48)
  | curve25519Keygen (e : Fin 48)
  | engineResponse (p : PierNo)
  | engineFaultDetect (e : Fin 48) (kind : Fin 8)
  | engineSelfTestEnd (e : Fin 48) (pass : Bool)
  | pksFaultDetect (e : Fin 48) (kind : Fin 8)
  | pksSelfTestEnd (e : Fin 48) (result : Fin 3)
  | bayPark (pk : Bool) (value : Word)
  | load
  | ucodeLoadDone (bad : BitVec 48)
  | lock
  | pksScrub (value : Word)
  | scrubEnd (e : Fin 48)
  | mulacc (aSlot : Fin 128) (bWord : Fin 1024)
  | mulaccShift (aSlot : Fin 128) (bWord : Fin 1024)
  | accClear
  | accStore (dst : Fin 128)
  | ramClear
  | adaptiveWindowEnd (n : Fin 4) (samples : List (BitVec 4))
  | sourceExclude (n : Fin 4) (test : Fin 2)
  | sourceStartupTestEnd (n : Fin 4) (samples : List (BitVec 4))
  | seedReady
  | expanderReseedDue (x : Fin 16)
  | rngDraw (port : Fin 214) (len : Nat)
  | drawServed
  | rngDataRead
  | rngRawRead (samples : DWord)
  | rngKat (value : Word)
  | rngKatEnd (pass : Bool)
  | rawEnWrite (value : Word)
  | heartbeat (h : Hdr)
  | ackOnly (h : Hdr)
  | enrolHello (h : Hdr) (serial : DWord) (rejoin : Bool) (ivEpoch : DWord)
  | enrolChallenge (h : Hdr) (nonce report cert ephPub : Bytes)
  | enrolResponse (h : Hdr) (report cert ephPub : Bytes) (ckseqs : List (Nat × Word))
  | enrolGrant (h : Hdr) (authentic : Bool) (g : EnrolGrant)
  | enrolDone (h : Hdr) (member : Nat)
  | sakSet (h : Hdr) (neighbour : Nat) (keys : Sak)
  | remove (h : Hdr) (member : Nat)
  | repl (h : Hdr) (seq : Nat) (r : ReplRec)
  | replAck (h : Hdr) (seq : Nat)
  | propose (h : Hdr) (p : Proposal) (ownBlobs : List Bytes)
  | verdict (h : Hdr) (pid : BitVec 64) (yes : Bool) (noSpans : BitVec 128)
  | decision (h : Hdr) (pid : BitVec 64) (go : Bool) (excluded : List Nat)
  | apply (h : Hdr) (a : ApplyMsg)
  | applied (h : Hdr) (pid : BitVec 64) (noSpans : BitVec 128)
  | withdraw (h : Hdr) (pid : BitVec 64)
  | resyncReq (h : Hdr) (tenant : Nat)
  | resyncData (h : Hdr) (m : ResyncMsg)
  | takeoverCall (h : Hdr) (term : Nat)
  | vote (h : Hdr) (term replSeq lostMs : Nat)
  | takeover (h : Hdr) (term member : Nat)
  | crkPrepare (h : Hdr) (epoch : BitVec 32) (crk : BitVec 256) (tdkBlobs : List (Fn × Bytes))
  | crkReady (h : Hdr) (member : Nat) (yes : Bool)
  | crkCommit (h : Hdr)
  | heartbeatTimer (p : Port) (neighbour : Nat)
  | resendTimer (neighbour : Nat)
  | portFail (p : Port) (neighbour : Nat)
  | portRecover (p : Port) (neighbour : Nat)
  | leaseExpiry
  | verdictDeadline (pid : BitVec 64)
  | decisionDeadline (pid : BitVec 64) (flip : Bool)
  | clTimeoutExpiry (d : Idx)
  | abutmentLossTimer
  | enrolHelloTimer
  | sakRollover
  | resync
  | interconnectAccess (a : Access)
  | tgHold
  | tgDrained
  | tgEnable
  | tgRuleWrite (i : Fin 4096) (word : Fin 4) (value : DWord)
  | holdLong
  | tgFaultRearm
  | sramScrub (m : SramMem) (inst : Fin 128) (addr : Nat) (ecc : Ecc)
  | dramScrub (stripe : Fin 67108864) (ecc : Ecc)
  | dieMarkFailed (die : Fin 16)
  | eccTestMode (en : Bool)
  | dramKeyWrite (key : BitVec 512)
  | zeroFillEnd
  | loopCheck (failed : BitVec 5)
  | alarmLatch (src : Fin 13)
  | parapetDecisionEnd (disturbed : Option (Fin 4))
  | sourceRearm (src : Fin 13)
  | policyOpen
  | parPolicyWrite (value : Word)
  | policyWindowClose
  | alarmClr
  | bootHoldRelease
  | recordOffer (source : Fin 65536) (code : BitVec 16) (p0 p1 p2 p3 : Word)
  | recordAccept
  | ceilingRaiseDone
  | ceilingRetry
  | secondEnd
  | evrWrGo
  | evrClear
  | mssWatchdogExpiry
  | warmRestartEnd (imageOk : Bool)
  | smbStatus
  | smbTemp (tenths : BitVec 16)
  | smbV12 (mV : BitVec 16)
  | smbI12 (mA : BitVec 16)
  | smbPower (tenths : BitVec 16)
  | smbHoldup
  | smbSerial
  | smbVersions
  | smbAlertCause
  | smbusAlertResponse
  | serviceFrame (src : BitVec 48) (msgId : Word) (index count : Nat) (payload : Bytes)
  | fragmentTimeout (msgId : Word)
  | nonceReq (path : Path) (tag : Word)
  | attest (path : Path) (tag : Word) (nonce : Bytes)
  | officerRead (path : Path) (tag : Word)
  | ccPart (tag : Word) (body : Bytes) (parentBlob : Option Bytes)
  | sensors (path : Path) (tag : Word) (temp v12 i12 power : BitVec 16)
  | tenantInfo (t : Fn) (tag : Word)
  | vfMbxGo (t : Fn)
  | commission (r : ActionReq)
  | decommission (r : ActionReq)
  | officerTable (r : ActionReq)
  | tenantCreate (r : ActionReq)
  | tenantConfig (r : ActionReq)
  | tenantRemove (r : ActionReq)
  | ccImport (r : ActionReq)
  | drkBackup (r : ActionReq)
  | tamperPolicy (r : ActionReq)
  | recorderClear (r : ActionReq)
  | firmwareStageActivate (r : ActionReq) (image : HostRead)
  | firmwareActivateInactive (r : ActionReq)
  | firmwareRaiseMinimums (r : ActionReq)
  | overlaySelect (r : ActionReq)
  | clusterEnrolJoin (r : ActionReq)
  | clusterRemove (r : ActionReq)
  | crkChange (r : ActionReq)
  | clusterParameters (r : ActionReq)
  | nonceLapse
  | ceremonyWindowEnd
  | anchorWriteComplete
  | ancMarkWorn (value : Word)
  | cfgRead
  | cfgProgram
  | cfgErase
  | cfgHash
  | cfgCmdDone (ok : Bool)
  | wait
  | entryStepEnd
  | drowseIdleExpiry
  | wakeEvent (src : WakeSrc)
  | wakeTimer
  | drowseWakeDone (first : PllName)
  | dormantWakeDone
  | padRelease (groups : BitVec 3)
  | chargeUpdate (measured : Nat)
  | mainPowerLoss
  | quiesceDone
  | mainPowerReturn (obs : BootObs)
  | envelopeWrite (value : Word)
  | envelopeMet
  | powerOn (obs : BootObs)
  | moduleReset (obs : BootObs)
  | bootComplete
  | auxPowerLoss
  | softStartTrip
  | reverseCurrentTrip
  | auxPowerReturn
  | softStartClose
  | backupSupplyLoss
  | keptRecordFlashWriteDone
  | quarantineCountAgeOut (u : QUnit)
  | hostCompletionTimeout (r : ReadFor)
  | temperatureAlert (tenths : BitVec 16)
  | sakPreviousExpiry (neighbour : Nat)
  | trestleFrameDrop
  | secondPllLock
  | linkL12Entry
deriving DecidableEq, Repr

end Sys2Proof
end

