-- ==== Sys2Proof/Machine/Bytes.lean ====
section
/-! DEFINITION. Byte strings, and numbers held in them: integer fields are little-endian, cryptographic byte strings
are big-endian (R10, R98). -/

namespace Sys2Proof.Machine

/-- One byte of a number. -/
def byteOf (n : Nat) : Byte := BitVec.ofNat 8 n

/-- The number a little-endian byte string holds. -/
def leNat : Bytes → Nat
  | [] => 0
  | b :: bs => b.toNat + 256 * leNat bs

/-- The `n` bytes of a number, least significant first. -/
def natLe (n : Nat) (x : Nat) : Bytes :=
  match n with
  | 0 => []
  | m + 1 => byteOf x :: natLe m (x / 256)

/-- The number a big-endian byte string holds. -/
def beNat (bs : Bytes) : Nat := bs.foldl (fun a b => a * 256 + b.toNat) 0

/-- The `n` bytes of a number, most significant first. -/
def natBe (n : Nat) (x : Nat) : Bytes := (natLe n x).reverse

/-- Bytes `off` to `off + n - 1` of a string, zero beyond its end. -/
def sub (bs : Bytes) (off n : Nat) : Bytes :=
  let t := (bs.drop off).take n
  t ++ List.replicate (n - t.length) 0

/-- The little-endian number in bytes `off` to `off + n - 1`. -/
def fld (bs : Bytes) (off n : Nat) : Nat := leNat (sub bs off n)

/-- The big-endian number in bytes `off` to `off + n - 1`. -/
def fldBe (bs : Bytes) (off n : Nat) : Nat := beNat (sub bs off n)

/-- `n` zero bytes. -/
def zeros (n : Nat) : Bytes := List.replicate n 0

/-- A string padded with zero bytes, or cut, to `n` bytes. -/
def fit (n : Nat) (bs : Bytes) : Bytes := sub bs 0 n

/-- The bitwise exclusive or of two strings, as long as the shorter. -/
def xorB (a b : Bytes) : Bytes := List.zipWith (· ^^^ ·) a b

/-- Every byte of `off` to `off + n - 1` is zero. -/
def zeroIn (bs : Bytes) (off n : Nat) : Bool := (sub bs off n).all (· == 0)

/-- Split a string into blocks of `n` bytes; the last may be shorter. `fuel` bounds the blocks. -/
def blocksF (n : Nat) : Nat → Bytes → List Bytes
  | 0, _ => []
  | _, [] => []
  | f + 1, bs => bs.take n :: blocksF n f (bs.drop n)

/-- Split a string into blocks of `n` bytes; the last may be shorter. -/
def blocks (n : Nat) (bs : Bytes) : List Bytes := blocksF n bs.length bs

/-- A word of a byte string given by its hexadecimal value, most significant byte first. -/
def hexB (n : Nat) (x : Nat) : Bytes := natBe n x

/-- Bit `i` of a number. -/
def bitOf (x i : Nat) : Bool := x.testBit i

/-- Bits `hi` to `lo` of a number. -/
def bitsOf (x hi lo : Nat) : Nat := (x >>> lo) % 2 ^ (hi + 1 - lo)

/-- One for true. -/
def b2n (b : Bool) : Nat := if b then 1 else 0

/-- A 32-bit register value from a number. -/
def w32 (n : Nat) : Word := BitVec.ofNat 32 n

/-- A 64-bit register value from a number. -/
def w64 (n : Nat) : DWord := BitVec.ofNat 64 n

end Sys2Proof.Machine
end

