-- ==== Sys2Proof/Machine/Hash.lean ====
section
/-! DEFINITION. The hash functions the spec names by their standards: SHA-256, SHA-384 and SHA-512 (FIPS 180-4) and HMAC
(FIPS 198-1). PRESUMED (log 13): the standards' own texts, which the spec cites and does not repeat. -/

namespace Sys2Proof.Machine

/-- The round constants of SHA-256. -/
def k256 : List (BitVec 32) := [0x428A2F98, 0x71374491, 0xB5C0FBCF, 0xE9B5DBA5, 0x3956C25B, 0x59F111F1,
  0x923F82A4, 0xAB1C5ED5, 0xD807AA98, 0x12835B01, 0x243185BE, 0x550C7DC3,
  0x72BE5D74, 0x80DEB1FE, 0x9BDC06A7, 0xC19BF174, 0xE49B69C1, 0xEFBE4786,
  0x0FC19DC6, 0x240CA1CC, 0x2DE92C6F, 0x4A7484AA, 0x5CB0A9DC, 0x76F988DA,
  0x983E5152, 0xA831C66D, 0xB00327C8, 0xBF597FC7, 0xC6E00BF3, 0xD5A79147,
  0x06CA6351, 0x14292967, 0x27B70A85, 0x2E1B2138, 0x4D2C6DFC, 0x53380D13,
  0x650A7354, 0x766A0ABB, 0x81C2C92E, 0x92722C85, 0xA2BFE8A1, 0xA81A664B,
  0xC24B8B70, 0xC76C51A3, 0xD192E819, 0xD6990624, 0xF40E3585, 0x106AA070,
  0x19A4C116, 0x1E376C08, 0x2748774C, 0x34B0BCB5, 0x391C0CB3, 0x4ED8AA4A,
  0x5B9CCA4F, 0x682E6FF3, 0x748F82EE, 0x78A5636F, 0x84C87814, 0x8CC70208,
  0x90BEFFFA, 0xA4506CEB, 0xBEF9A3F7, 0xC67178F2]

/-- The round constants of SHA-512, first half. -/
def k512a : List (BitVec 64) := [0x428A2F98D728AE22, 0x7137449123EF65CD, 0xB5C0FBCFEC4D3B2F, 0xE9B5DBA58189DBBC,
  0x3956C25BF348B538, 0x59F111F1B605D019, 0x923F82A4AF194F9B, 0xAB1C5ED5DA6D8118,
  0xD807AA98A3030242, 0x12835B0145706FBE, 0x243185BE4EE4B28C, 0x550C7DC3D5FFB4E2,
  0x72BE5D74F27B896F, 0x80DEB1FE3B1696B1, 0x9BDC06A725C71235, 0xC19BF174CF692694,
  0xE49B69C19EF14AD2, 0xEFBE4786384F25E3, 0x0FC19DC68B8CD5B5, 0x240CA1CC77AC9C65,
  0x2DE92C6F592B0275, 0x4A7484AA6EA6E483, 0x5CB0A9DCBD41FBD4, 0x76F988DA831153B5,
  0x983E5152EE66DFAB, 0xA831C66D2DB43210, 0xB00327C898FB213F, 0xBF597FC7BEEF0EE4,
  0xC6E00BF33DA88FC2, 0xD5A79147930AA725, 0x06CA6351E003826F, 0x142929670A0E6E70,
  0x27B70A8546D22FFC, 0x2E1B21385C26C926, 0x4D2C6DFC5AC42AED, 0x53380D139D95B3DF,
  0x650A73548BAF63DE, 0x766A0ABB3C77B2A8, 0x81C2C92E47EDAEE6, 0x92722C851482353B]

/-- The round constants of SHA-512, second half. -/
def k512b : List (BitVec 64) := [0xA2BFE8A14CF10364, 0xA81A664BBC423001, 0xC24B8B70D0F89791, 0xC76C51A30654BE30,
  0xD192E819D6EF5218, 0xD69906245565A910, 0xF40E35855771202A, 0x106AA07032BBD1B8,
  0x19A4C116B8D2D0C8, 0x1E376C085141AB53, 0x2748774CDF8EEB99, 0x34B0BCB5E19B48A8,
  0x391C0CB3C5C95A63, 0x4ED8AA4AE3418ACB, 0x5B9CCA4F7763E373, 0x682E6FF3D6B2B8A3,
  0x748F82EE5DEFB2FC, 0x78A5636F43172F60, 0x84C87814A1F0AB72, 0x8CC702081A6439EC,
  0x90BEFFFA23631E28, 0xA4506CEBDE82BDE9, 0xBEF9A3F7B2C67915, 0xC67178F2E372532B,
  0xCA273ECEEA26619C, 0xD186B8C721C0C207, 0xEADA7DD6CDE0EB1E, 0xF57D4F7FEE6ED178,
  0x06F067AA72176FBA, 0x0A637DC5A2C898A6, 0x113F9804BEF90DAE, 0x1B710B35131C471B,
  0x28DB77F523047D84, 0x32CAAB7B40C72493, 0x3C9EBE0A15C9BEBC, 0x431D67C49C100D4C,
  0x4CC5D4BECB3E42B6, 0x597F299CFC657E2A, 0x5FCB6FAB3AD6FAEC, 0x6C44198C4A475817]

/-- The initial value of SHA-256. -/
def iv256 : List (BitVec 32) := [0x6A09E667, 0xBB67AE85, 0x3C6EF372, 0xA54FF53A, 0x510E527F, 0x9B05688C, 0x1F83D9AB, 0x5BE0CD19]

/-- The initial value of SHA-512. -/
def iv512 : List (BitVec 64) := [0x6A09E667F3BCC908, 0xBB67AE8584CAA73B, 0x3C6EF372FE94F82B, 0xA54FF53A5F1D36F1,
  0x510E527FADE682D1, 0x9B05688C2B3E6C1F, 0x1F83D9ABFB41BD6B, 0x5BE0CD19137E2179]

/-- The initial value of SHA-384. -/
def iv384 : List (BitVec 64) := [0xCBBB9D5DC1059ED8, 0x629A292A367CD507, 0x9159015A3070DD17, 0x152FECD8F70E5939,
  0x67332667FFC00B31, 0x8EB44A8768581511, 0xDB0C2E0D64F98FA7, 0x47B5481DBEFA4FA4]

/-- The rotation and shift counts of a member of SHA-2. -/
structure ShaPar where
  s0 : Nat × Nat × Nat
  s1 : Nat × Nat × Nat
  S0 : Nat × Nat × Nat
  S1 : Nat × Nat × Nat

/-- The counts of SHA-256. -/
def par256 : ShaPar := ⟨(7, 18, 3), (17, 19, 10), (2, 13, 22), (6, 11, 25)⟩
/-- The counts of SHA-512 and SHA-384. -/
def par512 : ShaPar := ⟨(1, 8, 7), (19, 61, 6), (28, 34, 39), (14, 18, 41)⟩

/-- A lower-case sigma: two rotations and a shift. -/
def shaSig {w : Nat} (c : Nat × Nat × Nat) (x : BitVec w) : BitVec w :=
  x.rotateRight c.1 ^^^ x.rotateRight c.2.1 ^^^ (x >>> c.2.2)

/-- An upper-case sigma: three rotations. -/
def shaSum {w : Nat} (c : Nat × Nat × Nat) (x : BitVec w) : BitVec w :=
  x.rotateRight c.1 ^^^ x.rotateRight c.2.1 ^^^ x.rotateRight c.2.2

/-- The message schedule, newest word first, extended by `n` words. -/
def shaSched {w : Nat} (p : ShaPar) : Nat → List (BitVec w) → List (BitVec w)
  | 0, l => l
  | n + 1, l =>
    shaSched p n ((shaSig p.s1 (l.getD 1 0) + l.getD 6 0 + shaSig p.s0 (l.getD 14 0) + l.getD 15 0) :: l)

/-- One round on the working variables a to h. -/
def shaRound {w : Nat} (p : ShaPar) (v : List (BitVec w)) (kw : BitVec w) : List (BitVec w) :=
  match v with
  | [a, b, c, d, e, f, g, h] =>
    let t1 := h + shaSum p.S1 e + ((e &&& f) ^^^ (~~~e &&& g)) + kw
    let t2 := shaSum p.S0 a + ((a &&& b) ^^^ (a &&& c) ^^^ (b &&& c))
    [t1 + t2, a, b, c, d + t1, e, f, g]
  | _ => v

/-- The compression of one block. -/
def shaBlock {w : Nat} (p : ShaPar) (k : List (BitVec w)) (h : List (BitVec w)) (blk : Bytes) : List (BitVec w) :=
  let m := (blocks (w / 8) blk).map (fun b => BitVec.ofNat w (beNat b))
  let ws := (shaSched p (k.length - 16) m.reverse).reverse
  List.zipWith (· + ·) h ((List.zipWith (· + ·) k ws).foldl (shaRound p) h)

/-- The padded message, for a block of `n` bytes. -/
def shaPad (n : Nat) (m : Bytes) : Bytes :=
  let z := (n - (m.length + 1 + n / 8) % n) % n
  m ++ [0x80] ++ zeros z ++ natBe (n / 8) (8 * m.length)

/-- A hash of the family. -/
def shaRun {w : Nat} (p : ShaPar) (k iv : List (BitVec w)) (n : Nat) (m : Bytes) : Bytes :=
  ((blocks n (shaPad n m)).foldl (shaBlock p k) iv).flatMap (fun x => natBe (w / 8) x.toNat)

/-- SHA-256. -/
def sha256B (m : Bytes) : Bytes := shaRun par256 k256 iv256 64 m
/-- SHA-512. -/
def sha512B (m : Bytes) : Bytes := shaRun par512 (k512a ++ k512b) iv512 128 m
/-- SHA-384. -/
def sha384B (m : Bytes) : Bytes := (shaRun par512 (k512a ++ k512b) iv384 128 m).take 48

/-- The hashes the spec's selectors name. -/
inductive HashAlg where
  | sha256
  | sha384
  | sha512
deriving DecidableEq, Repr

/-- The digest of a message. -/
def HashAlg.run : HashAlg → Bytes → Bytes
  | .sha256, m => sha256B m
  | .sha384, m => sha384B m
  | .sha512, m => sha512B m

/-- The digest length in bytes. -/
def HashAlg.len : HashAlg → Nat
  | .sha256 => 32
  | .sha384 => 48
  | .sha512 => 64

/-- The block length in bytes. -/
def HashAlg.block : HashAlg → Nat
  | .sha256 => 64
  | _ => 128

/-- HMAC. -/
def hmacB (h : HashAlg) (key m : Bytes) : Bytes :=
  let k := fit h.block (if h.block < key.length then h.run key else key)
  h.run (k.map (· ^^^ 0x5C) ++ h.run (k.map (· ^^^ 0x36) ++ m))

end Sys2Proof.Machine
end

