-- ==== Sys2Proof/Config.lean ====
section
/-! DEFINITION. What the spec leaves open. Each constant is opaque: nothing in Lean can evaluate it, and a statement
about it holds whatever it is. -/

namespace Sys2Proof

/-- FREE VALUE (log 11): the byte that the `n`-th draw of a random, undefined or unstated value gives. The spec fixes
neither the outputs of the RNG nor the values it leaves unstated. -/
opaque Config.freeByte : Nat → Byte

/-- FREE VALUE (log 12): the two image-signing public keys of Etalmorn that the boot ROM holds (R604), 97 bytes each. -/
opaque Config.imageKey : Nat → Bytes

/-- FREE VALUE (log 12): the module's device identity private key (R595). -/
opaque Config.dikKey : Bytes

/-- FREE VALUE (log 12): the device certificate of R595. -/
opaque Config.dikCert : Bytes

/-- FREE VALUE (log 12): the public key by which device certificates are checked (R423), 97 bytes. -/
opaque Config.caKey : Bytes

/-- FREE VALUE (log 12): the hash that chooses the set of a tier-one slot from tenant, key ID and part (R271). -/
opaque Config.kcSet : Nat → BitVec 64 → Nat → Nat

/-- FREE VALUE (log 17): the plaintext that implicit rejection derives from a private key and a ciphertext (R239). -/
opaque Config.v15Reject : Bytes → Bytes → Bytes

end Sys2Proof
end

