-- ==== Sys2Proof/Machine/State.lean ====
section
/-! DEFINITION. The state of the module, as plain data: one structure for each unit of R16, all of them held by
`State`. Indexed registers and tables are sparse tables (`Tbl`); an index that is not listed reads as the default the
field's docstring names. A field's docstring says: what it is | width | file and rule | reset value. -/

namespace Sys2Proof.Machine

/-- The reasons for which a step stops with a fault: none. Every condition the spec describes is a status, an event or
a reset of the module, each of them a next state (safe: nothing is left undone). -/
inductive Fault where
deriving DecidableEq, Repr

/-- The reasons for which a command is refused. -/
inductive Refusal where
  /-- Raised by an arm of `exec` whose command has no meaning yet (safe: nothing is claimed of it). -/
  | notModelled (mnemonic : String)
deriving DecidableEq, Repr

/-! ## Trestle messages (10) -/

/-- The body of a Trestle message (R416). -/
inductive Msg where
  | heartbeat
  | ackOnly
  | enrolHello (serial : DWord) (rejoin : Bool) (ivEpoch : DWord)
  | enrolChallenge (nonce report cert ephPub : Bytes)
  | enrolResponse (report cert ephPub : Bytes) (ckseqs : List (Nat × Word))
  /-- ENROL_GRANT sealed under K_ENROL (R423). -/
  | enrolGrant (g : EnrolGrant)
  | enrolDone (member : Nat)
  | sakSet (neighbour : Nat) (keys : Sak)
  | remove (member : Nat)
  | repl (seq : Nat) (r : ReplRec)
  | replAck (seq : Nat)
  | propose (p : Proposal)
  | verdict (pid : BitVec 64) (yes : Bool) (noSpans : BitVec 128)
  | decision (pid : BitVec 64) (go : Bool) (excluded : List Nat)
  | apply (a : ApplyMsg)
  | applied (pid : BitVec 64) (noSpans : BitVec 128)
  | withdraw (pid : BitVec 64)
  | resyncReq (src tenant : Nat)
  | resyncData (dst : Nat) (m : ResyncMsg)
  | takeoverCall (term : Nat)
  | vote (term replSeq lostMs : Nat)
  | takeover (term member : Nat)
  | crkPrepare (epoch : BitVec 32) (crk : BitVec 256)
  | crkReady (member : Nat) (yes : Bool)
  | crkCommit
deriving DecidableEq, Repr

/-! ## What the module sends out -/

/-- The answer to a configuration request (R666, R712). -/
inductive CfgAnswer where
  | retry
  | unsupported
  | normal
deriving DecidableEq, Repr

/-- What the module sends to the outside, in order (the model's own log of its outputs). -/
inductive Out where
  /-- A descriptor read request of a fetch grant: function, host address, bytes (R65, R66). -/
  | descRead (fn addr bytes tag : Nat)
  /-- A read of input data or of a key blob for an item: function, host address, bytes (R18, R66). -/
  | hostRead (fn addr bytes : Nat)
  /-- A write to host memory (R17, R69): function, host address, bytes, Relaxed Ordering, poisoned (R499). -/
  | hostWrite (fn addr : Nat) (bytes : Bytes) (relaxed poisoned : Bool)
  /-- An MSI-X message (R70, R71). -/
  | msix (fn vec : Nat) (addr : DWord) (data : Word)
  /-- A Function Readiness Status message (R87, R91). -/
  | frs (fn : Nat)
  /-- A Device Readiness Status message (R666). -/
  | drs
  /-- The answer to a configuration request. -/
  | config (fn : Nat) (a : CfgAnswer)
  /-- A Trestle frame: header and message (R415, R416). -/
  | frame (h : Hdr) (m : Msg)
  /-- An SMBus block read answer or the alert response address (R563, R564). -/
  | smb (bytes : Bytes)
  /-- The reply to a management request (R567): path, type, TAG, status, body. -/
  | reply (path : Path) (typ : Nat) (tag : Word) (status : Nat) (body : Bytes)
  /-- The value a register read with side effects returns (RNG_DATA, RNG_RAW). -/
  | readData (v : DWord)
  /-- The 64-bit handle that a take-port read returns (R149). -/
  | handle (pier : Nat) (v : DWord)
  /-- The answer to an interconnect access: error response, data read (R455, R462). -/
  | access (init unit : Nat) (error : Bool) (data : Bytes)
  /-- The completion of a draw on a consumer port (R382, R385): error, bytes. -/
  | draw (port : Nat) (error : Bool) (data : Bytes)
  /-- An engine's response on a response port (R305, R343): pier, RSTATUS, data. -/
  | response (pier status : Nat) (data : Bytes)
deriving DecidableEq, Repr

/-! ## Clocks and power domains (01) -/

/-- A fabric PLL (R21 to R26). -/
structure Pll where
  /-- PLL commanded on | 1 | 01 R26 | 1 (DESIGN CHOICE 3). -/
  on : Bool := true
  /-- locked | 1 | 01 R21 | 1 after boot step 2 (R664). -/
  locked : Bool := true
  /-- quarantined | 1 | 01 R24 | 0 (DESIGN CHOICE 3). -/
  quarantined : Bool := false
  /-- consecutive windows in tolerance while quarantined | 0 to 1,000 | 01 R24 | 0 (DESIGN CHOICE 3). -/
  windows : Nat := 0
deriving DecidableEq, Repr

/-- The power state of a pier group (R29). -/
inductive GroupSt where
  | powered
  | parked
  | powering
deriving DecidableEq, Repr

/-- The power state of an engine bay (R30 to R32, R321). -/
inductive BaySt where
  | powered
  | gated
  | waking
  | parked
deriving DecidableEq, Repr

/-- Clocks and power domains. -/
structure Clk where
  /-- Fabric PLL A. -/
  pllA : Pll := {}
  /-- Fabric PLL B. -/
  pllB : Pll := {}
  /-- the PLL that drives the fabric clock (PWR_STATUS.ACTIVE_PLL) | 1 | 17 R660 | A. -/
  active : PllName := .a
  /-- the fabric has no clock (R25) | 1 | 01 R25 | 0 (DESIGN CHOICE 3). -/
  stopped : Bool := false
  /-- MSS PLL locked | 1 | 01 R27 | 1 after boot step 2 (R664). -/
  mssLocked : Bool := true
  /-- pier group states, by group | 16 entries | 01 R29 | powered (17 R662). -/
  groups : Tbl GroupSt := []
  /-- bay states: cipher 0 to 3, hash 4 and 5, public-key 6 to 11 | 12 entries | 01 R30, 07 R329 | powered. -/
  bays : Tbl BaySt := []
deriving DecidableEq, Repr

/-! ## Host interface unit (02) -/

/-- A queue-pair register block (R54). -/
structure QP where
  /-- HIU_QP_SQ_TAIL | 32 | 02 R54 | 0. -/
  sqTail : Word := 0
  /-- HIU_QP_CQ_HEAD | 32 | 02 R54 | 0. -/
  cqHead : Word := 0
  /-- HIU_QP_SQ_HEAD | 32 | 02 R54 | 0. -/
  sqHead : Word := 0
  /-- HIU_QP_CQ_TAIL | 32 | 02 R54 | 0. -/
  cqTail : Word := 0
  /-- HIU_QP_SQ_BASE | 64 | 02 R54 | 0. -/
  sqBase : DWord := 0
  /-- HIU_QP_CQ_BASE | 64 | 02 R54 | 0. -/
  cqBase : DWord := 0
  /-- HIU_QP_CFG | 32 | 02 R55 | 0. -/
  cfg : Word := 0
  /-- HIU_QP_IMOD | 32 | 02 R56 | 1. -/
  imod : Word := 1
  /-- HIU_QP_STATUS bits CFG_ERR, DB_ERR, FETCH_ERR | 3 | 02 R57 | 0. -/
  err : BitVec 3 := 0
  /-- HIU_QP_STATUS.STOPPED | 1 | 02 R57 | 0. -/
  stopped : Bool := false
  /-- completions not yet covered by a message | count | 02 R71 | 0. -/
  uncovered : Nat := 0
deriving DecidableEq, Repr

/-- An MSI-X table entry with its pending bit (R70, R71). -/
structure Msix where
  /-- message address | 64 | 02 R49 | 0 (PRESUMED 4). -/
  addr : DWord := 0
  /-- message data | 32 | 02 R49 | 0 (PRESUMED 4). -/
  data : Word := 0
  /-- vector masked | 1 | 02 R87 | 1. -/
  masked : Bool := true
  /-- pending bit | 1 | 02 R71 | 0 (PRESUMED 4). -/
  pending : Bool := false
deriving DecidableEq, Repr

/-- A tenant record (R72 to R75). -/
structure Tn where
  /-- HIU_TN_STATE.STATE | 2 | 02 R73 | from ANC_TN_CFG (R713): 0. -/
  state : BitVec 2 := 0
  /-- HIU_TN_STATE.GEN | 16 | 02 R73 | 0 (R713). -/
  gen : BitVec 16 := 0
  /-- HIU_TN_SCHED | 32 | 02 R74 | 0x310. -/
  sched : Word := 0x310
  /-- HIU_TN_INFLIGHT_MAX | 16 | 02 R72 | 0x100. -/
  inflightMax : Word := 0x100
  /-- HIU_TN_WIN_BASE | 64 | 02 R72 | 0. -/
  winBase : DWord := 0
  /-- HIU_TN_WIN_SIZE | 64 | 02 R72 | 0. -/
  winSize : DWord := 0
  /-- HIU_TN_KDIR_BASE | 64 | 02 R72 | 0. -/
  kdirBase : DWord := 0
  /-- HIU_TN_KDIR_COUNT | 25 | 02 R72 | 0. -/
  kdirCount : Word := 0
  /-- HIU_TN_CTRL.SUSPEND | 1 | 02 R72 | 0. -/
  suspend : Bool := false
  /-- HIU_TN_EVT | 3 | 02 R75 | 0. -/
  evt : BitVec 3 := 0
  /-- HIU_TN_ERR.CFG_REFUSED | 1 | 02 R72 | 0. -/
  err : Bool := false
deriving DecidableEq, Repr

/-- An outstanding fetch grant (R95, R96): its Deck entries in ring order, and its data once returned
(`some none`: dropped). -/
structure Grant where
  tag : Nat
  fn : Nat
  q : Nat
  idxs : List Nat
  data : Option (List Bytes)
deriving DecidableEq, Repr

/-- The host interface unit. -/
structure Hiu where
  /-- queue-pair blocks, by 64 × function + queue | 02 R54 | each at its reset values. -/
  qp : Tbl QP := []
  /-- MSI-X tables, by 2,048 × function + vector | 02 R70 | masked. -/
  msix : Tbl Msix := []
  /-- tenant records, by tenant | 02 R72 | each at its reset values. -/
  tn : Tbl Tn := []
  /-- HIU_VF_STATUS.READY, by VF | 1 each | 02 R82 | 0. -/
  ready : Tbl Bool := []
  /-- functions that are fenced (R166) | 1 each | 04 R166 | 0. -/
  fence : Tbl Bool := []
  /-- VF Enable | 1 | 02 R47 | 0. -/
  vfEnable : Bool := false
  /-- NumVFs | 11 | 02 R47 | 0 (PRESUMED 4). -/
  numVfs : Nat := 0
  /-- the host link is up | 1 | 02 R93 | 0 (R663 stops the link). -/
  linkUp : Bool := false
  /-- the link is in L1.2 | 1 | 17 R634 | 0. -/
  l12 : Bool := false
  /-- the PF is in D3hot | 1 | 02 (device power states), 17 R634 | 0, D0 (PRESUMED 62: PCI Express). -/
  d3hot : Bool := false
  /-- a PF FLR (or what acts as one) is between steps 1 and 5 of R91 | 1 | 02 R91 | 0. -/
  pfFlr : Bool := false
  /-- Memory Space Enable cleared by a conventional reset; no memory request is accepted | 1 | 02 R93 | 0. -/
  cfgReset : Bool := false
  /-- outstanding fetch grants, oldest first | 02 R96 | none. -/
  grants : List Grant := []
  /-- the tag of the next fetch grant (the model's own). -/
  nextTag : Nat := 0
  /-- fetch arbiter's pointer over the functions | 11 | 02 R95 | 0 (04 R178). -/
  fnPtr : Nat := 0
  /-- fetch arbiter's pointer over the queue pairs of each function | 6 each | 02 R95 | 0 (04 R178). -/
  qpPtr : Tbl Nat := []
  /-- the HIU has stopped fetching for every function (R520, R636, R652) | 1 | 13 R520 | 0. -/
  noFetch : Bool := false
  /-- HIU_ID_SERIAL | 64 | 02 R51 | per module: 0 (DESIGN CHOICE 5). -/
  serial : DWord := 0
  /-- HIU_ID_VER_MSS | 32 | 02 R51 | per image: 0 before an image runs. -/
  verMss : Word := 0
  /-- HIU_ID_VER_PIER | 32 | 02 R51 | per image: 0 before an image runs. -/
  verPier : Word := 0
  /-- HIU_ID_VER_PKS | 32 | 02 R51 | per image: 0 before an image runs. -/
  verPks : Word := 0
  /-- HIU_ID_VER_CFG | 32 | 02 R51 | per image: 0 before an image runs. -/
  verCfg : Word := 0
  /-- HIU_ID_OVERLAY | 2 | 02 R51 | per boot: 0. -/
  overlay : BitVec 2 := 0
  /-- HIU_ID_STATE.STATE | 3 | 02 R53 | 0. -/
  idState : BitVec 3 := 0
  /-- HIU_ID_STATE.DP_UP | 1 | 02 R53 | 0. -/
  dpUp : Bool := false
deriving DecidableEq, Repr

/-! ## Items, the dispatcher and the Deck (03, 04) -/

/-- A state word that a guard names (R159, R281). -/
inductive GWord where
  /-- The key state word of a tenant's key ID (R261). -/
  | keyState (tenant : Nat) (keyId : BitVec 64)
  /-- The epoch of a tenant's TDK (R255). -/
  | tdkEpoch (tenant : Nat)
  /-- The CRK's epoch. -/
  | crkEpoch
deriving DecidableEq, Repr

/-- A guard: a state word and the value the pier read from it (R159). -/
structure Guard where
  word : GWord
  value : DWord
deriving DecidableEq, Repr

/-- A session that a release opens (R195, R197): kind (the opcode that opens it), source key with its ancestors' key
IDs, derived keys, VARIANT or CRYPTO, WK_TYPE or key length, the ARQC (R225), lifetime in ms. -/
structure SessNew where
  kind : Nat
  srcKey : Nat
  anc : List Nat
  keys : List Bytes
  variant : Nat
  wk : Nat
  arqc : Bytes
  life : Nat
deriving DecidableEq, Repr

/-- A session entry (R195 to R198): function, generation, incarnation, what it was opened with, and its expiry time. -/
structure Sess where
  fn : Nat
  gen : BitVec 16
  inc : BitVec 20
  data : SessNew
  expiry : Nat
deriving DecidableEq, Repr

/-- A journal record kind (R263). -/
inductive JKind where
  | stage
  | commit
  | abandon
  | revoke
deriving DecidableEq, Repr

/-- The intents of a post, besides its host writes (R157, R158). The ANCHOR intent of a key change is the tenant's
coalesced ANC_TN_KEY_SEQ write (R265), so `journal` stands for both. -/
inductive Intent where
  /-- JOURNAL and ANCHOR: a key change of R286 to R288, with the key state word it gives. -/
  | journal (kind : JKind) (tenant : Nat) (keyId : BitVec 64) (state : DWord)
  /-- STATE: the target's key state word. -/
  | keyState (tenant : Nat) (keyId : BitVec 64) (state : DWord)
  /-- STATE: slots and sessions of R291 that a commit or a revoke closes. -/
  | dropSlots (tenant : Nat) (keyId : BitVec 64)
  /-- STATE: a session entry opens (R197). -/
  | openSession (n : SessNew)
  /-- STATE: every session of a tenant closes (R597). -/
  | closeSessions (tenant : Nat)
  /-- EVENT: one event record. -/
  | event (source : Nat) (code : BitVec 16) (p0 p1 p2 p3 : Word)
  /-- CLUSTER: APPLY or STAGE to the cluster (R434). -/
  | cluster (kind : ChangeKind) (tenant : Nat) (keyId : BitVec 64) (state : DWord)
deriving DecidableEq, Repr

/-- What a pier posts (R157). -/
structure Post where
  status : Nat
  result : Bytes
  intents : List Intent
  guards : List Guard
deriving DecidableEq, Repr

/-- The states of R137 (an entry that is not listed is free; `reserved`: its descriptor has not yet arrived). -/
inductive ISt where
  | reserved
  | ready
  | running
  | done
  | releasing
  | orphan
  | held
deriving DecidableEq, Repr

/-- A key bound by an item (R277): the place of its reference in binding order, its tier-one slots (one per part, none
once unpinned by a replay), key ID and epoch, and the key IDs and epochs of its ancestors. -/
structure Bind where
  ref : Nat
  slots : List Nat
  keyId : Nat
  epoch : Nat
  anc : List (Nat × Nat)
deriving DecidableEq, Repr

/-- Where a granted item stands in stages 5 to 10 of R123. -/
inductive Phase where
  /-- Not granted yet. -/
  | idle
  /-- Stage 8: waits for a key fill: a tier-two install (`none`) or the blob at a host address. -/
  | binding (addr : Option Nat)
  /-- Stage 9: waits for a host read of input data; the remaining (address, length) pairs. -/
  | input (reads : List (Nat × Nat))
  /-- Ready for stage 10. -/
  | exec
  /-- The outcome is decided and waits for the post. -/
  | finished (p : Post)
deriving DecidableEq, Repr

/-- A Deck entry (R136, R157) with all that the module holds for its item. -/
structure Entry where
  /-- the function that submitted the item | 11 | 02 R83. -/
  fn : Nat := 0
  /-- its queue pair | 6 | 02 R64. -/
  q : Nat := 0
  /-- the generation it carries | 16 | 02 R83. -/
  gen : BitVec 16 := 0
  /-- the Deck's copy of the descriptor (with the descriptor store's copy, R168) | 1,024 | 04 R168. -/
  desc : Bytes := []
  /-- state of R137. -/
  st : ISt := .reserved
  /-- its flow: tenant, key-ID flow, identifier; `none` under R124 | 03 R108, R114. -/
  flow : Option (Nat × Bool × Nat) := none
  /-- effective class: 0 STRICT, 1 FREE, 2 BARRIER, 3 none | 2 | 03 R127. -/
  order : Nat := 3
  /-- effective priority | 2 | 03 R118. -/
  prio : Nat := 0
  /-- PRIO_CLAMPED | 1 | 03 R118. -/
  clamped : Bool := false
  /-- arrival order | 03 R109. -/
  arrival : Nat := 0
  /-- expiry time in µs | 64 | 03 R119. -/
  expiry : Option Nat := none
  /-- cost class | 3 | 04 R144. -/
  cls : Nat := 0
  /-- cost in units | 04 R144. -/
  cost : Nat := 0
  /-- attempt number | 2 | 04 R137. -/
  attempt : Nat := 0
  /-- on the replay list | 04 R169. -/
  onReplay : Bool := false
  /-- the next grant of the item is a replay (REPLAY of the handle) | 1 | 04 R149. -/
  replay : Bool := false
  /-- the pier that holds it, or that posted it | 7 | 04 R137, R169. -/
  pier : Option Nat := none
  /-- PAY_POLICY in force at its arrival | 64 | 05 R194. -/
  policy : DWord := 0
  /-- PAY_DECTAB in force at its arrival | 64 | 05 R194. -/
  dectab : DWord := 0
  /-- the session its handle named at its arrival, with the entry's index (R199): the item keeps the session's keys
  whatever becomes of the session | 05 R199, R200. -/
  sess : Option (Nat × Sess) := none
  /-- progress through stages 5 to 10. -/
  phase : Phase := .idle
  /-- its bind record | 06 R277. -/
  binds : List Bind := []
  /-- blobs fetched and unwrapped for the attempt, by host address (the fill in progress) | 06 R274. -/
  fetched : List (Nat × Bytes) := []
  /-- staged input data, in the order of its reads | 04 R170. -/
  inputs : List Bytes := []
  /-- posted completion, result, intents and guards (or the outcome of R138) | 04 R157. -/
  post : Post := ⟨0, [], [], []⟩
  /-- device time of the post, for R23. -/
  postedAt : Nat := 0
  /-- the cluster confirmation of R162: `none` not needed, `some none` awaited, `some (some v)` answered | 10 R433. -/
  confirm : Option (Option Nat) := none
  /-- the proposal it sent | 64 | 10 R429. -/
  pid : BitVec 64 := 0
  /-- the exclusion list of the DECISION it received | 10 R432, R434. -/
  excluded : List Nat := []
  /-- the status it releases with and what of its release is still to be applied (R161), while RELEASING. -/
  relStatus : Nat := 0
  /-- device time of the start of its release | 64 | 03 R131. -/
  relAt : Nat := 0
  /-- its release waits for its commit point | 04 R164. -/
  waiting : Bool := false
deriving DecidableEq, Repr

/-- The states of a pier (R149, R152, R175, R176). -/
inductive PierSt where
  /-- running firmware, not yet at its take port. -/
  | idle
  /-- stalled at its take port. -/
  | waiting
  /-- holds an item. -/
  | holding (d : Nat)
  /-- in quarantine or self-test. -/
  | quarantined
  /-- kept out. -/
  | out
  /-- parked. -/
  | parked
deriving DecidableEq, Repr

/-- A flow entry (R140): the sequence record, and the arrival order of its BARRIER items, which R110 needs after a
BARRIER has left flow order. -/
structure Flow where
  /-- the sequence record | 32 | 03 R117 | none. -/
  seq : Option Word
  barriers : List Nat
deriving DecidableEq, Repr

/-- The dispatcher and the piers (04). -/
structure Dsp where
  /-- DSP_CTRL | 32 | 04 R180 | 0x4004. -/
  ctrl : Word := 0x4004
  /-- DSP_CNT_REPLAY | 64 | 04 R180 | 0. -/
  cntReplay : DWord := 0
  /-- DSP_CNT_WDOG | 64 | 04 R180 | 0. -/
  cntWdog : DWord := 0
  /-- DSP_CNT_GUARD | 64 | 04 R180 | 0. -/
  cntGuard : DWord := 0
  /-- pier states | 128 entries | 04 R149 | idle (DESIGN CHOICE 3). -/
  piers : Tbl PierSt := []
  /-- parked by the planner when the item it holds ends | 1 each | 04 R152 | 0. -/
  parkNext : Tbl Bool := []
  /-- quarantines within 24 h, by pier | count | 04 R176 | 0. -/
  quar : Tbl Nat := []
  /-- replay list, head first | 04 R169 | empty. -/
  replayList : List Nat := []
  /-- turn, by level | 11 each | 04 R145 | 0 (R178). -/
  turn : Tbl Nat := []
  /-- level visited since its turn began (`false`: fresh) | 1 each | 04 R145 | fresh (R178). -/
  visited : Tbl Bool := []
  /-- deficit, by 2,048 × level + tenant | 04 R145 | 0 (R178). -/
  deficit : Tbl Nat := []
  /-- rotating pier pointer | 7 | 04 R150 | 0. -/
  pierPtr : Nat := 0
  /-- rotating pointer of the entry order into the replay list | 7 | 04 R169 | 0. -/
  replayPtr : Nat := 0
  /-- flow entries in use, by flow key | 65,536 entries | 04 R140 | none. -/
  flows : Tbl (Option Flow) := []
  /-- arrivals so far (the arrival order of the next item). -/
  arrivals : Nat := 0
  /-- the dispatcher makes no further grant (R520, R636, R652) | 1 | 13 R520 | 0. -/
  noGrant : Bool := false
deriving DecidableEq, Repr

/-- The Deck (04). -/
structure Deck where
  /-- Deck entries, by index; an entry that is not listed is free | 32,768 entries | 04 R136 | all free. -/
  ent : Tbl (Option Entry) := []
  /-- rotating pointer over flows | 04 R164 | 0. -/
  flowPtr : Nat := 0
  /-- DECK_CNT_RELEASE | 64 | 04 R183 | 0. -/
  cntRelease : DWord := 0
  /-- DECK_CNT_DEADLINE | 64 | 04 R183 | 0. -/
  cntDeadline : DWord := 0
  /-- DECK_CNT_DISCARD | 64 | 04 R183 | 0. -/
  cntDiscard : DWord := 0
  /-- DECK_HELD_LAST | 32 | 04 R185 | 0. -/
  heldLast : Word := 0
  /-- the Deck begins no further release (R91, R520, R521) | 1 | 13 R520 | 0. -/
  noRelease : Bool := false
deriving DecidableEq, Repr

/-! ## Keys and the key cache (06) -/

/-- The states of a key-cache slot (R271). -/
inductive SlotSt where
  | filling
  | valid
  | stale
deriving DecidableEq, Repr

/-- A key-cache slot (R270, R271): the header of the blob it came from (tenant, key ID, part, epoch, algorithm, usage
class, key flags, parent and the parent's epoch), its material, the parent's tier-one slot, pin count and state. -/
structure Slot where
  /-- the blob header, 48 bytes | 06 R254, R271. -/
  hdr : Bytes
  /-- material, 64 or 80 bytes | 06 R270. -/
  mat : Bytes
  /-- the parent's tier-one slot | 18 | 06 R271. -/
  parent : Nat
  /-- pin count | 06 R271. -/
  pins : Nat
  /-- state | 06 R271. -/
  st : SlotSt
  /-- when it was last used, for R273. -/
  used : Nat
  /-- the slot is the second of a two-slot key (R270). -/
  second : Bool
deriving DecidableEq, Repr

/-- Who holds a journal record: an item's release, or a release of the MSS (R294, R562). -/
inductive Owner where
  | deck (d : Nat)
  | mss (id : Nat)
deriving DecidableEq, Repr

/-- A SEQ taken for a journal record and not yet covered by a persistent ANC_TN_KEY_SEQ write (R264, R265). -/
structure Taken where
  tenant : Nat
  seq : Nat
  bytes : Bytes
  owner : Owner
  persistent : Bool
  /-- its covering anchor write is issued. -/
  issued : Bool
  /-- the CKSEQ recorded with it (R434), where it applies a cluster change. -/
  ck : Option Nat
deriving DecidableEq, Repr

/-- Key hierarchy, key epoch table, journal and key cache. -/
structure Keys where
  /-- tier-one slots | 262,144 × 96 B | 06 R270 | free. -/
  t1 : Tbl (Option Slot) := []
  /-- tier-two slots | 16,777,216 × 128 B | 06 R270 | free. -/
  t2 : Tbl (Option Slot) := []
  /-- uses so far (the order of R273's least recently used). -/
  uses : Nat := 0
  /-- KC_CTRL | 2 | 06 R298 | 3. -/
  ctrl : BitVec 2 := 3
  /-- KC_STATUS.FLUSHING, with the tenant flushed | 1 + 11 | 06 R299 | none. -/
  flushing : Option Nat := none
  /-- KC_CNT_HIT1 | 64 | 06 R297 | 0. -/
  cntHit1 : DWord := 0
  /-- KC_CNT_HIT2 | 64 | 06 R297 | 0. -/
  cntHit2 : DWord := 0
  /-- KC_CNT_FILL | 64 | 06 R297 | 0. -/
  cntFill : DWord := 0
  /-- KC_CNT_FILL_ERR | 64 | 06 R297 | 0. -/
  cntFillErr : DWord := 0
  /-- KC_CNT_USAGE | 64 | 06 R297 | 0. -/
  cntUsage : DWord := 0
  /-- KC_CNT_MISMATCH | 64 | 06 R297 | 0. -/
  cntMismatch : DWord := 0
  /-- key state words, by 2^64 × tenant + key ID | 131,072 × 64 | 06 R261 | 0. -/
  ket : Tbl DWord := []
  /-- the counter of sealing IVs | 32 | 06 R259 | 0. -/
  ivCount : BitVec 32 := 0
  /-- the active half of the journal region | 1 | 06 R267 | 0 (DESIGN CHOICE 14). -/
  jHalf : Bool := false
  /-- records in the active half | 06 R267 | 0 (DESIGN CHOICE 14). -/
  jFill : Nat := 0
  /-- a snapshot is being written to the other half | 1 | 06 R267 | 0. -/
  jSnap : Bool := false
  /-- journal records written, tracked in ANC_JRN_WEAR | 06 R269 | 0. -/
  jCount : Nat := 0
  /-- tenants' key sequence counters: the last SEQ taken | 32 each | 06 R264 | 0. -/
  seqs : Tbl Nat := []
  /-- SEQs taken and not yet covered, oldest first | 06 R265 | none. -/
  taken : List Taken := []
  /-- tenants whose 50 ms anchor window is open | 1 each | 06 R265 | 0. -/
  windows : Tbl Bool := []
  /-- anchor writes are issued without waiting for a window (quiesce, module reset, RESET) | 1 | 06 R265 | 0. -/
  urgent : Bool := false
deriving DecidableEq, Repr
/-! ## Sessions (05) -/

/-- The session table. -/
structure Pay where
  /-- open sessions, by 4,096 × function + entry | 65,536 at most | 05 R197 | none. -/
  sess : Tbl (Option Sess) := []
  /-- incarnations of the entries, by the same index | 20 each | 05 R195 | 0. -/
  inc : Tbl (BitVec 20) := []
deriving DecidableEq, Repr

/-! ## Cipher, hash and public-key engines (07, 08) -/

/-- Key material in an engine's chain key register, with its tenant, algorithm and usage class (R309), and the slot it
derives from. -/
structure CKey where
  tenant : Nat
  alg : Nat
  usage : Nat
  mat : Bytes
  from_ : Nat
deriving DecidableEq, Repr

/-- A response of R305. -/
structure Resp where
  deckIdx : Nat
  attempt : Nat
  status : Nat
  outLen : Nat
  outSlot : Nat
  result : Bytes
deriving DecidableEq, Repr

/-- An entry of an engine's request queue: the request, the two key-bus decisions so far, the key in the key register,
the response held until the second decision, with the data it writes to DST, and the slots it installed. -/
structure QEnt where
  req : Req
  first : Option Bool
  second : Option Bool
  key : Option CKey
  out : Option (Resp × Bytes)
  slots : List Nat
deriving DecidableEq, Repr

/-- An engine's service state (R324, R325, R358, R359). -/
inductive EngSt where
  | inService
  | quarantined
  | out
deriving DecidableEq, Repr

/-- An engine: SCE0 to SCE31, HSE0 to HSE15 (32 to 47), PKS0 to PKS47 (48 to 95), numbered as R506 numbers them. -/
structure Eng where
  /-- service state | 07 R324, 08 R358 | in service. -/
  st : EngSt := .inService
  /-- quarantines within 24 h | 07 R325 | 0. -/
  quar : Nat := 0
  /-- request queue, the running request first | 64 or 8 entries | 07 R302, 08 R332 | empty. -/
  q : List QEnt := []
  /-- PIN register: digits of the PIN | 07 R309 | empty. -/
  pin : Option (List Nat) := none
  /-- chain key register | 07 R309 | empty. -/
  ckey : Option CKey := none
  /-- chain data register | 128 | 07 R309 | empty. -/
  cdata : Option Bytes := none
  /-- PKS: control store marked loaded | 1 | 08 R338, R339 | 0. -/
  loaded : Bool := false
  /-- PKS: SHA-384 of the control store's contents | 384 | 08 R338 | 0. -/
  store : Bytes := []
  /-- PKS: OWNER | 11 | 08 R367 | 0. -/
  owner : Nat := 0
  /-- PKS: DIRTY | 1 | 08 R367 | 0. -/
  dirty : Bool := false
  /-- PKS: SCRUB_PENDING | 1 | 08 R367 | 0. -/
  scrubPending : Bool := false
  /-- PKS: a scrub is executing | 1 | 08 R346 | 0. -/
  scrubbing : Bool := false
  /-- PKS: key, input, output and random areas of the operand memory; bytes not listed read 0 | 32 KiB | 08 R334 |
  0. -/
  opmem : List Host.Cell := []
deriving DecidableEq, Repr

/-- The engines, their bays, the key bus and PKM. -/
structure Engs where
  /-- engines, by number | 96 | 01 R16 | each at its reset values. -/
  eng : Tbl Eng := []
  /-- responses waiting on the response ports, by pier, oldest first | 07 R305 | none. -/
  ports : Tbl (List Resp) := []
  /-- distributors' rotating pointers over engines, by bay (0 to 3 cipher, 4 and 5 hash, 6 to 11 public-key) | 3 each |
  07 R319 | 0. -/
  engPtr : Tbl Nat := []
  /-- distributors' rotating pointers over piers, by bay | 7 each | 07 R320 | 0. -/
  pierPtr : Tbl Nat := []
  /-- the key bus's rotating pointer over the 96 engines | 7 | 07 R312 | 0. -/
  busPtr : Nat := 0
  /-- SCE_BAY_PARK | 6 | 07 R328 | 0. -/
  scePark : BitVec 6 := 0
  /-- SCE_FAULT_LAST | 32 | 07 R330 | 0. -/
  sceFault : Word := 0
  /-- SCE_CNT_REQ | 64 | 07 R327 | 0. -/
  sceCntReq : DWord := 0
  /-- HSE_CNT_REQ | 64 | 07 R327 | 0. -/
  hseCntReq : DWord := 0
  /-- SCE_CNT_FAULT | 64 | 07 R327 | 0. -/
  sceCntFault : DWord := 0
  /-- SCE_CNT_CANCEL | 64 | 07 R327 | 0. -/
  sceCntCancel : DWord := 0
  /-- SCE_CNT_KBUS | 64 | 07 R327 | 0. -/
  sceCntKbus : DWord := 0
  /-- PKS_BAY_PARK | 6 | 08 R366 | 0. -/
  pksPark : BitVec 6 := 0
  /-- PKS_FAULT_LAST | 32 | 08 R369 | 0. -/
  pksFault : Word := 0
  /-- PKS_UCODE_STATUS.BUSY | 1 | 08 R370 | 0. -/
  ucBusy : Bool := false
  /-- PKS_UCODE_STATUS.LOCKED | 1 | 08 R370 | 0. -/
  ucLocked : Bool := false
  /-- PKS_UCODE_STATUS.MISMATCH | 1 | 08 R370 | 0. -/
  ucMismatch : Bool := false
  /-- PKS_UCODE_STATUS.REFUSED | 1 | 08 R370 | 0. -/
  ucRefused : Bool := false
  /-- PKS_UCODE_SRC | 40 | 08 R366 | 0. -/
  ucSrc : BitVec 40 := 0
  /-- PKS_UCODE_TARGET | 48 | 08 R366 | 0. -/
  ucTarget : BitVec 48 := 0
  /-- PKS_UCODE_DIGEST | 384, byte 0 in the low bits | 08 R366 | 0. -/
  ucDigest : BitVec 384 := 0
  /-- PKS_CNT_OP | 64 | 08 R366 | 0. -/
  pksCntOp : DWord := 0
  /-- PKS_CNT_CHECK | 64 | 08 R366 | 0. -/
  pksCntCheck : DWord := 0
  /-- PKS_CNT_SCRUB | 64 | 08 R366 | 0. -/
  pksCntScrub : DWord := 0
  /-- PKS_CNT_FAULT | 64 | 08 R366 | 0. -/
  pksCntFault : DWord := 0
  /-- PKM accumulator | 832 | 08 R361 | 0. -/
  pkmAcc : BitVec 832 := 0
  /-- PKM_RAM, by 64-bit word | 1,024 × 64 | 08 R363 | 0. -/
  pkmRam : Tbl DWord := []
  /-- PKM_CNT_CMD | 64 | 08 R363 | 0. -/
  pkmCnt : DWord := 0
  /-- PKM_STATUS.DROPPED | 1 | 08 R365 | 0. -/
  pkmDropped : Bool := false
  /-- PKM_STATUS.ECC_ERR | 1 | 08 R365 | 0. -/
  pkmEcc : Bool := false
deriving DecidableEq, Repr

/-! ## Random number generator (09) -/

/-- A noise source (R372 to R375, R404). -/
structure Src where
  /-- RNG_SRC_STATE.STATE: 0 start-up test, 1 healthy, 2 quarantine, 3 kept out | 2 | 09 R404 | 0. -/
  st : BitVec 2 := 0
  /-- RNG_SRC_STATE.QCOUNT | 2 | 09 R404 | 0. -/
  quar : Nat := 0
  /-- RNG_SRC_STATE.LAST | 2 | 09 R404 | 0. -/
  last : BitVec 2 := 0
  /-- its first start-up test has completed | 1 | 09 R386 | 0. -/
  first : Bool := false
  /-- admitted samples, oldest first | 2,048 × 4 | 09 R374 | empty. -/
  buf : List (BitVec 4) := []
  /-- the value and length of the run of identical samples at the end of the last window | 09 R373 | none. -/
  run : BitVec 4 × Nat := (0, 0)
deriving DecidableEq, Repr

/-- An expander (R378, R379). -/
structure Exp where
  /-- seeded | 1 | 09 R401 | 0. -/
  seeded : Bool := false
  /-- the sources of its seed | 2 × 2 | 09 R378 | none. -/
  srcs : Nat × Nat := (0, 0)
  /-- CTR_DRBG Key | 256 | 09 R379 | 0. -/
  key : BitVec 256 := 0
  /-- CTR_DRBG V | 128 | 09 R379 | 0. -/
  v : BitVec 128 := 0
  /-- generate requests since its seed | 17 | 09 R380 | 0. -/
  reqs : Nat := 0
  /-- device time of its seed | 64 | 09 R380 | 0. -/
  at_ : Nat := 0
  /-- kept out | 1 | 09 R392 | 0. -/
  out : Bool := false
deriving DecidableEq, Repr

/-- The random number generator. -/
structure Rng where
  /-- noise sources | 4 | 09 R372 | each at its reset values. -/
  src : Tbl Src := []
  /-- expanders | 16 | 09 R378 | unseeded. -/
  exp : Tbl Exp := []
  /-- RNG_STATUS.STATE | 3 | 09 R402 | 0. -/
  st : BitVec 3 := 0
  /-- RNG_STATUS.COND_FAULT | 1 | 09 R402 | 0. -/
  condFault : Bool := false
  /-- RNG_CTRL.RAW_EN | 1 | 09 R403 | 0. -/
  rawEn : Bool := false
  /-- RNG_CTRL.RAW_SRC | 2 | 09 R403 | 0. -/
  rawSrc : BitVec 2 := 0
  /-- RNG_KAT.TARGET | 1 | 09 R405 | 0. -/
  katTarget : Bool := false
  /-- RNG_KAT.EXP | 4 | 09 R405 | 0. -/
  katExp : BitVec 4 := 0
  /-- RNG_KAT.BUSY, with the test running: `none`, or the expander tested (16: the conditioner) | 1 | 09 R405 | 0. -/
  katBusy : Option Nat := none
  /-- RNG_KAT.PASS | 1 | 09 R405 | 0. -/
  katPass : Bool := false
  /-- RNG_KAT.VALID | 1 | 09 R405 | 0. -/
  katValid : Bool := false
  /-- the next known-answer test of start-up step 4: 0 conditioner, 1 + i expander i, 17 none left | 09 R386 | 0. -/
  katNext : Nat := 0
  /-- RNG_EVT | 6 | 09 R406 | 0. -/
  evt : BitVec 6 := 0
  /-- RNG_CNT_SEED | 64 | 09 R401 | 0. -/
  cntSeed : DWord := 0
  /-- RNG_CNT_HEALTH | 64 | 09 R401 | 0. -/
  cntHealth : DWord := 0
  /-- RNG_CNT_ERRDRAW | 64 | 09 R401 | 0. -/
  cntErrDraw : DWord := 0
  /-- RNG_CNT_BYTES | 64 | 09 R401 | 0. -/
  cntBytes : DWord := 0
  /-- draws waiting, by consumer port: their lengths | 214 ports | 09 R381, R384 | none. -/
  waiting : Tbl Nat := []
  /-- rotating pointer over the ports | 8 | 09 R383 | 0. -/
  portPtr : Nat := 0
  /-- rotating pointer over the expanders | 4 | 09 R383 | 0. -/
  expPtr : Nat := 0
deriving DecidableEq, Repr

/-! ## Trestle (10) -/

/-- A neighbour association (R414 to R419). -/
structure Assoc where
  /-- a tree association; otherwise a standby association (R410). -/
  tree : Bool
  /-- the last MSG_SEQ sent, and the last received in order (R415, R417). -/
  sent : Nat
  got : Nat
  /-- sequenced messages not yet acknowledged, oldest first: MSG_SEQ, TENANT, message (R417). -/
  unacked : List (Nat × Nat × Msg)
  /-- channel keys, and those of the previous association while it is accepted (R414). -/
  keys : Sak
  prev : Option Sak
  /-- the ports failed for the neighbour (R418). -/
  failA : Bool
  failB : Bool
  /-- device time at which both ports became failed. -/
  lostAt : Option Nat
deriving DecidableEq, Repr

/-- A member as the abutment's records name it (R427). -/
structure Member where
  role : Nat
  parent : Nat
  serial : DWord
deriving DecidableEq, Repr

/-- A proposal at the abutment (R430, R432). -/
structure Held where
  p : Proposal
  /-- device time of its receipt. -/
  at_ : Nat
  /-- the key is reserved for it; otherwise it is queued. -/
  reserved : Bool
  /-- GO has been decided; otherwise it awaits verdicts. -/
  decided : Bool
  /-- the abutment's own answer. -/
  own : Bool
  /-- pylons that have sent a VERDICT: member, its answer, spans that did not verify. -/
  answers : List (Nat × Bool × BitVec 128)
deriving DecidableEq, Repr

/-- A proposal at a pylon (R430, R431). -/
structure Fwd where
  pid : BitVec 64
  tenant : Nat
  at_ : Nat
  own : Bool
  /-- spans that have answered, and their answers. -/
  answers : List (Nat × Bool)
deriving DecidableEq, Repr

/-- An enrolment or rejoin under way at the abutment (R421, R422). -/
structure Enrol where
  serial : DWord
  member : Nat
  role : Nat
  parent : Nat
  standby : Bool
  rejoin : Bool
  nonce : Bytes
  priv : Bytes
  pub : Bytes
  /-- the CKSEQ values of its ENROL_RESPONSE (R425). -/
  ckseqs : List (Nat × Word)
deriving DecidableEq, Repr

/-- An enrolment or rejoin under way at the joiner (R422). -/
structure Join where
  nonce : Bytes
  priv : Bytes
  pub : Bytes
  abutPub : Bytes
  rejoin : Bool
deriving DecidableEq, Repr

/-- The cluster link. -/
structure Trs where
  /-- associations, by neighbour member number | 129 at most | 10 R414 | none. -/
  assoc : Tbl (Option Assoc) := []
  /-- port A's PCS link is up | 1 | 10 R449 | 0. -/
  linkA : Bool := false
  /-- port B's PCS link is up | 1 | 10 R449 | 0. -/
  linkB : Bool := false
  /-- TRS_STATE.CSTATE | 3 | 10 R448 | 0. -/
  cstate : BitVec 3 := 0
  /-- TRS_STATE.DECIDING | 1 | 10 R448 | 0. -/
  deciding : Bool := false
  /-- TRS_STATE.ROLL_READY | 1 | 10 R448 | 0. -/
  rollReady : Bool := false
  /-- TRS_EVT | 7 | 10 R450 | 0. -/
  evt : BitVec 7 := 0
  /-- TRS_TIMEOUT: CL_TIMEOUT in ms | 11 | 10 R446 | 200. -/
  timeout : BitVec 11 := 200
  /-- the abutment's member number (TRS_PARENT [31:16]) | 16 | 10 R446 | retained: 0. -/
  abutment : Nat := 0
  /-- TRS_CNT_PROPOSE | 64 | 10 R446 | 0. -/
  cntPropose : DWord := 0
  /-- TRS_CNT_FAILOVER | 64 | 10 R446 | 0. -/
  cntFailover : DWord := 0
  /-- TRS_CNT_DROP | 64 | 10 R446 | 0. -/
  cntDrop : DWord := 0
  /-- enrolled members known from replicated records | 10 R427 | none. -/
  members : Tbl (Option Member) := []
  /-- replicated records kept, oldest first | 65,536 at most | 10 R428 | none. -/
  replLog : List (Nat × ReplRec) := []
  /-- records held beyond the next expected one | 10 R428 | none. -/
  replHeld : Tbl (Option ReplRec) := []
  /-- quarantined for every tenant under R420 or R425 (not recorded in ANC_CL_QUAR) | 1 | 10 R437 | 0. -/
  quarAll : Bool := false
  /-- device time at which the parent was lost | 64 | 10 R420 | none. -/
  lostAt : Option Nat := none
  /-- device time at which the standby or a pylon lost the abutment | 64 | 10 R440 | none. -/
  abutLostAt : Option Nat := none
  /-- the counter of proposal IDs | 32 | 10 R429 | 0. -/
  pidCtr : Nat := 0
  /-- proposals at the abutment, oldest first | 10 R430 | none. -/
  props : List Held := []
  /-- proposals at a pylon | 10 R431 | none. -/
  fwd : List Fwd := []
  /-- the last CKSEQ given to each tenant by the abutment | 32 each | 10 R434 | 0. -/
  ckseq : Tbl Nat := []
  /-- an enrolment under way at the abutment | 10 R422 | none. -/
  enrol : Option Enrol := none
  /-- an enrolment under way at the joiner | 10 R422 | none. -/
  join : Option Join := none
  /-- a CRK change under way at the abutment: the new epoch and CRK, and the members that have answered yes | 10 R442 |
  none. -/
  crk : Option (BitVec 32 × BitVec 256 × List Nat) := none
  /-- the CRK prepared at a member, with the entry-0 TDK blobs it read | 10 R442 | none. -/
  crkNext : Option (BitVec 32 × BitVec 256 × List (Nat × Bytes)) := none
  /-- a takeover under way: the term called and the pylons that voted | 10 R440 | none. -/
  call : Option (Nat × List Nat) := none
  /-- TRS_ROLL_TDK, by tenant | 1,025 × 160 B | 10 R446 | 0. -/
  roll : Tbl Bytes := []
deriving DecidableEq, Repr

/-! ## Management subsystem (15) -/

/-- A tenant mailbox (R571). -/
structure VfMbx where
  /-- HIU_VF_MBX_STATUS.BUSY | 1 | 15 R571 | 0. -/
  busy : Bool := false
  /-- HIU_VF_MBX_STATUS.DONE | 1 | 15 R571 | 0. -/
  done : Bool := false
  /-- HIU_VF_MBX_REPLY | 64 | 15 R571 | 0. -/
  reply : DWord := 0
  /-- HIU_VF_MBX_REQ, by 32-bit word | 28 × 32 | 15 R571 | 0. -/
  req : Tbl Word := []
deriving DecidableEq, Repr

/-- A clear-component ceremony (R589, R590). -/
structure Ceremony where
  id : Nat
  tenant : Nat
  alg : Nat
  usage : Nat
  parts : Nat
  kflags : Nat
  keyId : Nat
  parentIdx : Nat
  parentId : Nat
  kcv : Bytes
  /-- parts received: number, custodian, component. -/
  got : List (Nat × Nat × Bytes)
  /-- the ticket's nonce and the end of its window. -/
  nonce : Bytes
  windowEnd : Nat
deriving DecidableEq, Repr

/-- What the commit of an MSS release does, beyond its anchor writes (R562). -/
inductive MssEff where
  | none
  /-- COMMISSION (R583): the officer entries written: index, OP, PERMIT. -/
  | commission (l : List (Nat × Nat × Nat))
  /-- OFFICER_TABLE on a standalone module (R572): the entries changed. -/
  | officers (l : List (Nat × Nat × Nat))
  /-- DECOMMISSION (R584). -/
  | decommission
  /-- A tenant's STATE follows its ANC_TN_CFG (R585 to R587). -/
  | tenantSet (t : Nat) (st : BitVec 2)
  /-- TENANT_REMOVE: the KET records go too (R587). -/
  | tenantGone (t : Nat)
  /-- ANC_BANK_SEL is written (R622): bank, new versions, RESET. -/
  | bank (b : Bool) (mss pier : Word) (reset : Bool)
  /-- ANC_MINVER1 to 5 are written (R622). -/
  | minver
  /-- ANC_OVERLAY is written (R625): old and new code, RESET. -/
  | overlay (old new : Nat) (reset : Bool)
  /-- A member applies a cluster key change (R294, R434), or the origin records its CKSEQ: proposal, tenant, key, word,
  whether anything is to be applied. -/
  | applyKey (pid : BitVec 64) (t : Nat) (keyId : BitVec 64) (word : DWord) (closes : Bool)
  /-- ANC_CL_QUAR marks this member for a tenant (R437); the proposal to acknowledge. -/
  | quarantine (t : Nat) (pid : Option (BitVec 64))
  /-- RESYNC_DATA is applied (R438). -/
  | resynced (t : Nat) (words : List (BitVec 64 × DWord))
  /-- A replicated record is applied (R428). -/
  | repl (seq : Nat) (r : ReplRec)
  /-- The joiner's enrolment commits (R424). -/
  | enrolled (g : EnrolGrant)
  /-- The module founds a cluster (R421). -/
  | founded
  /-- The member is removed (R426). -/
  | removed
  /-- CRK_COMMIT is applied (R443). -/
  | crkCommitted (crk : BitVec 256)
  /-- A Parapet policy write (R515): what follows it hangs on the anchor write itself. -/
  | policy
  /-- A recorder clear (R554): what follows it hangs on the anchor write itself. -/
  | recorder
  /-- A takeover commits (R440). -/
  | takeover (term : Nat)
  /-- A pylon adopts a new abutment and term (R440). -/
  | newTerm (term member : Nat)
deriving DecidableEq, Repr

/-- An MSS release under way (R562): the reply due at its commit (path, TAG, type, body), the action applied (code,
TICKET_ID, signers, tenant), and what follows. -/
structure MssRel where
  id : Nat
  reply : Option (Path × Word × Nat × Bytes)
  act : Option (Nat × BitVec 64 × Word × Nat)
  eff : MssEff
deriving DecidableEq, Repr

/-- A message being reassembled on the service port (R565). -/
structure Frag where
  src : BitVec 48
  msgId : Word
  count : Nat
  at_ : Nat
  got : List (Nat × Bytes)
deriving DecidableEq, Repr

/-- The management subsystem. -/
structure Mss where
  /-- MSS_MBX_STATUS.BUSY | 1 | 15 R570 | 0. -/
  mbxBusy : Bool := false
  /-- MSS_MBX_STATUS.DONE | 1 | 15 R570 | 0. -/
  mbxDone : Bool := false
  /-- MSS_MBX_STATUS.RESTARTED | 1 | 15 R570 | 0. -/
  mbxRestarted : Bool := false
  /-- MSS_MBX_REQ, by 32-bit word | 64 KiB | 15 R569 | 0. -/
  mbxReq : Tbl Word := []
  /-- MSS_MBX_REPLY, bytes from the start; 0 beyond | 64 KiB | 15 R569 | 0. -/
  mbxReply : Bytes := []
  /-- tenant mailboxes, by VF | 1,024 | 15 R571 | each at its reset values. -/
  vf : Tbl VfMbx := []
  /-- outstanding nonces with their issue times, oldest first | 8 × 256 | 15 R576 | none. -/
  nonces : List (Bytes × Nat) := []
  /-- the open ceremony | 15 R589 | none. -/
  cerem : Option Ceremony := none
  /-- the last ceremony ID given | 32 | 15 R589 | 0. -/
  ceremId : Nat := 0
  /-- MSS releases under way, oldest first | 15 R562 | none. -/
  rels : List MssRel := []
  /-- the identifier of the next MSS release (the model's own). -/
  nextRel : Nat := 0
  /-- messages being reassembled on the service port | 15 R565 | none. -/
  frags : List Frag := []
  /-- messages received whole on the service port, oldest first | 15 R565 | none. -/
  inbox : List (BitVec 48 × Word × Bytes) := []
  /-- ALERT_CAUSE | 3 | 15 R563 | 0. -/
  alert : BitVec 3 := 0
  /-- reports signed since boot | 64 | 15 R596 | 0. -/
  reports : Nat := 0
  /-- SHA-384 of the running MSS, pier, microcode and base configuration images | 4 × 384 | 15 R596 | per boot: 0. -/
  digests : List Bytes := []
  /-- the commissioning ceremony holds its ticket: KEYSTONE_CMD.GENERATE may act | 1 | 06 R251 | 0. -/
  mayGenerate : Bool := false
  /-- decommissioning or cluster removal: KEYSTONE_CMD.CLEAR may act | 1 | 06 R251 | 0. -/
  mayClear : Bool := false
  /-- the verified ticket of a recorder clear: signers and TICKET_ID | 14 R557 | none. -/
  mayClearEvr : Option (Word × Word) := none
  /-- device time at which the ticket of a Parapet policy change was accepted, with the value it covers | 13 R515 |
  none. -/
  mayPolicy : Option Word := none
deriving DecidableEq, Repr


/-! ## Tollgate (11) -/

/-- A Tollgate rule (R482, R483). -/
structure TgRule where
  /-- TG_RULE_BASE | 64 | 11 R482 | 0. -/
  base : DWord := 0
  /-- TG_RULE_LIMIT | 64 | 11 R482 | 0. -/
  limit : DWord := 0
  /-- TG_RULE_MASK | 32 | 11 R482 | 0. -/
  mask : Word := 0
  /-- TG_RULE_ATTR | 32 | 11 R483 | 0. -/
  attr : Word := 0
deriving DecidableEq, Repr

/-- The Tollgate. -/
structure Tg where
  /-- TG_CTRL.EN | 1 | 11 R478 | 0. -/
  en : Bool := false
  /-- boot mode | 1 | 11 R477 | 1. -/
  boot : Bool := true
  /-- TG_STATUS.HOLDING | 1 | 11 R479 | 0. -/
  holding : Bool := false
  /-- TG_STATUS.DRAINED | 1 | 11 R479 | 0. -/
  drained : Bool := false
  /-- TG_STATUS.HOLD_LONG | 1 | 11 R479 | 0. -/
  holdLong : Bool := false
  /-- accesses held at their initiator ports, oldest first (TG_STATUS.HELD counts the ports) | 11 R467 | none. -/
  held : List Access := []
  /-- device time of the change point, in µs | 64 | 11 R464 | 0. -/
  holdStart : Nat := 0
  /-- indices of the rules written in the hold | 11 R464 | none. -/
  written : List Nat := []
  /-- TG_ERR | 3 | 11 R480 | 0. -/
  err : BitVec 3 := 0
  /-- TG_BAD_RULE | 12 | 11 R478 | 0. -/
  badRule : BitVec 12 := 0
  /-- TG_FAULT_INFO | 32 | 11 R481 | 0. -/
  faultInfo : Word := 0
  /-- TG_FAULT_ADDR | 64 | 11 R478 | 0. -/
  faultAddr : DWord := 0
  /-- TG_CNT_FAULT | 64 | 11 R478 | 0. -/
  cntFault : DWord := 0
  /-- TG_CNT_DEFAULT | 64 | 11 R478 | 0. -/
  cntDefault : DWord := 0
  /-- TG_CNT_MISMATCH | 64 | 11 R478 | 0. -/
  cntMismatch : DWord := 0
  /-- TG_CNT_HOLD | 64 | 11 R478 | 0. -/
  cntHold : DWord := 0
  /-- the rule table | 4,096 × 256 | 11 R482 | 0. -/
  rules : Tbl TgRule := []
  /-- rotating pointer over initiator ports for the capture of faults | 11 R463 | 0. -/
  faultPtr : Nat := 0
deriving DecidableEq, Repr

/-! ## Memory integrity (12) -/

/-- The memory integrity unit. -/
structure Mi where
  /-- MEM_CTRL | 2 | 12 R505 | 3. -/
  ctrl : BitVec 2 := 3
  /-- MEM_STATUS.DRAM_READY | 1 | 12 R507 | 0. -/
  dramReady : Bool := false
  /-- MEM_STATUS.ZERO_FILLING | 1 | 12 R507 | 0. -/
  zeroFilling : Bool := false
  /-- MEM_DIE_FAILED | 16 | 12 R505 | 0. -/
  dieFailed : BitVec 16 := 0
  /-- MEM_ERR | 2 | 12 R505 | 0. -/
  err : BitVec 2 := 0
  /-- MEM_ERR_INFO | 32 | 12 R506 | 0. -/
  errInfo : Word := 0
  /-- MEM_ERR_ADDR | 64 | 12 R505 | 0. -/
  errAddr : DWord := 0
  /-- MEM_TEST_CTRL.EN | 1 | 12 R505 | 0. -/
  testEn : Bool := false
  /-- MEM_TEST_CHECK | 8 | 12 R505 | 0. -/
  testCheck : BitVec 8 := 0
  /-- MEM_TEST_BASE | 64 | 12 R505 | 0. -/
  testBase : DWord := 0
  /-- MEM_TEST_DSYM | 24 | 12 R507 | 0. -/
  testDsym : BitVec 24 := 0
  /-- MEM_TEST_SYND | 18 | 12 R507 | 0. -/
  testSynd : BitVec 18 := 0
  /-- MEM_PASS_SRAM | 64 | 12 R505 | 0. -/
  passSram : DWord := 0
  /-- MEM_PASS_DRAM | 64 | 12 R505 | 0. -/
  passDram : DWord := 0
  /-- MEM_CNT_CE_SRAM | 64 | 12 R505 | 0. -/
  cntCeSram : DWord := 0
  /-- MEM_CNT_UE_SRAM | 64 | 12 R505 | 0. -/
  cntUeSram : DWord := 0
  /-- MEM_CNT_CE_DRAM | 64 | 12 R505 | 0. -/
  cntCeDram : DWord := 0
  /-- MEM_CNT_UE_DRAM | 64 | 12 R505 | 0. -/
  cntUeDram : DWord := 0
  /-- MEM_DRAM_KEY | 512 | 12 R492 | 0. -/
  dramKey : BitVec 512 := 0
  /-- SRAM words: 1 valid, 3 valid and poisoned, by word key | 2 each | 12 R486 | 0. -/
  words : Tbl (BitVec 2) := []
  /-- check bits stored by ECC test writes, by word key | 8 each | 12 R501 | as R485 computes: none listed. -/
  testBits : Tbl (Option (BitVec 8)) := []
  /-- line poison table: mask of poisoned lines, by stripe | 4,096 stripes × 3 | 12 R495 | empty. -/
  linePoison : Tbl (BitVec 3) := []
  /-- stripes stored with the reserved check pattern | 12 R495 | none. -/
  pattern : Tbl Bool := []
  /-- MEM_TEST_DSYM corruption stored in stripes by test writes, by stripe | 24 each | 12 R501 | none. -/
  testStripes : Tbl (BitVec 24) := []
  /-- corrected symbols in the current second, by die | 12 R491 | 0. -/
  dieCe : Tbl Nat := []
deriving DecidableEq, Repr

/-! ## Parapet and Keystone (13, 06) -/

/-- The Parapet, with the time-stamp counter's domain. -/
structure Par where
  /-- PAR_STATUS.DECIDING | 1 | 13 R533 | 0. -/
  deciding : Bool := false
  /-- class of the first computation of the decision under way | 2 | 13 R517 | 0. -/
  first : BitVec 2 := 0
  /-- PAR_STATUS.RESPONSE | 2 | 13 R533 | 0. -/
  response : BitVec 2 := 0
  /-- PAR_STATUS.ALARM_OUT | 1 | 13 R533 | 0. -/
  alarmOut : Bool := false
  /-- PAR_STATUS.HELD | 1 | 13 R533 | 0. -/
  held : Bool := false
  /-- PAR_STATUS.POLICY_OPEN | 1 | 13 R533 | 0. -/
  policyOpen : Bool := false
  /-- PAR_LATCH.LATCH | 13 | 13 R535 | retained: 0 (DESIGN CHOICE 6). -/
  latch : BitVec 13 := 0
  /-- sources acted on and not yet re-armed | 13 | 13 R517, R525 | retained: 0 (DESIGN CHOICE 6). -/
  acted : BitVec 13 := 0
  /-- latched sources not yet acted on | 13 | 13 R517 | retained: 0 (DESIGN CHOICE 6). -/
  todo : BitVec 13 := 0
  /-- the policy in force at the first computation of the decision under way | 26 | 13 R519 | 0. -/
  pol : BitVec 26 := 0
  /-- PAR_LATCH.PENDING_RESET | 1 | 13 R535 | retained: 0 (DESIGN CHOICE 6). -/
  pendingReset : Bool := false
  /-- time-stamp counter at each latch, by source | 48 | 13 R530 | 0 (DESIGN CHOICE 6). -/
  latchTsc : Tbl (BitVec 48) := []
  /-- PAR_COND | 13 | 13 R532 | 0. -/
  cond : BitVec 13 := 0
  /-- PAR_POLICY_BK | 26 | 13 R516 | retained: 0x01AA_003F. -/
  policyBk : BitVec 26 := 0x01AA003F
  /-- PAR_BLOG_STATUS.LOST | 8 | 13 R537 | retained: 0 (DESIGN CHOICE 6). -/
  lost : BitVec 8 := 0
  /-- PAR_ERR | 2 | 13 R532 | 0. -/
  err : BitVec 2 := 0
  /-- PAR_LAST | 32 | 13 R537 | 0. -/
  last : Word := 0
  /-- PAR_TEMP | 16 | 13 R532 | 0. -/
  temp : BitVec 16 := 0
  /-- PAR_CNT_ALARM | 64 | 13 R532 | 0. -/
  cntAlarm : DWord := 0
  /-- PAR_BLOG0 to 15 | 16 × 64 | 13 R538 | retained: READ set, other bits 0 (DESIGN CHOICE 6). -/
  blog : Tbl DWord := []
deriving DecidableEq, Repr

/-- The Keystone (06 R246 to R251). -/
structure Keystone where
  /-- DRK | 256 | 06 R246 | retained: 0, uncommissioned (DESIGN CHOICE 6). -/
  drk : BitVec 256 := 0
  /-- integrity word | 64 | 06 R246 | retained: 0. -/
  integrity : DWord := 0
  /-- KEYSTONE_STATUS.LOADED | 1 | 06 R250 | retained: 0. -/
  loaded : Bool := false
  /-- KEYSTONE_STATUS.CHECK_OK | 1 | 06 R250 | 0. -/
  checkOk : Bool := false
  /-- KEYSTONE_STATUS.TAMPER_CLEARED | 1 | 06 R250 | retained: 0. -/
  tamper : Bool := false
deriving DecidableEq, Repr

/-! ## Event recorder (14) -/

/-- A record (R539). -/
structure Rec where
  seq : Word
  code : BitVec 16
  source : BitVec 16
  time : Nat
  p0 : Word
  p1 : Word
  p2 : Word
  p3 : Word
deriving DecidableEq, Repr

/-- A record offered and not yet accepted (R541). -/
structure Offer where
  source : BitVec 16
  code : BitVec 16
  p0 : Word
  p1 : Word
  p2 : Word
  p3 : Word
deriving DecidableEq, Repr

/-- A histogram slot in use (R549). -/
structure Hist where
  code : BitVec 16
  /-- occurrences in the histogram -/
  n : Nat
  bins : Tbl Nat
  least : Word
  greatest : Word
  seconds : Nat
deriving DecidableEq, Repr

/-- The event recorder. -/
structure Evr where
  /-- the store | 65,536 × 256 | 14 R544 | retained: empty (DESIGN CHOICE 7). -/
  store : Tbl (Option Rec) := []
  /-- EVR_HEAD, the record count | 64 | 14 R542 | retained: 0 at manufacture. -/
  head : Nat := 0
  /-- EVR_KEPT_BASE | 32 | 14 R557 | retained: 0. -/
  keptBase : Word := 0
  /-- sequence number of the oldest circulating record that can be held: the first one written after the last loss of
  3V3_AUX or clear | 64 | 14 R545 | 0 (DESIGN CHOICE 7). -/
  circBase : Nat := 0
  /-- the ceiling in force | 64 | 14 R546 | 0 at manufacture. -/
  ceiling : Nat := 0
  /-- a raise of the ceiling awaits its anchor write | 1 | 14 R546 | 0. -/
  raising : Bool := false
  /-- a refused raise waits for its retry | 1 | 14 R546 | 0. -/
  retry : Bool := false
  /-- input queue, oldest first | 64 records | 14 R547 | empty. -/
  queue : List Offer := []
  /-- the recorder's own records that wait to be written (R543) | 14 R550 | none. -/
  own : List Offer := []
  /-- records dropped since the last 0x0B05 | 64 | 14 R547 | 0. -/
  dropped : Nat := 0
  /-- EVR_CNT_DROPPED | 64 | 14 R557 | 0. -/
  cntDropped : DWord := 0
  /-- EVR_CNT_FALLBACK | 64 | 14 R557 | 0. -/
  cntFallback : DWord := 0
  /-- EVR_EVT | 5 | 14 R559 | 0. -/
  evt : BitVec 5 := 0
  /-- EVR_STATUS.CLEARING | 1 | 14 R558 | 0. -/
  clearing : Bool := false
  /-- EVR_STATUS.CLEAR_REFUSED | 1 | 14 R558 | 0. -/
  clearRefused : Bool := false
  /-- EVR_PAGE of the PF view | 2 | 14 R557 | 0. -/
  pagePf : BitVec 2 := 0
  /-- EVR_PAGE of the MSS view | 2 | 14 R557 | 0. -/
  pageMss : BitVec 2 := 0
  /-- EVR_WR_HDR | 32 | 14 R557 | 0. -/
  wrHdr : Word := 0
  /-- EVR_WR_P0 to 3 | 4 × 32 | 14 R557 | 0. -/
  wrP : Tbl Word := []
  /-- histogram slots | 32 | 14 R549 | free. -/
  hist : Tbl (Option Hist) := []
  /-- records offered in the current second, by code | 14 R548 | 0. -/
  offered : Tbl Nat := []
  /-- the clear record of the clear under way (R554) | 256 | 14 R554 | none. -/
  clearRec : Option Rec := none
  /-- kept slots whose records are still to be written to flash, oldest first | 14 R545 | none. -/
  keptPending : List Nat := []
deriving DecidableEq, Repr

/-! ## Anchors and the configuration flash (16) -/

/-- What follows when an anchor write becomes persistent (each owner's post-commit effect). -/
inductive Eff where
  | none
  /-- The recorder's ceiling raise (R546). -/
  | ceiling
  /-- The commit point of a recorder clear (R554). -/
  | evrClear
  /-- A Parapet policy write (R515): the old policy. -/
  | policy (old : Word)
  /-- The coalesced ANC_TN_KEY_SEQ write of a tenant, up to a SEQ (R265). -/
  | keySeq (tenant seq : Nat)
  /-- The commit point of an MSS release: what is done then, by its identifier (R562). -/
  | mss (id : Nat)
deriving DecidableEq, Repr

/-- An admitted anchor write (R614, R615): first word, values, cost in µJ, and what follows it. -/
structure AncWrite where
  word : Nat
  vals : List DWord
  cost : Nat
  eff : Eff
deriving DecidableEq, Repr

/-- The anchor store. -/
structure Anc where
  /-- the words | 8,192 × 64 | 16 R619 | at manufacture 0, ANC_PAR_POLICY 0x01AA_003F. -/
  words : Tbl DWord := [(0x0B, 0x01AA003F)]
  /-- wear counters, 8,192 the shadow's | 34 each | 16 R617 | 0 (DESIGN CHOICE 8). -/
  wear : Tbl Nat := []
  /-- words marked worn through ANC_MARK_WORN, 8,192 the shadow | 1 each | 16 R617 | 0 (DESIGN CHOICE 8). -/
  worn : Tbl Bool := []
  /-- words whose two copies are lost | 1 each | 16 R613 | 0. -/
  lost : Tbl Bool := []
  /-- admitted writes that are issued, in order | at most 64 | 16 R630 | none. -/
  queue : List AncWrite := []
  /-- the shadow area while its commit mark is set over a power-down: first word and values | 32 × 64 | 16 R615, R616 | mark clear. -/
  shadow : Option (Nat × List DWord) := none
  /-- ANC_ERR | 3 | 16 R629 | 0. -/
  err : BitVec 3 := 0
  /-- ANC_ERR_WORD | 13 | 16 R629 | 0. -/
  errWord : BitVec 13 := 0
  /-- ANC_WEAR_SEL | 14 | 16 R629 | 0. -/
  wearSel : BitVec 14 := 0
  /-- ANC_CNT_WRITE | 64 | 16 R629 | 0. -/
  cntWrite : DWord := 0
  /-- ANC_CNT_REFUSED | 64 | 16 R629 | 0. -/
  cntRefused : DWord := 0
deriving DecidableEq, Repr

/-- A flash controller command (R632). -/
inductive CfgOp where
  | read
  | program
  | erase
  | hash
deriving DecidableEq, Repr

/-- The configuration flash and its controller. -/
structure Cfg where
  /-- the flash | 64 MiB | 16 R600 | erased: 0xFF where not listed (DESIGN CHOICE 9). -/
  flash : List Host.Cell := []
  /-- the command executing (CFG_STATUS.BUSY), with its address, length and memory address | 16 R632 | none. -/
  cmd : Option (CfgOp × Nat × Nat × Nat) := none
  /-- CFG_STATUS.REFUSED | 1 | 16 R632 | 0. -/
  refused : Bool := false
  /-- CFG_STATUS.ERROR | 1 | 16 R632 | 0. -/
  error : Bool := false
  /-- CFG_FLASH_ADDR | 26 | 16 R631 | 0. -/
  flashAddr : BitVec 26 := 0
  /-- CFG_LEN | 26 | 16 R631 | 0. -/
  len : BitVec 26 := 0
  /-- CFG_MEM_ADDR | 40 | 16 R631 | 0. -/
  memAddr : BitVec 40 := 0
  /-- CFG_DIGEST0 to 11 | 384 | 16 R631 | 0. -/
  digest : BitVec 384 := 0
  /-- CFG_CNT_ERASE | 64 | 16 R631 | 0. -/
  cntErase : DWord := 0
deriving DecidableEq, Repr

/-! ## Power and energy (17), boot (18) and module hardware (19) -/

/-- The HIU and control state saved for DORMANT (R642). -/
structure Saved where
  hiu : Hiu
  dspCtrl : Word
  kcCtrl : Word
  scePark : Word
  pksPark : Word
  incarnations : Tbl (BitVec 20)
deriving DecidableEq, Repr

/-- The power and energy unit. -/
structure Pwr where
  /-- PWR_MODE | 2 | 17 R659 | 0. -/
  mode : BitVec 2 := 0
  /-- PWR_STATUS.STATE | 2 | 17 R660 | 0. -/
  state : BitVec 2 := 0
  /-- the entry under way (PWR_STATUS.ENTERING): target state and last step ended | 17 R636 | none. -/
  entry : Option (BitVec 2 × Nat) := none
  /-- a wake under way: state it wakes from, wake bitmap and device time of the wake event | 17 R640 | none. -/
  waking : Option (BitVec 2 × Word × Nat) := none
  /-- the MSS core is halted in WAIT | 1 | 17 R635 | 0. -/
  halted : Bool := false
  /-- PWR_STATUS.ABORTED | 1 | 17 R660 | 0. -/
  aborted : Bool := false
  /-- PWR_STATUS.LAST_ABORT | 2 | 17 R660 | 0. -/
  lastAbort : BitVec 2 := 0
  /-- PWR_STATUS.QUIESCE | 1 | 17 R660 | 0. -/
  quiesce : Bool := false
  /-- quiesce step reached, 7 once the domains are off | 17 R652 | 0. -/
  quiesceStep : Nat := 0
  /-- items ended with DEVICE_QUIESCING | 32 | 17 R657 | 0. -/
  quiesced : Nat := 0
  /-- releases completed under hold-up | 32 | 17 R657 | 0. -/
  heldUp : Nat := 0
  /-- PWR_STATUS.MAIN_OK | 1 | 17 R660 | 0. -/
  mainOk : Bool := false
  /-- PWR_STATUS.STORE_LOW | 1 | 17 R660 | 0. -/
  storeLow : Bool := false
  /-- PWR_WAKE_EN | 5 | 17 R661 | 0x1D. -/
  wakeEn : BitVec 5 := 0x1D
  /-- PWR_WAKE_PEND | 5 | 17 R661 | 0. -/
  wakePend : BitVec 5 := 0
  /-- an unmaskable wake event has arrived during the entry | 1 | 17 R639 | 0. -/
  forced : Bool := false
  /-- PWR_WAKE_TIMER | 64 | 17 R659 | 0. -/
  wakeTimer : DWord := 0
  /-- PWR_PAD.LATCHED | 3 | 17 R662 | 0. -/
  pads : BitVec 3 := 0
  /-- pad groups that the entry under way has latched | 3 | 17 R645 | 0. -/
  entryPads : BitVec 3 := 0
  /-- levels of STATUS_LED[1:0] held by the latched LED group | 2 | 17 R644, 19 R686 | 0. -/
  padLed : BitVec 2 := 0
  /-- NRG_CHARGE | 32 | 17 R659 | 0. -/
  charge : Nat := 0
  /-- NRG_OUTSTANDING | 32 | 17 R659 | 0. -/
  outstanding : Nat := 0
  /-- NRG_FULL | 32 | 17 R659 | 0. -/
  full : Nat := 0
  /-- NRG_ENVELOPE | 6 | 17 R659 | per configuration: 60. -/
  envelope : Nat := 60
  /-- NRG_POLICY | 17 | 17 R659 | 0x64. -/
  policy : BitVec 17 := 0x64
  /-- NRG_ALLOC | 32 | 17 R662 | 0x00F0_1A90. -/
  alloc : Word := 0x00F01A90
  /-- an allocation has units still to power down | 1 | 17 R656 | 0. -/
  parking : Bool := false
  /-- NRG_EVT | 4 | 17 R662 | 0. -/
  evt : BitVec 4 := 0
  /-- NRG_CNT_ADMIT | 64 | 17 R659 | 0. -/
  cntAdmit : DWord := 0
  /-- NRG_CNT_REFUSED | 64 | 17 R659 | 0. -/
  cntRefused : DWord := 0
  /-- HIU state saved for DORMANT | 17 R642 | none. -/
  saved : Option Saved := none
deriving DecidableEq, Repr

/-- Boot and reset (18). -/
structure Boot where
  /-- a boot is under way, before step 12 | 1 | 18 R664 | 1 (State.reset is the start of a boot). -/
  booting : Bool := true
  /-- ROM halt | 1 | 18 R671 | 0. -/
  romHalt : Bool := false
  /-- the overlay is recovery because of the causes of R671 (0 none, else P0 of event 0x0107) | 18 R677 | 0. -/
  recovery : Nat := 0
  /-- MSS_BOOT_INFO.TRIAL_SEEN | 1 | 18 R679 | 0 at power-on. -/
  trialSeen : Bool := false
  /-- MSS_BOOT_INFO.RUN_BANK | 1 | 18 R679 | per boot: 0. -/
  runBank : Bool := false
  /-- MSS_BOOT_INFO.OTHER_BANK | 1 | 18 R679 | per boot: 0. -/
  otherBank : Bool := false
  /-- MSS_RESET_CAUSE | 4 | 18 R679 | per boot: 0 (power-on). -/
  cause : BitVec 4 := 0
  /-- MSS_BOOT_TIME | 32 | 18 R678 | 0. -/
  time : Word := 0
  /-- device time of boot step 1 | 64 | 18 R677 | 0. -/
  started : Nat := 0
  /-- MODE_SEL sampled at the reset | 2 | 16 R608 | 0. -/
  modeSel : BitVec 2 := 0
  /-- the merged configuration's DSP_CTRL, item 0x0003 and envelope (R609, R610) | 3 × 32 | none. -/
  dspItem : Option Word := none
  enItem : Word := 0
  envItem : Option Word := none
  /-- an MSS warm restart is under way | 1 | 18 R674 | 0. -/
  warm : Bool := false
  /-- device time of its start | 64 | 18 R677 | 0. -/
  warmStart : Nat := 0
  /-- the module has been ready since power-on (R93) | 1 | 02 R93 | 0. -/
  everReady : Bool := false
  /-- a module reset has been requested and not yet begun (R663) | 4, its cause | 18 R679 | none. -/
  request : Option (BitVec 4) := none
  /-- boot releases that wait for admission: first word and values (R664 step 11, R673) | 18 R664 | none. -/
  writes : List (Nat × List DWord) := []
  /-- the boot's records of class 0x01xx and others raised before step 9, held by the MSS with their own times until the
  recorder accepts them | 18 R677 | none. -/
  log : List (Offer × Nat) := []
  /-- the boot has stopped at a hold: configuration requests are answered normally from then on | 1 | 18 R666 | 0. -/
  answering : Bool := false
  /-- discarded journal records: tenant, first and last SEQ, to be voided (R266) | 06 R266 | none. -/
  voids : List (Nat × Nat × Nat) := []
deriving DecidableEq, Repr

/-- Pins and supplies (19). -/
structure Hw where
  /-- P3V3_AUX within its range | 1 | 19 R691 | 1 (DESIGN CHOICE 10). -/
  aux : Bool := true
  /-- the hold-up store feeds the always-on domain in its place | 1 | 17 R653 | 0. -/
  onStore : Bool := false
  /-- PERST# asserted | 1 | 19 R686 | 1 (DESIGN CHOICE 10). -/
  perst : Bool := true
  /-- soft-start switch closed | 1 | 19 R689 | 1 (DESIGN CHOICE 10). -/
  softStart : Bool := true
  /-- the charger may run | 1 | 19 R690 | 1 (DESIGN CHOICE 10). -/
  charger : Bool := true
  /-- V_BK in range | 1 | 19 R698 | 1 (DESIGN CHOICE 10). -/
  vbk : Bool := true
deriving DecidableEq, Repr

/-! ## The whole state -/

/-- The state of the module (R16), with the queue of waiting commands. -/
structure State where
  clk : Clk := {}
  hiu : Hiu := {}
  dsp : Dsp := {}
  deck : Deck := {}
  keys : Keys := {}
  pay : Pay := {}
  eng : Engs := {}
  rng : Rng := {}
  trs : Trs := {}
  mss : Mss := {}
  tg : Tg := {}
  mi : Mi := {}
  par : Par := {}
  ks : Keystone := {}
  evr : Evr := {}
  anc : Anc := {}
  cfg : Cfg := {}
  pwr : Pwr := {}
  boot : Boot := {}
  hw : Hw := {}
  /-- the memories of R34 by internal address: SRAM pool, MSS SRAM, module DRAM | bytes | 01 R34 | 0 where not
  listed: a word that is not valid reads 0 (12 R487), DRAM is zero-filled (12 R494). -/
  mem : List Host.Cell := []
  /-- device time in µs | 64 | 13 R529 | 0 (the time-stamp counter is 0). -/
  now : Nat := 0
  /-- µs for which the backup domain has been powered, from which PAR_TSC is read | 48 bits of PAR_TSC | 13 R528 | 0. -/
  backupUs : Nat := 0
  /-- pending interrupts of the MSS interrupt controller, by event source | 1,152 × 1 | 01 R42 | 0. -/
  irq : Tbl Bool := []
  /-- draws of free values so far (the model's own counter: the values themselves are left open). -/
  free : Nat := 0
  /-- what the module has sent out, oldest first (the model's own log). -/
  out : List Out := []
  /-- the commands that are waiting, first in first out (the model's own queue). -/
  pending : List Instr := []
deriving DecidableEq, Repr

/-- The module at the start of its first boot: every register at its reset value, the boot under way (R664), the anchor
store as at manufacture (R619). -/
def State.reset : State := {}

end Sys2Proof.Machine
end

