-- ==== Sys2Proof/Machine/Table.lean ====
section
/-! DEFINITION. Reading and writing the sparse tables in which indexed state is held, and the byte memories. A table
lists its indices in strictly rising order and never lists an index whose value is the default, so that equal contents
are equal data. -/

namespace Sys2Proof.Machine

/-- The value at index `k`; `d` where `k` is not listed. -/
def tblGet {α : Type} (d : α) : Tbl α → Nat → α
  | [], _ => d
  | (k', v) :: t, k => if k' = k then v else tblGet d t k

/-- Put an entry at the front unless its value is the default. -/
def tblCons {α : Type} [DecidableEq α] (d : α) (k : Nat) (v : α) (t : Tbl α) : Tbl α :=
  if v = d then t else (k, v) :: t

/-- Write `v` at index `k`, keeping the canonical form. -/
def tblSet {α : Type} [DecidableEq α] (d : α) (k : Nat) (v : α) : Tbl α → Tbl α
  | [] => tblCons d k v []
  | (k', v') :: t =>
    if k < k' then tblCons d k v ((k', v') :: t)
    else if k' = k then tblCons d k v t
    else (k', v') :: tblSet d k v t

/-- The canonical form: indices strictly rising from above `lo`, no listed value the default. -/
def tblOk {α : Type} [DecidableEq α] (d : α) : Option Nat → Tbl α → Bool
  | _, [] => true
  | lo, (k, v) :: t =>
    (match lo with
      | none => true
      | some l => decide (l < k)) && decide (v ≠ d) && tblOk d (some k) t

/-- A table is in canonical form for the default `d`. -/
abbrev tblWf {α : Type} [DecidableEq α] (d : α) (t : Tbl α) : Prop := tblOk d none t = true

/-- Change the value at index `k` by `f`. -/
def tblMod {α : Type} [DecidableEq α] (d : α) (k : Nat) (f : α → α) (t : Tbl α) : Tbl α :=
  tblSet d k (f (tblGet d t k)) t

/-- Remove every index that `p` selects. -/
def tblDrop {α : Type} (p : Nat → Bool) (t : Tbl α) : Tbl α := t.filter (fun e => !p e.1)

/-- Change every listed value by `f`, dropping those that become the default. -/
def tblMap {α : Type} [DecidableEq α] (d : α) (f : Nat → α → α) : Tbl α → Tbl α
  | [] => []
  | (k, v) :: t => tblCons d k (f k v) (tblMap d f t)

/-- The byte at address `a` of a memory whose unlisted bytes read `d`. -/
def byteAt (d : Byte) (m : List Host.Cell) (a : Nat) : Byte := tblGet d m a

/-- Write one byte. -/
def setByte (d : Byte) (m : List Host.Cell) (a : Nat) (b : Byte) : List Host.Cell := tblSet d a b m

/-- The `n` bytes from address `a`. -/
def bytesAt (d : Byte) (m : List Host.Cell) (a : Nat) : Nat → Bytes
  | 0 => []
  | n + 1 => byteAt d m a :: bytesAt d m (a + 1) n

/-- Write a byte string from address `a`. -/
def setBytes (d : Byte) (m : List Host.Cell) (a : Nat) : Bytes → List Host.Cell
  | [] => m
  | b :: bs => setBytes d (setByte d m a b) (a + 1) bs

/-- Remove every byte of the range from `a` to `a + n - 1`: it reads as the unlisted value again. -/
def clearBytes (m : List Host.Cell) (a n : Nat) : List Host.Cell :=
  tblDrop (fun k => decide (a ≤ k) && decide (k < a + n)) m

/-- The canonical form of a byte memory. -/
abbrev Memory.wf (d : Byte) (m : List Host.Cell) : Prop := tblWf d m

end Sys2Proof.Machine
end

