-- ==== Sys2Proof/Machine/Ops.lean ====
section
/-! DEFINITION. The operations that every unit shares: time, free values, interrupts, event records (R539 to R551),
energy admission (R649) and anchor writes (R614 to R618). -/

namespace Sys2Proof.Machine

/-! ## Outputs, time and free values -/

/-- Send something out. -/
def State.emit (o : Out) (s : State) : State := { s with out := s.out ++ [o] }

/-- Device time moves on to `t` at the earliest; the backup domain's time moves with it. -/
def State.advance (t : Nat) (s : State) : State :=
  if s.now < t then { s with now := t, backupUs := s.backupUs + (t - s.now) } else s

/-- PAR_TSC: the count of backup-oscillator cycles at 32.768 kHz, 48 bits (R528). -/
def State.tsc (s : State) : BitVec 48 := BitVec.ofNat 48 (s.backupUs * 32768 / 1000000)

/-- Device time as R529 sets it at a power-on and a module reset. -/
def State.deviceTime (s : State) : Nat := s.tsc.toNat * 1000000 / 32768

/-- The next `n` free bytes. -/
def freeBytes (k : Nat) : Nat → Bytes
  | 0 => []
  | n + 1 => Config.freeByte k :: freeBytes (k + 1) n

/-- Draw `n` free bytes. -/
def State.draw (n : Nat) (s : State) : Bytes × State := (freeBytes s.free n, { s with free := s.free + n })

/-! ## Interrupts (R42, R70, R71, R75) -/

/-- Signal an event source to the MSS interrupt controller (R42); the interrupt ends a WAIT that changed no state (R635). -/
def State.signal (src : Nat) (s : State) : State :=
  { s with
    irq := tblSet false src true s.irq
    pwr.halted := s.pwr.halted && (s.pwr.state != 0 || s.pwr.entry.isSome) }

/-- An MSI-X message of a function is due: it is sent, or its pending bit is set while the vector is masked (R71). -/
def State.msix (fn vec : Nat) (s : State) : State :=
  let k := 2048 * fn + vec
  let e := tblGet ({} : Msix) s.hiu.msix k
  if e.masked then { s with hiu.msix := tblSet {} k { e with pending := true } s.hiu.msix }
  else s.emit (.msix fn vec e.addr e.data)

/-- The tenant record. -/
def State.tnOf (s : State) (t : Nat) : Tn := tblGet ({} : Tn) s.hiu.tn t

/-- Change a tenant record. -/
def State.modTn (t : Nat) (f : Tn → Tn) (s : State) : State := { s with hiu.tn := tblMod {} t f s.hiu.tn }

/-- Set bits of HIU_TN_EVT; a bit that becomes 1 signals the tenant's PF vector (R75). -/
def State.tnEvent (t : Nat) (bits : BitVec 3) (s : State) : State :=
  let old := (s.tnOf t).evt
  let s' := s.modTn t (fun r => { r with evt := old ||| bits })
  if old ||| bits = old then s' else s'.msix 0 (if t = 0 then 0 else 1023 + t)

/-! ## The event recorder's input (R541, R547 to R551) -/

/-- Set bits of EVR_EVT; a bit that becomes 1 signals PF vector 0 and event source 1,144 (R557). -/
def State.evrEvent (bits : BitVec 5) (s : State) : State :=
  let old := s.evr.evt
  let s' := { s with evr.evt := old ||| bits }
  if old ||| bits = old then s' else (s'.msix 0 0).signal 1144

/-- A record is dropped and counted (R547). -/
def State.evrDrop (s : State) : State :=
  ({ s with evr.dropped := s.evr.dropped + 1, evr.cntDropped := s.evr.cntDropped + 1 }).evrEvent 4

/-- The histogram bin of an occurrence with P0 = `v` (R549). -/
def histBin (v : Word) : Nat := if v.toNat ≤ 1 then 0 else Nat.log2 v.toNat

/-- One occurrence in a histogram: its bin saturates at 0xFFFF (R549). -/
def Hist.add (p0 : Word) (h : Hist) : Hist :=
  { h with
    n := h.n + 1
    bins := tblMod 0 (histBin p0) (fun n => min 65535 (n + 1)) h.bins
    least := if h.n = 0 || p0.toNat < h.least.toNat then p0 else h.least
    greatest := if h.n = 0 || h.greatest.toNat < p0.toNat then p0 else h.greatest }

/-- The histogram slot that a code holds, among the slots from `i` on. -/
def histFind (code : BitVec 16) : Tbl (Option Hist) → Option (Nat × Hist)
  | [] => none
  | (i, some h) :: t => if h.code = code then some (i, h) else histFind code t
  | (_, none) :: t => histFind code t

/-- The lowest free histogram slot from slot `i` on, of the 32 (R549). -/
def histFree (t : Tbl (Option Hist)) : Nat → Nat → Option Nat
  | 0, _ => none
  | n + 1, i => if (tblGet none t i).isNone then some i else histFree t n (i + 1)

/-- The classes whose codes never enter fall-back (R548). -/
def noFallback (code : BitVec 16) : Bool :=
  let c := code.toNat / 256
  c == 2 || c == 3 || c == 0x0B

/-- A unit offers a record on its event port (R541): it is counted in its second; a code in fall-back is summarised, the
1,001st of a second enters fall-back (R548, R549) or is dropped when no slot is free (R551); otherwise it joins the
input queue, or is dropped when the queue is full (R547). -/
def State.offer (o : Offer) (s : State) : State :=
  let n := tblGet 0 s.evr.offered o.code.toNat + 1
  let s := { s with evr.offered := tblSet 0 o.code.toNat n s.evr.offered }
  match histFind o.code s.evr.hist with
  | some (i, h) =>
    { s with evr.hist := tblSet none i (some (h.add o.p0)) s.evr.hist, evr.cntFallback := s.evr.cntFallback + 1 }
  | none =>
    if 1000 < n && !noFallback o.code then
      match histFree s.evr.hist 32 0 with
      | some i =>
        let h : Hist := ⟨o.code, 0, [], 0, 0, 0⟩
        ({ s with
          evr.hist := tblSet none i (some (h.add o.p0)) s.evr.hist
          evr.cntFallback := s.evr.cntFallback + 1
          evr.own := s.evr.own ++ [(⟨1144, 0x0B06, o.code.setWidth 32, w32 i, 0, 0⟩ : Offer)] }).evrEvent 2
      | none => s.evrDrop
    else if s.evr.queue.length < 64 then { s with evr.queue := s.evr.queue ++ [o] }
    else s.evrDrop

/-- Record an event (R540). -/
def State.event (src code p0 p1 p2 p3 : Nat) (s : State) : State :=
  s.offer ⟨BitVec.ofNat 16 src, BitVec.ofNat 16 code, w32 p0, w32 p1, w32 p2, w32 p3⟩

/-- Record an event of a unit and signal its event source. -/
def State.eventSig (src code p0 p1 p2 p3 : Nat) (s : State) : State :=
  (s.event src code p0 p1 p2 p3).signal src

/-! ## Energy admission (R646 to R651) -/

/-- The reserve floor F in µJ (R647). -/
def floorUJ : Nat := 1500000

/-- Set bits of NRG_EVT; a bit that becomes 1 signals PF vector 0 and event source 1,145 (R659). -/
def State.nrgEvent (bits : BitVec 4) (s : State) : State :=
  let old := s.pwr.evt
  let s' := { s with pwr.evt := old ||| bits }
  if old ||| bits = old then s' else (s'.msix 0 0).signal 1145

/-- The store is too small for any promise (R651). -/
def State.storeIsLow (s : State) : Bool := decide (s.pwr.full < floorUJ + 100000)

/-- The admission test of a total cost `c` (R649, R651, R652). -/
def State.admits (c : Nat) (s : State) : Bool :=
  !s.pwr.quiesce && !s.storeIsLow && decide (floorUJ + c + s.pwr.outstanding ≤ s.pwr.charge)

/-- A cost is admitted: it joins O and is counted (R649). -/
def State.admitCost (c : Nat) (s : State) : State :=
  { s with pwr.outstanding := s.pwr.outstanding + c, pwr.cntAdmit := s.pwr.cntAdmit + 1 }

/-- A cost is refused: it is counted, NRG_EVT.REFUSED is set and event 0x0505 recorded (R649, R657). -/
def State.refuse (c : Nat) (s : State) : State :=
  let s := ({ s with pwr.cntRefused := s.pwr.cntRefused + 1 }).nrgEvent 8
  s.event 1145 0x0505 c (s.pwr.charge / 1000) s.pwr.outstanding 0

/-- A cost leaves O (R650). -/
def State.repay (c : Nat) (s : State) : State := { s with pwr.outstanding := s.pwr.outstanding - c }

/-- The cost of an anchor write of `n` words (R648). -/
def ancCost (n : Nat) : Nat := if n ≤ 1 then 30 else 30 * (n + 1)

/-! ## Anchor writes (R613 to R618) -/

/-- The word that an anchor read returns: zero when both copies are lost (R613). -/
def State.ancGet (s : State) (w : Nat) : DWord :=
  if tblGet false s.anc.lost w then 0 else tblGet 0 s.anc.words w

/-- The value that a word will hold once every admitted write of it has completed (R614). -/
def State.ancLatest (s : State) (w : Nat) : DWord :=
  match (s.anc.queue.filter (fun a => decide (a.word ≤ w) && decide (w < a.word + a.vals.length))).getLast? with
  | some a => a.vals.getD (w - a.word) 0
  | none => s.ancGet w

/-- Writes of a word (8,192: the shadow, by every group) that are admitted and not yet complete (R617). -/
def State.ancPending (s : State) (w : Nat) : Nat :=
  (s.anc.queue.filter (fun a =>
    (decide (a.word ≤ w) && decide (w < a.word + a.vals.length)) || (w == 8192 && decide (1 < a.vals.length)))).length

/-- A further write of a word is refused as worn (R617). -/
def State.ancWornAt (s : State) (w : Nat) : Bool :=
  tblGet false s.anc.worn w || decide (10 ^ 10 < tblGet 0 s.anc.wear w + s.ancPending w + 1)

/-- A write of `n` words from word `w` is refused as worn: one of its words is, or the shadow for a group (R617). -/
def State.ancWorn (s : State) (w n : Nat) : Bool :=
  (List.range n).any (fun i => s.ancWornAt (w + i)) || (decide (1 < n) && s.ancWornAt 8192)

/-- Set bits of ANC_ERR with the word; a bit that becomes 1 signals event source 1,146 (R629). -/
def State.ancError (bits : BitVec 3) (w : Nat) (s : State) : State :=
  let old := s.anc.err
  let s' := { s with anc.err := old ||| bits, anc.errWord := BitVec.ofNat 13 w }
  if old ||| bits = old then s' else s'.signal 1146

/-- An anchor write is refused: counted, ANC_ERR and event 0x0A07 (R618, R627). `cause` is 1 worn, 2 energy. -/
def State.ancRefuse (w cause : Nat) (s : State) : State :=
  ((({ s with anc.cntRefused := s.anc.cntRefused + 1 }).ancError (if cause = 1 then 1 else 2) w).event 1146 0x0A07
    w cause 0 0)

/-- Issue an admitted anchor write to the store (R614, R615). -/
def State.ancIssue (w : Nat) (vals : List DWord) (cost : Nat) (e : Eff) (s : State) : State :=
  { s with anc.queue := s.anc.queue ++ [⟨w, vals, cost, e⟩] }

/-- The refusal of an anchor write, if any: energy before wear (R160, R618): 2 energy, 1 worn, 0 none. -/
def State.ancVerdict (w n : Nat) (s : State) : Nat :=
  if !s.admits (ancCost n) then 2 else if s.ancWorn w n then 1 else 0

/-- Admit and issue one anchor write, or refuse it. -/
def State.ancWrite (w : Nat) (vals : List DWord) (e : Eff) (s : State) : State × Bool :=
  let c := ancCost vals.length
  match s.ancVerdict w vals.length with
  | 0 => ((s.admitCost c).ancIssue w vals c e, true)
  | 2 => ((s.refuse c).ancRefuse w 2, false)
  | _ => (s.ancRefuse w 1, false)

/-- Put the words of a completed write in their places, counting their wear (R615, R617). -/
def ancPut (a : Anc) (w : Nat) : List DWord → Anc
  | [] => a
  | v :: vs =>
    ancPut { a with
      words := tblSet 0 w v a.words
      lost := tblSet false w false a.lost
      wear := tblMod 0 w (· + 1) a.wear
      cntWrite := a.cntWrite + 1 } (w + 1) vs

/-- The front write of the store completes: a group also wears the shadow (R615, R617, R650). -/
def State.ancPersist (a : AncWrite) (rest : List AncWrite) (s : State) : State :=
  let anc := ancPut { s.anc with queue := rest } a.word a.vals
  let anc := if 1 < a.vals.length then { anc with wear := tblMod 0 8192 (· + 1) anc.wear } else anc
  ({ s with anc := anc }).repay a.cost

/-- The store's supply goes: of the write at its front, whether a group's commit mark was set, or copy A of a single word written, is
left open (R614 to R616); the writes behind it have not begun. -/
def State.anchorsCut (s : State) : State :=
  match s.anc.queue with
  | [] => s
  | a :: _ =>
    let (b, s) := s.draw 1
    if (b.headD 0).getLsbD 0 then
      if 1 < a.vals.length then { s with anc.shadow := some (a.word, a.vals) } else { s with anc := ancPut s.anc a.word a.vals }
    else s

/-- The repair of a group at power-up: with the shadow's mark set the shadow is copied to its words and the mark cleared, and event
0x0A09 recorded (R616). -/
def State.anchorsRepair (s : State) : State :=
  match s.anc.shadow with
  | none => s
  | some (w, vs) =>
    let a := ancPut s.anc w vs
    { s with anc := { a with shadow := none, wear := tblMod 0 8192 (· + 1) a.wear } }.event 1146 0x0A09 w vs.length 0 0

end Sys2Proof.Machine
end

