-- ==== Sys2Proof/Machine/Memory.lean ====
section
/-! DEFINITION. The memories behind the internal address map (R34 to R37): which memory an address lies in, the state
of its SRAM words and DRAM lines (R486 to R495), and reading and writing bytes. -/

namespace Sys2Proof.Machine

/-- What lies at an internal address (R34, R37). -/
inductive Region where
  | bootRom
  | mssSram
  | periph
  | control
  | pool
  | dram
  | dramReserved
  | hostWindow
  | hole
deriving DecidableEq, Repr

/-- The region of an address (R34; the reserved DRAM range has no storage, R489). -/
def regionOf (a : Nat) : Region :=
  if a ≤ 0x3FFFF then .bootRom
  else if 0x10000000 ≤ a ∧ a ≤ 0x103FFFFF then .mssSram
  else if 0x1F000000 ≤ a ∧ a ≤ 0x1F0FFFFF then .periph
  else if 0x20000000 ≤ a ∧ a ≤ 0x20EFFFFF then .control
  else if 0x40000000 ≤ a ∧ a ≤ 0x44FFFFFF then .pool
  else if 0x1000000000 ≤ a ∧ a ≤ 0x12FFFFFFFF then .dram
  else if 0x1300000000 ≤ a ∧ a ≤ 0x13FFFFFFFF then .dramReserved
  else if 0x8000000000 ≤ a ∧ a ≤ 0xFFFFFFFFFF then .hostWindow
  else .hole

/-- The code of a memory in MEM_ERR_INFO (R506). -/
def sramCode : SramMem → Nat
  | .pool => 0
  | .pierLocal => 1
  | .mssSram => 2
  | .operand => 3
  | .controlStore => 4
  | .reqQueue => 5
  | .evrStore => 6

/-- The key of an SRAM word in the table of word states: memory, instance, and word index or address bits [39:3]
(R485). -/
def wordKey (m : SramMem) (inst w : Nat) : Nat := (sramCode m * 256 + inst) * 2 ^ 37 + w

/-- The key of the pool or MSS SRAM word that holds address `a`. -/
def wordAt (a : Nat) : Nat :=
  wordKey (if regionOf a = .mssSram then .mssSram else .pool) 0 (a / 8)

/-- The stripe of a DRAM address (R489). -/
def stripeOf (a : Nat) : Nat := (a - 0x1000000000) / 192

/-- The line of its stripe that a DRAM address lies in (R489). -/
def lineOf (a : Nat) : Nat := (a - 0x1000000000) / 64 % 3

/-- An SRAM word is poisoned (R486). -/
def State.poisoned (s : State) (k : Nat) : Bool := tblGet 0 s.mi.words k == 3

/-- An SRAM word is valid (R486). -/
def State.valid (s : State) (k : Nat) : Bool := (tblGet 0 s.mi.words k).getLsbD 0

/-- A DRAM line is poisoned, by the table or by the reserved pattern of its stripe (R495). -/
def State.linePoisoned (s : State) (stripe line : Nat) : Bool :=
  tblGet false s.mi.pattern stripe || (tblGet 0 s.mi.linePoison stripe).getLsbD line

/-- Mark a word valid and not poisoned (R486). -/
def State.markValid (k : Nat) (s : State) : State := { s with mi.words := tblSet 0 k 1 s.mi.words }

/-- Poison a word: a valid one, with its poison bit set (R486, R495). -/
def State.poison (k : Nat) (s : State) : State := { s with mi.words := tblSet 0 k 3 s.mi.words }

/-- The word keys touched by the bytes from `a` to `a + n - 1`. -/
def wordsIn (a n : Nat) : List Nat :=
  if n = 0 then [] else (List.range ((a + n - 1) / 8 - a / 8 + 1)).map (fun i => wordAt ((a / 8 + i) * 8))

/-- The bytes that a read of an internal address returns. -/
def State.readMem (s : State) (a n : Nat) : Bytes := bytesAt 0 s.mem a n

/-- Write bytes to an internal address: SRAM words become valid; a write that does not lie in the pool, MSS SRAM or
DRAM is discarded (R40, R486). -/
def State.writeMem (a : Nat) (b : Bytes) (s : State) : State :=
  if regionOf a ≠ regionOf (a + b.length - 1) then s
  else
    match regionOf a with
    | .dram => { s with mem := setBytes 0 s.mem a b }
    | .pool | .mssSram => (wordsIn a b.length).foldl (fun s k => s.markValid k) { s with mem := setBytes 0 s.mem a b }
    | _ => s

/-- Clear the valid and poison bits of every word of a memory's instance, with its data (R486). -/
def State.clearInst (m : SramMem) (inst : Nat) (s : State) : State :=
  let lo := wordKey m inst 0
  { s with
    mi.words := tblDrop (fun k => decide (lo ≤ k) && decide (k < lo + 2 ^ 37)) s.mi.words
    mi.testBits := tblDrop (fun k => decide (lo ≤ k) && decide (k < lo + 2 ^ 37)) s.mi.testBits }

/-- Clear the valid and poison bits of a range of the SRAM pool or MSS SRAM: its words read zero again (R486, R487). -/
def State.clearRange (a n : Nat) (s : State) : State :=
  let lo := wordAt a
  { s with
    mem := clearBytes s.mem a n
    mi.words := tblDrop (fun k => decide (lo ≤ k) && decide (k < lo + n / 8)) s.mi.words }

/-- Clear the SRAM pool (R486). -/
def State.clearPool (s : State) : State := s.clearRange 0x40000000 0x5000000

/-- Clear MSS SRAM (R674, R486). -/
def State.clearMssSram (s : State) : State := s.clearRange 0x10000000 0x400000

/-- Clear module DRAM: every byte reads as the zero-fill leaves it, no line poisoned (R494). -/
def State.clearDram (s : State) : State :=
  { s with
    mem := clearBytes s.mem 0x1000000000 0x400000000
    mi.linePoison := []
    mi.pattern := []
    mi.testStripes := [] }

end Sys2Proof.Machine
end

