-- ==== Sys2Proof/Machine/Flash.lean ====
section
/-! DEFINITION. The configuration flash controller (R600 to R603, R631, R632) and the marking of worn anchor words
(R629). -/

namespace Sys2Proof.Machine

/-- The region of R600 that a flash address lies in. -/
def flashRegion (a : Nat) : Nat :=
  if a < 0x1000000 then 0 else if a < 0x2000000 then 1 else if a < 0x3000000 then 2 else if a < 0x3040000 then 3 else 4

/-- ANC_BANK_SEL.BANK: the active bank (R603, R619). -/
def State.activeBank (s : State) : Bool := (s.ancGet 0).getLsbD 0

/-- The bytes of the flash. -/
def State.flashRead (s : State) (a n : Nat) : Bytes := bytesAt 0xFF s.cfg.flash a n

/-- A command whose range leaves the flash or crosses a region of R600 is refused; an erase must be sector-aligned; a
program or erase may not touch the active bank (R603, R632). -/
def State.cfgRefuses (s : State) (op : CfgOp) : Bool :=
  let a := s.cfg.flashAddr.toNat
  let n := s.cfg.len.toNat
  let crosses := decide (0x4000000 < a + n) || (decide (0 < n) && flashRegion a != flashRegion (a + n - 1))
  let touches := flashRegion a == b2n s.activeBank
  crosses ||
    match op with
    | .read => false
    | .hash => false
    | .program => touches
    | .erase => touches || a % 0x10000 != 0 || n % 0x10000 != 0

/-- A command written to CFG_CMD with GO (R632): ignored while BUSY, refused under R603 and R632, else started. -/
def State.cfgStart (op : CfgOp) (s : State) : State :=
  if s.cfg.cmd.isSome then s
  else if s.cfgRefuses op then { s with cfg.refused := true }
  else { s with
    cfg.refused := false
    cfg.cmd := some (op, s.cfg.flashAddr.toNat, s.cfg.len.toNat, s.cfg.memAddr.toNat) }

/-- CFG_READ (R632). -/
def execCfgRead (s : State) : Host.Outcome State Fault Refusal := .next (s.cfgStart .read)
/-- CFG_PROGRAM (R603, R632). -/
def execCfgProgram (s : State) : Host.Outcome State Fault Refusal := .next (s.cfgStart .program)
/-- CFG_ERASE (R603, R632). -/
def execCfgErase (s : State) : Host.Outcome State Fault Refusal := .next (s.cfgStart .erase)
/-- CFG_HASH (R632). -/
def execCfgHash (s : State) : Host.Outcome State Fault Refusal := .next (s.cfgStart .hash)

/-- Set CFG_DIGEST to the digest of a stream (R603, R631). -/
def State.cfgDigest (b : Bytes) (s : State) : State := { s with cfg.digest := BitVec.ofNat 384 (leNat (sha384B b)) }

/-- CFG_CMD_DONE (R603, R632): the command ends; `ok` is false when a program or erase failed its verify, whose range
then holds free values. -/
def execCfgCmdDone (ok : Bool) (s : State) : Host.Outcome State Fault Refusal :=
  match s.cfg.cmd with
  | none => .next s
  | some (op, a, n, m) =>
    let s := ({ s with cfg.cmd := none, cfg.error := false }).signal 1149
    match op with
    | .read =>
      let b := s.flashRead a n
      .next ((s.cfgDigest b).writeMem m b)
    | .hash => .next (s.cfgDigest (s.flashRead a n))
    | .program =>
      let b := s.readMem m n
      let s := s.cfgDigest b
      if ok then .next { s with cfg.flash := setBytes 0xFF s.cfg.flash a b }
      else
        let (g, s) := s.draw n
        .next { s with cfg.flash := setBytes 0xFF s.cfg.flash a g, cfg.error := true }
    | .erase =>
      if ok then .next { s with
        cfg.flash := clearBytes s.cfg.flash a n
        cfg.cntErase := s.cfg.cntErase + w64 (n / 0x10000) }
      else
        let (g, s) := s.draw n
        .next { s with cfg.flash := setBytes 0xFF s.cfg.flash a g, cfg.error := true }

/-- ANC_MARK_WORN (R617, R629): with GO, the word (8,192: the shadow) is marked worn. -/
def execAncMarkWorn (value : Word) (s : State) : Host.Outcome State Fault Refusal :=
  let w := (value.setWidth 14).toNat
  if value.getLsbD 31 ∧ w ≤ 8192 then .next { s with anc.worn := tblSet false w true s.anc.worn } else .next s

end Sys2Proof.Machine
end

