-- ==== Sys2Proof/Machine/Cipher.lean ====
section
/-! DEFINITION. The block ciphers and their modes, which the spec names by their standards: AES (FIPS 197), TDEA
(SP 800-67), ECB, CBC, CTR and CFB-128 (SP 800-38A), CMAC (SP 800-38B), GCM (SP 800-38D), XTS (IEEE 1619), FF1
(SP 800-38G) and the MAC algorithms 1 and 3 of ISO/IEC 9797-1. PRESUMED (log 13). -/

namespace Sys2Proof.Machine

/-! ## AES -/

/-- Multiplication by x in the field of AES. -/
def xtime (a : Byte) : Byte := (a <<< 1) ^^^ (if a.getLsbD 7 then 0x1B else 0)

/-- Multiplication in the field of AES, over `n` bits of `b`. -/
def gmulN : Nat → Byte → Byte → Byte
  | 0, _, _ => 0
  | n + 1, a, b => if b = 0 then 0 else (if b.getLsbD 0 then a else 0) ^^^ gmulN n (xtime a) (b >>> 1)

/-- Multiplication in the field of AES. -/
def gmul (a b : Byte) : Byte := gmulN 8 a b

/-- The S-box, 32 bytes in each number, entry 0 the least significant. -/
def sboxTab : List Nat := [
  0xC072A49CAFA2D4ADF04759FA7DC982CA76ABD7FE2B670130C56F6BF27B777C63,
  0x75B227EBE28012079A059618C323C7041531D871F1E5A534CCF73F362693FDB7,
  0xCF584C4A39BECB6A5BB1FC20ED00D153842FE329B3D63B52A05A6E1B1A2C8309,
  0xD2F3FF1021DAB6BCF5389D928F40A351A89F3C507F02F94585334D43FBAAEFD0,
  0xDB0B5EDE14B8EE4688902A22DC4F816073195D643D7EA7C41744975FEC130CCD,
  0x08AE7A65EAF4566CA94ED58D6D37C8E779E4959162ACD3C25C2406490A3A32E0,
  0x9E1DC186B95735610EF6034866B53E708A8BBD4B1F74DDE8C6B4A61C2E2578BA,
  0x16BB54B00F2D99416842E6BF0D89A18CDF2855CEE9871E9B948ED9691198F8E1]
/-- The inverse S-box, 32 bytes in each number, entry 0 the least significant. -/
def isboxTab : List Nat := [
  0xCBE9DEC444438E3487FF2F9B8239E37CFBD7F3819EA340BF38A53630D56A0952,
  0x25D18B6D49A25B76B224D92866A12E084EC3FA420B954CEE3D23C2A632947B54,
  0x849D8DA75746155EDAB9EDFD5048706C92B6655DCC5CA4D41698688664F6F872,
  0x6B8A130103BDAFC1020F3FCA8F1E2CD00645B3B80558E4F70AD3BC8C00ABD890,
  0x6EDF751CE837F9E28535ADE72274AC9673E6B4F0CECFF297EADC674F4111913A,
  0xF45ACD78FEC0DB9A2079D2C64B3E56FC1BBE18AA0E62B76F89C5291D711AF147,
  0xEF9CC9939F7AE52D0D4AB519A97F51605FEC8027591012B131C7078833A8DD1F,
  0x7D0C2155631469E126D677BA7E042B17619953833CBBEBC8B0F52AAE4D3BE0A0]
/-- An entry of such a table. -/
def tabByte (t : List Nat) (a : Byte) : Byte := byteOf (t.getD (a.toNat / 32) 0 >>> (8 * (a.toNat % 32)))

/-- The S-box. -/
def sbox (a : Byte) : Byte := tabByte sboxTab a

/-- The inverse S-box. -/
def isbox (a : Byte) : Byte := tabByte isboxTab a

/-- The key schedule, newest 4-byte word first: `n` further words, the next of index `i`, for a key of `nk` words. -/
def aesSched (nk : Nat) : Nat → Nat → Byte → List Bytes → List Bytes
  | 0, _, _, ws => ws
  | n + 1, i, rc, ws =>
    let t := ws.headD []
    let first := i % nk == 0
    let t := if first then xorB ((t.drop 1 ++ t.take 1).map sbox) [rc, 0, 0, 0]
      else if decide (6 < nk) && i % nk == 4 then t.map sbox else t
    aesSched nk n (i + 1) (if first then xtime rc else rc) (xorB t (ws.getD (nk - 1) []) :: ws)

/-- The round keys of a key of 16, 24 or 32 bytes. -/
def aesKeys (key : Bytes) : List Bytes :=
  let nk := key.length / 4
  blocks 16 ((aesSched nk (4 * (nk + 7) - nk) nk 1 (blocks 4 key).reverse).reverse.flatten)

/-- Rows shifted: byte `i` comes from byte `(i + 4 × k × (i mod 4)) mod 16`. -/
def aesShift (k : Nat) (st : Bytes) : Bytes := (List.range 16).map (fun i => st.getD ((i + 4 * k * (i % 4)) % 16) 0)

/-- Columns mixed with the circulant of `c`. -/
def aesMix (c : List Byte) (st : Bytes) : Bytes :=
  (List.range 16).map (fun i =>
    ((List.range 4).map (fun j => gmul (st.getD (i / 4 * 4 + j) 0) (c.getD ((4 + j - i % 4) % 4) 0))).foldl
      (· ^^^ ·) 0)

/-- AES encryption of one block. -/
def aesEnc (key blk : Bytes) : Bytes :=
  match aesKeys key with
  | [] => blk
  | k0 :: ks =>
    let st := ks.dropLast.foldl (fun st k => xorB (aesMix [2, 3, 1, 1] (aesShift 1 (st.map sbox))) k) (xorB blk k0)
    xorB (aesShift 1 (st.map sbox)) (ks.getLastD [])

/-- AES decryption of one block. -/
def aesDec (key blk : Bytes) : Bytes :=
  match (aesKeys key).reverse with
  | [] => blk
  | kn :: ks =>
    let st := ks.dropLast.foldl
      (fun st k => aesMix [14, 11, 13, 9] (xorB ((aesShift 3 st).map isbox) k)) (xorB blk kn)
    xorB ((aesShift 3 st).map isbox) (ks.getLastD [])

/-! ## DES and TDEA -/

/-- Select bits of an `n`-bit number by their positions, 1 the most significant. -/
def desSel (n : Nat) (tab : List Nat) (x : Nat) : Nat :=
  tab.foldl (fun a p => 2 * a + b2n (x.testBit (n - p))) 0

/-- The initial permutation. -/
def desIP : List Nat := [58, 50, 42, 34, 26, 18, 10, 2, 60, 52, 44, 36, 28, 20, 12, 4, 62, 54, 46, 38, 30, 22, 14, 6,
  64, 56, 48, 40, 32, 24, 16, 8, 57, 49, 41, 33, 25, 17, 9, 1, 59, 51, 43, 35, 27, 19, 11, 3,
  61, 53, 45, 37, 29, 21, 13, 5, 63, 55, 47, 39, 31, 23, 15, 7]
/-- The final permutation. -/
def desFP : List Nat := [40, 8, 48, 16, 56, 24, 64, 32, 39, 7, 47, 15, 55, 23, 63, 31, 38, 6, 46, 14, 54, 22, 62, 30,
  37, 5, 45, 13, 53, 21, 61, 29, 36, 4, 44, 12, 52, 20, 60, 28, 35, 3, 43, 11, 51, 19, 59, 27,
  34, 2, 42, 10, 50, 18, 58, 26, 33, 1, 41, 9, 49, 17, 57, 25]
/-- The expansion. -/
def desE : List Nat := [32, 1, 2, 3, 4, 5, 4, 5, 6, 7, 8, 9, 8, 9, 10, 11, 12, 13, 12, 13, 14, 15, 16, 17,
  16, 17, 18, 19, 20, 21, 20, 21, 22, 23, 24, 25, 24, 25, 26, 27, 28, 29, 28, 29, 30, 31, 32, 1]
/-- The permutation of the round function. -/
def desP : List Nat := [16, 7, 20, 21, 29, 12, 28, 17, 1, 15, 23, 26, 5, 18, 31, 10, 2, 8, 24, 14, 32, 27, 3, 9,
  19, 13, 30, 6, 22, 11, 4, 25]
/-- Permuted choice 1. -/
def desPC1 : List Nat := [57, 49, 41, 33, 25, 17, 9, 1, 58, 50, 42, 34, 26, 18, 10, 2, 59, 51, 43, 35, 27, 19, 11, 3,
  60, 52, 44, 36, 63, 55, 47, 39, 31, 23, 15, 7, 62, 54, 46, 38, 30, 22, 14, 6, 61, 53, 45, 37,
  29, 21, 13, 5, 28, 20, 12, 4]
/-- Permuted choice 2. -/
def desPC2 : List Nat := [14, 17, 11, 24, 1, 5, 3, 28, 15, 6, 21, 10, 23, 19, 12, 4, 26, 8, 16, 7, 27, 20, 13, 2,
  41, 52, 31, 37, 47, 55, 30, 40, 51, 45, 33, 48, 44, 49, 39, 56, 34, 53, 46, 42, 50, 36, 29, 32]

/-- The eight S-boxes, 64 entries of 4 bits each, entry 0 the least significant. -/
def desS : List Nat := [0xD60AE3B5719428CF05A379CFB26D8E148359BC6A1D2E47F07095C6A38BF21D4E,
  0x9E50C76B24F31A8DF2396C851D4AB7E05B96A10CE82F74D3A50CD27943B6E81F,
  0xC25B3EF478960DA17EA5C21B03F8946D1FBCE582A643907D824B7CD15F36E90A,
  0xE27CB5498D1A60F34825E31FD7BC096A9EA1C27430F65B8DF4CB5821A9603ED7,
  0x354A90F6D2E17C8BE0365C9F87DAB1246893AF051D74C2BE9E0DF3586BA714C2,
  0xD80671EBAF59C2346BD1A4073C825FE983B0ED1659C724FAB57E43D08629FA1C,
  0xC32EF0597A418DB6295086FAE73CDB4168F2C53EA1947B0D16A579C3D80FE2B4,
  0xB65309CFD8A47E12853FDA602EC914B729E0B65C473A8DF17C05E39A1BF6482D]

/-- The round function on a 32-bit half. -/
def desF (k r : Nat) : Nat :=
  let x := desSel 32 desE r ^^^ k
  let y := (List.range 8).foldl (fun a i =>
    let v := x / 64 ^ (7 - i) % 64
    let e := 16 * (2 * (v / 32) + v % 2) + v / 2 % 16
    16 * a + (desS.getD i 0) / 16 ^ e % 16) 0
  desSel 32 desP y

/-- The left rotations of the key schedule. -/
def desRot : List Nat := [1, 1, 2, 2, 2, 2, 2, 2, 1, 2, 2, 2, 2, 2, 2, 1]

/-- The round keys. -/
def desKeys (key : Nat) : List Nat :=
  let rot := fun (n x : Nat) => x * 2 ^ n % 2 ^ 28 + x / 2 ^ (28 - n)
  let cd := desSel 64 desPC1 key
  (desRot.foldl (fun (st : Nat × Nat × List Nat) n =>
    let c := rot n st.1
    let d := rot n st.2.1
    (c, d, st.2.2 ++ [desSel 56 desPC2 (c * 2 ^ 28 + d)])) (cd / 2 ^ 28, cd % 2 ^ 28, [])).2.2

/-- DES of one block under the round keys in the order given. -/
def desRun (ks : List Nat) (blk : Nat) : Nat :=
  let x := desSel 64 desIP blk
  let st := ks.foldl (fun (st : Nat × Nat) k => (st.2, st.1 ^^^ desF k st.2)) (x / 2 ^ 32, x % 2 ^ 32)
  desSel 64 desFP (st.2 * 2 ^ 32 + st.1)

/-- DES encryption of 8 bytes under 8 bytes. -/
def desEnc (key blk : Bytes) : Bytes := natBe 8 (desRun (desKeys (beNat key)) (beNat blk))
/-- DES decryption of 8 bytes under 8 bytes. -/
def desDec (key blk : Bytes) : Bytes := natBe 8 (desRun (desKeys (beNat key)).reverse (beNat blk))

/-- TDEA encryption under a two-key or three-key bundle. -/
def tdeaEnc (key blk : Bytes) : Bytes :=
  desEnc (if key.length = 24 then sub key 16 8 else sub key 0 8) (desDec (sub key 8 8) (desEnc (sub key 0 8) blk))
/-- TDEA decryption under a two-key or three-key bundle. -/
def tdeaDec (key blk : Bytes) : Bytes :=
  desDec (sub key 0 8) (desEnc (sub key 8 8) (desDec (if key.length = 24 then sub key 16 8 else sub key 0 8) blk))

/-! ## Modes -/

/-- A block cipher with its key: TDEA or AES. -/
structure Ciph where
  aes : Bool
  key : Bytes
deriving DecidableEq, Repr

/-- The block length in bytes. -/
def Ciph.bl (c : Ciph) : Nat := if c.aes then 16 else 8
/-- Encrypt one block. -/
def Ciph.enc (c : Ciph) (b : Bytes) : Bytes := if c.aes then aesEnc c.key b else tdeaEnc c.key b
/-- Decrypt one block. -/
def Ciph.dec (c : Ciph) (b : Bytes) : Bytes := if c.aes then aesDec c.key b else tdeaDec c.key b

/-- ECB encryption of whole blocks. -/
def ecbEnc (c : Ciph) (m : Bytes) : Bytes := (blocks c.bl m).flatMap c.enc
/-- ECB decryption of whole blocks. -/
def ecbDec (c : Ciph) (m : Bytes) : Bytes := (blocks c.bl m).flatMap c.dec

/-- CBC encryption of blocks. -/
def cbcEncB (c : Ciph) : Bytes → List Bytes → Bytes
  | _, [] => []
  | iv, b :: bs =>
    let o := c.enc (xorB b iv)
    o ++ cbcEncB c o bs
/-- CBC encryption. -/
def cbcEnc (c : Ciph) (iv m : Bytes) : Bytes := cbcEncB c iv (blocks c.bl m)

/-- CBC decryption of blocks. -/
def cbcDecB (c : Ciph) : Bytes → List Bytes → Bytes
  | _, [] => []
  | iv, b :: bs => xorB (c.dec b) iv ++ cbcDecB c b bs
/-- CBC decryption. -/
def cbcDec (c : Ciph) (iv m : Bytes) : Bytes := cbcDecB c iv (blocks c.bl m)

/-- Add `n` to a big-endian counter. -/
def ctrAdd (n : Nat) (b : Bytes) : Bytes := natBe b.length (beNat b + n)

/-- CTR over blocks; the counter is the last `w` bytes of the block and wraps within them. -/
def ctrB (c : Ciph) (w : Nat) : Bytes → List Bytes → Bytes
  | _, [] => []
  | ctr, b :: bs =>
    xorB b (c.enc ctr) ++ ctrB c w (ctr.take (ctr.length - w) ++ ctrAdd 1 (ctr.drop (ctr.length - w))) bs
/-- CTR with a counter over the whole block. -/
def ctrMode (c : Ciph) (iv m : Bytes) : Bytes := ctrB c c.bl iv (blocks c.bl m)

/-- CFB with full-block feedback. -/
def cfbEncB (c : Ciph) : Bytes → List Bytes → Bytes
  | _, [] => []
  | iv, b :: bs =>
    let o := xorB b (c.enc iv)
    o ++ cfbEncB c o bs
/-- CFB encryption. -/
def cfbEnc (c : Ciph) (iv m : Bytes) : Bytes := cfbEncB c iv (blocks c.bl m)
/-- CFB decryption over blocks. -/
def cfbDecB (c : Ciph) : Bytes → List Bytes → Bytes
  | _, [] => []
  | iv, b :: bs => xorB b (c.enc iv) ++ cfbDecB c b bs
/-- CFB decryption. -/
def cfbDec (c : Ciph) (iv m : Bytes) : Bytes := cfbDecB c iv (blocks c.bl m)

/-- Doubling in the field of the block size (CMAC). -/
def dbl (b : Bytes) : Bytes :=
  let n := beNat b
  let r := if b.length = 16 then 0x87 else 0x1B
  natBe b.length ((2 * n) ^^^ (if n.testBit (8 * b.length - 1) then r else 0))

/-- The CBC chain value after a message of whole blocks. -/
def cbcMac (c : Ciph) (iv m : Bytes) : Bytes := (blocks c.bl m).foldl (fun a b => c.enc (xorB a b)) iv

/-- CMAC, a full block. -/
def cmacB (c : Ciph) (m : Bytes) : Bytes :=
  let k1 := dbl (c.enc (zeros c.bl))
  let n := m.length
  let cut := if n = 0 then 0 else (n - 1) / c.bl * c.bl
  let last := m.drop cut
  let l := if last.length = c.bl then xorB last k1 else xorB (fit c.bl (last ++ [0x80])) (dbl k1)
  c.enc (xorB (cbcMac c (zeros c.bl) (m.take cut)) l)

/-- The padding methods of ISO/IEC 9797-1: method 1 adds zeros (a whole block for an empty message), method 2 a one bit
before them, method 3 a block with the length in bits before the message. -/
def pad9797 (method bl : Nat) (m : Bytes) : Bytes :=
  let head := if method = 3 then natBe bl (8 * m.length) else []
  let m := if method = 2 then m ++ [0x80] else m
  let m := if m.isEmpty then zeros bl else m
  head ++ m ++ zeros ((bl - m.length % bl) % bl)

/-- MAC algorithm 1: CBC-MAC of the padded message. -/
def mac1 (c : Ciph) (method : Nat) (m : Bytes) : Bytes := cbcMac c (zeros c.bl) (pad9797 method c.bl m)

/-- MAC algorithm 3 with DES under the two halves of the key. -/
def mac3 (key : Bytes) (method : Nat) (m : Bytes) : Bytes :=
  let h := (blocks 8 (pad9797 method 8 m)).foldl (fun a b => desEnc (sub key 0 8) (xorB a b)) (zeros 8)
  desEnc (sub key 0 8) (desDec (sub key 8 8) h)

/-! ## GCM -/

/-- Multiplication in the field of GCM, over `n` bits of `x` from its most significant. -/
def ghMulN : Nat → Nat → Nat → Nat
  | 0, _, _ => 0
  | n + 1, x, v =>
    (if x.testBit n then v else 0) ^^^ ghMulN n x (v / 2 ^^^ (if v.testBit 0 then 0xE1 * 2 ^ 120 else 0))

/-- GHASH of whole blocks under `h`. -/
def ghash (h : Nat) (m : Bytes) : Nat := (blocks 16 m).foldl (fun a b => ghMulN 128 (a ^^^ beNat b) h) 0

/-- A string padded with zeros to whole blocks. -/
def padZ (n : Nat) (m : Bytes) : Bytes := m ++ zeros ((n - m.length % n) % n)

/-- The GCM tag of a ciphertext, for a 96-bit IV. -/
def gcmTag (key iv aad ct : Bytes) : Bytes :=
  let h := beNat (aesEnc key (zeros 16))
  let s := ghash h (padZ 16 aad ++ padZ 16 ct ++ natBe 8 (8 * aad.length) ++ natBe 8 (8 * ct.length))
  xorB (natBe 16 s) (aesEnc key (iv ++ [0, 0, 0, 1]))

/-- GCM's counter mode, the same in both directions, for a 96-bit IV. -/
def gcmCtr (key iv m : Bytes) : Bytes := ctrB ⟨true, key⟩ 4 (iv ++ [0, 0, 0, 2]) (blocks 16 m)

/-- GCM encryption: ciphertext and 16-byte tag. -/
def gcmSeal (key iv aad m : Bytes) : Bytes × Bytes :=
  let ct := gcmCtr key iv m
  (ct, gcmTag key iv aad ct)

/-- GCM decryption: the plaintext when the tag verifies. -/
def gcmOpen (key iv aad ct tag : Bytes) : Option Bytes :=
  if gcmTag key iv aad ct = tag then some (gcmCtr key iv ct) else none

/-! ## XTS -/

/-- The tweak multiplied by the primitive element, little-endian. -/
def xtsMul (t : Bytes) : Bytes :=
  let n := leNat t
  natLe 16 ((2 * n) ^^^ (if n.testBit 127 then 0x87 else 0))

/-- One XTS block under the tweak. -/
def xtsBlk (enc : Bool) (k t b : Bytes) : Bytes := xorB ((if enc then aesEnc k else aesDec k) (xorB b t)) t

/-- XTS over the whole blocks and, for a last part shorter than a block, ciphertext stealing. -/
def xtsB (enc : Bool) (k : Bytes) : Bytes → List Bytes → Bytes
  | _, [] => []
  | t, [b] => xtsBlk enc k t b
  | t, [b, p] =>
    let t' := xtsMul t
    if p.length = 16 then xtsBlk enc k t b ++ xtsBlk enc k t' p
    else
      let cc := xtsBlk enc k (if enc then t else t') b
      xtsBlk enc k (if enc then t' else t) (p ++ cc.drop p.length) ++ cc.take p.length
  | t, b :: c :: d :: bs => xtsBlk enc k t b ++ xtsB enc k (xtsMul t) (c :: d :: bs)

/-- XTS of one data unit under the two halves of the key and the data unit number. -/
def xts (enc : Bool) (key : Bytes) (unitNo : Nat) (m : Bytes) : Bytes :=
  let h := key.length / 2
  xtsB enc (key.take h) (aesEnc (key.drop h) (natLe 16 unitNo)) (blocks 16 m)

/-! ## FF1 -/

/-- The number of a numeral string in a radix, most significant first. -/
def numR (radix : Nat) (x : List Nat) : Nat := x.foldl (fun a d => a * radix + d) 0

/-- The numeral string of `n` digits of a number, least significant first. -/
def strR (radix : Nat) : Nat → Nat → List Nat
  | 0, _ => []
  | n + 1, x => x % radix :: strR radix n (x / radix)

/-- The pseudorandom function of FF1: CBC-MAC under AES. -/
def ff1Prf (key m : Bytes) : Bytes := cbcMac ⟨true, key⟩ (zeros 16) m

/-- Bytes of the round value: `d` bytes from R and its successors. -/
def ff1S (key r : Bytes) (d : Nat) : Bytes :=
  (r ++ (List.range ((d + 15) / 16 - 1)).flatMap (fun j => aesEnc key (xorB r (natBe 16 (j + 1))))).take d

/-- The numeral length in bytes of the larger half. -/
def ff1Len (radix v : Nat) : Nat := (Nat.log2 (radix ^ v - 1) + 1 + 7) / 8

/-- The value y of one round. -/
def ff1Y (key tweak : Bytes) (radix n i bnum : Nat) : Nat :=
  let u := n / 2
  let v := n - u
  let b := ff1Len radix v
  let d := 4 * ((b + 3) / 4) + 4
  let p : Bytes := [1, 2, 1] ++ natBe 3 radix ++ [10, byteOf u] ++ natBe 4 n ++ natBe 4 tweak.length
  let q := tweak ++ zeros ((16 - (tweak.length + b + 1) % 16) % 16) ++ [byteOf i] ++ natBe b bnum
  beNat (ff1S key (ff1Prf key (p ++ q)) d)

/-- One round of FF1 in the direction `enc`, on the halves as numbers. -/
def ff1Step (enc : Bool) (key tweak : Bytes) (radix n : Nat) (ab : Nat × Nat) (i : Nat) : Nat × Nat :=
  let m := radix ^ (if i % 2 = 0 then n / 2 else n - n / 2)
  if enc then (ab.2, (ab.1 + ff1Y key tweak radix n i ab.2) % m)
  else ((ab.2 + (m - ff1Y key tweak radix n i ab.1 % m)) % m, ab.1)

/-- FF1 of a numeral string. -/
def ff1 (enc : Bool) (key tweak : Bytes) (radix : Nat) (x : List Nat) : List Nat :=
  let n := x.length
  let u := n / 2
  let r := List.range 10
  let ab := (if enc then r else r.reverse).foldl (ff1Step enc key tweak radix n)
    (numR radix (x.take u), numR radix (x.drop u))
  (strR radix u ab.1).reverse ++ (strR radix (n - u) ab.2).reverse

end Sys2Proof.Machine
end

