-- ==== Sys2Proof/Machine/Items.lean ====
section
/-! DEFINITION. Deck entries and flows: how items are found, changed, ordered and freed (03 R108 to R117, 04 R136 to
R148, R166). -/

namespace Sys2Proof.Machine

/-! ## The descriptor (R99 to R106) -/

/-- OPCODE. -/
def opcodeOf (d : Bytes) : Nat := fld d 0 2
/-- FLAGS. -/
def flagsOf (d : Bytes) : Nat := fld d 2 2
/-- FLOW_ID. -/
def flowIdOf (d : Bytes) : Nat := fld d 4 3
/-- CTRL. -/
def ctrlOf (d : Bytes) : Nat := fld d 7 1
/-- SEQ. -/
def seqOf (d : Bytes) : Nat := fld d 8 4
/-- DEADLINE. -/
def deadlineOf (d : Bytes) : Nat := fld d 12 4
/-- OUT_PTR (R100). -/
def outPtr (d : Bytes) : Bool := (flagsOf d).testBit 0
/-- PK_SCRUB (R100). -/
def pkScrubOf (d : Bytes) : Bool := (flagsOf d).testBit 1
/-- SEQ_CHECK (R100). -/
def seqCheckOf (d : Bytes) : Bool := (flagsOf d).testBit 2
/-- The output buffer's address and LEN (R103, R105). -/
def outBuf (d : Bytes) : Nat × Nat := (fld d 112 8, fld d 120 4)
/-- TARGET_KEY_ID (R106). -/
def targetOf (d : Bytes) : Nat := fld d 16 8
/-- The opcodes ordered in an implicit key-ID flow (R106, R114). -/
def keyFlowOp (op : Nat) : Bool :=
  op == 0x0501 || op == 0x0503 || (decide (0x0510 ≤ op) && decide (op ≤ 0x0513))

/-! ## Entries -/

/-- The Deck entry of an index. -/
def State.entOf (s : State) (d : Nat) : Option Entry := tblGet none s.deck.ent d

/-- Write a Deck entry. -/
def State.setEnt (d : Nat) (e : Entry) (s : State) : State := { s with deck.ent := tblSet none d (some e) s.deck.ent }

/-- Change a Deck entry, when it is held. -/
def State.modEnt (d : Nat) (f : Entry → Entry) (s : State) : State :=
  match s.entOf d with
  | some e => s.setEnt d (f e)
  | none => s

/-- The held entries, with their indices. -/
def heldOf : Tbl (Option Entry) → List (Nat × Entry)
  | [] => []
  | (d, some e) :: t => (d, e) :: heldOf t
  | (_, none) :: t => heldOf t

/-- The held entries of the module. -/
def State.held (s : State) : List (Nat × Entry) := heldOf s.deck.ent

/-- HIU_TN_INFLIGHT: items of a tenant in the module (R72, R136). -/
def State.inflight (s : State) (t : Nat) : Nat := (s.held.filter (fun x => x.2.fn == t)).length

/-- Items fetched from a queue pair and not yet freed (R57, R64). -/
def State.qpItems (s : State) (fn q : Nat) : Nat := (s.held.filter (fun x => x.2.fn == fn && x.2.q == q)).length

/-- The lowest `n` free Deck indices from `i` on. -/
def freeEntries (t : Tbl (Option Entry)) : Nat → Nat → Nat → List Nat
  | 0, _, _ => []
  | f + 1, i, n =>
    if n = 0 then []
    else if (tblGet none t i).isNone then i :: freeEntries t f (i + 1) (n - 1)
    else freeEntries t f (i + 1) n

/-! ## Flows (R108 to R117, R140) -/

/-- The key of a flow entry. -/
def flowKey (f : Nat × Bool × Nat) : Nat := (2 * f.1 + b2n f.2.1) * 2 ^ 64 + f.2.2

/-- The flow in which an item is ordered (R108, R114). -/
def flowOf (fn : Nat) (d : Bytes) : Nat × Bool × Nat :=
  if keyFlowOp (opcodeOf d) then (fn, true, targetOf d) else (fn, false, flowIdOf d)

/-- An entry is in flow order: it has arrived and has not left it (R111; an ORPHAN has left). -/
def Entry.inOrder (e : Entry) : Bool := e.st != .reserved && e.st != .orphan

/-- An item of a flow and a generation that is in flow order and earlier than `e` (R86, R109). -/
def Entry.before (x e : Entry) : Bool :=
  x.inOrder && x.flow == e.flow && x.gen == e.gen && decide (x.arrival < e.arrival)

/-- Eligibility for release (R110); an item placed in no flow is always eligible (R124). -/
def State.eligible (s : State) (e : Entry) : Bool :=
  match e.flow with
  | none => true
  | some f =>
    let earlier := (s.held.map Prod.snd).filter (fun x => x.before e)
    let bars := ((tblGet none s.dsp.flows (flowKey f)).map (fun r => r.barriers)).getD []
    let clear := bars.all (fun b => decide (e.arrival ≤ b) || earlier.all (fun x => decide (b < x.arrival)))
    clear &&
      match e.order with
      | 1 => true
      | 2 => earlier.isEmpty
      | _ => earlier.all (fun x => x.order == 1)

/-- Free a Deck entry, and its flow entry with the flow's last held item (R136, R137, R140). -/
def State.freeEnt (d : Nat) (s : State) : State :=
  match s.entOf d with
  | none => s
  | some e =>
    let s := { s with
      deck.ent := tblSet none d none s.deck.ent
      dsp.replayList := s.dsp.replayList.filter (fun x => x != d) }
    match e.flow with
    | none => s
    | some f =>
      if s.held.any (fun x => x.2.flow == some f) then s
      else { s with dsp.flows := tblSet none (flowKey f) none s.dsp.flows }

/-! ## Key-cache pins (R272, R277) -/

/-- Free a slot, with the second of a two-slot key (R270). -/
def dropSlot (t : Tbl (Option Slot)) (k : Nat) : Tbl (Option Slot) :=
  let t := tblSet none k none t
  match tblGet none t (k + 1) with
  | some x => if x.second then tblSet none (k + 1) none t else t
  | none => t

/-- A slot becomes STALE, or is freed when nothing pins it (R272). -/
def staleSlot (t : Tbl (Option Slot)) (k : Nat) : Tbl (Option Slot) :=
  match tblGet none t k with
  | none => t
  | some x => if x.pins = 0 then dropSlot t k else tblSet none k (some { x with st := .stale }) t

/-- A slot loses one pin; a STALE slot whose count falls to 0 is freed (R272). -/
def unpinSlot (t : Tbl (Option Slot)) (k : Nat) : Tbl (Option Slot) :=
  match tblGet none t k with
  | none => t
  | some x =>
    if x.st = .stale ∧ x.pins ≤ 1 then dropSlot t k
    else tblSet none k (some { x with pins := x.pins - 1 }) t

/-- An item's pins end (R277). -/
def State.unpin (bs : List Bind) (s : State) : State :=
  { s with keys.t1 := (bs.flatMap (fun b => b.slots)).foldl unpinSlot s.keys.t1 }

/-- The pins of an attempt end and the bind record is kept (R277, R278). -/
def State.endPins (d : Nat) (s : State) : State :=
  match s.entOf d with
  | none => s
  | some e => (s.unpin e.binds).setEnt d { e with binds := e.binds.map (fun b => { b with slots := [] }) }

/-- An item becomes LEFT: its pins end and its entry is freed (R137, R277). -/
def State.leave (d : Nat) (s : State) : State :=
  match s.entOf d with
  | none => s
  | some e => (s.unpin e.binds).freeEnt d

/-! ## Piers -/

/-- The state of a pier. -/
def State.pierOf (s : State) (p : Nat) : PierSt := tblGet .idle s.dsp.piers p

/-- Set the state of a pier. -/
def State.setPier (p : Nat) (x : PierSt) (s : State) : State := { s with dsp.piers := tblSet .idle p x s.dsp.piers }

/-- A pier's item ends: the pier goes on towards its take port. -/
def State.releasePier (p : Option Nat) (s : State) : State :=
  match p with
  | none => s
  | some p =>
    match s.pierOf p with
    | .holding _ => s.setPier p .idle
    | _ => s

/-! ## Discards (R85, R148, R166) -/

/-- A held item of an older generation leaves flow order as discarded (R166): RUNNING becomes ORPHAN, a release that has
begun goes on (R163), any other becomes LEFT. -/
def State.discard (d : Nat) (s : State) : State :=
  match s.entOf d with
  | none => s
  | some e =>
    match e.st with
    | .releasing | .orphan => s
    | .running =>
      ({ s with deck.cntDiscard := s.deck.cntDiscard + 1 }).setEnt d { e with st := .orphan }
    | _ => ({ s with deck.cntDiscard := s.deck.cntDiscard + 1 }).leave d

/-- A generation value that no held item of the function carries, from `g` on (R84). -/
def freshGen (used : List (BitVec 16)) : Nat → BitVec 16 → BitVec 16
  | 0, g => g
  | n + 1, g => if used.contains g then freshGen used n (g + 1) else g

/-- The function's generation increments, and every held item of an older one leaves flow order (R83, R84, R166). -/
def State.moveGen (fn : Nat) (s : State) : State :=
  let mine := s.held.filter (fun x => x.2.fn == fn && x.2.st != .reserved)
  let g := freshGen (mine.map (fun x => x.2.gen)) 32769 ((s.tnOf fn).gen + 1)
  mine.foldl (fun s x => s.discard x.1) (s.modTn fn (fun r => { r with gen := g }))

end Sys2Proof.Machine
end

