-- ==== Sys2Proof/Machine/Keys.lean ====
section
/-! DEFINITION. Blobs, the key epoch table, the key journal and the key cache (06_key_hierarchy.md). -/

namespace Sys2Proof.Machine

/-! ## Blob headers (R254 to R258) -/

/-- MAGIC. -/
def blobMagic : Bytes := [0x47, 0x58, 0x4B, 0x42]
/-- ALG. -/
def hAlg (h : Bytes) : Nat := fld h 5 1
/-- USAGE. -/
def hUsage (h : Bytes) : Nat := fld h 6 1
/-- KFLAGS. -/
def hFlags (h : Bytes) : Nat := fld h 7 1
/-- PART_IDX. -/
def hPart (h : Bytes) : Nat := fld h 8 1
/-- LENGTH. -/
def hLen (h : Bytes) : Nat := fld h 10 2
/-- TENANT. -/
def hTenant (h : Bytes) : Nat := fld h 12 2
/-- KEY_ID. -/
def hKeyId (h : Bytes) : Nat := fld h 16 8
/-- KEY_EPOCH. -/
def hEpoch (h : Bytes) : Nat := fld h 24 4
/-- PARENT_EPOCH. -/
def hParentEpoch (h : Bytes) : Nat := fld h 28 4
/-- PARENT_KEY_ID. -/
def hParent (h : Bytes) : Nat := fld h 32 8
/-- KCV. -/
def hKcv (h : Bytes) : Bytes := sub h 40 3
/-- PARENT_INDEX. -/
def hParentIdx (h : Bytes) : Nat := fld h 43 3

/-- LENGTH and PART_CNT of a key type; `none` for an ALG outside R255. -/
def algShape (a : Nat) : Option (Nat × Nat) :=
  match a with
  | 0x80 => some (16, 1) | 0x81 => some (24, 1) | 0x82 => some (16, 1) | 0x83 => some (24, 1) | 0x84 => some (32, 1)
  | 0x85 => some (32, 1) | 0x86 => some (64, 1) | 0x87 => some (32, 1)
  | 0x01 => some (80, 8) | 0x02 => some (80, 12) | 0x03 => some (80, 16)
  | 0x10 => some (32, 1) | 0x11 => some (48, 1) | 0x12 => some (66, 1)
  | 0x18 => some (32, 1) | 0x19 => some (48, 1)
  | 0x20 => some (32, 1) | 0x21 => some (32, 1)
  | _ => none

/-- The number of parts of a key type, 1 where the type is undefined. -/
def algParts (a : Nat) : Nat := ((algShape a).map Prod.snd).getD 1

/-- A header is well formed, as part `part` of its key (R254 to R256). -/
def hdrOk (h : Bytes) (part : Nat) : Bool :=
  fld h 4 1 == 1 && (algShape (hAlg h) == some (hLen h, fld h 9 1)) && decide (hUsage h ≤ 10) &&
    decide (hFlags h < 4) && hPart h == part && decide (hTenant h ≤ 1024) && zeroIn h 14 2 && zeroIn h 46 2

/-- The fields of a header to be sealed. -/
structure HdrNew where
  alg : Nat
  usage : Nat
  flags : Nat
  tenant : Nat
  keyId : Nat
  epoch : Nat
  parentEpoch : Nat
  parent : Nat
  parentIdx : Nat
  kcv : Bytes

/-- The 48 bytes of a header (R254). -/
def HdrNew.bytes (n : HdrNew) (part : Nat) : Bytes :=
  let sh := (algShape n.alg).getD (0, 1)
  blobMagic ++ [1, byteOf n.alg, byteOf n.usage, byteOf n.flags, byteOf part, byteOf sh.2] ++ natLe 2 sh.1 ++
    natLe 2 n.tenant ++ zeros 2 ++ natLe 8 n.keyId ++ natLe 4 n.epoch ++ natLe 4 n.parentEpoch ++ natLe 8 n.parent ++
    fit 3 n.kcv ++ natLe 3 n.parentIdx ++ zeros 2

/-- The cipher of a symmetric key type with its material; XTS types give the cipher of their first half. -/
def ciphOf (alg : Nat) (mat : Bytes) : Ciph :=
  match alg with
  | 0x80 | 0x81 => ⟨false, mat⟩
  | 0x85 | 0x86 => ⟨true, mat.take (mat.length / 2)⟩
  | _ => ⟨true, mat⟩

/-- The KCV of a symmetric key (R258). -/
def kcvSym (alg : Nat) (mat : Bytes) : Bytes :=
  if alg = 0x87 then (hmacB .sha256 mat []).take 3
  else
    let c := ciphOf alg mat
    (c.enc (zeros c.bl)).take 3

/-! ## The key epoch table (R261, R262) -/

/-- The KET's index of a tenant's key. -/
def ketKey (t kid : Nat) : Nat := t * 2 ^ 64 + kid

/-- The key state word of a tenant's key (R261). -/
def State.keyWord (s : State) (t kid : Nat) : DWord := tblGet 0 s.keys.ket (ketKey t kid)

/-- COMMITTED. -/
def wCommitted (w : DWord) : Nat := (w.setWidth 32).toNat
/-- STAGED. -/
def wStaged (w : DWord) : Bool := w.getLsbD 32
/-- The word is revoked. -/
def wRevoked (w : DWord) : Bool := wCommitted w == 0xFFFFFFFF
/-- A key state word from COMMITTED and, when staged, STAGED_KCV: a big-endian number in [63:40] (log 15). -/
def keyWordOf (c : Nat) (staged : Option Bytes) : DWord :=
  match staged with
  | none => w64 c
  | some k => w64 (c + 2 ^ 32 + beNat (fit 3 k) * 2 ^ 40)

/-- Write a key state word. -/
def State.setKeyWord (t kid : Nat) (w : DWord) (s : State) : State :=
  { s with keys.ket := tblSet 0 (ketKey t kid) w s.keys.ket }

/-- KET records of a tenant (R261). -/
def State.ketUsed (s : State) (t : Nat) : Nat := (s.keys.ket.filter (fun x => x.1 / 2 ^ 64 == t)).length

/-- The tenant's share of the KET, ANC_TN_CFG word 0 [49:32] (R261, R619). -/
def State.ketShare (s : State) (t : Nat) : Nat := bitsOf (s.ancGet (0x1100 + 3 * t)).toNat 49 32

/-- How a blob's epoch stands under COMMITTED (R262). -/
inductive Stand where
  | stale
  | current
  | next
deriving DecidableEq, Repr

/-- R262. -/
def standOf (c e : Nat) : Stand :=
  if c = 0xFFFFFFFF then .stale else if e = c then .current else if e = c + 1 then .next else .stale

/-- ANC_CRK_EPOCH. -/
def State.crkEpoch (s : State) : Nat := (s.ancGet 0x0C).toNat % 2 ^ 32
/-- ANC_TN_TDK_EPOCH. -/
def State.tdkEpoch (s : State) (t : Nat) : Nat := (s.ancGet (0x0C00 + t)).toNat % 2 ^ 32

/-- The value of a guarded state word (R159, R281). -/
def State.gword (s : State) : GWord → DWord
  | .keyState t k => s.keyWord t k.toNat
  | .tdkEpoch t => w64 (s.tdkEpoch t)
  | .crkEpoch => w64 s.crkEpoch

/-! ## Sealing (R253, R259) -/

/-- The next sealing IV: member number, ANC_IV_EPOCH, counter; the counter's wrap increments ANC_IV_EPOCH (R259). -/
def State.nextIv (s : State) : Bytes × State :=
  let iv := natLe 2 ((s.ancGet 0x0D).toNat % 65536) ++ natLe 6 ((s.ancGet 7).toNat % 2 ^ 48) ++
    natLe 4 s.keys.ivCount.toNat
  let c := s.keys.ivCount + 1
  let s := { s with keys.ivCount := c }
  (iv, if c = 0 then (s.ancWrite 7 [s.ancGet 7 + 1] .none).1 else s)

/-- Seal one part under a parent's material (R253, R257, R259). -/
def sealBlob (parent iv hdr mat : Bytes) : Bytes :=
  let r := gcmSeal parent iv hdr (fit 80 mat)
  hdr ++ iv ++ zeros 4 ++ r.1 ++ r.2

/-- Open one blob under a parent's material: valid tag and a zero tail (R257, step 8 of R276). -/
def openBlob (parent b : Bytes) : Option Bytes :=
  match gcmOpen parent (sub b 48 12) (sub b 0 48) (sub b 64 80) (sub b 144 16) with
  | none => none
  | some p => if zeroIn p (hLen b) (80 - hLen b) then some (p.take (hLen b)) else none

/-- Seal a key of several parts. -/
def State.sealParts (n : HdrNew) (parent : Bytes) : Nat → List Bytes → State → Bytes × State
  | _, [], s => ([], s)
  | i, m :: ms, s =>
    let (iv, s) := s.nextIv
    let (rest, s) := s.sealParts n parent (i + 1) ms
    (sealBlob parent iv (n.bytes i) m ++ rest, s)

/-! ## The key cache (R270 to R273) -/

/-- Slot `k` and every ancestor up to the TDK are VALID (R272); the TDK's own parent is slot 0. -/
def usableF (t : Tbl (Option Slot)) : Nat → Nat → Bool
  | 0, _ => false
  | f + 1, k =>
    match tblGet none t k with
    | none => false
    | some x => x.st == .valid && (k == 0 || (decide (k ≤ 1025)) || usableF t f x.parent)

/-- A tier-one slot is usable (R272). -/
def State.usable (s : State) (k : Nat) : Bool := usableF s.keys.t1 8 k

/-- A slot holds a part of a tenant's key at an epoch. -/
def Slot.isKey (x : Slot) (t kid part epoch : Nat) : Bool :=
  !x.second && hTenant x.hdr == t && hKeyId x.hdr == kid && hPart x.hdr == part && hEpoch x.hdr == epoch

/-- The first slot of a table that `p` accepts. -/
def findSlot (p : Nat → Slot → Bool) : Tbl (Option Slot) → Option (Nat × Slot)
  | [] => none
  | (k, some x) :: t => if p k x then some (k, x) else findSlot p t
  | (_, none) :: t => findSlot p t

/-- The usable tier-one slot of a part of a key at an epoch; key ID 0 is the TDK in its own slot (R270). -/
def State.t1Find (s : State) (t kid part epoch : Nat) : Option (Nat × Slot) :=
  findSlot (fun k x => x.isKey t kid part epoch && s.usable k) s.keys.t1

/-- The tier-two slot of a part of a key at an epoch. -/
def State.t2Find (s : State) (t kid part epoch : Nat) : Option (Nat × Slot) :=
  findSlot (fun _ x => x.isKey t kid part epoch) s.keys.t2

/-- The first tier-one slot of the set of a key's part: slots 0 to 1,039 are reserved (R270, R271; log 14). -/
def t1Set (t kid part : Nat) : Nat := 1040 + 16 * (Config.kcSet t (BitVec.ofNat 64 kid) part % 16319)
/-- The first tier-two slot of the set of a key's part. -/
def t2Set (t kid part : Nat) : Nat := 16 * (Config.kcSet t (BitVec.ofNat 64 kid) part % 1048576)

/-- A way can be given to a fill: free, or not pinned and not FILLING (R273). -/
def wayFree (t : Tbl (Option Slot)) (k : Nat) : Bool := (tblGet none t k).isNone
/-- A way can be a victim. -/
def wayVictim (t : Tbl (Option Slot)) (k : Nat) : Bool :=
  match tblGet none t k with
  | none => true
  | some x => x.pins == 0 && x.st != .filling && !x.second
/-- When a way was last used; 0 for a free way. -/
def wayUsed (t : Tbl (Option Slot)) (k : Nat) : Nat := ((tblGet none t k).map (fun x => x.used)).getD 0

/-- The way of a set that a fill of `n` slots takes: a free one, else the least recently used unpinned (R273). -/
def pickWay (t : Tbl (Option Slot)) (base n : Nat) : Option Nat :=
  let ways := ((List.range (17 - n)).map (· + base))
  match ways.find? (fun k => (List.range n).all (fun i => wayFree t (k + i))) with
  | some k => some k
  | none =>
    (ways.filter (fun k => (List.range n).all (fun i => wayVictim t (k + i)))).foldl
      (fun best k => match best with
        | none => some k
        | some b => if wayUsed t k < wayUsed t b then some k else some b) none

/-- A VALID tier-one victim is copied into tier two (R273) while T2_EN is 1 (R298). -/
def State.evict (k : Nat) (s : State) : State :=
  match tblGet none s.keys.t1 k with
  | none => s
  | some x =>
    let s' := { s with keys.t1 := dropSlot s.keys.t1 k }
    if x.st = .valid && s.keys.ctrl.getLsbD 1 && !x.second then
      match pickWay s.keys.t2 (t2Set (hTenant x.hdr) (hKeyId x.hdr) (hPart x.hdr)) 1 with
      | some w => { s' with keys.t2 := tblSet none w (some { x with pins := 0 }) s'.keys.t2 }
      | none => s'
    else s'

/-- Put a key's part into a tier-one slot: two slots for more than 64 B of material (R270); its words are written in full, which
ends their poison (R486, R497). -/
def State.putSlot (k : Nat) (hdr mat : Bytes) (parent : Nat) (s : State) : State :=
  let x : Slot := ⟨hdr, mat, parent, 0, .valid, s.keys.uses, false⟩
  let t := tblSet none k (some x) s.keys.t1
  let t := if 64 < mat.length then tblSet none (k + 1) (some ⟨hdr, [], parent, 0, .valid, s.keys.uses, true⟩) t else t
  let lo := 0x8000000 + 12 * k
  let hi := lo + (if 64 < mat.length then 24 else 12)
  { s with
    keys.t1 := t
    keys.uses := s.keys.uses + 1
    mi.words := tblDrop (fun w => decide (lo ≤ w) && decide (w < hi)) s.mi.words }

/-- Install a part in a way of its set; `none` when every way is pinned (R273). -/
def State.install (hdr mat : Bytes) (parent : Nat) (s : State) : Option (Nat × State) :=
  let n := if 64 < mat.length then 2 else 1
  match pickWay s.keys.t1 (t1Set (hTenant hdr) (hKeyId hdr) (hPart hdr)) n with
  | none => none
  | some k => some (k, ((List.range n).foldl (fun s i => s.evict (k + i)) s).putSlot k hdr mat parent)

/-- A slot is used and pinned by one more item (R273, step 10 of R276). -/
def State.pinSlot (k : Nat) (s : State) : State :=
  match tblGet none s.keys.t1 k with
  | none => s
  | some x =>
    { s with
      keys.t1 := tblSet none k (some { x with pins := x.pins + 1, used := s.keys.uses }) s.keys.t1
      keys.uses := s.keys.uses + 1 }

/-- Every slot of either tier that `p` selects becomes STALE or is freed (R291, R296). -/
def State.staleWhere (p : Slot → Bool) (s : State) : State :=
  let hit := (s.keys.t1.filter (fun x => match x.2 with | some y => p y && !y.second | none => false)).map Prod.fst
  { s with
    keys.t1 := hit.foldl staleSlot s.keys.t1
    keys.t2 := s.keys.t2.filter (fun x => match x.2 with | some y => !p y | none => false) }

/-- The slots of a tenant leave the key cache, its TDK's among them (R296, R300); the CRK's key ID names no key. -/
def State.flushTenant (t : Nat) (s : State) : State :=
  s.staleWhere (fun x => hTenant x.hdr == t && hKeyId x.hdr != 0xFFFFFFFFFFFFFFFF)

/-- The slots of a key whose epoch is not current become STALE, a staged blob's that is abandoned among them (R291). -/
def State.staleKey (t kid : Nat) (s : State) : State :=
  let c := wCommitted (s.keyWord t kid)
  s.staleWhere (fun x => hTenant x.hdr == t && hKeyId x.hdr == kid && standOf c (hEpoch x.hdr) != .current)

/-! ## The key journal (R263 to R269) -/

/-- One bit step of CRC-32. -/
def crcBit (c : BitVec 32) : BitVec 32 := (c >>> 1) ^^^ (if c.getLsbD 0 then 0xEDB88320 else 0)
/-- CRC-32 of a byte string (PRESUMED, log 13: the polynomial of ISO 3309). -/
def crc32 (b : Bytes) : Nat :=
  (~~~(b.foldl (fun c x =>
    let c := c ^^^ x.setWidth 32
    crcBit (crcBit (crcBit (crcBit (crcBit (crcBit (crcBit (crcBit c)))))))) (0xFFFFFFFF#32))).toNat

/-- The 32 bytes of a journal record (R263). -/
def jRecord (seq t kind kid : Nat) (w : DWord) : Bytes :=
  let b := natLe 4 seq ++ natLe 2 t ++ [byteOf kind, 0] ++ natLe 8 kid ++ natLe 8 w.toNat ++ zeros 4
  b ++ natLe 4 (crc32 b)

/-- The codes of KIND (R263). -/
def JKind.code : JKind → Nat
  | .stage => 1
  | .commit => 2
  | .abandon => 3
  | .revoke => 4

/-- The flash address of a journal half's record (R267, R600). -/
def jAddr (half : Bool) (n : Nat) : Nat := 0x2000000 + (if half then 0x800000 else 0) + 32 * n

/-- A release with a JOURNAL intent takes the tenant's next SEQ (R264); `ck` is the CKSEQ recorded with it (R434). -/
def State.takeSeq (o : Owner) (kind : JKind) (t kid : Nat) (w : DWord) (ck : Option Nat) (s : State) : State :=
  let q := tblGet 0 s.keys.seqs t + 1
  { s with
    keys.seqs := tblSet 0 t q s.keys.seqs
    keys.taken := s.keys.taken ++ [⟨t, q, jRecord q t kind.code kid w, o, false, false, ck⟩] }

/-- The SEQs of a tenant that one anchor write may cover: those taken and not yet issued, up to the first whose record is
not persistent (R265). -/
def coverable (t : Nat) (l : List Taken) : List Taken :=
  (l.filter (fun x => x.tenant == t && !x.issued)).takeWhile (fun x => x.persistent)

/-- Issue the tenant's coalesced ANC_TN_KEY_SEQ write, when it has something to cover (R265). -/
def State.issueKeySeq (t : Nat) (s : State) : State :=
  match (coverable t s.keys.taken).getLast? with
  | none => s
  | some x =>
    let n := (coverable t s.keys.taken).length
    let old := (s.ancLatest (0x400 + t)).toNat / 2 ^ 32
    let ck := ((coverable t s.keys.taken).filterMap (fun y => y.ck)).getLastD old
    let s := { s with
      keys.taken := s.keys.taken.map (fun (y : Taken) =>
        if y.tenant == t && decide (y.seq ≤ x.seq) then { y with issued := true } else y)
      keys.windows := tblSet false t true s.keys.windows }
    s.ancIssue (0x400 + t) [w64 (ck % 2 ^ 32 * 2 ^ 32 + x.seq % 2 ^ 32)] (30 * n) (.keySeq t x.seq)

/-- The write is issued when no window of the tenant is open, or without waiting in the three cases of R265. -/
def State.tryKeySeq (t : Nat) (s : State) : State :=
  if tblGet false s.keys.windows t && !s.keys.urgent then s else s.issueKeySeq t

/-- Every pending anchor write is issued at once, and later ones without waiting (R265). -/
def State.flushKeySeq (s : State) : State :=
  (s.keys.taken.map (fun x => x.tenant)).foldl (fun s t => s.issueKeySeq t) { s with keys.urgent := true }

/-- Writes of ANC_TN_KEY_SEQ of a tenant that are admitted and not yet complete (R617). -/
def State.keySeqPending (s : State) (t : Nat) : Nat := (s.keys.taken.filter (fun x => x.tenant == t)).length

/-- A journal release is refused as worn: its ANC_TN_KEY_SEQ word, or ANC_JRN_WEAR (R269, R617). -/
def State.journalWorn (s : State) (t : Nat) : Bool :=
  tblGet false s.anc.worn (0x400 + t) || tblGet false s.anc.worn 0x0A ||
    decide (10 ^ 10 < tblGet 0 s.anc.wear (0x400 + t) + s.keySeqPending t + 1)

/-- The cost of a release with one journal record and its anchor word (R648). -/
def journalCost : Nat := 12030

end Sys2Proof.Machine
end

