-- ==== Sys2Proof/Machine/Bind.lean ====
section
/-! DEFINITION. Key resolution and binding (R242 to R244, R260, R262, R276 to R280). -/

namespace Sys2Proof.Machine

/-- Which blob of a key a reference takes (R262, R286, R289). -/
inductive BMode where
  /-- The current blob, for use. -/
  | use
  /-- The NEW key of KEY_REPLACE_STAGE: the next blob. -/
  | next
  /-- The NEW_PARENT of KEY_REWRAP: the current or the next blob. -/
  | either
deriving DecidableEq, Repr

/-- What a binding works with: the tenant, the blobs fetched for it so far, whether a tier-two install has completed,
and the epochs of its bind record on a replay (R278). -/
structure BCtx where
  t : Nat
  fetched : List (Nat × Bytes)
  t2ok : Bool
  epochs : List (Nat × Nat)

/-- How a binding stands: bound to its slots; ended with a status; waiting for the blob at a host address, or for a
tier-two install (`none`), or for a way or a fill path. -/
inductive BRes where
  | ok (slots : List Nat) (s : State)
  | fail (status : Nat) (s : State)
  | need (addr : Option Nat) (s : State)
  | wait (s : State)

/-- The epoch that a key must carry: the recorded one on a replay, else the KET's or the TDK's (R276, R278). -/
def bEpoch (c : BCtx) (s : State) (kid : Nat) : Nat :=
  match c.epochs.find? (fun (x : Nat × Nat) => x.1 == kid) with
  | some x => x.2
  | none => if kid = 0 then s.tdkEpoch c.t else wCommitted (s.keyWord c.t kid)

/-- Status codes of stage 8 (R133). -/
def stKeyNotFound : Nat := 0x2001
/-- KEY_USAGE. -/
def stKeyUsage : Nat := 0x2002
/-- KEY_PARENT_REVOKED. -/
def stParentRevoked : Nat := 0x2003
/-- KEY_BLOB_INTEGRITY. -/
def stIntegrity : Nat := 0x2004
/-- KEY_EPOCH_STALE. -/
def stEpochStale : Nat := 0x2005
/-- KEY_REPLACE_PENDING. -/
def stReplacePending : Nat := 0x2006

/-- The host address of a directory entry (R260). -/
def State.dirAddr (s : State) (t i : Nat) : Nat := (s.tnOf t).kdirBase.toNat + 160 * i

/-- The slots of every part of a key at an epoch, in part order, when all are usable (step 2 of R276). -/
def State.t1Parts (s : State) (t kid epoch : Nat) : Option (List Nat) :=
  match s.t1Find t kid 0 epoch with
  | none => none
  | some (k, x) =>
    let rest := (List.range (algParts (hAlg x.hdr) - 1)).map (fun i => (s.t1Find t kid (i + 1) epoch).map Prod.fst)
    if rest.all Option.isSome then some (k :: rest.filterMap id) else none

/-- The parts of a key in tier two, in part order, when all are there. -/
def State.t2Parts (s : State) (t kid epoch : Nat) : Option (List Slot) :=
  match s.t2Find t kid 0 epoch with
  | none => none
  | some (_, x) =>
    let rest := (List.range (algParts (hAlg x.hdr) - 1)).map (fun i => (s.t2Find t kid (i + 1) epoch).map Prod.snd)
    if rest.all Option.isSome then some (x :: rest.filterMap id) else none

/-- The number of ancestors of a slot below the TDK, itself included (R244). -/
def slotDepth (t : Tbl (Option Slot)) : Nat → Nat → Nat
  | 0, _ => 0
  | f + 1, k =>
    if k ≤ 1025 then 0
    else match tblGet none t k with
      | none => 0
      | some x => 1 + slotDepth t f x.parent

/-- Key IDs and epochs of the ancestors of a slot, up to the TDK (R277). -/
def slotAnc (t : Tbl (Option Slot)) : Nat → Nat → List (Nat × Nat)
  | 0, _ => []
  | f + 1, k =>
    match tblGet none t k with
    | none => []
    | some x => (hKeyId x.hdr, hEpoch x.hdr) :: if k ≤ 1025 then [] else slotAnc t f x.parent

/-- The 20 anchor words of a blob, as its 160 bytes (R619). -/
def State.ancBlob (s : State) (w : Nat) : Bytes := (List.range 20).flatMap (fun i => natLe 8 (s.ancGet (w + i)).toNat)

/-- Slot 0 holds the CRK, refilled from ANC_CRK_BLOB under the DRK when it does not (R248, R270, R497). -/
def State.loadCrk (s : State) : Option State :=
  let have0 : Bool := match tblGet none s.keys.t1 0 with
    | some (x : Slot) => x.st == SlotSt.valid && hEpoch x.hdr == s.crkEpoch
    | none => false
  if have0 then some s
  else
    let b := s.ancBlob 0x1E0
    if s.ks.loaded then (openBlob (natBe 32 s.ks.drk.toNat) b).map (fun m => s.putSlot 0 (sub b 0 48) m 0) else none

/-- The CRK under which a TDK blob opens: the current one, or the previous one of ANC_CRK_PREV_BLOB for a blob that is one
epoch behind (R444). -/
def State.crkFor (s : State) (epoch : Nat) : Option (Bytes × State) :=
  if epoch = s.crkEpoch then s.loadCrk.map (fun s => (((tblGet none s.keys.t1 0).map (fun (x : Slot) => x.mat)).getD [], s))
  else if s.ks.loaded then (openBlob (natBe 32 s.ks.drk.toNat) (s.ancBlob 0x1F4)).map (fun m => (m, s)) else none

/-- The TDK of a tenant in its reserved slot, loaded and pinned at first need (R252, R270). -/
def bindTdk (c : BCtx) (s : State) : BRes :=
  let ep := bEpoch c s 0
  let slot := c.t + 1
  let hit : Bool := match tblGet none s.keys.t1 slot with
    | some (x : Slot) => x.isKey c.t 0 0 ep && x.st == SlotSt.valid
    | none => false
  if hit then .ok [slot] s
  else if !s.keys.ctrl.getLsbD 0 then .wait s
  else if (s.tnOf c.t).kdirCount = 0 then .fail stKeyNotFound s
  else
    match c.fetched.find? (fun (x : Nat × Bytes) => x.1 == s.dirAddr c.t 0) with
    | none => .need (some (s.dirAddr c.t 0)) s
    | some (_, b) =>
      if sub b 0 4 ≠ blobMagic ∨ hKeyId b ≠ 0 then .fail stKeyNotFound s
      else if hTenant b ≠ c.t ∨ !hdrOk b 0 ∨ hAlg b ≠ 0x84 ∨ hUsage b ≠ 10 then .fail stIntegrity s
      else if hEpoch b ≠ ep then .fail stEpochStale s
      else if hParentEpoch b ≠ s.crkEpoch ∧ hParentEpoch b + 1 ≠ s.crkEpoch then .fail stParentRevoked s
      else
        match s.crkFor (hParentEpoch b) with
        | none => .fail stIntegrity s
        | some (crk, s) =>
          match openBlob crk b with
          | none => .fail stIntegrity s
          | some m => .ok [slot] ({ s with keys.cntFill := s.keys.cntFill + 1 }.putSlot slot (sub b 0 48) m 0 |>.pinSlot slot)

/-- Install the opened parts of a key in tier one, in part order. -/
def installAll (parent : Nat) : List (Bytes × Bytes) → State → Option (List Nat × State)
  | [], s => some ([], s)
  | (h, m) :: l, s =>
    match s.install h m parent with
    | none => none
    | some (k, s) =>
      match installAll parent l s with
      | none => none
      | some (ks, s) => some (k :: ks, s)

/-- Open every part under the parent's material (step 8 of R276). -/
def openAll (pm : Bytes) : List Bytes → Option (List (Bytes × Bytes))
  | [] => some []
  | b :: bs =>
    match openBlob pm b, openAll pm bs with
    | some m, some l => some ((sub b 0 48, m) :: l)
    | _, _ => none

/-- The first blob of a list of directory entries that has not been fetched (step 3 of R276). -/
def firstNeed (c : BCtx) : List Nat → Option Nat
  | [] => none
  | a :: as => if c.fetched.any (fun x => x.1 == a) then firstNeed c as else some a

/-- The fetched blob at an address. -/
def fetchedAt (c : BCtx) (a : Nat) : Bytes := ((c.fetched.find? (fun (x : Nat × Bytes) => x.1 == a)).map Prod.snd).getD []

/-- The blobs of a key from its first entry, with PART_CNT as its header gives it, or what is still to be read. -/
def partsAddrs (c : BCtx) (s : State) (idx : Nat) : List Nat :=
  let a0 := s.dirAddr c.t idx
  let n := algParts (hAlg (fetchedAt c a0))
  (List.range (if sub (fetchedAt c a0) 0 4 = blobMagic then n else 1)).map (fun i => s.dirAddr c.t (idx + i))

/-- Steps 4 to 6 of R276 on the blobs read: the status of the first failing step, 0 when none fails. -/
def blobStatus (c : BCtx) (s : State) (idx kid : Nat) (mode : BMode) (bs : List Bytes) : Nat :=
  let ix := (List.range bs.length).zip bs
  if ix.any (fun x => decide ((s.tnOf c.t).kdirCount.toNat ≤ idx + x.1) || sub x.2 0 4 != blobMagic || hKeyId x.2 != kid)
    then stKeyNotFound
  else if ix.any (fun x => hTenant x.2 != c.t || !hdrOk x.2 x.1) then stIntegrity
  else if ix.any (fun x => hEpoch x.2 != hEpoch (bs.headD []) || hAlg x.2 != hAlg (bs.headD [])) then stIntegrity
  else
    let e := hEpoch (bs.headD [])
    let recd := (c.epochs.find? (fun (x : Nat × Nat) => x.1 == kid)).map Prod.snd
    match recd with
    | some r => if e = r then 0 else stEpochStale
    | none =>
      match mode, standOf (wCommitted (s.keyWord c.t kid)) e with
      | .use, .current => 0
      | .use, .next => stReplacePending
      | .use, .stale => stEpochStale
      | .next, .next => 0
      | .next, _ => stEpochStale
      | .either, .stale => stEpochStale
      | .either, _ => 0

/-- A bound parent must be the TDK or a KEK (R244). -/
def parentOk (s : State) (k : Nat) : Bool :=
  decide (k ≤ 1025) || match tblGet none s.keys.t1 k with
    | some x => hAlg x.hdr == 0x84 && hUsage x.hdr == 2
    | none => false

/-- The binding of a key from step 2 of R276; `level` ancestors lie below it, and `fuel` bounds the chain (R244). -/
def bindKey (c : BCtx) : Nat → Nat → Nat → Nat → BMode → State → BRes
  | 0, _, _, _, _, s => .fail stKeyUsage s
  | fuel + 1, level, idx, kid, mode, s =>
    let ep := bEpoch c s kid
    let hit := if mode = .use ∧ ep ≠ 0xFFFFFFFF then s.t1Parts c.t kid ep else none
    match hit with
    | some ks =>
      if 4 < level + slotDepth s.keys.t1 8 (ks.headD 0) then .fail stKeyUsage s
      else .ok ks (if level = 0 then { s with keys.cntHit1 := s.keys.cntHit1 + 1 } else s)
    | none =>
      if 4 ≤ level then .fail stKeyUsage s
      else
        let bindParent := fun (h : Bytes) =>
          if hParent h = 0 then bindTdk c s
          else if bEpoch c s (hParent h) ≠ hParentEpoch h then .fail stParentRevoked s
          else bindKey c fuel (level + 1) (hParentIdx h) (hParent h) .use s
        let t2 := if mode = .use ∧ ep ≠ 0xFFFFFFFF ∧ s.keys.ctrl.getLsbD 1 then s.t2Parts c.t kid ep else none
        let t2 := t2.bind (fun l => if bEpoch c s (hParent (l.headD ⟨[], [], 0, 0, .stale, 0, false⟩).hdr) = hParentEpoch (l.headD ⟨[], [], 0, 0, .stale, 0, false⟩).hdr then some l else none)
        match t2 with
        | some l =>
          if !c.t2ok then .need none s
          else
            match bindParent ((l.map (fun x => x.hdr)).headD []) with
            | .ok ps s =>
              match installAll (ps.headD 0) (l.map (fun x => (x.hdr, x.mat))) s with
              | some (ks, s) => .ok ks (if level = 0 then { s with keys.cntHit2 := s.keys.cntHit2 + 1 } else s)
              | none => .wait s
            | r => r
        | none =>
          if !s.keys.ctrl.getLsbD 0 then .wait s
          else
            match firstNeed c [s.dirAddr c.t idx] with
            | some a => .need (some a) s
            | none =>
              match firstNeed c (partsAddrs c s idx) with
              | some a => .need (some a) s
              | none =>
                let bs := (partsAddrs c s idx).map (fetchedAt c)
                match blobStatus c s idx kid mode bs with
                | 0 =>
                  let h := bs.headD []
                  match bindParent h with
                  | .ok ps s =>
                    let pk := ps.headD 0
                    let pe := ((tblGet none s.keys.t1 pk).map (fun x => hEpoch x.hdr)).getD 0
                    if !parentOk s pk then .fail stKeyUsage s
                    else if pe ≠ hParentEpoch h then .fail stParentRevoked s
                    else
                      match openAll (((tblGet none s.keys.t1 pk).map (fun x => x.mat)).getD []) bs with
                      | none => .fail stIntegrity s
                      | some l =>
                        match installAll pk l s with
                        | some (ks, s) => .ok ks { s with keys.cntFill := s.keys.cntFill + w64 bs.length }
                        | none => .wait s
                  | .fail st s => .fail (if st = stEpochStale ∧ hParent h ≠ 0 then stParentRevoked else st) s
                  | r => r
                | st => .fail st s

/-- A key reference of a body: KEY_INDEX and KEY_ID (R104); an all-zero PARENT names the TDK (R243). -/
structure KRef where
  idx : Nat
  kid : Nat
  /-- the reference names the tenant's TDK (R243). -/
  tdk : Bool
  mode : BMode
  /-- the use that R190 names for it, as a KEY_OP of R311; 0 for none. -/
  use : Nat
  /-- the usage classes admitted where no KEY_OP says so. -/
  cls : List Nat
  /-- the algorithms admitted (R190). -/
  algs : List Nat
  /-- the key must be EXPORTABLE (R284). -/
  exported : Bool
deriving DecidableEq, Repr

/-- Step 1 of R276 with R242, then the binding; `failed` counts KC_CNT_FILL_ERR. -/
def bindRef (c : BCtx) (r : KRef) (s : State) : BRes :=
  if r.tdk then
    match bindTdk c s with
    | .fail st s => .fail st { s with keys.cntFillErr := s.keys.cntFillErr + 1 }
    | x => x
  else if (s.tnOf c.t).kdirCount.toNat ≤ r.idx then .fail stKeyNotFound s
  else if r.idx = 0 ∨ r.kid = 0 ∨ r.kid = 0xFFFFFFFFFFFFFFFF then .fail stKeyUsage s
  else
    match bindKey c 5 0 r.idx r.kid r.mode s with
    | .fail st s => .fail st { s with keys.cntFillErr := s.keys.cntFillErr + 1 }
    | x => x

end Sys2Proof.Machine
end

