-- ==== Sys2Proof/Machine/PayFmt.lean ====
section
/-! DEFINITION. The payment arithmetic (05_payment_functions.md): digit strings, PIN blocks, the issuer methods, card
codes, DUKPT, EMV and ANSI X9.143 key blocks (R290), as the standards named there define them (log 13). -/

namespace Sys2Proof.Machine

/-! ## Digits -/

/-- The nibbles of a string, high nibble first. -/
def nibbles (b : Bytes) : List Nat := b.flatMap (fun x => [x.toNat / 16, x.toNat % 16])

/-- The bytes of an even number of nibbles. -/
def packN : List Nat → Bytes
  | a :: b :: l => byteOf (a * 16 + b) :: packN l
  | [a] => [byteOf (a * 16)]
  | [] => []

/-- A packed BCD field holds `n` digits and then padding nibbles of 0xF (R188). -/
def bcdOk (b : Bytes) (n : Nat) : Bool :=
  let ns := nibbles b
  decide (n ≤ ns.length) && (ns.take n).all (fun d => decide (d ≤ 9)) && (ns.drop n).all (· == 15)

/-- The digits of a packed BCD field. -/
def bcd (b : Bytes) (n : Nat) : List Nat := (nibbles b).take n

/-- A digit string packed into `n` bytes, left-justified and padded with 0xF (R188). -/
def bcdEnc (n : Nat) (ds : List Nat) : Bytes := packN ((ds ++ List.replicate (2 * n) 15).take (2 * n))

/-- The last `n` digits of a string, padded with zeros on the left. -/
def lastDigits (n : Nat) (ds : List Nat) : List Nat :=
  let l := List.replicate n 0 ++ ds
  l.drop (l.length - n)

/-- Decimalisation by scanning (R214). -/
def scanDec (b : Bytes) (n : Nat) : List Nat :=
  let ns := nibbles b
  ((ns.filter (fun d => decide (d ≤ 9))) ++ (ns.filter (fun d => decide (10 ≤ d))).map (· - 10)).take n

/-! ## PIN blocks (R203 to R205) -/

/-- The PAN field of formats 0 and 3: the 12 rightmost digits without the check digit. -/
def panField (pan : List Nat) : Bytes := packN ([0, 0, 0, 0] ++ lastDigits 12 pan.dropLast)

/-- The PAN field block of format 4. -/
def panBlock4 (pan : List Nat) : Bytes := packN (((pan.length - 12) :: pan ++ List.replicate 32 0).take 32)

/-- The PIN of an opened PIN block; `none` when it is not well formed (R205). -/
def pinCheck (fmt : Nat) (ns : List Nat) : Option (List Nat) :=
  let n := ns.getD 1 0
  let pin := (ns.drop 2).take n
  let fill := (ns.drop (2 + n)).take (14 - n)
  let fillOk : Bool := match fmt with
    | 0 => fill.all (· == 15)
    | 3 => fill.all (fun d => decide (10 ≤ d))
    | 4 => fill.all (· == 10)
    | _ => true
  if ns.headD 16 = fmt ∧ 4 ≤ n ∧ n ≤ 12 ∧ pin.all (fun d => decide (d ≤ 9)) ∧ fillOk then some pin else none

/-- The PAN field, or the PAN field block of format 4, that a format binds. -/
def panBind (fmt : Nat) (pan : List Nat) : Bytes := if fmt = 4 then panBlock4 pan else panField pan

/-- Open an encrypted PIN block with its PAN field (R203 to R205). -/
def pinOpenP (fmt : Nat) (c : Ciph) (blk pf : Bytes) : Option (List Nat) :=
  let clear :=
    if fmt = 4 then c.dec (xorB (c.dec (blk.take 16)) pf)
    else if fmt = 1 then c.dec (blk.take 8)
    else xorB (c.dec (blk.take 8)) pf
  pinCheck fmt (nibbles clear)

/-- Open an encrypted PIN block (R203 to R205). -/
def pinOpenB (fmt : Nat) (c : Ciph) (blk : Bytes) (pan : List Nat) : Option (List Nat) := pinOpenP fmt c blk (panBind fmt pan)

/-- Build and encrypt a PIN block with its PAN field and `rnd`, 8 bytes of random fill (R203, R209). -/
def pinSealP (fmt : Nat) (c : Ciph) (pin : List Nat) (pf rnd : Bytes) : Bytes :=
  let head := fmt :: pin.length :: pin
  let room := 14 - pin.length
  let fill := match fmt with
    | 0 => List.replicate room 15
    | 1 => (nibbles rnd).take room
    | 3 => ((nibbles rnd).take room).map (fun d => 10 + d % 6)
    | _ => List.replicate room 10
  let clear := packN (head ++ fill)
  if fmt = 4 then c.enc (xorB (c.enc (clear ++ rnd.take 8)) pf)
  else if fmt = 1 then c.enc clear
  else c.enc (xorB clear pf)

/-- Build and encrypt a PIN block (R203, R209). -/
def pinSealB (fmt : Nat) (c : Ciph) (pin pan : List Nat) (rnd : Bytes) : Bytes := pinSealP fmt c pin (panBind fmt pan) rnd

/-- The bytes of a PIN block of a format. -/
def pinLen (fmt : Nat) : Nat := if fmt = 4 then 16 else 8

/-! ## Issuer methods (R212 to R214) and card codes (R228) -/

/-- The encryption of an 8-byte value (R212). -/
def enc8 (c : Ciph) (x : Bytes) : Bytes := if c.aes then (c.enc (fit 16 x)).take 8 else c.enc x

/-- The offset of a PIN (R213). -/
def pinOffset (c : Ciph) (vdata : Bytes) (dectab pin : List Nat) : List Nat :=
  let nat := (nibbles (enc8 c vdata)).map (fun v => dectab.getD v 0)
  List.zipWith (fun p n => (p + 10 - n) % 10) pin nat

/-- The verification value from its 11 PAN digits, the key selector and the PIN (R214). -/
def pinVvT (c : Ciph) (p11 : List Nat) (sel : Nat) (pin : List Nat) (n : Nat) : List Nat :=
  scanDec (enc8 c (packN (p11 ++ [sel] ++ pin.take 4))) n

/-- The verification value (R214). -/
def pinVv (c : Ciph) (pan : List Nat) (sel : Nat) (pin : List Nat) (n : Nat) : List Nat :=
  pinVvT c (lastDigits 11 pan.dropLast) sel pin n

/-- The card code (R228). -/
def cvcValue (c : Ciph) (d : Bytes) (n : Nat) : List Nat := scanDec (if c.aes then cmacB c d else mac3 c.key 1 d) n

/-- The 16 bytes under a card code (R228). -/
def cvcData (pan expiry service : List Nat) : Bytes :=
  packN ((pan ++ expiry ++ service ++ List.replicate 32 0).take 32)

/-! ## DUKPT (R216, R217) -/

/-- The number of one bits of a counter. -/
def popcount : Nat → Nat → Nat
  | 0, _ => 0
  | f + 1, n => n % 2 + popcount f (n / 2)

/-- The mask of TDEA DUKPT. -/
def dukptMask (n : Nat) : Bytes := (List.range n).map (fun i => if i % 8 < 4 then 0xC0 else 0)

/-- The initial key of TDEA DUKPT from a BDK and a KSN (ANSI X9.24-1). -/
def dukptIpek (bdk ksn : Bytes) : Bytes :=
  let k := natBe 10 (beNat (ksn.take 10) / 2 ^ 21 * 2 ^ 21)
  let e := fun key => tdeaEnc key (k.take 8)
  e bdk ++ e (xorB bdk (dukptMask bdk.length))

/-- Non-reversible key generation of TDEA DUKPT. -/
def dukptNr (key r : Bytes) : Bytes :=
  let half := fun (k : Bytes) => xorB (desEnc (k.take 8) (xorB r (k.drop 8))) (k.drop 8)
  half (xorB key (dukptMask 16)) ++ half key

/-- The transaction key of TDEA DUKPT: one generation for each one bit of the counter, from the left. -/
def dukptRun (ctr : Nat) : Nat → Bytes → Nat → Bytes
  | 0, key, _ => key
  | n + 1, key, r =>
    if ctr.testBit n then
      let r := r + 2 ^ n
      dukptRun ctr n (dukptNr key (natBe 8 r)) r
    else dukptRun ctr n key r

/-- The PIN and request MAC keys of TDEA DUKPT. -/
def dukptTdea (bdk ksn : Bytes) : Bytes × Bytes :=
  let v := beNat (ksn.take 10)
  let ctr := v % 2 ^ 21
  let k := dukptRun ctr 21 (dukptIpek bdk ksn) (v % 2 ^ 64 - ctr)
  let var := fun (m : Bytes) => xorB k (m ++ m)
  (var [0, 0, 0, 0, 0, 0, 0, 0xFF], var [0, 0, 0, 0, 0, 0, 0xFF, 0])

/-- The derivation data of AES DUKPT (ANSI X9.24-3): usage, algorithm, length in bits, and the last 8 bytes. -/
def dukptData (i usage alg bits : Nat) (tail : Bytes) : Bytes :=
  [1, byteOf i] ++ natBe 2 usage ++ natBe 2 alg ++ natBe 2 bits ++ tail

/-- A key of `n` bytes derived under AES DUKPT. -/
def dukptDerive (key : Bytes) (usage alg n : Nat) (tail : Bytes) : Bytes :=
  ((List.range ((n + 15) / 16)).flatMap (fun i => aesEnc key (dukptData (i + 1) usage alg (8 * n) tail))).take n

/-- The algorithm indicator of an AES key length. -/
def dukptAlg (n : Nat) : Nat := match n with | 16 => 2 | 24 => 3 | _ => 4

/-- The derivation key of AES DUKPT for a counter. -/
def dukptAesRun (ident : Bytes) (ctr : Nat) : Nat → Bytes → Nat → Bytes
  | 0, key, _ => key
  | n + 1, key, w =>
    if ctr.testBit n then
      let w := w + 2 ^ n
      dukptAesRun ident ctr n (dukptDerive key 0x8000 (dukptAlg key.length) key.length (ident ++ natBe 4 w)) w
    else dukptAesRun ident ctr n key w

/-- The PIN and request MAC keys of AES DUKPT, of `n` bytes. -/
def dukptAes (bdk ksn : Bytes) (n : Nat) : Bytes × Bytes :=
  let ident := sub ksn 4 4
  let ctr := fldBe ksn 8 4
  let ik := dukptDerive bdk 0x8001 (dukptAlg bdk.length) bdk.length (ksn.take 8)
  let k := dukptAesRun ident ctr 32 ik 0
  let w := fun usage => dukptDerive k usage (dukptAlg n) n (ident ++ natBe 4 ctr)
  (w 0x1000, w 0x2000)

/-- The bytes of a working key (R217). -/
def wkBytes (t : Nat) : Nat := 16 + 8 * t

/-- The KSN checks of R216. -/
def ksnOk (variant : Nat) (ksn : Bytes) : Bool :=
  let c := if variant = 0 then beNat (ksn.take 10) % 2 ^ 21 else fldBe ksn 8 4
  c != 0 && decide (popcount 32 c ≤ (if variant = 0 then 10 else 16)) && (variant != 0 || zeroIn ksn 10 2)

/-! ## EMV (R222, R223) -/

/-- One step of the SHA-1 message schedule, with the last sixteen words. -/
def sha1Ext : Nat → List (BitVec 32) → List (BitVec 32)
  | 0, _ => []
  | n + 1, w =>
    let x := (w.getD 13 0 ^^^ w.getD 8 0 ^^^ w.getD 2 0 ^^^ w.getD 0 0).rotateLeft 1
    x :: sha1Ext n (w.drop 1 ++ [x])

/-- The function and constant of SHA-1 round `t`. -/
def sha1F (t : Nat) (b c d : BitVec 32) : BitVec 32 :=
  if t < 20 then ((b &&& c) ||| (~~~b &&& d)) + 0x5A827999
  else if t < 40 then (b ^^^ c ^^^ d) + 0x6ED9EBA1
  else if t < 60 then ((b &&& c) ||| (b &&& d) ||| (c &&& d)) + 0x8F1BBCDC
  else (b ^^^ c ^^^ d) + 0xCA62C1D6

/-- One SHA-1 round. -/
def sha1Round (v : List (BitVec 32)) (tw : Nat × BitVec 32) : List (BitVec 32) :=
  match v with
  | [a, b, c, d, e] => [a.rotateLeft 5 + sha1F tw.1 b c d + e + tw.2, a, b.rotateLeft 30, c, d]
  | _ => v

/-- SHA-1 of one block. -/
def sha1Block (h : List (BitVec 32)) (blk : Bytes) : List (BitVec 32) :=
  let w := (blocks 4 blk).map (fun x => BitVec.ofNat 32 (beNat x))
  List.zipWith (· + ·) h (((List.range 80).zip (w ++ sha1Ext 64 w)).foldl sha1Round h)

/-- SHA-1, which option B of EMV Book 2 uses. -/
def sha1B (m : Bytes) : Bytes :=
  ((blocks 64 (shaPad 64 m)).foldl sha1Block [0x67452301, 0xEFCDAB89, 0x98BADCFE, 0x10325476, 0xC3D2E1F0]).flatMap
    (fun x => natBe 4 x.toNat)

/-- The diversification block of the card master key. -/
def emvY (aes : Bool) (pan psn : List Nat) : Bytes :=
  let x := pan ++ psn
  if aes then packN (lastDigits 32 x)
  else if pan.length ≤ 16 then packN (lastDigits 16 x)
  else packN (scanDec (sha1B (packN (if x.length % 2 = 1 then 0 :: x else x))) 16)

/-- Every bit of a block inverted. -/
def inv (b : Bytes) : Bytes := b.map (fun x => x ^^^ 0xFF)

/-- The session key of R222 from the issuer master key, PAN, PSN and ATC. -/
def emvKey (aes : Bool) (imk : Bytes) (pan psn : List Nat) (atc : Bytes) : Bytes :=
  let n := imk.length
  let bl := if aes then 16 else 8
  let c : Ciph := ⟨aes, imk⟩
  let y := emvY aes pan psn
  let mk := (c.enc y ++ c.enc (inv y)).take n
  let k : Ciph := ⟨aes, mk⟩
  let f := fun x => k.enc (fit bl (atc ++ x))
  if aes && n == 16 then f [] else (f [0xF0] ++ f [0x0F]).take n

/-- The 8-byte MAC of R222 under a session key. -/
def emvMac (aes : Bool) (sk d : Bytes) : Bytes := if aes then (cmacB ⟨true, sk⟩ d).take 8 else mac3 sk 2 d

/-- The ARPC, zero-padded to 8 bytes (R223, R226). -/
def emvArpc (aes : Bool) (sk : Bytes) (method : Nat) (arqc arcCsu pad : Bytes) : Bytes :=
  match method with
  | 1 => tdeaEnc sk (xorB arqc (fit 8 (arcCsu.take 2)))
  | 2 => fit 8 ((emvMac aes sk (arqc ++ arcCsu ++ pad)).take 4)
  | _ => zeros 8

/-! ## ANSI X9.143 key blocks (R290) -/

/-- The number an ASCII decimal string spells; `none` outside 0 to 9. -/
def asciiDec (b : Bytes) : Option Nat :=
  if b.all (fun x => decide (48 ≤ x.toNat) && decide (x.toNat ≤ 57)) then
    some (b.foldl (fun a x => a * 10 + (x.toNat - 48)) 0)
  else none

/-- The bytes an ASCII hexadecimal string spells (upper case). -/
def asciiHex : Bytes → Option Bytes
  | a :: b :: l =>
    let d := fun (x : Byte) =>
      let n := x.toNat
      if 48 ≤ n ∧ n ≤ 57 then some (n - 48) else if 65 ≤ n ∧ n ≤ 70 then some (n - 55) else none
    match d a, d b, asciiHex l with
    | some x, some y, some r => some (byteOf (x * 16 + y) :: r)
    | _, _, _ => none
  | [] => some []
  | _ => none

/-- A string in ASCII hexadecimal. -/
def hexAscii (b : Bytes) : Bytes := (nibbles b).map (fun d => byteOf (if d < 10 then 48 + d else 55 + d))

/-- A number as `n` ASCII decimal digits. -/
def decAscii (n x : Nat) : Bytes := ((List.range n).map (fun i => byteOf (48 + x / 10 ^ i % 10))).reverse

/-- The usage class that a key usage and mode of use give (R290); `none` outside the table. -/
def kbClass (usage : Bytes) (mode : Byte) : Option Nat :=
  let u := usage.map BitVec.toNat
  let m := mode.toNat
  let mac := if m = 0x47 then some 5 else if m = 0x56 then some 6 else none
  if u = [0x42, 0x30] ∨ u = [0x45, 0x30] then (if m = 0x58 then some 4 else none)
  else if u = [0x44, 0x30] then (if m = 0x45 then some 0 else if m = 0x44 then some 1 else none)
  else if u = [0x4B, 0x30] then (if m = 0x45 then some 2 else if m = 0x44 then some 3 else none)
  else if u = [0x4D, 0x30] ∨ u = [0x4D, 0x31] ∨ u = [0x4D, 0x33] ∨ u = [0x4D, 0x36] ∨ u = [0x43, 0x30] then mac
  else if u = [0x50, 0x30] then (if m = 0x45 ∨ m = 0x44 ∨ m = 0x42 then some 7 else none)
  else if u = [0x56, 0x30] then (if m = 0x43 ∨ m = 0x47 ∨ m = 0x56 then some 4 else none)
  else none

/-- The derivation of a key of a key block: `sep` 0 encryption, 1 MAC (ANSI X9.143). -/
def kbDerive (aes : Bool) (kbpk : Bytes) (mac : Nat) : Bytes :=
  let n := kbpk.length
  let c : Ciph := ⟨aes, kbpk⟩
  let alg := if aes then (match n with | 16 => 2 | 24 => 3 | _ => 4) else (if n = 16 then 0 else 1)
  ((List.range ((n + c.bl - 1) / c.bl)).flatMap (fun i =>
    cmacB c ([byteOf (i + 1)] ++ natBe 2 mac ++ [0] ++ natBe 2 alg ++ natBe 2 (8 * n)))).take n

/-- The MAC of a key block over header and clear key data. -/
def kbMac (aes : Bool) (kbpk hdr clear : Bytes) : Bytes := cmacB ⟨aes, kbDerive aes kbpk 1⟩ (hdr ++ clear)

/-- The 16-character header of a key block. -/
def kbHeader (version : Byte) (len : Nat) (usage : Bytes) (alg mode : Byte) (keyVer : Bytes) (exp : Byte) : Bytes :=
  [version] ++ decAscii 4 len ++ usage ++ [alg, mode] ++ keyVer ++ [exp] ++ [48, 48, 48, 48]

/-- Protect a key as a key block, with `pad` random bytes. -/
def kbWrap (version : Byte) (kbpk usage : Bytes) (alg mode : Byte) (keyVer : Bytes) (exp : Byte) (key pad : Bytes) :
    Bytes :=
  let aes := version.toNat = 0x44
  let bl := if aes then 16 else 8
  let clear0 := natBe 2 (8 * key.length) ++ key
  let clear := clear0 ++ pad.take ((bl - clear0.length % bl) % bl)
  let hdr := kbHeader version (16 + 2 * clear.length + 2 * bl) usage alg mode keyVer exp
  let mac := kbMac aes kbpk hdr clear
  hdr ++ hexAscii (cbcEnc ⟨aes, kbDerive aes kbpk 0⟩ mac clear) ++ hexAscii mac

/-- The bytes that padding of `kbWrap` takes. -/
def kbPadLen (version : Byte) (n : Nat) : Nat :=
  let bl := if version.toNat = 0x44 then 16 else 8
  (bl - (n + 2) % bl) % bl

/-- The end of the optional blocks of a header: `count` blocks from offset `off`; `none` when malformed. -/
def kbOptEnd (b : Bytes) : Nat → Nat → Option Nat
  | 0, off => some off
  | n + 1, off =>
    match asciiHex (sub b (off + 2) 2) with
    | none => none
    | some l =>
      let len := beNat l
      if len < 4 ∨ b.length < off + len then none else kbOptEnd b n (off + len)

/-- The algorithm of a key of `n` bytes under the algorithm byte of a key block (R290). -/
def kbAlg (a : Byte) (n : Nat) : Option Nat :=
  match a.toNat, n with
  | 0x54, 16 => some 0x80
  | 0x54, 24 => some 0x81
  | 0x41, 16 => some 0x82
  | 0x41, 24 => some 0x83
  | 0x41, 32 => some 0x84
  | _, _ => none

/-- The header of a key block as R290 checks it: version, key usage, mode of use, algorithm and length bytes. -/
def kbHeadOk (b : Bytes) : Bool :=
  let v := (b.getD 0 0).toNat
  let bl := if v = 0x44 then 16 else 8
  (v == 0x42 || v == 0x44) && (kbClass (sub b 5 2) (b.getD 8 0)).isSome &&
    ((b.getD 7 0).toNat == 0x54 || (b.getD 7 0).toNat == 0x41) && asciiDec (sub b 1 4) == some b.length &&
    match asciiDec (sub b 12 2) with
    | none => false
    | some n =>
      match kbOptEnd b n 16 with
      | none => false
      | some off => decide (off + 4 * bl ≤ b.length) && (b.length - off) % (2 * bl) == 0

/-- Open a key block whose header has passed: the key, `none` when its authentication fails. -/
def kbOpen (kbpk b : Bytes) : Option Bytes :=
  let aes := (b.getD 0 0).toNat = 0x44
  let bl := if aes then 16 else 8
  match (asciiDec (sub b 12 2)).bind (fun n => kbOptEnd b n 16) with
  | none => none
  | some off =>
    let body := b.drop off
    match asciiHex (body.take (body.length - 2 * bl)), asciiHex (body.drop (body.length - 2 * bl)) with
    | some ct, some mac =>
      let clear := cbcDec ⟨aes, kbDerive aes kbpk 0⟩ mac ct
      if kbMac aes kbpk (b.take off) clear ≠ mac then none
      else
        let n := fldBe clear 0 2 / 8
        if n + 2 ≤ clear.length then some (sub clear 2 n) else none
    | _, _ => none

end Sys2Proof.Machine
end

