-- ==== Sys2Proof/Machine/PkMath.lean ====
section
/-! DEFINITION. The arithmetic of the public-key engines (R234, R335 to R354): modular arithmetic, the prime curves,
Curve25519, ECDSA, Ed25519, the one-step KDF and the RSA encodings, as the standards named there define them (log 13). -/

namespace Sys2Proof.Machine

/-! ## Modular arithmetic -/

/-- `b ^ e mod m` by squaring; `fuel` bounds the bits of `e`. -/
def powModF (m : Nat) : Nat → Nat → Nat → Nat
  | 0, _, _ => 1 % m
  | f + 1, b, e =>
    if e = 0 then 1 % m
    else
      let h := powModF m f (b * b % m) (e / 2)
      if e % 2 = 1 then b * h % m else h

/-- `b ^ e mod m`. -/
def powMod (b e m : Nat) : Nat := powModF m (Nat.log2 e + 2) (b % m) e

/-- Inverse modulo a prime. -/
def invP (p a : Nat) : Nat := powMod a (p - 2) p

/-- Extended Euclid: the coefficient of `a` in its greatest common divisor with `m`, modulo `m`. -/
def egcdF (m : Nat) : Nat → Nat → Nat → Nat → Nat → Nat
  | 0, _, _, x, _ => x
  | f + 1, a, b, x, y => if b = 0 then x else egcdF m f b (a % b) y ((x + m * m - (a / b) * y % m) % m)

/-- Inverse of `a` modulo any `m` coprime to it. -/
def invMod (a m : Nat) : Nat := egcdF m (2 * Nat.log2 m + 4) (a % m) m 1 0

/-- `a - b` modulo `p`, for `b < p`. -/
def subP (p a b : Nat) : Nat := (a + (p - b % p)) % p

/-! ## Prime curves -/

/-- A short Weierstrass curve: prime, coefficients, base point, group order, field length in bytes. -/
structure EC where
  p : Nat
  a : Nat
  b : Nat
  gx : Nat
  gy : Nat
  n : Nat
  len : Nat

/-- P-256. -/
def ecP256 : EC := ⟨0xffffffff00000001000000000000000000000000ffffffffffffffffffffffff,
  0xffffffff00000001000000000000000000000000fffffffffffffffffffffffc,
  0x5ac635d8aa3a93e7b3ebbd55769886bc651d06b0cc53b0f63bce3c3e27d2604b,
  0x6b17d1f2e12c4247f8bce6e563a440f277037d812deb33a0f4a13945d898c296,
  0x4fe342e2fe1a7f9b8ee7eb4a7c0f9e162bce33576b315ececbb6406837bf51f5,
  0xffffffff00000000ffffffffffffffffbce6faada7179e84f3b9cac2fc632551, 32⟩
/-- P-384. -/
def ecP384 : EC := ⟨0xfffffffffffffffffffffffffffffffffffffffffffffffffffffffffffffffeffffffff0000000000000000ffffffff,
  0xfffffffffffffffffffffffffffffffffffffffffffffffffffffffffffffffeffffffff0000000000000000fffffffc,
  0xb3312fa7e23ee7e4988e056be3f82d19181d9c6efe8141120314088f5013875ac656398d8a2ed19d2a85c8edd3ec2aef,
  0xaa87ca22be8b05378eb1c71ef320ad746e1d3b628ba79b9859f741e082542a385502f25dbf55296c3a545e3872760ab7,
  0x3617de4a96262c6f5d9e98bf9292dc29f8f41dbd289a147ce9da3113b5f0b8c00a60b1ce1d7e819d7a431d7c90ea0e5f,
  0xffffffffffffffffffffffffffffffffffffffffffffffffc7634d81f4372ddf581a0db248b0a77aecec196accc52973, 48⟩
/-- P-521. -/
def ecP521 : EC := ⟨2 ^ 521 - 1, 2 ^ 521 - 4,
  0x51953eb9618e1c9a1f929a21a0b68540eea2da725b99b315f3b8b489918ef109e156193951ec7e937b1652c0bd3bb1bf073573df883d2c34f1ef451fd46b503f00,
  0xc6858e06b70404e9cd9e3ecb662395b4429c648139053fb521f828af606b4d3dbaa14b5e77efe75928fe1dc127a2ffa8de3348b3c1856a429bf97e7e31c2e5bd66,
  0x11839296a789a3bc0045c8a5fb42c7d1bd998f54449579b446817afbd17273e662c97ee72995ef42640c550b9013fad0761353c7086a272c24088be94769fd16650,
  0x1fffffffffffffffffffffffffffffffffffffffffffffffffffffffffffffffffa51868783bf2f966b7fcc0148f709a5d03bb5c9b8899c47aebb6fb71e91386409,
  66⟩
/-- brainpoolP256r1. -/
def ecB256 : EC := ⟨0xa9fb57dba1eea9bc3e660a909d838d726e3bf623d52620282013481d1f6e5377,
  0x7d5a0975fc2c3057eef67530417affe7fb8055c126dc5c6ce94a4b44f330b5d9,
  0x26dc5c6ce94a4b44f330b5d9bbd77cbf958416295cf7e1ce6bccdc18ff8c07b6,
  0x8bd2aeb9cb7e57cb2c4b482ffc81b7afb9de27e1e3bd23c23a4453bd9ace3262,
  0x547ef835c3dac4fd97f8461a14611dc9c27745132ded8e545c1d54c72f046997,
  0xa9fb57dba1eea9bc3e660a909d838d718c397aa3b561a6f7901e0e82974856a7, 32⟩
/-- brainpoolP384r1. -/
def ecB384 : EC := ⟨0x8cb91e82a3386d280f5d6f7e50e641df152f7109ed5456b412b1da197fb71123acd3a729901d1a71874700133107ec53,
  0x7bc382c63d8c150c3c72080ace05afa0c2bea28e4fb22787139165efba91f90f8aa5814a503ad4eb04a8c7dd22ce2826,
  0x04a8c7dd22ce28268b39b55416f0447c2fb77de107dcd2a62e880ea53eeb62d57cb4390295dbc9943ab78696fa504c11,
  0x1d1c64f068cf45ffa2a63a81b7c13f6b8847a3e77ef14fe3db7fcafe0cbd10e8e826e03436d646aaef87b2e247d4af1e,
  0x8abe1d7520f9c2a45cb1eb8e95cfd55262b70b29feec5864e19c054ff99129280e4646217791811142820341263c5315,
  0x8cb91e82a3386d280f5d6f7e50e641df152f7109ed5456b31f166e6cac0425a7cf3ab6af6b7fc3103b883202e9046565, 48⟩

/-- The curve of a PK_ALG (R234). -/
def ecOf (alg : Nat) : Option EC :=
  match alg with
  | 0x10 => some ecP256 | 0x11 => some ecP384 | 0x12 => some ecP521 | 0x18 => some ecB256 | 0x19 => some ecB384
  | _ => none

/-- A point; `none` is the point at infinity. -/
abbrev Pt := Option (Nat × Nat)

/-- The sum of two points. -/
def EC.add (c : EC) : Pt → Pt → Pt
  | none, q => q
  | p, none => p
  | some (x1, y1), some (x2, y2) =>
    if x1 = x2 ∧ (y1 + y2) % c.p = 0 then none
    else
      let l := if x1 = x2 then (3 * x1 * x1 + c.a) * invP c.p (2 * y1) % c.p
        else subP c.p y2 y1 * invP c.p (subP c.p x2 x1) % c.p
      let x := subP c.p (subP c.p (l * l) x1) x2
      some (x, subP c.p (l * subP c.p x1 x) y1)

/-- A multiple of a point; `fuel` bounds the bits of the scalar. -/
def EC.mulF (c : EC) : Nat → Nat → Pt → Pt
  | 0, _, _ => none
  | f + 1, k, p =>
    if k = 0 then none
    else
      let h := c.mulF f (k / 2) (c.add p p)
      if k % 2 = 1 then c.add p h else h

/-- `k` times a point. -/
def EC.mul (c : EC) (k : Nat) (p : Pt) : Pt := c.mulF (Nat.log2 k + 2) k p

/-- The base point. -/
def EC.g (c : EC) : Pt := some (c.gx, c.gy)

/-- A point lies on the curve. -/
def EC.on (c : EC) (x y : Nat) : Bool := y * y % c.p == (x * x * x + c.a * x + c.b) % c.p

/-- The uncompressed encoding of a point. -/
def EC.enc (c : EC) : Pt → Bytes
  | none => zeros (2 * c.len + 1)
  | some (x, y) => 4 :: (natBe c.len x ++ natBe c.len y)

/-- The checks of a supplied point, in the order of R349: CHECK_RANGE (0x4001), then CHECK_CURVE (0x4002); 0 when it
passes. -/
def EC.check (c : EC) (b : Bytes) : Nat :=
  let x := fldBe b 1 c.len
  let y := fldBe b (1 + c.len) c.len
  if c.p ≤ x ∨ c.p ≤ y then 0x4001 else if b.headD 0 ≠ 4 ∨ !c.on x y then 0x4002 else 0

/-- The point of an encoding that has passed its checks. -/
def EC.dec (c : EC) (b : Bytes) : Pt := some (fldBe b 1 c.len, fldBe b (1 + c.len) c.len)

/-- The integer of a digest, reduced to the order's length (FIPS 186-5). -/
def EC.hashInt (c : EC) (d : Bytes) : Nat :=
  let nb := Nat.log2 c.n + 1
  let e := beNat d
  if nb < 8 * d.length then e >>> (8 * d.length - nb) else e

/-- ECDSA with private scalar `d` and nonce `k`; `none` when r or s is zero (R353). -/
def EC.sign (c : EC) (d k : Nat) (dig : Bytes) : Option Bytes :=
  match c.mul k c.g with
  | none => none
  | some (x, _) =>
    let r := x % c.n
    let s := invP c.n k * ((c.hashInt dig + r * d) % c.n) % c.n
    if r = 0 ∨ s = 0 then none else some (natBe c.len r ++ natBe c.len s)

/-- ECDSA verification of checked components. -/
def EC.verify (c : EC) (q : Pt) (dig sig : Bytes) : Bool :=
  let r := fldBe sig 0 c.len
  let w := invP c.n (fldBe sig c.len c.len)
  match c.add (c.mul (c.hashInt dig * w % c.n) c.g) (c.mul (r * w % c.n) q) with
  | none => false
  | some (x, _) => x % c.n == r

/-- A scalar from drawn bytes with 64 extra bits (FIPS 186-5). -/
def EC.scalar (c : EC) (b : Bytes) : Nat := beNat b % (c.n - 1) + 1

/-- A whole ECDSA verification over SHA-384 on brainpoolP384r1, checks of R349 included: the form of every signature
that PKM checks (R362, R578, R595, R604). -/
def verifyB384 (pub dig sig : Bytes) : Bool :=
  let r := fldBe sig 0 48
  let s := fldBe sig 48 48
  ecB384.check pub == 0 && r != 0 && s != 0 && decide (r < ecB384.n) && decide (s < ecB384.n) &&
    ecB384.verify (ecB384.dec pub) dig sig

/-! ## Curve25519 -/

/-- The prime of Curve25519. -/
def p25519 : Nat := 2 ^ 255 - 19

/-- One ladder step of RFC 7748 on (x2, z2, x3, z3). -/
def ladderStep (x1 : Nat) (q : Nat × Nat × Nat × Nat) : Nat × Nat × Nat × Nat :=
  let p := p25519
  let (x2, z2, x3, z3) := q
  let a := (x2 + z2) % p
  let aa := a * a % p
  let b := subP p x2 z2
  let bb := b * b % p
  let e := subP p aa bb
  let da := subP p x3 z3 * a % p
  let cb := (x3 + z3) % p * b % p
  let s := (da + cb) % p
  let d := subP p da cb
  (aa * bb % p, e * (aa + 121665 * e) % p, s * s % p, x1 * (d * d % p) % p)

/-- The ladder over the low `n` bits of the scalar. -/
def ladder (x1 k : Nat) : Nat → Nat × Nat × Nat × Nat → Nat × Nat × Nat × Nat
  | 0, q => q
  | n + 1, q =>
    let (x2, z2, x3, z3) := q
    if k.testBit n then
      let (a, b, c, d) := ladderStep x1 (x3, z3, x2, z2)
      ladder x1 k n (c, d, a, b)
    else ladder x1 k n (ladderStep x1 q)

/-- X25519 (RFC 7748). -/
def x25519 (k u : Bytes) : Bytes :=
  let n := leNat k
  let n := n % 2 ^ 255 / 8 * 8 % 2 ^ 254 + 2 ^ 254
  let x1 := leNat u % 2 ^ 255 % p25519
  let (x2, z2, _, _) := ladder x1 n 255 (1, 0, x1, 1)
  natLe 32 (x2 * invP p25519 z2 % p25519)

/-- The u-coordinate of the base point. -/
def x25519Base : Bytes := 9 :: zeros 31

/-- The coefficient d of Ed25519. -/
def edD : Nat := 0x52036cee2b6ffe738cc740797779e89800700a4d4141d8ab75eb4dca135978a3
/-- The group order. -/
def edL : Nat := 2 ^ 252 + 27742317777372353535851937790883648493
/-- The base point. -/
def edB : Nat × Nat := (0x216936d3cd6e53fec0a4e231fdd6dc5c692cc7609525a7b2c9562d608f25d51a,
  0x6666666666666666666666666666666666666666666666666666666666666658)

/-- The sum of two points of the twisted Edwards curve. -/
def edAdd (a b : Nat × Nat) : Nat × Nat :=
  let p := p25519
  let t := edD * (a.1 * b.1 % p * (a.2 * b.2 % p) % p) % p
  ((a.1 * b.2 + b.1 * a.2) % p * invP p (1 + t) % p, (a.2 * b.2 + a.1 * b.1) % p * invP p (subP p 1 t) % p)

/-- A multiple of a point; `fuel` bounds the bits of the scalar. -/
def edMulF : Nat → Nat → Nat × Nat → Nat × Nat
  | 0, _, _ => (0, 1)
  | f + 1, k, q =>
    if k = 0 then (0, 1)
    else
      let h := edMulF f (k / 2) (edAdd q q)
      if k % 2 = 1 then edAdd q h else h

/-- `k` times a point. -/
def edMul (k : Nat) (q : Nat × Nat) : Nat × Nat := edMulF (Nat.log2 k + 2) k q

/-- The encoding of a point. -/
def edEnc (q : Nat × Nat) : Bytes := natLe 32 (q.2 + (q.1 % 2) * 2 ^ 255)

/-- The encoded y of a point. -/
def edY (b : Bytes) : Nat := leNat b % 2 ^ 255

/-- The point of an encoding (RFC 8032); `none` when it decodes to none. -/
def edDec (b : Bytes) : Option (Nat × Nat) :=
  let p := p25519
  let y := edY b
  if p ≤ y then none
  else
    let u := subP p (y * y) 1
    let v := (edD * (y * y % p) + 1) % p
    let x2 := u * invP p v % p
    let x := powMod x2 ((p + 3) / 8) p
    let x := if x * x % p = x2 then x else x * powMod 2 ((p - 1) / 4) p % p
    let sign := leNat b / 2 ^ 255 % 2
    if x * x % p ≠ x2 ∨ (x = 0 ∧ sign = 1) then none else some (if x % 2 = sign then x else p - x, y)

/-- The scalar and prefix of an Ed25519 private key. -/
def edKey (k : Bytes) : Nat × Bytes :=
  let h := sha512B k
  let a := leNat (h.take 32)
  (a % 2 ^ 255 / 8 * 8 % 2 ^ 254 + 2 ^ 254, h.drop 32)

/-- The Ed25519 public key of a private key. -/
def edPub (k : Bytes) : Bytes := edEnc (edMul (edKey k).1 edB)

/-- Ed25519 signature (RFC 8032). -/
def edSign (k m : Bytes) : Bytes :=
  let (a, pre) := edKey k
  let r := leNat (sha512B (pre ++ m)) % edL
  let rb := edEnc (edMul r edB)
  let h := leNat (sha512B (rb ++ edPub k ++ m)) % edL
  rb ++ natLe 32 ((r + h * a) % edL)

/-- Ed25519 verification of checked parts, without cofactor multiplication (R349). -/
def edVerify (a r : Nat × Nat) (aB sig m : Bytes) : Bool :=
  let s := leNat (sig.drop 32)
  let h := leNat (sha512B (sig.take 32 ++ aB ++ m)) % edL
  edMul s edB == edAdd r (edMul h a)

/-! ## One-step KDF (NIST SP 800-56C) -/

/-- Blocks of the one-step KDF from counter `i`. -/
def kdfBlocks (h : HashAlg) (z info : Bytes) : Nat → Nat → Bytes
  | 0, _ => []
  | n + 1, i => h.run (natBe 4 i ++ z ++ info) ++ kdfBlocks h z info n (i + 1)

/-- The first `n` bytes of the one-step KDF. -/
def kdf (h : HashAlg) (z info : Bytes) (n : Nat) : Bytes := (kdfBlocks h z info ((n + h.len - 1) / h.len) 1).take n

/-! ## RSA -/

/-- An RSA private key of modulus size `k` bytes: p, q, dP, dQ, qInv (R257). -/
structure RsaKey where
  k : Nat
  p : Nat
  q : Nat
  dp : Nat
  dq : Nat
  qinv : Nat

/-- The RSA key in its material. -/
def rsaKey (k : Nat) (m : Bytes) : RsaKey :=
  let f := fun i => fldBe m (i * (k / 2)) (k / 2)
  ⟨k, f 0, f 1, f 2, f 3, f 4⟩

/-- The material of an RSA key (R257). -/
def RsaKey.mat (r : RsaKey) : Bytes := [r.p, r.q, r.dp, r.dq, r.qinv].flatMap (natBe (r.k / 2))

/-- The modulus. -/
def RsaKey.n (r : RsaKey) : Nat := r.p * r.q

/-- The public exponent: the inverse of dP modulo p − 1. -/
def RsaKey.e (r : RsaKey) : Nat := invMod r.dp (r.p - 1)

/-- The private operation by CRT. -/
def RsaKey.priv (r : RsaKey) (c : Nat) : Nat :=
  let m1 := powMod c r.dp r.p
  let m2 := powMod c r.dq r.q
  m2 + r.q * (r.qinv * subP r.p m1 (m2 % r.p) % r.p)

/-- The public key of R234: modulus and 4-byte exponent. -/
def RsaKey.pub (r : RsaKey) : Bytes := natBe r.k r.n ++ natBe 4 r.e

/-- The modulus size in bytes of an RSA PK_ALG. -/
def rsaLen (alg : Nat) : Nat := match alg with | 1 => 256 | 2 => 384 | 3 => 512 | _ => 0

/-- MGF1. -/
def mgf1 (h : HashAlg) (seed : Bytes) (n : Nat) : Bytes :=
  ((List.range ((n + h.len - 1) / h.len)).flatMap (fun i => h.run (seed ++ natBe 4 i))).take n

/-- The encoded message of RSASSA-PSS for a modulus of `k` bytes with its top bit set. -/
def pssEncode (h : HashAlg) (k : Nat) (dig salt : Bytes) : Bytes :=
  let hh := h.run (zeros 8 ++ dig ++ salt)
  let db := zeros (k - h.len - 2 - salt.length) ++ [1] ++ salt
  let m := xorB db (mgf1 h hh (k - h.len - 1))
  (m.headD 0 &&& 0x7F) :: m.drop 1 ++ hh ++ [0xBC]

/-- RSASSA-PSS verification of an encoded message. -/
def pssVerify (h : HashAlg) (k sl : Nat) (dig em : Bytes) : Bool :=
  if k < h.len + sl + 2 ∨ em.getLastD 0 ≠ 0xBC ∨ (em.headD 0).getLsbD 7 then false
  else
    let hh := sub em (k - h.len - 1) h.len
    let db := xorB (em.take (k - h.len - 1)) (mgf1 h hh (k - h.len - 1))
    let db := (db.headD 0 &&& 0x7F) :: db.drop 1
    let z := k - h.len - 2 - sl
    zeroIn db 0 z && db.getD z 0 == 1 && h.run (zeros 8 ++ dig ++ db.drop (z + 1)) == hh

/-- The DigestInfo prefix of a hash. -/
def digestInfo (h : HashAlg) : Bytes :=
  match h with
  | .sha256 => hexB 19 0x3031300d060960864801650304020105000420
  | .sha384 => hexB 19 0x3041300d060960864801650304020205000430
  | .sha512 => hexB 19 0x3051300d060960864801650304020305000440

/-- The encoded message of RSASSA-PKCS1-v1_5. -/
def v15Encode (h : HashAlg) (k : Nat) (dig : Bytes) : Bytes :=
  let t := digestInfo h ++ dig
  [0, 1] ++ List.replicate (k - t.length - 3) 0xFF ++ [0] ++ t

/-- OAEP decoding; `none` when it fails. -/
def oaepDecode (h : HashAlg) (label em : Bytes) : Option Bytes :=
  let k := em.length
  let hl := h.len
  if k < 2 * hl + 2 then none
  else
    let mdb := em.drop (hl + 1)
    let seed := xorB (sub em 1 hl) (mgf1 h mdb hl)
    let db := xorB mdb (mgf1 h seed (k - hl - 1))
    let rest := (db.drop hl).dropWhile (· == 0)
    if em.headD 0 ≠ 0 ∨ db.take hl ≠ h.run label ∨ rest.headD 0 ≠ 1 then none else some (rest.drop 1)

/-- v1.5 decoding; `none` when it fails. -/
def v15Decode (em : Bytes) : Option Bytes :=
  let ps := (em.drop 2).takeWhile (· != 0)
  if em.headD 1 ≠ 0 ∨ em.getD 1 0 ≠ 2 ∨ ps.length < 8 ∨ em.length ≤ ps.length + 2 then none
  else some (em.drop (ps.length + 3))

/-- The synthetic plaintext of implicit rejection: a function of the key and the ciphertext, at most `k − 11` bytes
(R239). -/
def v15Synthetic (key ct : Bytes) : Bytes :=
  let r := Config.v15Reject key ct
  r.take (ct.length - 11)

/-! ## RSA key generation (R353; log 17) -/

/-- Miller-Rabin for one base: `n - 1 = d * 2 ^ r`. -/
def mrStep (n : Nat) : Nat → Nat → Bool
  | 0, _ => false
  | r + 1, x => if x = n - 1 then true else mrStep n r (x * x % n)

/-- The odd part of a number and the power of two taken out. -/
def oddPart : Nat → Nat → Nat × Nat
  | 0, d => (d, 0)
  | f + 1, d => if d % 2 = 0 then let (o, r) := oddPart f (d / 2); (o, r + 1) else (d, 0)

/-- A probable prime by Miller-Rabin over the first twelve primes. -/
def probPrime (n : Nat) : Bool :=
  let (d, r) := oddPart (Nat.log2 n + 1) (n - 1)
  decide (40 < n) && [2, 3, 5, 7, 11, 13, 17, 19, 23, 29, 31, 37].all (fun b =>
    let x := powMod b d n
    x == 1 || mrStep n r x)

/-- A candidate prime from drawn bytes: top two bits and the lowest set. -/
def primeCand (b : Bytes) : Nat :=
  let bits := 8 * b.length
  let x := beNat b % 2 ^ (bits - 2)
  3 * 2 ^ (bits - 2) + x / 2 * 2 + 1

/-- A candidate is accepted: prime, with p − 1 coprime to 65,537. -/
def primeOk (p : Nat) : Bool := probPrime p && (p - 1) % 65537 != 0

/-- The RSA key of two accepted primes, with e = 65,537. -/
def rsaFromPrimes (k p q : Nat) : RsaKey :=
  ⟨k, p, q, invMod 65537 (p - 1), invMod 65537 (q - 1), invP p q⟩

end Sys2Proof.Machine
end

