-- ==== Sys2Proof/Machine/Operands.lean ====
section
/-! DEFINITION. The operand forms of the item commands: what check 5 of R123 demands of every body (R714, R188, R128),
the session handle, the policy, the target and the key references that a body names, its input reads, and the cost class
that its length fields give (R144). Opcodes: R711, R283 to R289, R394, R597. -/

namespace Sys2Proof.Machine

/-! ## Bits of a body -/

/-- One byte of a descriptor as a number. -/
def u8 (d : Bytes) (i : Nat) : Nat := fld d i 1

/-- A key reference's reserved bits are 0 (R104). -/
def krefOk (d : Bytes) (o : Nat) : Bool := u8 d (o + 3) == 0 && zeroIn d (o + 4) 4

/-- A key reference for a use of R190. -/
def kref (d : Bytes) (o use : Nat) (algs : List Nat) : KRef :=
  ⟨fld d o 3, fld d (o + 8) 8, false, .use, use, List.range 10, algs, false⟩

/-- A PARENT: all zero names the TDK (R243); else a KEK (R244). -/
def parentRef (d : Bytes) (o : Nat) (m : BMode) : KRef :=
  ⟨fld d o 3, fld d (o + 8) 8, zeroIn d o 16, m, 0, [2], [0x84], false⟩

/-- The tenant's TDK as a reference. -/
def tdkRef : KRef := ⟨0, 0, true, .use, 0, [10], [0x84], false⟩

/-- A buffer reference's address and LEN (R105). -/
def bufAt (d : Bytes) (o : Nat) : Nat × Nat := (fld d o 8, fld d (o + 8) 4)

/-- A buffer reference is valid: reserved bytes 0 and the region inside the window (R67, R105). -/
def bufOk (win : Nat → Nat → Bool) (d : Bytes) (o : Nat) : Bool :=
  zeroIn d (o + 12) 4 && win (fld d o 8) (fld d (o + 8) 4)

/-- Every body byte outside the listed ranges is 0 (R102, R187); with OUT_PTR the output buffer takes bytes 112 to 127. -/
def restZero (d : Bytes) (used : List (Nat × Nat)) : Bool :=
  (List.range (if outPtr d then 96 else 112)).all (fun i =>
    used.any (fun r => decide (r.1 ≤ i + 16) && decide (i + 16 < r.1 + r.2)) || u8 d (i + 16) == 0)

/-- The output buffer of R103 is valid. -/
def outOk (win : Nat → Nat → Bool) (d : Bytes) : Bool := !outPtr d || bufOk win d 112

/-- A PIN block format (R203). -/
def fmtOk (f : Nat) : Bool := f == 0 || f == 1 || f == 3 || f == 4
/-- The bit of a format in IN_FMT and OUT_FMT (R192). -/
def fmtBit (f : Nat) : Nat := match f with | 0 => 0 | 1 => 1 | 3 => 2 | _ => 3
/-- The algorithms of a format's cipher (R190). -/
def fmtAlgs (f : Nat) : List Nat := if f = 4 then [0x82, 0x83, 0x84] else [0x80, 0x81]
/-- AES types. -/
def aesAlgs : List Nat := [0x82, 0x83, 0x84]
/-- A PAN of a bound format has 12 to 19 digits; format 1 carries none (R207). -/
def panOk (f : Nat) (d : Bytes) (o len : Nat) : Bool :=
  if f = 1 then len == 0 && zeroIn d o 10 else decide (12 ≤ len) && decide (len ≤ 19) && bcdOk (sub d o 10) len
/-- A PIN block field (R204). -/
def blkOk (f : Nat) (d : Bytes) (o : Nat) : Bool := f == 4 || zeroIn d (o + 8) 8
/-- The digits of a PAN field. -/
def panOf (d : Bytes) (o len : Nat) : List Nat := bcd (sub d o 10) len

/-- The translation policy (R206). -/
def translateOk (pol : DWord) (a b : Nat) (panIn panOut : List Nat) : Bool :=
  pol.getLsbD (fmtBit a) && pol.getLsbD (4 + fmtBit b) && (!(a == 4 && (b == 0 || b == 1)) || pol.getLsbD 8) &&
    (!(a == 4 && b == 3) || pol.getLsbD 9) && (a == 1 || b == 1 || panIn == panOut || pol.getLsbD 10)

/-- Bytes of a digest (R235). -/
def hashLen (h : Nat) : Nat := match h with | 0 => 32 | 1 => 48 | _ => 64
/-- The hash that a HASH field names (R235). -/
def hashOf (h : Nat) : HashAlg := match h with | 0 => .sha256 | 1 => .sha384 | _ => .sha512

/-- Signature and public-key sizes of a PK_ALG (R234); `none` outside the table. -/
def pkSizes (a : Nat) : Option (Nat × Nat) :=
  match a with
  | 0x01 => some (256, 260) | 0x02 => some (384, 388) | 0x03 => some (512, 516)
  | 0x10 => some (64, 65) | 0x11 => some (96, 97) | 0x12 => some (132, 133)
  | 0x18 => some (64, 65) | 0x19 => some (96, 97)
  | 0x20 => some (0, 32) | 0x21 => some (64, 32)
  | _ => none
/-- A PK_ALG of an RSA type. -/
def isRsa (a : Nat) : Bool := decide (1 ≤ a) && decide (a ≤ 3)
/-- A PK_ALG of a prime curve. -/
def isCurve (a : Nat) : Bool := a == 0x10 || a == 0x11 || a == 0x12 || a == 0x18 || a == 0x19
/-- A SCHEME suits a PK_ALG (R235). -/
def schemeOk (a sch : Nat) : Bool :=
  match sch with | 0 | 1 => isRsa a | 2 => isCurve a | 3 => a == 0x21 | _ => false

/-- The symbols of an FF1 alphabet (R229). -/
def ff1Alphabet (a : Nat) : Bytes :=
  let dig : Bytes := (List.range 10).map (fun i => byteOf (48 + i))
  let low : Bytes := (List.range 26).map (fun i => byteOf (97 + i))
  let up : Bytes := (List.range 26).map (fun i => byteOf (65 + i))
  match a with
  | 0 => dig
  | 1 => dig ++ low.take 6
  | 2 => low
  | 3 => dig ++ up
  | _ => dig ++ up ++ low
/-- The least LEN of an FF1 alphabet (R229). -/
def ff1Min (a : Nat) : Nat := match a with | 0 => 6 | 1 => 5 | 2 => 5 | _ => 4

/-- A condition on the target's key state word at the start of stage 8 (R282). -/
inductive TgtCond where
  /-- NEXT 0: the word is 0 (R283). -/
  | new
  /-- NEXT 1: not revoked (R283). -/
  | next
  /-- Neither revoked nor STAGED (R286). -/
  | stage
  /-- STAGED, and EPOCH is COMMITTED + 1 (R287). -/
  | epoch (e : Nat)
  /-- No condition. -/
  | any
deriving DecidableEq, Repr

/-- Whether a word meets the condition of a target. -/
def TgtCond.ok (c : TgtCond) (w : DWord) : Bool :=
  match c with
  | .new => w == 0
  | .next => !wRevoked w
  | .stage => !wRevoked w && !wStaged w
  | .epoch e => wStaged w && wCommitted w + 1 == e
  | .any => true

/-- What a body asks of the checks of R123, by stage. -/
structure Body where
  /-- every length test but the room tests passes (check 5). -/
  lens : Bool
  /-- the largest result (R128). -/
  room : Nat
  /-- the OUT_PTR value that the opcode requires. -/
  out : Option Bool
  /-- every field-value test passes (check 5). -/
  fields : Bool
  /-- the session handle that the body names (check 6). -/
  sess : Option Nat
  /-- the policy permits the command, by PAY_POLICY and PAY_DECTAB (check 7). -/
  policy : DWord → DWord → Bool
  /-- the command creates a KET record when its target's word is 0 (R261). -/
  creates : Bool
  /-- the target with its condition (check 8, R282). -/
  target : Option (Nat × TgtCond)
  /-- the key references in binding order (R189). -/
  keys : List KRef
  /-- the input reads (check 9). -/
  reads : List (Nat × Nat)

/-- A body with nothing but fields. -/
def plainBody (room : Nat) (out : Option Bool) (fields : Bool) : Body :=
  ⟨true, room, out, fields, none, fun _ _ => true, false, none, [], []⟩

/-! ## PIN commands (R208, R210, R218) -/

/-- PIN_TRANSLATE (R208). -/
def bodyPinTranslate (d : Bytes) : Body :=
  let a := u8 d 48
  let b := u8 d 49
  { plainBody (pinLen b) none
      (krefOk d 16 && krefOk d 32 && fmtOk a && fmtOk b && panOk a d 72 (u8 d 50) && panOk b d 82 (u8 d 51) &&
        blkOk a d 56 && restZero d [(16, 36), (56, 36)]) with
    policy := fun p _ => translateOk p a b (panOf d 72 (u8 d 50)) (panOf d 82 (u8 d 51))
    keys := [kref d 16 0x0B (fmtAlgs a), kref d 32 0x0B (fmtAlgs b)] }

/-- PIN_VERIFY_OFFSET and PIN_GENERATE_OFFSET (R210, R211). -/
def bodyPinOffset (gen : Bool) (d : Bytes) : Body :=
  let m := u8 d 48
  let f := u8 d 49
  let n := u8 d 51
  let sel := u8 d 52
  let nOk := if m = 0 then (if gen then n == 0 else decide (4 ≤ n) && decide (n ≤ 12))
    else decide (4 ≤ n) && decide (n ≤ 6)
  { plainBody (if gen then 8 else 0) none
      (krefOk d 16 && krefOk d 32 && decide (m ≤ 1) && fmtOk f && panOk f d 72 (u8 d 50) && nOk &&
        (if m = 1 then decide (sel ≤ 9) else sel == 0) && blkOk f d 56 &&
        (if m = 0 then bcdOk (sub d 90 8) 16 else zeroIn d 82 16) &&
        (if gen then zeroIn d 98 6 else bcdOk (sub d 98 6) n) && restZero d [(16, 37), (56, 48)]) with
    policy := fun p t => (if m = 0 then p.getLsbD 12 else p.getLsbD 13) && (!gen || p.getLsbD 14) &&
      p.getLsbD (fmtBit f) && (!(p.getLsbD 11 && m == 0) || fldBe d 90 8 == t.toNat)
    keys := [kref d 16 0x0B (fmtAlgs f), kref d 32 0x08 (0x80 :: 0x81 :: aesAlgs)] }

/-- The BDK of a VARIANT, not shorter than the working key (R190, R217). -/
def bdkAlgs (variant wk : Nat) : List Nat := if variant = 0 then [0x80, 0x81] else [0x82, 0x83, 0x84].drop wk

/-- VARIANT and WK_TYPE suit each other (R216, R217). -/
def variantOk (v wk : Nat) : Bool := (v == 0 && wk == 0) || (v == 1 && decide (wk ≤ 2))

/-- DUKPT_PIN_TRANSLATE (R218). -/
def bodyDukptPin (d : Bytes) : Body :=
  let v := u8 d 48
  let a := u8 d 50
  let b := u8 d 51
  { plainBody 20 none
      (krefOk d 16 && krefOk d 32 && variantOk v (u8 d 49) && fmtOk a && (a == 4) == (v == 1) && fmtOk b &&
        panOk a d 88 (u8 d 52) && panOk b d 98 (u8 d 53) && decide (u8 d 54 ≤ 1) && ksnOk v (sub d 56 12) &&
        blkOk a d 72 && restZero d [(16, 39), (56, 12), (72, 36)]) with
    policy := fun p _ => (v != 0 || p.getLsbD 15) && translateOk p a b (panOf d 88 (u8 d 52)) (panOf d 98 (u8 d 53))
    keys := [kref d 16 0x08 (bdkAlgs v (u8 d 49)), kref d 32 0x0B (fmtAlgs b)] }

/-- DUKPT_MAC_VERIFY (R219). -/
def bodyDukptMac (win : Nat → Nat → Bool) (d : Bytes) : Body :=
  let v := u8 d 32
  let n := u8 d 34
  let fl := u8 d 35
  let use := fl.testBit 1
  let (_, len) := bufAt d 72
  { plainBody 4 none
      ((if use then zeroIn d 16 16 else krefOk d 16) && variantOk v (u8 d 33) && decide (fl ≤ 7) &&
        !(use && fl.testBit 0) && !(fl.testBit 2 && !use) &&
        (if use then zeroIn d 36 12 else ksnOk v (sub d 36 12)) && (use || zeroIn d 48 4) &&
        zeroIn d (56 + n) (16 - n) && bufOk win d 72 && restZero d [(16, 36), (56, 32)]) with
    lens := decide (4 ≤ n) && decide (n ≤ if v = 0 then 8 else 16) && decide (1 ≤ len) && decide (len ≤ 4096)
    policy := fun p _ => v != 0 || p.getLsbD 15
    sess := if use then some (fld d 48 4) else none
    keys := if use then [] else [kref d 16 0x08 (bdkAlgs v (u8 d 33))]
    reads := [bufAt d 72] }

/-! ## MAC, EMV and card codes (R220, R224, R227) -/

/-- The key types of a MAC algorithm (R220). -/
def macAlgs (a : Nat) : List Nat :=
  match a with | 0 => [0x80, 0x81] | 1 => aesAlgs | 2 => [0x80] | 3 => aesAlgs | _ => [0x80, 0x81]
/-- A MAC algorithm of TDEA. -/
def macTdea (a : Nat) : Bool := a == 0 || a == 2 || a == 4

/-- MAC_GENERATE and MAC_VERIFY (R220, R221). -/
def bodyMac (gen : Bool) (win : Nat → Nat → Bool) (d : Bytes) : Body :=
  let a := u8 d 32
  let pad := u8 d 33
  let n := u8 d 34
  let inl := (u8 d 35).testBit 0
  let (addr, len) := bufAt d 40
  { plainBody (if gen then n else 0) none
      (krefOk d 16 && decide (a ≤ 4) && (if 3 ≤ a then pad == 0 else decide (1 ≤ pad) && decide (pad ≤ 3)) &&
        decide (u8 d 35 ≤ 1) && (if inl then addr == 0 && zeroIn d 52 4 else bufOk win d 40) &&
        (if gen then zeroIn d 56 16 else zeroIn d (56 + n) (16 - n)) &&
        (if inl then zeroIn d (72 + len) (40 - len) else zeroIn d 72 40) &&
        restZero d [(16, 20), (40, 72)]) with
    lens := decide (4 ≤ n) && decide (n ≤ if macTdea a then 8 else 16) && decide (len ≤ if inl then 40 else 262144) &&
      !(len == 0 && pad == 1 && decide (a ≤ 2))
    keys := [kref d 16 (if gen then 0x09 else 0x0A) (macAlgs a)]
    reads := if inl || len == 0 then [] else [(addr, len)] }

/-- EMV_ARQC_VERIFY and EMV_ARPC_GENERATE (R223 to R225). -/
def bodyEmv (ver : Bool) (win : Nat → Nat → Bool) (d : Bytes) : Body :=
  let cr := u8 d 32
  let m := u8 d 33
  let fl := u8 d 34
  let use := !ver && fl.testBit 1
  let pn := u8 d 62
  let (_, len) := bufAt d 72
  { plainBody (if ver then 12 else 8) none
      ((if use then zeroIn d 16 17 && zeroIn d 35 2 && zeroIn d 38 20
        else krefOk d 16 && decide (cr ≤ 1) && panOk 0 d 40 (u8 d 35) && bcdOk (sub d 36 1) 2) &&
        decide (m ≤ 2) && (ver || m != 0) && !(m == 1 && cr == 1) &&
        (if ver then decide (fl ≤ 1) else fl == 0 || fl == 2 || fl == 6) &&
        (m != 1 || zeroIn d 60 2) && zeroIn d (64 + pn) (8 - pn) &&
        (if ver then bufOk win d 72 else zeroIn d 72 16) && (use || zeroIn d 88 4) &&
        restZero d [(16, 21), (38, 25), (64, 28)]) with
    lens := decide (pn ≤ 8) && (!ver || (decide (8 ≤ len) && decide (len ≤ 256)))
    sess := if use then some (fld d 88 4) else none
    keys := if use then [] else [kref d 16 0x08 (if cr = 0 then [0x80] else aesAlgs)]
    reads := if ver then [bufAt d 72] else [] }

/-- CVC_GENERATE and CVC_VERIFY (R227). -/
def bodyCvc (gen : Bool) (d : Bytes) : Body :=
  let n := u8 d 33
  { plainBody (if gen then 3 else 0) none
      (krefOk d 16 && panOk 0 d 36 (u8 d 32) && decide (3 ≤ n) && decide (n ≤ 5) && bcdOk (sub d 46 2) 4 &&
        bcdOk (sub d 48 2) 3 && (if gen then zeroIn d 50 3 else bcdOk (sub d 50 3) n) &&
        restZero d [(16, 18), (36, 17)]) with
    keys := [kref d 16 (if gen then 0x09 else 0x0A) (0x80 :: aesAlgs)] }

/-! ## Bulk (R229, R232) -/

/-- FPE_FF1 (R229, R230). -/
def bodyFf1 (d : Bytes) : Body :=
  let a := u8 d 33
  let n := u8 d 34
  let t := u8 d 35
  { plainBody n none
      (krefOk d 16 && decide (u8 d 32 ≤ 1) && decide (a ≤ 4) && zeroIn d (36 + t) (32 - t) &&
        (sub d 72 n).all (fun c => (ff1Alphabet a).contains c) && zeroIn d (72 + n) (40 - n) &&
        restZero d [(16, 52), (72, 40)]) with
    lens := decide (ff1Min a ≤ n) && decide (n ≤ 40) && decide (t ≤ 32)
    policy := fun p _ => p.getLsbD 16
    keys := [kref d 16 (if u8 d 32 = 0 then 0x03 else 0x04) aesAlgs] }

/-- XTS_SECTOR (R232). -/
def bodyXts (win : Nat → Nat → Bool) (d : Bytes) : Body :=
  let du := fld d 36 4
  let (_, len) := bufAt d 56
  { plainBody len (some true)
      (krefOk d 16 && decide (u8 d 32 ≤ 1) && bufOk win d 56 && restZero d [(16, 17), (36, 36)]) with
    lens := du % 16 == 0 && decide (16 ≤ du) && decide (du ≤ 65536) && len % du == 0 && decide (16 ≤ len) &&
      decide (len ≤ 131072)
    keys := [kref d 16 (if u8 d 32 = 0 then 0x05 else 0x06) [0x85, 0x86]]
    reads := [bufAt d 56] }

/-! ## Public-key commands (R235 to R238) -/

/-- The LEN of a buffer that holds a public key or a signature of a PK_ALG; no test where the type is undefined. -/
def pkLenOk (a : Nat) (p : Nat × Nat → Nat) (f : Nat → Bool) : Bool := ((pkSizes a).map (fun z => f (p z))).getD true

/-- PK_SIGN and PK_VERIFY (R235). -/
def bodyPkSign (sign : Bool) (win : Nat → Nat → Bool) (d : Bytes) : Body :=
  let a := u8 d 32
  let sch := u8 d 33
  let h := u8 d 34
  let salt := u8 d 35
  let ext := !sign && (u8 d 36).testBit 0
  let sig := ((pkSizes a).map Prod.fst).getD 0
  let pub := ((pkSizes a).map Prod.snd).getD 0
  let msg := bufAt d 48
  { plainBody (if sign then sig else 0) (some sign)
      ((if ext then bufOk win d 16 else krefOk d 16) && (pkSizes a).isSome && schemeOk a sch && decide (h ≤ 2) &&
        (if sign then u8 d 36 == 0 else decide (u8 d 36 ≤ 1)) &&
        (if sch = 3 then bufOk win d 48 && zeroIn d 64 48 else zeroIn d (48 + hashLen h) (64 - hashLen h)) &&
        (sign || bufOk win d 112) && restZero d [(16, 21), (48, 64), (112, 16)]) with
    lens := (!ext || pkLenOk a Prod.snd (fun n => decide (n ≤ (bufAt d 16).2))) &&
      (if sch = 0 then decide (salt ≤ 64) else salt == 0) && (sch != 3 || decide (msg.2 ≤ 4096)) &&
      (sign || pkLenOk a Prod.fst (fun n => n == 0 || n == (bufAt d 112).2))
    policy := fun p _ => !ext || p.getLsbD 18
    keys := if ext then [] else [kref d 16 (if sign then 0x0C else 0x0D) [a]]
    reads := (if ext then [((bufAt d 16).1, pub)] else []) ++ (if sch = 3 ∧ 0 < msg.2 then [msg] else []) ++
      (if sign then [] else [((bufAt d 112).1, sig)]) }

/-- PK_ECDH (R236). -/
def bodyPkEcdh (win : Nat → Nat → Bool) (d : Bytes) : Body :=
  let a := u8 d 32
  let n := u8 d 44
  { plainBody 160 (some true)
      (krefOk d 16 && (isCurve a || a == 0x20) && decide (u8 d 33 ≤ 1) && decide (u8 d 34 ≤ 2) && decide (u8 d 35 ≤ 9) &&
        bufOk win d 48 && zeroIn d (64 + n) (48 - n) && restZero d [(16, 29), (48, 64)]) with
    lens := decide (n ≤ 48) && pkLenOk a Prod.snd (fun z => decide (z ≤ (bufAt d 48).2))
    target := some (fld d 36 8, .new)
    keys := [kref d 16 0x08 [a], tdkRef]
    reads := [((bufAt d 48).1, ((pkSizes a).map Prod.snd).getD 0)] }

/-- An OUT_USAGE that a type admits (R237). -/
def keygenUse (a u : Nat) : Bool :=
  if isRsa a then u == 8 || u == 1 else if isCurve a then u == 8 || u == 4 else if a = 0x21 then u == 8 else u == 4

/-- PK_KEYGEN (R237). -/
def bodyPkKeygen (d : Bytes) : Body :=
  let a := u8 d 16
  { plainBody (160 * algParts a + ((pkSizes a).map Prod.snd).getD 0) (some true)
      ((pkSizes a).isSome && keygenUse a (u8 d 17) && restZero d [(16, 2), (24, 8)]) with
    target := some (fld d 24 8, .new)
    keys := [tdkRef] }

/-- RSA_DECRYPT (R238). -/
def bodyRsaDecrypt (win : Nat → Nat → Bool) (d : Bytes) : Body :=
  let a := u8 d 32
  let sch := u8 d 33
  let n := u8 d 35
  let k := rsaLen a
  { plainBody (if sch = 1 then k - 11 else k - 2 * hashLen (u8 d 34) - 2) (some true)
      (krefOk d 16 && isRsa a && decide (sch ≤ 1) && decide (u8 d 34 ≤ 2) && bufOk win d 40 &&
        zeroIn d (56 + n) (56 - n) && restZero d [(16, 20), (40, 72)]) with
    lens := decide (n ≤ 56) && (k == 0 || (bufAt d 40).2 == k)
    policy := fun p _ => sch != 1 || p.getLsbD 17
    keys := [kref d 16 0x07 [a]]
    reads := [bufAt d 40] }

/-! ## Key management (R283 to R289) -/

/-- KEY_IMPORT_BLOCK (R283). -/
def bodyImport (win : Nat → Nat → Bool) (d : Bytes) : Body :=
  let (_, len) := bufAt d 64
  { plainBody 160 (some true)
      (decide (u8 d 24 ≤ 1) && decide (u8 d 25 ≤ 1) && krefOk d 32 && (zeroIn d 48 16 || krefOk d 48) &&
        bufOk win d 64 && restZero d [(16, 10), (28, 3), (32, 48)]) with
    lens := decide (48 ≤ len) && decide (len ≤ 512)
    target := some (targetOf d, if u8 d 24 = 0 then .new else .next)
    keys := [kref d 32 0x0F (0x80 :: 0x81 :: aesAlgs), parentRef d 48 .use]
    reads := [bufAt d 64] }

/-- KEY_EXPORT_BLOCK (R284). -/
def bodyExport (d : Bytes) : Body :=
  let ver := u8 d 48
  let cls := kbClass (sub d 49 2) (byteOf (u8 d 51))
  { plainBody 144 (some true)
      (krefOk d 16 && krefOk d 32 && (ver == 66 || ver == 68) && cls.isSome && (u8 d 52 == 69 || u8 d 52 == 78) &&
        decide (u8 d 53 < 128) && decide (u8 d 54 < 128) && restZero d [(16, 39)]) with
    keys := [{ kref d 16 0 (0x80 :: 0x81 :: aesAlgs) with cls := cls.toList, exported := true },
      kref d 32 0x0E (if ver = 66 then [0x80, 0x81] else aesAlgs)] }

/-- KEY_GENERATE (R285). -/
def bodyGenerate (d : Bytes) : Body :=
  { plainBody 160 (some true)
      (decide (u8 d 24 ≤ 1) && decide (0x80 ≤ u8 d 25) && decide (u8 d 25 ≤ 0x87) && decide (u8 d 26 ≤ 9) &&
        decide (u8 d 27 ≤ 1) && (zeroIn d 32 16 || krefOk d 32) && restZero d [(16, 12), (32, 16)]) with
    target := some (targetOf d, if u8 d 24 = 0 then .new else .next)
    keys := [parentRef d 32 .use] }

/-- KEY_REPLACE_STAGE (R286). -/
def bodyStage (d : Bytes) : Body :=
  { plainBody 0 (some false)
      (krefOk d 24 && fld d 32 8 == targetOf d && restZero d [(16, 27), (48, 32)]) with
    creates := true
    target := some (targetOf d, .stage)
    keys := [{ kref d 24 0x10 [] with mode := .next }] }

/-- KEY_REPLACE_COMMIT, by ACTION (R287). -/
def bodyReplace (d : Bytes) : Body :=
  let act := u8 d 24
  { plainBody (if act = 2 then 8 else 0) (some false)
      (decide (act ≤ 2) && (act != 2 || zeroIn d 28 4) && restZero d [(16, 9), (28, 4)]) with
    target := some (targetOf d, if act = 2 then .any else .epoch (fld d 28 4)) }

/-- KEY_REVOKE (R288). -/
def bodyRevoke (d : Bytes) : Body :=
  { plainBody 0 none (restZero d [(16, 8)]) with creates := true, target := some (targetOf d, .any) }

/-- KEY_REWRAP (R289). -/
def bodyRewrap (d : Bytes) : Body :=
  { plainBody 2560 (some true)
      (krefOk d 24 && fld d 32 8 == targetOf d && (zeroIn d 40 16 || krefOk d 40) && restZero d [(16, 40)]) with
    target := some (targetOf d, .any)
    keys := [kref d 24 0 [], parentRef d 40 .either] }

/-! ## Random and administration (R394, R597) -/

/-- RANDOM (R394). -/
def bodyRandom (d : Bytes) : Body :=
  let n := fld d 16 4
  { plainBody n none (restZero d [(16, 4)]) with lens := decide (1 ≤ n) && decide (n ≤ 65536) }

/-- KEY_STATE_READ (R597). -/
def bodyKeyState (d : Bytes) : Body :=
  plainBody 8 (some false) (decide (fld d 16 2 ≤ 1024) && restZero d [(16, 2), (24, 8)])

/-- SESSION_CLOSE_ALL (R597). -/
def bodyCloseAll (d : Bytes) : Body := plainBody 0 none (decide (fld d 16 2 ≤ 1024) && restZero d [(16, 2)])

/-- The opcodes defined (R107, R711, R394, R597). -/
def opcodes : List Nat := [0x0101, 0x0102, 0x0103, 0x0201, 0x0202, 0x0301, 0x0302, 0x0401, 0x0402, 0x0410, 0x0411,
  0x0501, 0x0502, 0x0503, 0x0510, 0x0511, 0x0512, 0x0513, 0x0601, 0x0602, 0x0603, 0x0604, 0x0605, 0x0701, 0x0702,
  0x0801, 0x0F01, 0x0F02]

/-- The body of a descriptor. -/
def bodyOf (win : Nat → Nat → Bool) (d : Bytes) : Body :=
  match opcodeOf d with
  | 0x0101 => bodyPinTranslate d
  | 0x0102 => bodyPinOffset false d
  | 0x0103 => bodyPinOffset true d
  | 0x0201 => bodyDukptPin d
  | 0x0202 => bodyDukptMac win d
  | 0x0301 => bodyMac true win d
  | 0x0302 => bodyMac false win d
  | 0x0401 => bodyEmv true win d
  | 0x0402 => bodyEmv false win d
  | 0x0410 => bodyCvc true d
  | 0x0411 => bodyCvc false d
  | 0x0501 => bodyImport win d
  | 0x0502 => bodyExport d
  | 0x0503 => bodyGenerate d
  | 0x0510 => bodyStage d
  | 0x0511 => bodyReplace d
  | 0x0512 => bodyRevoke d
  | 0x0513 => bodyRewrap d
  | 0x0601 => bodyPkSign true win d
  | 0x0602 => bodyPkSign false win d
  | 0x0603 => bodyPkEcdh win d
  | 0x0604 => bodyPkKeygen d
  | 0x0605 => bodyRsaDecrypt win d
  | 0x0701 => bodyXts win d
  | 0x0702 => bodyFf1 d
  | 0x0801 => bodyRandom d
  | 0x0F01 => bodyKeyState d
  | 0x0F02 => bodyCloseAll d
  | _ => plainBody 0 none false

/-- The room test of R128. -/
def roomOk (b : Body) (d : Bytes) : Bool :=
  if outPtr d then decide (b.room ≤ (outBuf d).2) else decide (b.room ≤ 40)

/-- Check 5 of R123 in the order of R714: the length tests, the room, the required OUT_PTR; then the field values. -/
def check5 (win : Nat → Nat → Bool) (d : Bytes) : Nat :=
  let b := bodyOf win d
  if !b.lens || !roomOk b d || !(b.out.map (fun v => v == outPtr d)).getD true then 0x1002
  else if !b.fields || !outOk win d then 0x1003
  else 0

/-! ## Cost classes (R144, R156, R350, R351) -/

/-- Division rounded up. -/
def ceilDiv (a b : Nat) : Nat := (a + b - 1) / b

/-- The tabled cycles of a class 3 item: the typical value for key generation (R350, R351). -/
def pkCycles (d : Bytes) : Nat :=
  let kg := opcodeOf d == 0x0604
  let a := if kg then u8 d 16 else u8 d 32
  let rsa := fun (x y z : Nat) => match a with | 1 => x | 2 => y | _ => z
  let ec := fun (p q r s t : Nat) => match a with | 0x10 => p | 0x11 => q | 0x12 => r | 0x18 => s | _ => t
  let more := ceilDiv ((bufAt d 48).2 - 47) 128
  match opcodeOf d with
  | 0x0601 => if isRsa a then rsa 480000 1280000 3200000 else if a = 0x21 then 144000 + 3200 * more
      else ec 160000 384000 864000 200000 480000
  | 0x0602 => if isRsa a then rsa 16000 36000 64000 else if a = 0x21 then 288000 + 1600 * more
      else ec 411400 960000 2160000 514000 1200000
  | 0x0603 => if a = 0x20 then 144000 else ec 180000 430000 960000 225000 535000
  | 0x0604 => if isRsa a then rsa 108000000 360000000 1080000000 else if a = 0x20 ∨ a = 0x21 then 144000
      else ec 144000 346000 778000 180000 432000
  | _ => rsa 492000 1292000 3212000

/-- The steps of segments of at most 65,536 bytes, at `cpb` cycles a block of `bs` bytes, `extra` at the last (R156,
R318). -/
def segSteps (seg bs cpb extra : Nat) : Nat → Nat → Nat
  | 0, _ => 0
  | f + 1, n =>
    if n = 0 then 0
    else if n ≤ seg then ceilDiv (32 + ceilDiv n bs * cpb + extra) 6000
    else ceilDiv (32 + ceilDiv seg bs * cpb) 6000 + segSteps seg bs cpb extra f (n - seg)

/-- The step count of a class 4 item (R156). The size of an AES key is not known at arrival: the slowest is taken. -/
def bulkSteps (d : Bytes) : Nat :=
  match opcodeOf d with
  | 0x0801 => 2
  | 0x0701 =>
    let du := fld d 36 4
    segSteps (max 16 (65536 / max 1 du * du)) 16 1 0 8192 (min 131072 (bufAt d 56).2) + 1
  | _ => if macTdea (u8 d 32) then segSteps 65536 8 3 (if u8 d 32 = 2 then 6 else 0) 5 (min 262144 (bufAt d 40).2) + 1
    else segSteps 65536 16 14 0 5 (min 262144 (bufAt d 40).2) + 1

/-- The cost class and the cost of an item in units (R144). -/
def costOf (d : Bytes) : Nat × Nat :=
  let op := opcodeOf d
  let n := (bufAt d 40).2
  let four := (4, 5 * bulkSteps d)
  match op / 256 with
  | 3 => if n ≤ 256 then (0, 5) else if n ≤ 4096 then (1, 10) else four
  | 4 => if op = 0x0410 ∨ op = 0x0411 then (0, 5) else (1, 10)
  | 5 => (2, 20)
  | 6 => (3, ceilDiv (pkCycles d) 1200)
  | 7 => if op = 0x0702 then (1, 10) else four
  | 8 => if fld d 16 4 ≤ 1024 then (0, 5) else four
  | 15 => (5, 20)
  | _ => (1, 10)

end Sys2Proof.Machine
end

