-- ==== Sys2Proof/Machine/Start.lean ====
section
/-! DEFINITION. Stages 5 to 9 of R123 at a pier: check 5, session handles, policy, the binding of keys with their use
check, and the input reads; and the completion of key fills and of host reads. -/

namespace Sys2Proof.Machine

/-! ## Guards and outcomes -/

/-- A guard on a key's word, or on the TDK's epoch for key ID 0 (R281). -/
def State.guardOf (s : State) (t kid : Nat) : Guard :=
  let w : GWord := if kid = 0 then .tdkEpoch t else .keyState t (BitVec.ofNat 64 kid)
  ⟨w, s.gword w⟩

/-- The outcome of an item's attempt is decided: it waits for its post (R157). -/
def State.finish (d : Nat) (p : Post) (s : State) : State := s.modEnt d (fun e => { e with phase := .finished p })

/-- An attempt ends with an error status: no result and no intents (R129); the guards read so far stand (R281). -/
def State.fail (d : Nat) (status : Nat) (s : State) : State :=
  s.modEnt d (fun e => { e with phase := .finished ⟨status, [], [], e.post.guards⟩ })

/-! ## Stage 8 (R242, R276, R280, R282) -/

/-- The member number (R619): 0 when the module is not enrolled. -/
def State.member (s : State) : Nat := (s.ancGet 0x0D).toNat % 65536

/-- The module is an enrolled member of a cluster. -/
def State.enrolled (s : State) : Bool := s.member != 0

/-- ANC_CL_QUAR marks this member for a tenant (R437). -/
def State.quarMarked (s : State) (t : Nat) : Bool := (s.ancGet (0x208 + t / 64)).getLsbD (t % 64)

/-- This member is quarantined for a tenant (R420, R425, R437). -/
def State.quarantinedFor (s : State) (t : Nat) : Bool := s.enrolled && (s.trs.quarAll || s.quarMarked t)

/-- The usage classes that a KEY_OP of R311 admits; `none` for an undefined one. -/
def opClasses (op : Nat) : Option (List Nat) :=
  match op with
  | 0x01 => some [0] | 0x02 => some [1] | 0x03 => some [0] | 0x04 => some [1] | 0x05 => some [0] | 0x06 => some [1]
  | 0x07 => some [1] | 0x08 => some [4] | 0x09 => some [5] | 0x0A => some [6] | 0x0B => some [7] | 0x0C => some [8]
  | 0x0D => some [9] | 0x0E => some [2] | 0x0F => some [3] | 0x10 => some [0, 1, 2, 3, 4, 5, 6, 7, 8, 9]
  | _ => none

/-- The use check of step 9: class, algorithm and, for an export, EXPORTABLE (R190, R244, R280, R284). -/
def KRef.permits (r : KRef) (h : Bytes) : Bool :=
  (if r.use = 0 then r.cls.contains (hUsage h) else ((opClasses r.use).getD []).contains (hUsage h)) &&
    (r.algs.isEmpty || r.algs.contains (hAlg h)) && (!r.exported || (hFlags h).testBit 0)

/-- The header of a bound slot. -/
def State.slotHdr (s : State) (k : Nat) : Bytes := ((tblGet none s.keys.t1 k).map (fun (x : Slot) => x.hdr)).getD []

/-- Record a binding in the bind record, at its reference's place (R277). -/
def putBind (b : Bind) : List Bind → List Bind
  | [] => [b]
  | x :: xs => if x.ref = b.ref then b :: xs else x :: putBind b xs

/-- The bind record of a reference. -/
def bindOf (l : List Bind) (i : Nat) : Option Bind := l.find? (fun b => b.ref == i)

/-- The guards that a binding adds: the PARENT's word for the two commands that create keys, the NEW blob's parent's word
for a STAGE (R281). -/
def State.bindGuards (s : State) (e : Entry) (r : KRef) (h : Bytes) : List Guard :=
  match opcodeOf e.desc with
  | 0x0501 | 0x0503 => if r.use = 0 then [s.guardOf e.fn (if r.tdk then 0 else r.kid)] else []
  | 0x0510 => [s.guardOf e.fn (hParent h)]
  | _ => []

/-- Stage 9: the next input read, or stage 10 when the staged copy holds every read (R123, R170). -/
def State.startInput (d : Nat) (reads : List (Nat × Nat)) (s : State) : State :=
  match s.entOf d with
  | none => s
  | some e =>
    match reads.drop e.inputs.length with
    | [] => s.setEnt d { e with phase := .exec }
    | (a, n) :: rest =>
      if e.gen ≠ (s.tnOf e.fn).gen then s.fail d 0x1005
      else (s.setEnt d { e with phase := .input ((a, n) :: rest) }).emit (.hostRead e.fn a n)

/-- Bind the references from place `i` on, in order; each bound key is checked and pinned before the next (R276). `t2ok`
says that a tier-two install has completed. -/
def State.bindFrom (d : Nat) (t2ok : Bool) (reads : List (Nat × Nat)) : Nat → List KRef → State → State
  | _, [], s => s.startInput d reads
  | i, r :: rs, s =>
    match s.entOf d with
    | none => s
    | some e =>
      let old := bindOf e.binds i
      if (old.map (fun b => !b.slots.isEmpty)).getD false then s.bindFrom d t2ok reads (i + 1) rs
      else
        let ctx : BCtx := ⟨e.fn, e.fetched, t2ok, (old.map (fun b => (b.keyId, b.epoch) :: b.anc)).getD []⟩
        match bindRef ctx r s with
        | .ok ks s =>
          let h := s.slotHdr (ks.headD 0)
          if !r.permits h then
            (if r.use = 0 then s else { s with keys.cntUsage := s.keys.cntUsage + 1 }).fail d stKeyUsage
          else
            let s := ks.foldl (fun s k => s.pinSlot k) s
            let b : Bind := ⟨i, ks, hKeyId h, hEpoch h, (slotAnc s.keys.t1 8 (ks.headD 0)).drop 1⟩
            let s := s.modEnt d (fun e => { e with
              binds := putBind b e.binds
              post := { e.post with guards := e.post.guards ++ s.bindGuards e r h } })
            s.bindFrom d false reads (i + 1) rs
        | .fail st s => s.fail d st
        | .wait s => s.modEnt d (fun e => { e with phase := .binding none })
        | .need none s => s.modEnt d (fun e => { e with phase := .binding none })
        | .need (some a) s =>
          if e.gen ≠ (s.tnOf e.fn).gen then s.fail d 0x1005
          else (s.modEnt d (fun e => { e with phase := .binding (some a) })).emit (.hostRead e.fn a 160)

/-- A host address range lies in the tenant's window (R67). -/
def State.winOk (s : State) (t a n : Nat) : Bool :=
  decide ((s.tnOf t).winBase.toNat ≤ a) && decide (a + n ≤ (s.tnOf t).winBase.toNat + (s.tnOf t).winSize.toNat)

/-- The body of an item. -/
def State.bodyFor (s : State) (e : Entry) : Body := bodyOf (s.winOk e.fn) e.desc

/-- Continue stage 8 of an item from its first unbound reference. -/
def State.bindOn (d : Nat) (t2ok : Bool) (s : State) : State :=
  match s.entOf d with
  | none => s
  | some e =>
    let b := s.bodyFor e
    s.bindFrom d t2ok b.reads 0 b.keys

/-- A key ID that names no key of the tenant's directory (R242). -/
def badKeyId (kid : Nat) : Bool := kid == 0 || kid == 0xFFFFFFFFFFFFFFFF

/-- Stage 8: the quarantine, the target's ID and its word, then the bindings (R242, R276, R282). -/
def State.stage8 (d : Nat) (e : Entry) (b : Body) (s : State) : State :=
  let needs := !b.keys.isEmpty || b.target.isSome || b.sess.isSome
  if needs && s.quarantinedFor e.fn then s.fail d 0x6001
  else
    match b.target with
    | none => s.bindOn d false
    | some (kid, c) =>
      if badKeyId kid then s.fail d stKeyUsage
      else
        let s := s.modEnt d (fun e => { e with post := { e.post with guards := [s.guardOf e.fn kid] } })
        if !c.ok (s.keyWord e.fn kid) then s.fail d stReplacePending else s.bindOn d false

/-- Stage 6: the handle resolved at arrival, and what the session's own fields forbid (R199, R219, R225). -/
def sessStatus (e : Entry) (b : Body) : Nat :=
  match b.sess, e.sess with
  | none, _ => 0
  | some _, none => 0x1006
  | some _, some (_, x) =>
    if opcodeOf e.desc = 0x0202 then
      if u8 e.desc 32 = x.data.variant ∧ u8 e.desc 33 = x.data.wk then 0 else 0x1003
    else if u8 e.desc 33 = 1 ∧ x.data.variant = 1 then 0x1003
    else 0

/-- The key state record that a command would create lies beyond the tenant's share or the table (R261). -/
def State.ketFull (s : State) (t kid : Nat) : Bool :=
  s.keyWord t kid == 0 && (decide (s.ketShare t ≤ s.ketUsed t) || decide (131072 ≤ s.keys.ket.length))

/-- The pier starts an attempt from the descriptor (R123, R169): stages 5 to 9. -/
def State.startItem (d : Nat) (s : State) : State :=
  match s.entOf d with
  | none => s
  | some e0 =>
    let e := { e0 with post := ⟨0, [], [], []⟩, fetched := [], phase := .idle }
    let s := s.setEnt d e
    let b := s.bodyFor e
    match check5 (s.winOk e.fn) e.desc with
    | 0 =>
      match sessStatus e b with
      | 0 =>
        if !b.policy e.policy e.dectab then s.fail d 0x3001
        else
          match b.target with
          | some (kid, _) =>
            if b.creates && s.ketFull e.fn kid then
              (s.modEnt d (fun e => { e with post := { e.post with guards := [s.guardOf e.fn kid] } })).fail d 0x3001
            else s.stage8 d e b
          | none => s.stage8 d e b
      | st => s.fail d st
    | st => s.fail d st

/-! ## Completions of reads (R68, R274, R275) -/

/-- The code of a read error in event 0x040A (R715). -/
def readErrCode : ReadErr → Nat
  | .unsupported => 0
  | .abort => 1
  | .poisoned => 2
  | .timeout => 3

/-- A read for an item ends in error: the event, and HOST_READ_ERROR (R68, R275). -/
def State.readFailed (d : Nat) (what : Nat) (r : ReadErr) (s : State) : State :=
  match s.entOf d with
  | none => s
  | some e => (s.event 1136 0x040A e.fn d what (readErrCode r)).fail d 0x1005

/-- A pier or an engine still works on the item. -/
def Entry.active (e : Entry) : Bool := e.st == .running || e.st == .orphan

/-- KEY_FILL_COMPLETE (R274, R275, R292): a tier-two install, or a blob's host read, completes and the binding goes on
from the state that it meets now. -/
def execKeyFillComplete (d : Idx) (r : HostRead) (s : State) : Host.Outcome State Fault Refusal :=
  match s.entOf d with
  | none => .next s
  | some e =>
    if !e.active then .next s
    else
      match e.phase, r with
      | .binding none, _ => .next (s.bindOn d true)
      | .binding (some a), .data b =>
        if b.length = 160 then .next ((s.setEnt d { e with fetched := (a, b) :: e.fetched }).bindOn d false) else .next s
      | .binding (some _), .error x =>
        .next ({ s with keys.cntFillErr := s.keys.cntFillErr + 1 }.readFailed d 1 x)
      | _, _ => .next s

/-- INPUT_READ_COMPLETE (R68, R170): read `n` of the item's input completes; the data is staged. -/
def execInputReadComplete (d : Idx) (n : Nat) (r : HostRead) (s : State) : Host.Outcome State Fault Refusal :=
  match s.entOf d with
  | none => .next s
  | some e =>
    if !e.active then .next s
    else
      match e.phase, r with
      | .input ((_, len) :: _), .data b =>
        if n = e.inputs.length ∧ b.length = len then
          .next ((s.setEnt d { e with inputs := e.inputs ++ [b] }).startInput d (s.bodyFor e).reads)
        else .next s
      | .input (_ :: _), .error x => if n = e.inputs.length then .next (s.readFailed d 0 x) else .next s
      | _, _ => .next s

end Sys2Proof.Machine
end

