-- ==== Sys2Proof/Machine/EngBase.lean ====
section
/-! DEFINITION. The engines as the other units meet them: their records, responses, bays and the cancelling of requests
(07 R305, R323, 08 R346, R355). -/

namespace Sys2Proof.Machine

/-- An engine. -/
def State.engOf (s : State) (e : Nat) : Eng := tblGet ({} : Eng) s.eng.eng e
/-- Write an engine. -/
def State.setEng (e : Nat) (x : Eng) (s : State) : State := { s with eng.eng := tblSet {} e x s.eng.eng }
/-- Change an engine. -/
def State.modEng (e : Nat) (f : Eng → Eng) (s : State) : State := s.setEng e (f (s.engOf e))

/-- The bay of an engine: 0 to 3 cipher, 4 and 5 hash, 6 to 11 public-key (R16). -/
def bayOf (e : Nat) : Nat := if e < 32 then e / 8 else if e < 48 then 4 + (e - 32) / 8 else 6 + (e - 48) / 8

/-- The index of a bay. -/
def bayIx : Bay → Nat
  | .cipher b => b
  | .hash b => 4 + b
  | .pk b => 6 + b

/-- The engines of a bay. -/
def bayEngines (b : Nat) : List Nat := (List.range 96).filter (fun e => bayOf e == b)

/-- The power state of a bay. -/
def State.bayOf (s : State) (b : Nat) : BaySt := tblGet .powered s.clk.bays b
/-- Set the power state of a bay. -/
def State.setBay (b : Nat) (x : BaySt) (s : State) : State := { s with clk.bays := tblSet .powered b x s.clk.bays }

/-- A bay is marked parked in SCE_BAY_PARK or PKS_BAY_PARK (R328, R366). -/
def State.parkMarked (s : State) (b : Nat) : Bool := if b < 6 then s.eng.scePark.getLsbD b else s.eng.pksPark.getLsbD (b - 6)

/-- An engine takes placements: in service, marked loaded if public-key, its bay not parked (R321, R339). -/
def State.engReady (s : State) (e : Nat) : Bool :=
  (s.engOf e).st == .inService && (e < 48 || (s.engOf e).loaded) && !s.parkMarked (Machine.bayOf e)

/-- The event source of an engine (R42, R715). -/
def engSource (e : Nat) : Nat := 1040 + e

/-- A response on a pier's response port (R305). -/
def State.respond (pier : Nat) (r : Resp) (s : State) : State :=
  ({ s with eng.ports := tblMod [] pier (fun l => l ++ [r]) s.eng.ports }).emit (.response pier r.status r.result)

/-- A response without output. -/
def bareResp (q : Req) (status : Nat) : Resp := ⟨q.deckIdx, q.attempt, status, 0, 0, []⟩

/-- Slots that a request installed lose the pin taken for its item (R314, R355). -/
def State.dropSlots (ks : List Nat) (s : State) : State := { s with keys.t1 := ks.foldl unpinSlot s.keys.t1 }

/-- The chain registers are cleared (R302). -/
def Eng.clearRegs (x : Eng) : Eng := { x with pin := none, ckey := none, cdata := none }

/-- Cancel the requests of an item in one engine: queued entries are removed, the running one stops, and each is answered
CANCELLED (R323, R355); a running request that carries SCRUB_AFTER leaves SCRUB_PENDING (R347). -/
def State.cancelIn (d e : Nat) (s : State) : State :=
  let x := s.engOf e
  let mine := x.q.filter (fun (y : QEnt) => y.req.deckIdx == d)
  if mine.isEmpty then s
  else
    let headMine := (x.q.head?.map (fun (y : QEnt) => y.req.deckIdx == d)).getD false
    let after := (x.q.head?.map (fun (y : QEnt) => y.first.isSome && y.req.aux.testBit 11)).getD false
    let x := { x with q := x.q.filter (fun (y : QEnt) => y.req.deckIdx != d) }
    let x := if headMine then x.clearRegs else x
    let x := if headMine && after && decide (48 ≤ e) then { x with scrubPending := true } else x
    let s := s.setEng e x
    let s := if e < 48 then { s with eng.sceCntCancel := s.eng.sceCntCancel + w64 mine.length } else s
    mine.foldl (fun s y => (s.dropSlots y.slots).respond y.req.pier (bareResp y.req 0x07)) s

/-- Cancel every request of an item (R323). -/
def State.cancelReqs (d : Nat) (s : State) : State := (s.eng.eng.map Prod.fst).foldl (fun s e => s.cancelIn d e) s

/-- A scrub of a public-key engine: its operand memory reads zero, DIRTY and SCRUB_PENDING clear (R346). -/
def State.scrub (e : Nat) (s : State) : State :=
  ({ s with eng.pksCntScrub := s.eng.pksCntScrub + 1 }).modEng e (fun x =>
    { x with opmem := [], dirty := false, scrubPending := false, scrubbing := false })

/-- A bay loses its power: queues and memories start anew with their valid bits clear (R32). -/
def State.bayOff (b : Nat) (s : State) : State :=
  (bayEngines b).foldl (fun s e => s.modEng e (fun x =>
    { x.clearRegs with q := [], opmem := [], dirty := false, owner := 0, scrubPending := false, scrubbing := false })) s

end Sys2Proof.Machine
end

