-- ==== Sys2Proof/Machine/Replay.lean ====
section
/-! DEFINITION. The take port and grants, replays, pier quarantine and the monitors of the piers (04 R145 to R156, R167 to
R177). -/

namespace Sys2Proof.Machine

/-! ## Module reset requests (R177, R663) -/

/-- The MSS asks for a module reset with the cause that MSS_RESET_CAUSE will show (R679): no further grant, release or fetch,
and every coalesced anchor write is issued, unless the fabric has no clock (R663). An earlier request stands; one under quiesce
is absorbed (R676). -/
def State.requestReset (cause : BitVec 4) (s : State) : State :=
  if s.boot.request.isSome || s.pwr.quiesce then s
  else
    let s := { s with boot.request := some cause, dsp.noGrant := true, deck.noRelease := true, hiu.noFetch := true }
    if s.clk.stopped then s else s.flushKeySeq

/-! ## Replays (R169, R172, R323) -/

/-- Staged results of the attempt are dropped and its pins end; the staged inputs stay (R169, R170, R277). -/
def State.dropAttempt (d : Nat) (s : State) : State :=
  (s.cancelReqs d |>.endPins d).modEnt d (fun e =>
    { e with phase := .idle, post := ⟨0, [], [], []⟩, fetched := [] })

/-- The item becomes HELD after its third fault (R172, R185, R715). -/
def State.holdItem (d : Nat) (s : State) : State :=
  match s.entOf d with
  | none => s
  | some e =>
    let f := flowIdOf e.desc + b2n (keyFlowOp (opcodeOf e.desc)) * 2 ^ 24
    let s := (s.setEnt d { e with st := .held, pier := none, onReplay := false }).event 1138 0x0404 e.fn f (opcodeOf e.desc) d
    { s with deck.heldLast := w32 (d + e.fn * 2 ^ 15 + 2 ^ 31) }

/-- Restart: the same pier runs the item again (R169). An ORPHAN's work ends instead. -/
def State.restart (d : Nat) (s : State) : State :=
  match s.entOf d with
  | none => s
  | some e =>
    match e.st with
    | .orphan => (s.cancelReqs d |>.releasePier e.pier).leave d
    | .running =>
      let s := s.dropAttempt d
      if e.attempt = 2 then (s.releasePier e.pier).holdItem d
      else
        ({ s with dsp.cntReplay := s.dsp.cntReplay + 1 }).modEnt d (fun e => { e with attempt := e.attempt + 1 })
          |>.startItem d
    | _ => s

/-- The pointer of the entry order into the replay list moves past the pier that held the item (R169, R178). -/
def State.replayMove (p : Option Nat) (s : State) : State :=
  match p with
  | none => s
  | some p => { s with dsp.replayPtr := (p + 1) % 128 }

/-- An item enters the replay list at its tail (R169). -/
def State.toReplay (d : Nat) (s : State) : State := { s with dsp.replayList := s.dsp.replayList ++ [d] }

/-- Re-dispatch: the item goes to the tail of the replay list (R169). An ORPHAN's work ends instead. The pier that held it
is dealt with by the caller. -/
def State.redispatch (d : Nat) (s : State) : State :=
  match s.entOf d with
  | none => s
  | some e =>
    match e.st with
    | .orphan => (s.cancelReqs d).leave d
    | .running | .done =>
      let s := s.dropAttempt d
      if e.attempt = 2 then s.holdItem d
      else
        let s := ({ s with dsp.cntReplay := s.dsp.cntReplay + 1 }).modEnt d (fun e => { e with
          attempt := e.attempt + 1, st := .ready, onReplay := true, replay := true, pier := none })
        (s.replayMove e.pier).toReplay d
    | _ => s

/-! ## Pier quarantine (R175, R176) -/

/-- Piers kept out. -/
def State.piersOut (s : State) : Nat := ((List.range 128).filter (fun p => s.pierOf p == .out)).length

/-- A pier is kept out; when every pier is, the MSS performs a module reset (R176, R177). -/
def State.keepOutPier (p cause : Nat) (s : State) : State :=
  let s := (s.setPier p .out).event (1024 + p / 8) 0x0403 p cause 0 0
  if s.piersOut = 128 then s.requestReset 1 else s

/-- A pier fault: the pier is quarantined and the item it holds is re-dispatched (R167, R175, R176). -/
def State.pierFails (p cause : Nat) (s : State) : State :=
  let held : Option Nat := match s.pierOf p with
    | .holding d => some d
    | _ => none
  match s.pierOf p with
  | .quarantined | .out | .parked => s
  | _ =>
    let q := tblGet 0 s.dsp.quar p + 1
    let s := { s with dsp.quar := tblSet 0 p q s.dsp.quar }
    let s := (s.setPier p .quarantined).event (1024 + p / 8) 0x0401 p cause (held.getD 0xFFFFFFFF) q
    let s := s.clearInst .pierLocal p
    let s := match held with
      | some d => s.redispatch d
      | none => s
    if 3 ≤ q then s.keepOutPier p 2 else s

/-! ## The take port and the grant (R145 to R152) -/

/-- Piers waiting at their take ports, which may be granted an item (R152). -/
def State.waitingPiers (s : State) : Nat := (s.dsp.piers.filter (fun x => x.2 == .waiting)).length

/-- DSP_STATUS.LONG: piers that hold class 3 or 4 items (R182). -/
def State.longPiers (s : State) : Nat :=
  (s.held.filter (fun x => (x.2.st == .running || x.2.st == .orphan) && x.2.pier.isSome && (x.2.cls == 3 || x.2.cls == 4))).length

/-- DSP_CTRL.LONG_MAX, 0 treated as 1 (R181). -/
def State.longMax (s : State) : Nat := max 1 ((s.dsp.ctrl >>> 8).setWidth 8).toNat

/-- DSP_CTRL.RESERVE (R181). -/
def State.reserve (s : State) : Nat := ((s.dsp.ctrl >>> 1).setWidth 3).toNat

/-- The dispatcher makes grants: EN is 1 and nothing has stopped it (R181, R520, R636). -/
def State.granting (s : State) : Bool := s.dsp.ctrl.getLsbD 0 && !s.dsp.noGrant && !s.clk.stopped

/-- The earlier-arrived of two items. -/
def earlier (a b : Option (Nat × Entry)) : Option (Nat × Entry) :=
  match a, b with
  | none, x => x
  | x, none => x
  | some x, some y => if y.2.arrival < x.2.arrival then some y else some x

/-- The earliest-arrived item of a list. -/
def earliest (l : List (Nat × Entry)) : Option (Nat × Entry) := l.foldl (fun a x => earlier a (some x)) none

/-- The READY items on ready lists: not on the replay list (R142). -/
def State.readyItems (s : State) : List (Nat × Entry) := s.held.filter (fun x => x.2.st == .ready && !x.2.onReplay)

/-- An item is a possible head: a class 3 or 4 item only while LONG_MAX allows it (R143). -/
def headAllowed (long : Bool) (x : Nat × Entry) : Bool := !(x.2.cls == 3 || x.2.cls == 4) || long

/-- The eligible head of a tenant at a level among the allowed items: the earlier-arrived of its two lists (R143, R145). -/
def headOf (items : List (Nat × Entry)) (lvl t : Nat) : Option (Nat × Entry) :=
  earliest (items.filter (fun x => x.2.prio == lvl && x.2.fn == t))

/-- The next tenant after `t`, in tenant order, with an eligible head at a level. -/
def nextTenant (items : List (Nat × Entry)) (lvl t : Nat) : Nat :=
  let ts := (items.filter (fun x => x.2.prio == lvl)).map (fun x => x.2.fn)
  let key := fun (u : Nat) => (u + 1025 - t - 1) % 1025
  ts.foldl (fun best u => if key u < key best then u else best) (ts.headD t)

/-- The dispatcher's selection state at a level: turn, freshness, deficits. -/
structure Sel where
  turn : Nat
  visited : Bool
  deficit : Tbl Nat

/-- The loop of R145 at one level; `fuel` bounds its rounds. -/
def selectAt (items : List (Nat × Entry)) (weight : Nat → Nat) (lvl : Nat) : Nat → Sel → Option ((Nat × Entry) × Sel)
  | 0, _ => none
  | fuel + 1, x =>
    let t := x.turn
    let k := 2048 * lvl + t
    let x := if x.visited then x else { x with deficit := tblMod 0 k (· + 16 * weight t) x.deficit, visited := true }
    match headOf items lvl t with
    | none =>
      selectAt items weight lvl fuel ⟨nextTenant items lvl t, false, tblSet 0 k 0 x.deficit⟩
    | some h =>
      if h.2.cost ≤ tblGet 0 x.deficit k then some (h, { x with deficit := tblMod 0 k (· - h.2.cost) x.deficit })
      else selectAt items weight lvl fuel ⟨nextTenant items lvl t, false, x.deficit⟩

/-- The ready-list item that a grant takes, and the state of the selection after it (R145, R146). -/
def State.selectReady (s : State) : Option (Nat × State) :=
  let long := decide (s.longPiers < s.longMax)
  let items := s.readyItems.filter (headAllowed long)
  match [3, 2, 1, 0].find? (fun l => items.any (fun x => x.2.prio == l)) with
  | none => none
  | some l =>
    let sel : Sel := ⟨tblGet 0 s.dsp.turn l, tblGet false s.dsp.visited l, s.dsp.deficit⟩
    let weight := fun (t : Nat) => ((s.tnOf t).sched.setWidth 8).toNat
    match selectAt items weight l 134217728 sel with
    | none => none
    | some (h, x) =>
      some (h.1, { s with
        dsp.turn := tblSet 0 l x.turn s.dsp.turn
        dsp.visited := tblSet false l x.visited s.dsp.visited
        dsp.deficit := x.deficit })

/-- The 64-bit handle of R149. -/
def handleOf (d : Nat) (e : Entry) : DWord :=
  w64 (d + b2n e.replay * 2 ^ 15 + e.fn * 2 ^ 16 + e.gen.toNat * 2 ^ 32 + e.cls * 2 ^ 48 + e.attempt * 2 ^ 51)

/-- A pier takes an item and starts its attempt (R149, R150). -/
def State.grantTo (p d : Nat) (s : State) : State :=
  match s.entOf d with
  | none => s
  | some e =>
    let s := s.setEnt d { e with st := .running, pier := some p, onReplay := false }
    let s := ({ s with dsp.pierPtr := (p + 1) % 128 }).setPier p (.holding d)
    (s.emit (.handle p (handleOf d e))).startItem d

/-- ITEM_GRANT (R145, R150, R151): the first waiting pier at or after the pointer is granted the head of the replay list,
or a ready-list item while more than RESERVE piers wait. -/
def execItemGrant (s : State) : Host.Outcome State Fault Refusal :=
  if !s.granting then .next s
  else
    match rotPier s with
    | none => .next s
    | some p =>
      match s.dsp.replayList with
      | d :: rest => .next (({ s with dsp.replayList := rest }).grantTo p d)
      | [] =>
        if s.waitingPiers ≤ s.reserve then .next s
        else
          match s.selectReady with
          | none => .next s
          | some (d, s) => .next (s.grantTo p d)
where
  /-- The first waiting pier at or after the pointer. -/
  rotPier (s : State) : Option Nat :=
    ((List.range 128).map (fun i => (s.dsp.pierPtr + i) % 128)).find? (fun p => s.pierOf p == .waiting)

/-- TAKE_PORT_READ (R149, R152): an idle pier stalls at its take port; a pier that the planner has marked parks instead. -/
def execTakePortRead (p : PierNo) (s : State) : Host.Outcome State Fault Refusal :=
  match s.pierOf p with
  | .idle =>
    if tblGet false s.dsp.parkNext p then
      .next (({ s with dsp.parkNext := tblSet false p false s.dsp.parkNext }).setPier p .parked)
    else .next (s.setPier p .waiting)
  | _ => .next s

/-! ## The monitors (R153 to R156, R167) -/

/-- The watchdog and stall faults are counted (R180). -/
def State.countWdog (s : State) : State := { s with dsp.cntWdog := s.dsp.cntWdog + 1 }

/-- ITEM_WATCHDOG_EXPIRY (R153): a pier overrun on an item of class 0, 1, 2 or 5 outside monitored waits (R154). -/
def execItemWatchdogExpiry (p : PierNo) (s : State) : Host.Outcome State Fault Refusal :=
  match s.pierOf p with
  | .holding d =>
    match s.entOf d with
    | some e =>
      let waits : Bool := match e.phase with
        | .binding _ | .input _ => true
        | _ => false
      if e.cls = 3 ∨ e.cls = 4 ∨ waits then .next s else .next (s.countWdog.pierFails p 3)
    | none => .next s
  | _ => .next s

/-- PIER_STALL_DETECT (R155): a pier in service that retires nothing outside its take port and monitored waits. -/
def execPierStallDetect (p : PierNo) (s : State) : Host.Outcome State Fault Refusal :=
  match s.pierOf p with
  | .holding d =>
    let waits : Bool := match s.entOf d with
      | some e => (match e.phase with
        | .binding _ | .input _ => true
        | _ => false)
      | none => false
    if waits then .next s else .next (s.countWdog.pierFails p 2)
  | .idle => .next (s.countWdog.pierFails p 2)
  | _ => .next s

/-- PIER_FAULT (R167, R175): a dual-decision mismatch, or an uncorrectable word of the pier's local memory. -/
def execPierFault (p : PierNo) (localMemory : Bool) (s : State) : Host.Outcome State Fault Refusal :=
  .next (s.pierFails p (b2n localMemory))

/-- PIER_SELF_TEST_END (R175, R176): a pass returns the pier to its take port, a failure keeps it out. -/
def execPierSelfTestEnd (p : PierNo) (pass : Bool) (s : State) : Host.Outcome State Fault Refusal :=
  if s.pierOf p ≠ .quarantined then .next s
  else
    let s := s.event (1024 + p / 8) 0x0402 p (b2n !pass) 0 0
    if pass then .next (s.setPier p .idle) else .next (s.keepOutPier p 1)

end Sys2Proof.Machine
end

