-- ==== Sys2Proof/Machine/Rng.lean ====
section
/-! DEFINITION. The random number generator (09_random_numbers.md): sources and their health tests, seeds, the CTR_DRBG
expanders and the draws. -/

namespace Sys2Proof.Machine

/-! ## Reading and changing the parts -/

/-- A noise source. -/
def State.srcOf (s : State) (n : Nat) : Src := tblGet {} s.rng.src n
/-- Write a noise source. -/
def State.setSrc (n : Nat) (x : Src) (s : State) : State := { s with rng.src := tblSet {} n x s.rng.src }
/-- An expander. -/
def State.expOf (s : State) (i : Nat) : Exp := tblGet {} s.rng.exp i
/-- Write an expander. -/
def State.setExp (i : Nat) (x : Exp) (s : State) : State := { s with rng.exp := tblSet {} i x s.rng.exp }

/-- A source is healthy (R375). -/
def State.srcHealthy (s : State) (n : Nat) : Bool := (s.srcOf n).st == 1
/-- RNG_STATUS.HEALTHY (R402). -/
def State.rngHealthy (s : State) : Nat := ((List.range 4).map (fun n => if s.srcHealthy n then 2 ^ n else 0)).foldl (· + ·) 0
/-- The number of healthy sources. -/
def State.rngHealthyCount (s : State) : Nat := ((List.range 4).filter s.srcHealthy).length
/-- RNG_STATUS.SEEDED (R402). -/
def State.rngSeeded (s : State) : Nat := ((List.range 16).filter (fun i => (s.expOf i).seeded)).length

/-- Set bits of RNG_EVT; a bit that becomes 1 signals event source 1,142 (R401). -/
def State.rngEvent (bits : BitVec 6) (s : State) : State :=
  let old := s.rng.evt
  let s' := { s with rng.evt := old ||| bits }
  if old ||| bits = old then s' else s'.signal 1142

/-! ## The CTR_DRBG (R379, R380) -/

/-- CTR_DRBG_Update with AES-256 (NIST SP 800-90A). -/
def drbgUpdate (data key v : Bytes) : Bytes × Bytes :=
  let blk := fun i => aesEnc key (ctrAdd i v)
  let t := xorB (blk 1 ++ blk 2 ++ blk 3) data
  (t.take 32, t.drop 32)

/-- CTR_DRBG_Generate of `n` bytes. -/
def drbgGen (n : Nat) (key v : Bytes) : Bytes × Bytes × Bytes :=
  let k := (n + 15) / 16
  let out := ((List.range k).flatMap (fun i => aesEnc key (ctrAdd (i + 1) v))).take n
  let (key', v') := drbgUpdate (zeros 48) key (ctrAdd k v)
  (out, key', v')

/-- The personalisation string of an expander: HIU_ID_SERIAL, the index, zeros (R379; log 16). -/
def State.persOf (s : State) (i : Nat) : Bytes := natLe 8 s.hiu.serial.toNat ++ [byteOf i] ++ zeros 39

/-- An expander takes a seed: instantiated when it holds none, else reseeded (R379, R380). -/
def State.seedExp (i a b : Nat) (seed : Bytes) (s : State) : State :=
  let e := s.expOf i
  let fresh := e.key = 0 && e.v = 0
  let (k, v) := if fresh then drbgUpdate (xorB seed (s.persOf i)) (zeros 32) (zeros 16)
    else drbgUpdate seed (natBe 32 e.key.toNat) (natBe 16 e.v.toNat)
  s.setExp i { e with
    seeded := true
    srcs := (a, b)
    key := BitVec.ofNat 256 (beNat k)
    v := BitVec.ofNat 128 (beNat v)
    reqs := 0
    at_ := s.now }

/-- An expander may take a draw: seeded, not under test, and its seed neither spent nor old (R380, R392). -/
def State.expReady (s : State) (i : Nat) : Bool :=
  let e := s.expOf i
  e.seeded && !e.out && s.rng.katBusy != some i && decide (e.reqs < 65536) && decide (s.now < e.at_ + 100000)

/-- The first index at or after the pointer, of `n`, that `p` accepts (R178). -/
def rotFind (n ptr : Nat) (p : Nat → Bool) : Option Nat := ((List.range n).map (fun i => (ptr + i) % n)).find? p

/-! ## The state of the generator (R386, R387, R390, R402) -/

/-- RNG_STATUS.STATE as the sources, seeds and tests give it. -/
def State.rngNext (s : State) : BitVec 3 :=
  if s.rng.rawEn then 4
  else if s.rng.condFault then 3
  else if !(List.range 4).all (fun n => (s.srcOf n).first) then 0
  else if s.rngHealthyCount < 2 then 3
  else if s.rng.katNext < 17 then 0
  else if 0 < s.rngSeeded then 1
  else if s.rng.st = 0 then 0
  else 2

/-- A pier's draw answered with the error completes its item with RNG_UNAVAILABLE (R385). -/
def State.pierDrawFail (port : Nat) (s : State) : State :=
  match s.pierOf port with
  | .holding d => s.modEnt d (fun e => if e.phase = .exec then { e with phase := .finished ⟨0x4101, [], [], []⟩ } else e)
  | _ => s

/-- A draw completes with the error: zero data, nothing written (R385). -/
def State.drawError (port : Nat) (s : State) : State :=
  let s := ({ s with rng.cntErrDraw := s.rng.cntErrDraw + 1, rng.waiting := tblSet 0 port 0 s.rng.waiting })
  if port = 213 then s.emit (.readData 0)
  else
    let s := s.emit (.draw port true [])
    if port < 128 then s.pierDrawFail port else s

/-- The state follows; becoming FAILED completes every waiting draw with the error, and FAILED and its end are recorded
(R385, R387, R390). -/
def State.rngSettle (s : State) : State :=
  let old := s.rng.st
  let new := s.rngNext
  let s := { s with rng.st := new }
  if new = 3 ∧ old ≠ 3 then
    let s := (s.rng.waiting.map Prod.fst).foldl (fun s p => s.drawError p) s
    (s.rngEvent 2).event 1142 0x0904 s.rngHealthy (b2n s.rng.condFault) 0 0
  else if old = 3 ∧ (new = 1 ∨ new = 2) then (s.rngEvent 4).event 1142 0x0905 s.rngHealthy 0 0 0
  else s

/-! ## Draws (R381 to R385) -/

/-- The outcome of a draw. -/
inductive DrawRes where
  | ok (data : Bytes) (s : State)
  | stall
  | fail (s : State)

/-- One generate request by the first free seeded expander at or after the pointer (R383). -/
def State.rngTake (n : Nat) (s : State) : DrawRes :=
  if s.rng.st = 3 then .fail { s with rng.cntErrDraw := s.rng.cntErrDraw + 1 }
  else if s.rng.st ≠ 1 then .stall
  else
    match rotFind 16 s.rng.expPtr s.expReady with
    | none => .stall
    | some i =>
      let e := s.expOf i
      let (out, k, v) := drbgGen n (natBe 32 e.key.toNat) (natBe 16 e.v.toNat)
      let s := s.setExp i { e with key := BitVec.ofNat 256 (beNat k), v := BitVec.ofNat 128 (beNat v), reqs := e.reqs + 1 }
      .ok out { s with rng.expPtr := (i + 1) % 16, rng.cntBytes := s.rng.cntBytes + w64 n }

/-- RNG_DRAW (R382, R384, R385): a consumer port requests a draw; an error completes at once, any other waits. -/
def execRngDraw (port : Fin 214) (len : Nat) (s : State) : Host.Outcome State Fault Refusal :=
  if len = 0 ∨ 65536 < len ∨ tblGet 0 s.rng.waiting port ≠ 0 then .next s
  else if s.rng.st = 3 then .next (s.drawError port)
  else .next { s with rng.waiting := tblSet 0 port len s.rng.waiting }

/-- The integrity word of a DRK (R246). -/
def drkWord (drk : Bytes) : DWord := w64 (beNat ((aesEnc drk (zeros 16)).take 8))

/-- The Keystone loads a DRK and writes its integrity word (R251). -/
def State.loadDrk (b : Bytes) (s : State) : State :=
  let drk := BitVec.ofNat 256 (beNat b)
  { s with
    ks.drk := drk
    ks.integrity := drkWord (natBe 32 drk.toNat)
    ks.loaded := true
    ks.tamper := false }

/-- DRAW_SERVED (R383, R385): the first waiting port at or after the pointer is served by a free seeded expander. -/
def execDrawServed (s : State) : Host.Outcome State Fault Refusal :=
  match rotFind 214 s.rng.portPtr (fun p => tblGet 0 s.rng.waiting p != 0) with
  | none => .next s
  | some p =>
    if s.rng.st = 3 then .next (s.drawError p)
    else
      match s.rngTake (tblGet 0 s.rng.waiting p) with
      | .ok b s =>
        let s := { s with rng.waiting := tblSet 0 p 0 s.rng.waiting, rng.portPtr := (p + 1) % 214 }
        if p = 212 then .next (s.loadDrk b)
        else if p = 213 then .next (s.emit (.readData (w64 (leNat b))))
        else .next (s.emit (.draw p false b))
      | _ => .next s

/-- RNG_DATA_READ (R384, R385, R401): an MSS draw of 8 bytes, which stalls or reads zero on error. -/
def execRngDataRead (s : State) : Host.Outcome State Fault Refusal :=
  match s.rngTake 8 with
  | .ok b s => .next (s.emit (.readData (w64 (leNat b))))
  | .fail s => .next (s.emit (.readData 0))
  | .stall => .next { s with rng.waiting := tblSet 0 213 8 s.rng.waiting }

/-- RNG_RAW_READ (R393, R401): the next 16 samples in raw-sample mode; zero otherwise. -/
def execRngRawRead (samples : DWord) (s : State) : Host.Outcome State Fault Refusal :=
  .next (s.emit (.readData (if s.rng.rawEn then samples else 0)))

/-! ## Health tests and sources (R373 to R375, R387 to R390) -/

/-- The tests over samples: run so far, first sample of the window and its count, samples left in the window, and the
first failing test (1 repetition count, 2 adaptive proportion). -/
def healthTest : BitVec 4 × Nat → BitVec 4 → Nat → Nat → List (BitVec 4) → Nat × (BitVec 4 × Nat)
  | run, _, _, _, [] => (0, run)
  | run, first, cnt, left, x :: xs =>
    let run := if run.2 ≠ 0 ∧ run.1 = x then (x, run.2 + 1) else (x, 1)
    let start := left = 0
    let first := if start then x else first
    let cnt := if start then 1 else if x = first then cnt + 1 else cnt
    let left := if start then 511 else left - 1
    if 41 ≤ run.2 then (1, run)
    else if 410 ≤ cnt then (2, run)
    else healthTest run first cnt left xs

/-- Every expander whose seed came from a source that `p` selects loses it (R387, R393). -/
def State.dropSeeds (p : Nat × Nat → Bool) (s : State) : State :=
  { s with rng.exp := tblMap {} (fun _ e => if e.seeded && p e.srcs then { ({} : Exp) with out := e.out } else e) s.rng.exp }

/-- A source fails a test (1, 2, or 3 in a start-up test): it is excluded with every seed it fed, and quarantined or kept
out (R375, R387 to R389). -/
def State.excludeSrc (n test : Nat) (s : State) : State :=
  let x := s.srcOf n
  if x.st = 3 then s
  else
    let s := ({ s with rng.cntHealth := s.rng.cntHealth + 1 }).dropSeeds (fun p => p.1 == n || p.2 == n)
    let q := x.quar + 1
    let again := x.st = 2
    let out := again || decide (3 ≤ q)
    let t := if x.st = 1 then test else 3
    let s := (s.setSrc n { x with
      st := if out then 3 else 2
      quar := if again then x.quar else q
      last := BitVec.ofNat 2 t
      first := true
      buf := []
      run := (0, 0) }).rngEvent 1
    let s := if again then s.rngSettle
      else s.event 1142 0x0901 n t q s.rngNext.toNat |>.rngSettle
    if out then (s.rngEvent 32).event 1142 0x0903 n (if again then 1 else 2) 0 0 else s

/-- Samples join a source's buffer; beyond 2,048 the oldest are dropped (R374). -/
def admitSamples (buf xs : List (BitVec 4)) : List (BitVec 4) :=
  let l := buf ++ xs
  l.drop (l.length - 2048)

/-- ADAPTIVE_WINDOW_END (R373, R374): a window of 512 samples of a healthy source ends. -/
def execAdaptiveWindowEnd (n : Fin 4) (samples : List (BitVec 4)) (s : State) : Host.Outcome State Fault Refusal :=
  let x := s.srcOf n
  if x.st ≠ 1 ∨ samples.length ≠ 512 then .next s
  else
    match healthTest x.run 0 0 0 samples with
    | (0, run) => .next (s.setSrc n { x with run := run, buf := admitSamples x.buf samples })
    | (t, _) => .next (s.excludeSrc n t)

/-- SOURCE_EXCLUDE (R373, R387): a test fails within a window: 0 repetition count, 1 adaptive proportion. -/
def execSourceExclude (n : Fin 4) (test : Fin 2) (s : State) : Host.Outcome State Fault Refusal :=
  .next (s.excludeSrc n (test.val + 1))

/-- SOURCE_STARTUP_TEST_END (R375, R386, R388 to R390). -/
def execSourceStartupTestEnd (n : Fin 4) (samples : List (BitVec 4)) (s : State) :
    Host.Outcome State Fault Refusal :=
  let x := s.srcOf n
  if (x.st ≠ 0 ∧ x.st ≠ 2) ∨ samples.length ≠ 1024 then .next s
  else
    match healthTest (0, 0) 0 0 0 samples with
    | (0, run) =>
      let was := x.st
      let s := s.setSrc n { x with st := 1, first := true, buf := samples, run := run }
      let s := if was = 2 then s.event 1142 0x0902 n 0 0 0 else s
      .next s.rngSettle
    | _ => .next (s.excludeSrc n 3)

/-! ## Seeds (R376 to R378) -/

/-- The home pair of an expander (R377). -/
def homePair (i : Nat) : Nat × Nat := [(0, 1), (2, 3), (0, 2), (1, 3), (0, 3), (1, 2)].getD (i % 6) (0, 1)

/-- The pair an expander takes its seed from (R377), lower index first. -/
def State.pairOf (s : State) (i : Nat) : Option (Nat × Nat) :=
  let (a, b) := homePair i
  let subs := (List.range 4).filter (fun n => n != a && n != b && s.srcHealthy n)
  let pick := match s.srcHealthy a, s.srcHealthy b with
    | true, true => some (a, b)
    | true, false => subs.head?.map (fun c => (a, c))
    | false, true => subs.head?.map (fun c => (b, c))
    | false, false => match subs with
      | c :: d :: _ => some (c, d)
      | _ => none
  pick.map (fun p => (min p.1 p.2, max p.1 p.2))

/-- An expander can take a seed now. -/
def State.seedPair (s : State) (i : Nat) : Option (Nat × Nat) :=
  let e := s.expOf i
  if e.seeded || e.out || s.rng.katBusy == some i then none
  else (s.pairOf i).bind (fun p =>
    if 896 ≤ (s.srcOf p.1).buf.length && 896 ≤ (s.srcOf p.2).buf.length then some p else none)

/-- Two samples a byte, the first in the high nibble, the two sources alternating (R376). -/
def packSamples : List (BitVec 4) → List (BitVec 4) → Bytes
  | a :: as, b :: bs => (a ++ b) :: packSamples as bs
  | _, _ => []

/-- SEED_READY (R376 to R378): the conditioner gives a seed to the unseeded expander of lowest index whose pair has the
samples. -/
def execSeedReady (s : State) : Host.Outcome State Fault Refusal :=
  if s.rng.rawEn ∨ s.rng.condFault ∨ s.rng.katBusy = some 16 then .next s
  else
    match (List.range 16).find? (fun i => (s.seedPair i).isSome) with
    | none => .next s
    | some i =>
      match s.seedPair i with
      | none => .next s
      | some (a, b) =>
        let xa := s.srcOf a
        let xb := s.srcOf b
        let seed := sha384B (packSamples (xa.buf.take 896) (xb.buf.take 896))
        let s := (s.setSrc a { xa with buf := xa.buf.drop 896 }).setSrc b { xb with buf := xb.buf.drop 896 }
        let s := s.seedExp i a b seed
        .next ({ s with rng.cntSeed := s.rng.cntSeed + 1 }).rngSettle

/-- EXPANDER_RESEED_DUE (R380): after 65,536 requests or 100 ms the expander waits for a new seed. -/
def execExpanderReseedDue (x : Fin 16) (s : State) : Host.Outcome State Fault Refusal :=
  let e := s.expOf x
  if !e.seeded then .next s
  else
    let s := if e.reqs < 65536 then s.advance (e.at_ + 100000) else s
    .next (s.setExp x { e with seeded := false }).rngSettle

/-! ## Test modes (R391 to R393) -/

/-- RNG_KAT (R392, R405): GO starts a known-answer test; a GO written while BUSY is 1 is ignored. -/
def execRngKat (value : Word) (s : State) : Host.Outcome State Fault Refusal :=
  let t := value.getLsbD 1
  let x := (value >>> 2).setWidth 4
  let s := { s with rng.katTarget := t, rng.katExp := x }
  if s.rng.katBusy.isSome || !value.getLsbD 0 then .next s
  else if t then
    .next (({ s with rng.katBusy := some x.toNat }).setExp x.toNat { ({} : Exp) with out := (s.expOf x.toNat).out }).rngSettle
  else .next { s with rng.katBusy := some 16 }

/-- A known-answer test ends (R392): a failing expander is kept out, a failing conditioner fails the RNG. -/
def State.katResult (unit : Nat) (pass : Bool) (startup : Bool) (s : State) : State :=
  let cond := unit = 16
  let s := s.event 1142 0x0906 (if cond then 0 else 1) (if cond then 0 else unit) (b2n !pass) (b2n startup)
  if pass then s.rngSettle
  else
    let s := s.rngEvent 8
    if cond then ({ s with rng.condFault := true }).rngSettle
    else ((s.setExp unit { ({} : Exp) with out := true }).rngEvent 32).event 1142 0x0907 unit 0 0 0 |>.rngSettle

/-- RNG_KAT_END (R386, R392, R405): the test ordered through GO ends; with none running, the next test of start-up
step 4. -/
def execRngKatEnd (pass : Bool) (s : State) : Host.Outcome State Fault Refusal :=
  match s.rng.katBusy with
  | some u => .next (({ s with rng.katBusy := none, rng.katPass := pass, rng.katValid := true }).katResult u pass false)
  | none =>
    let k := s.rng.katNext
    if k < 17 then .next (({ s with rng.katNext := k + 1 }).katResult (if k = 0 then 16 else k - 1) pass true)
    else .next s

/-- RAW_EN_WRITE (R393, R403): raw-sample mode starts in the maintenance overlay only; its end discards every seed and
sample. -/
def execRawEnWrite (value : Word) (s : State) : Host.Outcome State Fault Refusal :=
  let en := value.getLsbD 0
  if en ∧ s.hiu.overlay ≠ 1 then .next (s.rngEvent 16)
  else
    let was := s.rng.rawEn
    let s := { s with rng.rawEn := en, rng.rawSrc := (value >>> 1).setWidth 2 }
    let s := if en = was then s else s.event 1142 0x0908 (b2n en) s.rng.rawSrc.toNat 0 0
    if was ∧ !en then
      let s := { s with
        rng.exp := tblMap {} (fun _ e => { ({} : Exp) with out := e.out }) s.rng.exp
        rng.src := tblMap {} (fun _ x => { x with buf := [] }) s.rng.src }
      .next s.rngSettle
    else .next s.rngSettle

/-- The generator starts from step 1 of its start-up (R386, R397); `all` at a power-on or module reset, which also ends
every keeping-out (R389, R392). -/
def State.rngStart (all : Bool) (s : State) : State :=
  if all then { s with rng := {} }
  else { s with
    rng.src := tblMap {} (fun _ x => if x.st = 3 then { x with buf := [] } else { ({} : Src) with quar := x.quar, last := x.last }) s.rng.src
    rng.exp := tblMap {} (fun _ e => { ({} : Exp) with out := e.out }) s.rng.exp
    rng.st := if s.rng.condFault then 3 else 0
    rng.rawEn := false
    rng.katNext := 0
    rng.katBusy := none
    rng.waiting := [] }

end Sys2Proof.Machine
end

