-- ==== Sys2Proof/Machine/Payments.lean ====
section
/-! DEFINITION. Stage 10 of the payment commands (05_payment_functions.md): PIN, DUKPT, MAC, EMV, card codes, FF1 and
XTS. Each runs for the item that a pier holds, once its keys are bound and its input is staged. -/

namespace Sys2Proof.Machine

/-! ## What a command at stage 10 works with -/

/-- Run stage 10 of the item in entry `d`, when it carries the opcode and is ready for it. -/
def State.runItem (d op : Nat) (f : Entry → State → State) (s : State) : Host.Outcome State Fault Refusal :=
  match s.entOf d with
  | some e => if e.active && e.phase == .exec && opcodeOf e.desc == op then .next (f e s) else .next s
  | none => .next s

/-- The first slot of a bound reference. -/
def slotOf (e : Entry) (i : Nat) : Nat := ((bindOf e.binds i).map (fun b => b.slots.headD 0)).getD 0

/-- The key type of a bound reference. -/
def State.algOf (s : State) (e : Entry) (i : Nat) : Nat := hAlg (s.slotHdr (slotOf e i))

/-- The material of a slot. -/
def State.slotMat (s : State) (k : Nat) : Bytes := ((tblGet none s.keys.t1 k).map (fun (x : Slot) => x.mat)).getD []

/-- The material of a bound reference, its parts in order (R257). -/
def State.matOf (s : State) (e : Entry) (i : Nat) : Bytes :=
  ((bindOf e.binds i).map (fun b => b.slots)).getD [] |>.flatMap s.slotMat

/-- The cipher of a bound reference. -/
def State.ciphFor (s : State) (e : Entry) (i : Nat) : Ciph := ciphOf (s.algOf e i) (s.matOf e i)

/-- The attempt ends with a result. -/
def State.done (d status : Nat) (result : Bytes) (s : State) : State :=
  s.modEnt d (fun e => { e with phase := .finished ⟨status, result, [], e.post.guards⟩ })

/-- The attempt ends with a result and intents. -/
def State.doneWith (d status : Nat) (result : Bytes) (intents : List Intent) (s : State) : State :=
  s.modEnt d (fun e => { e with phase := .finished ⟨status, result, intents, e.post.guards⟩ })

/-- A verification's answer: OK or OK_VERIFY_FAILED (R133). -/
def State.answer (d : Nat) (yes : Bool) (s : State) : State := s.done d (if yes then 0 else 1) []

/-- Continue with `n` drawn bytes: a stalled draw leaves the item waiting, an error gives RNG_UNAVAILABLE (R385). -/
def State.withDraw (n d : Nat) (f : Bytes → State → State) (s : State) : State :=
  if n = 0 then f [] s
  else
    match s.rngTake n with
    | .ok b s => f b s
    | .stall => s
    | .fail s => s.fail d 0x4101

/-- NONE, the handle of no session (R195). -/
def noHandle : Bytes := [0xFF, 0xFF, 0xFF, 0xFF]

/-- SESSION_LIFE of a policy in ms (R192). -/
def sessLife (p : DWord) : Nat := min 60000 ((p >>> 32).setWidth 16).toNat

/-- The intent of a KEEP item: a session under its source key (R197). -/
def keepIntent (e : Entry) (keys : List Bytes) (variant wk : Nat) (arqc : Bytes) : Intent :=
  let b := bindOf e.binds 0
  .openSession ⟨opcodeOf e.desc, (b.map (fun x => x.keyId)).getD 0, ((b.map (fun x => x.anc)).getD []).map Prod.fst,
    keys, variant, wk, arqc, sessLife e.policy⟩

/-! ## PIN commands -/

/-- PIN_TRANSLATE (R203 to R209). -/
def State.pinTranslate (d : Nat) (e : Entry) (s : State) : State :=
  let a := u8 e.desc 48
  let b := u8 e.desc 49
  match pinOpenB a (s.ciphFor e 0) (sub e.desc 56 16) (panOf e.desc 72 (u8 e.desc 50)) with
  | none => s.fail d 0x1003
  | some pin =>
    s.withDraw (if b = 0 then 0 else 8) d (fun r s =>
      s.done d 0 (pinSealB b (s.ciphFor e 1) pin (panOf e.desc 82 (u8 e.desc 51)) r))

/-- PIN_TRANSLATE. -/
def execPinTranslate (d : Idx) (s : State) : Host.Outcome State Fault Refusal := s.runItem d 0x0101 (State.pinTranslate d)

/-- The offset or the value of the PIN in the block, by METHOD; `none` when the block is malformed (R205, R213, R214). -/
def State.pinReference (e : Entry) (s : State) : Option (List Nat) :=
  let pan := panOf e.desc 72 (u8 e.desc 50)
  let kv := s.ciphFor e 1
  (pinOpenB (u8 e.desc 49) (s.ciphFor e 0) (sub e.desc 56 16) pan).map (fun pin =>
    if u8 e.desc 48 = 0 then pinOffset kv (sub e.desc 82 8) (bcd (sub e.desc 90 8) 16) pin
    else pinVv kv pan (u8 e.desc 52) pin (u8 e.desc 51))

/-- PIN_VERIFY_OFFSET (R205, R213 to R215). -/
def State.pinVerify (d : Nat) (e : Entry) (s : State) : State :=
  let n := u8 e.desc 51
  match s.pinReference e with
  | none => s.answer d false
  | some v => s.answer d (decide (n ≤ v.length) && v.take n == bcd (sub e.desc 98 6) n)

/-- PIN_VERIFY_OFFSET. -/
def execPinVerifyOffset (d : Idx) (s : State) : Host.Outcome State Fault Refusal := s.runItem d 0x0102 (State.pinVerify d)

/-- PIN_GENERATE_OFFSET (R205, R213 to R215). -/
def State.pinGenerate (d : Nat) (e : Entry) (s : State) : State :=
  match s.pinReference e with
  | none => s.fail d 0x1003
  | some v => s.done d 0 (bcdEnc 6 v ++ [byteOf v.length, 0])

/-- PIN_GENERATE_OFFSET. -/
def execPinGenerateOffset (d : Idx) (s : State) : Host.Outcome State Fault Refusal :=
  s.runItem d 0x0103 (State.pinGenerate d)

/-! ## DUKPT -/

/-- The PIN key and the request MAC key of a KSN (R216, R217). -/
def dukptKeys (variant wk : Nat) (bdk ksn : Bytes) : Bytes × Bytes :=
  if variant = 0 then dukptTdea bdk (ksn.take 10) else dukptAes bdk ksn (wkBytes wk)

/-- DUKPT_PIN_TRANSLATE (R218). -/
def State.dukptPin (d : Nat) (e : Entry) (s : State) : State :=
  let v := u8 e.desc 48
  let b := u8 e.desc 51
  let ks := dukptKeys v (u8 e.desc 49) (s.matOf e 0) (sub e.desc 56 12)
  match pinOpenB (u8 e.desc 50) ⟨v == 1, ks.1⟩ (sub e.desc 72 16) (panOf e.desc 88 (u8 e.desc 52)) with
  | none => s.fail d 0x1003
  | some pin =>
    s.withDraw (if b = 0 then 0 else 8) d (fun r s =>
      let out := fit 16 (pinSealB b (s.ciphFor e 1) pin (panOf e.desc 98 (u8 e.desc 53)) r)
      s.doneWith d 0 (out ++ noHandle)
        (if (u8 e.desc 54).testBit 0 then [keepIntent e [ks.1, ks.2] v (u8 e.desc 49) []] else []))

/-- DUKPT_PIN_TRANSLATE. -/
def execDukptPinTranslate (d : Idx) (s : State) : Host.Outcome State Fault Refusal := s.runItem d 0x0201 (State.dukptPin d)

/-- DUKPT_MAC_VERIFY (R219): under the session's request MAC key, or the one derived from the BDK. -/
def State.dukptMac (d : Nat) (e : Entry) (s : State) : State :=
  let v := u8 e.desc 32
  let n := u8 e.desc 34
  let fl := u8 e.desc 35
  let ks := match e.sess with
    | some (_, x) => if fl.testBit 1 then (x.data.keys.getD 0 [], x.data.keys.getD 1 []) else ([], [])
    | none => dukptKeys v (u8 e.desc 33) (s.matOf e 0) (sub e.desc 36 12)
  let msg := e.inputs.headD []
  let mac := if v = 0 then mac3 ks.2 1 msg else cmacB ⟨true, ks.2⟩ msg
  let yes := mac.take n == sub e.desc 56 n
  s.doneWith d (if yes then 0 else 1) noHandle
    (if yes && fl.testBit 0 then [keepIntent e [ks.1, ks.2] v (u8 e.desc 33) []] else [])

/-- DUKPT_MAC_VERIFY. -/
def execDukptMacVerify (d : Idx) (s : State) : Host.Outcome State Fault Refusal := s.runItem d 0x0202 (State.dukptMac d)

/-! ## MACs -/

/-- The message of a MAC command: inline or staged (R220). -/
def macMessage (e : Entry) : Bytes :=
  if (u8 e.desc 35).testBit 0 then sub e.desc 72 (bufAt e.desc 40).2 else e.inputs.headD []

/-- The leftmost MAC_LEN bytes of the MAC (R220, R221). -/
def State.macValue (e : Entry) (s : State) : Bytes :=
  let m := macMessage e
  let c := s.ciphFor e 0
  let full := match u8 e.desc 32 with
    | 0 | 1 => mac1 c (u8 e.desc 33) m
    | 2 => mac3 c.key (u8 e.desc 33) m
    | _ => cmacB c m
  full.take (u8 e.desc 34)

/-- MAC_GENERATE (R221). -/
def execMacGenerate (d : Idx) (s : State) : Host.Outcome State Fault Refusal :=
  s.runItem d 0x0301 (fun e s => s.done d 0 (s.macValue e))

/-- MAC_VERIFY (R221). -/
def execMacVerify (d : Idx) (s : State) : Host.Outcome State Fault Refusal :=
  s.runItem d 0x0302 (fun e s => s.answer d (s.macValue e == sub e.desc 56 (u8 e.desc 34)))

/-! ## EMV -/

/-- CRYPTO, the session key and the ARQC of an EMV command: from its body, or from its session (R222, R225). -/
def State.emvParts (e : Entry) (s : State) : Bool × Bytes × Bytes :=
  let derived :=
    let aes := u8 e.desc 32 == 1
    (aes, emvKey aes (s.matOf e 0) (panOf e.desc 40 (u8 e.desc 35)) (bcd (sub e.desc 36 1) 2) (sub e.desc 38 2),
      sub e.desc 50 8)
  match e.sess with
  | some (_, x) =>
    if opcodeOf e.desc = 0x0402 ∧ (u8 e.desc 34).testBit 1 then (x.data.variant == 1, x.data.keys.headD [], x.data.arqc)
    else derived
  | none => derived

/-- The ARPC that ARPC_METHOD asks for (R223, R226). -/
def State.arpc (e : Entry) (s : State) : Bytes :=
  let (aes, sk, arqc) := s.emvParts e
  emvArpc aes sk (u8 e.desc 33) arqc (sub e.desc 58 4) (sub e.desc 64 (u8 e.desc 62))

/-- EMV_ARQC_VERIFY (R222 to R226). -/
def State.emvVerify (d : Nat) (e : Entry) (s : State) : State :=
  let (aes, sk, arqc) := s.emvParts e
  if emvMac aes sk (e.inputs.headD []) = arqc then
    s.doneWith d 0 (s.arpc e ++ noHandle)
      (if (u8 e.desc 34).testBit 0 then [keepIntent e [sk] (b2n aes) 0 arqc] else [])
  else s.done d 1 (zeros 8 ++ noHandle)

/-- EMV_ARQC_VERIFY. -/
def execEmvArqcVerify (d : Idx) (s : State) : Host.Outcome State Fault Refusal := s.runItem d 0x0401 (State.emvVerify d)

/-- EMV_ARPC_GENERATE (R223, R226). -/
def execEmvArpcGenerate (d : Idx) (s : State) : Host.Outcome State Fault Refusal :=
  s.runItem d 0x0402 (fun e s => s.done d 0 (s.arpc e))

/-! ## Card codes -/

/-- The card code of a body (R228). -/
def State.cvcOf (e : Entry) (s : State) : List Nat :=
  cvcValue (s.ciphFor e 0) (cvcData (panOf e.desc 36 (u8 e.desc 32)) (bcd (sub e.desc 46 2) 4) (bcd (sub e.desc 48 2) 3))
    (u8 e.desc 33)

/-- CVC_GENERATE (R228). -/
def execCvcGenerate (d : Idx) (s : State) : Host.Outcome State Fault Refusal :=
  s.runItem d 0x0410 (fun e s => s.done d 0 (bcdEnc 3 (s.cvcOf e)))

/-- CVC_VERIFY (R228). -/
def execCvcVerify (d : Idx) (s : State) : Host.Outcome State Fault Refusal :=
  s.runItem d 0x0411 (fun e s => s.answer d (s.cvcOf e == bcd (sub e.desc 50 3) (u8 e.desc 33)))

/-! ## FF1 and XTS -/

/-- The place of a symbol in an alphabet. -/
def symIx (al : Bytes) (c : Byte) : Nat := al.findIdx (· == c)

/-- FPE_FF1 (R229, R230). -/
def State.fpe (d : Nat) (e : Entry) (s : State) : State :=
  let al := ff1Alphabet (u8 e.desc 33)
  let x := (sub e.desc 72 (u8 e.desc 34)).map (symIx al)
  let y := ff1 (u8 e.desc 32 == 0) (s.matOf e 0) (sub e.desc 36 (u8 e.desc 35)) al.length x
  s.done d 0 (y.map (fun i => al.getD i 0))

/-- FPE_FF1. -/
def execFpeFf1 (d : Idx) (s : State) : Host.Outcome State Fault Refusal := s.runItem d 0x0702 (State.fpe d)

/-- Data units under consecutive numbers mod 2^128 (R233). -/
def xtsUnits (enc : Bool) (key : Bytes) : Nat → List Bytes → Bytes
  | _, [] => []
  | j, u :: us => xts enc key (j % 2 ^ 128) u ++ xtsUnits enc key (j + 1) us

/-- An XTS key has equal halves (R233, R315). -/
def equalHalves (key : Bytes) : Bool := key.take (key.length / 2) == key.drop (key.length / 2)

/-- XTS_SECTOR (R233). -/
def State.xtsSector (d : Nat) (e : Entry) (s : State) : State :=
  let key := s.matOf e 0
  if equalHalves key then s.fail d stKeyUsage
  else s.done d 0 (xtsUnits (u8 e.desc 32 == 0) key (fld e.desc 40 16) (blocks (fld e.desc 36 4) (e.inputs.headD [])))

/-- XTS_SECTOR. -/
def execXtsSector (d : Idx) (s : State) : Host.Outcome State Fault Refusal := s.runItem d 0x0701 (State.xtsSector d)

/-! ## Session expiry (R198) -/

/-- Close a session entry (R198). -/
def State.closeSess (k : Nat) (s : State) : State := { s with pay.sess := tblSet none k none s.pay.sess }

/-- SESSION_EXPIRY (R198): SESSION_LIFE after its opening an open session closes. -/
def execSessionExpiry (f : Fn) (i : Fin 4096) (s : State) : Host.Outcome State Fault Refusal :=
  match tblGet none s.pay.sess (4096 * f + i) with
  | none => .next s
  | some x => .next ((s.advance x.expiry).closeSess (4096 * f + i))

end Sys2Proof.Machine
end

