-- ==== Sys2Proof/Machine/PkOps.lean ====
section
/-! DEFINITION. The operations of the public-key engines as functions of their inputs (R342, R348, R349, R352, R353): the
same functions serve the item commands of 05_payment_functions.md and the engine commands of
08_public_key_engines.md. -/

namespace Sys2Proof.Machine

/-- The outcome of a public-key operation. -/
inductive PkRes where
  /-- DONE with an output. -/
  | out (b : Bytes)
  /-- DONE with a derived or generated key: its material and its public key. -/
  | key (mat pub : Bytes)
  /-- The answer of a verification: DONE or VERIFY_NO. -/
  | verdict (yes : Bool)
  /-- CHECK_RANGE 0x4001, CHECK_CURVE 0x4002 or CHECK_ZERO 0x4003, as the status that the pier gives it (R343). -/
  | check (st : Nat)
  /-- RETRY (R353). -/
  | retry
deriving DecidableEq, Repr

/-- The first failing check (R348). -/
def firstFail (l : List Nat) : Nat := (l.find? (fun x => x != 0)).getD 0

/-- Zero and bound tests of one value (R349). -/
def ckValue (x bound : Nat) : Nat := if x = 0 then 0x4003 else if bound ≤ x then 0x4001 else 0

/-- A checked operation: the check phase, then the validation phase, then the computation (R348). -/
def checked (chk val : List Nat) (f : PkRes) : PkRes :=
  match firstFail (chk ++ val) with
  | 0 => f
  | st => .check st

/-! ## RSA -/

/-- The private operation on an encoded message or ciphertext (OP 0x0400). -/
def rsaPrivate (k : Nat) (mat c : Bytes) : PkRes :=
  let r := rsaKey k mat
  checked [ckValue (beNat c) r.n] [] (.out (natBe k (r.priv (beNat c))))

/-- The tests of a public modulus and exponent from staging (R349). -/
def ckRsaPub (k : Nat) (pub : Bytes) : List Nat :=
  let n := fldBe pub 0 k
  let e := fldBe pub k 4
  [if n < 2 ^ (8 * k - 1) ∨ n % 2 = 0 then 0x4001 else 0,
    if e = 0 then 0x4003 else if e = 1 ∨ e % 2 = 0 then 0x4001 else 0]

/-- The public operation (OP 0x0401); `staged` says that the public key came from staging. -/
def rsaPublic (k : Nat) (staged : Bool) (pub sig : Bytes) : PkRes :=
  let n := fldBe pub 0 k
  checked ((if staged then ckRsaPub k pub else []) ++ [ckValue (beNat sig) n]) []
    (.out (natBe k (powMod (beNat sig) (fldBe pub k 4) n)))

/-- OAEP decryption with decoding (OP 0x0402). -/
def rsaOaep (k : Nat) (mat : Bytes) (h : HashAlg) (ct label : Bytes) : PkRes :=
  match rsaPrivate k mat ct with
  | .out em =>
    match oaepDecode h label em with
    | some m => .out m
    | none => .verdict false
  | r => r

/-- v1.5 decryption with implicit rejection (OP 0x0403, R239). -/
def rsaV15 (k : Nat) (mat ct : Bytes) : PkRes :=
  match rsaPrivate k mat ct with
  | .out em => .out ((v15Decode em).getD (v15Synthetic mat ct))
  | r => r

/-- Key generation from drawn candidate material (OP 0x0404; log 17). -/
def rsaGen (k : Nat) (draw : Bytes) : PkRes :=
  match ((blocks (k / 2) draw).map primeCand).filter primeOk with
  | p :: rest =>
    match rest.find? (fun q => q != p) with
    | some q => let r := rsaFromPrimes k p q; .key r.mat r.pub
    | none => .retry
  | [] => .retry

/-! ## Prime curves -/

/-- Bound test of a point (R349). -/
def EC.ckBound (c : EC) (b : Bytes) : Nat :=
  if c.p ≤ fldBe b 1 c.len ∨ c.p ≤ fldBe b (1 + c.len) c.len then 0x4001 else 0

/-- Validation of a point (R349). -/
def EC.ckCurve (c : EC) (b : Bytes) : Nat :=
  if b.headD 0 ≠ 4 ∨ !c.on (fldBe b 1 c.len) (fldBe b (1 + c.len) c.len) then 0x4002 else 0

/-- Tests of r and s (R349). -/
def EC.ckSig (c : EC) (sig : Bytes) : Nat :=
  let r := fldBe sig 0 c.len
  let s := fldBe sig c.len c.len
  if r = 0 ∨ s = 0 then 0x4003 else if c.n ≤ r ∨ c.n ≤ s then 0x4001 else 0

/-- ECDSA signature (OP 0x0410): the nonce from its draw. -/
def ecSignOp (c : EC) (d : Nat) (nonce dig : Bytes) : PkRes :=
  checked [ckValue d c.n] [] (match c.sign d (c.scalar nonce) dig with
    | some sig => .out sig
    | none => .retry)

/-- ECDSA verification (OP 0x0411). -/
def ecVerifyOp (c : EC) (staged : Bool) (pub sig dig : Bytes) : PkRes :=
  checked ((if staged then [c.ckBound pub] else []) ++ [c.ckSig sig]) (if staged then [c.ckCurve pub] else [])
    (.verdict (c.verify (c.dec pub) dig sig))

/-- ECDH with the one-step KDF (OP 0x0412): `n` bytes of key. -/
def ecdhOp (c : EC) (d : Nat) (peer info : Bytes) (h : HashAlg) (n : Nat) : PkRes :=
  checked [ckValue d c.n, c.ckBound peer] [c.ckCurve peer] (match c.mul d (c.dec peer) with
    | some (x, _) => .key (kdf h (natBe c.len x) info n) []
    | none => .check 0x4003)

/-- Prime-curve public key from scalar (OP 0x0414). -/
def ecPubOp (c : EC) (d : Nat) : PkRes := checked [ckValue d c.n] [] (.out (c.enc (c.mul d c.g)))

/-- Prime-curve key generation (OP 0x0413). -/
def ecGen (c : EC) (draw : Bytes) : PkRes :=
  let d := c.scalar draw
  .key (natBe c.len d) (c.enc (c.mul d c.g))

/-! ## Curve25519 -/

/-- X25519 with the one-step KDF (OP 0x0420). -/
def x25519Op (k u info : Bytes) (h : HashAlg) (n : Nat) : PkRes :=
  let z := x25519 k u
  if z.all (· == 0) then .check 0x4003 else .key (kdf h z info n) []

/-- Ed25519 verification (OP 0x0422). -/
def edVerifyOp (staged : Bool) (a sig m : Bytes) : PkRes :=
  let bound : Bytes → Nat := fun b => if p25519 ≤ edY b then 0x4001 else 0
  let curve : Bytes → Nat := fun b => if (edDec b).isNone then 0x4002 else 0
  let r := sig.take 32
  checked ((if staged then [bound a] else []) ++ [bound r, ckValue (leNat (sig.drop 32)) edL])
    ((if staged then [curve a] else []) ++ [curve r])
    (match edDec a, edDec r with
      | some pa, some pr => .verdict (edVerify pa pr a sig m)
      | _, _ => .verdict false)

/-- The public key of a Curve25519 private key (OP 0x0423 without a draw). -/
def pub25519 (alg : Nat) (k : Bytes) : Bytes := if alg = 0x20 then x25519 k x25519Base else edPub k

/-! ## By key type -/

/-- The public key that a private key's material gives (R286): OP 0x0405, 0x0414 or 0x0423 without a draw. -/
def publicOf (alg : Nat) (mat : Bytes) : PkRes :=
  if isRsa alg then .out (rsaKey (rsaLen alg) mat).pub
  else match ecOf alg with
    | some c => ecPubOp c (beNat mat)
    | none => .out (pub25519 alg mat)

/-- The bytes of a public key, where it has passed its checks. -/
def PkRes.bytes : PkRes → Bytes
  | .out b => b
  | _ => []

/-- The bytes that key generation draws: candidate material (R352; log 17). -/
def genDraw (alg : Nat) : Nat :=
  if isRsa alg then 65536 else match ecOf alg with
    | some c => c.len + 8
    | none => 32

/-- Key generation of any type (OP 0x0404, 0x0413, 0x0423). -/
def pkGen (alg : Nat) (draw : Bytes) : PkRes :=
  if isRsa alg then rsaGen (rsaLen alg) draw
  else match ecOf alg with
    | some c => ecGen c draw
    | none => .key draw (pub25519 alg draw)

/-- The blinding bytes of a private operation (R352): exponents and base for RSA, the scalar's for a curve. -/
def blindLen (alg : Nat) : Nat := if isRsa alg then 16 + rsaLen alg else if alg = 0x20 then 0 else 8

/-- The type and length of the key that OUT_ALG of PK_ECDH names (R236). -/
def ecdhOut (o : Nat) : Nat × Nat := match o with | 0 => (0x82, 16) | 1 => (0x84, 32) | _ => (0x87, 32)

/-- The KCV of a public-key type (R258). -/
def kcvPk (pub : Bytes) : Bytes := (sha256B pub).take 3

end Sys2Proof.Machine
end

