-- ==== Sys2Proof/Machine/PkItems.lean ====
section
/-! DEFINITION. Stage 10 of the public-key, random and administration commands (R234 to R239, R285, R348 to R353, R394,
R597). -/

namespace Sys2Proof.Machine

/-! ## New blobs (R253, R258, R259, R285) -/

/-- Seal a new key under the bound parent of place `ref`, whose directory entry is `pidx` (R243, R259): header, then one
blob per part. -/
def State.newBlob (e : Entry) (ref pidx : Nat) (h : HdrNew) (mat : Bytes) (s : State) : Bytes × State :=
  let k := slotOf e ref
  let p := s.slotHdr k
  let hdr := { h with parentEpoch := hEpoch p, parent := hKeyId p, parentIdx := pidx }
  s.sealParts hdr (s.slotMat k) 0 (blocks 80 mat)

/-- The header of a key that the module creates for the tenant: type, class, flags, key ID, epoch, check value. -/
def newHdr (e : Entry) (alg use flags kid epoch : Nat) (kcv : Bytes) : HdrNew :=
  ⟨alg, use, flags, e.fn, kid, epoch, 0, 0, 0, kcv⟩

/-! ## Outcomes of public-key operations (R343) -/

/-- What the pier does with an outcome that yields no output of its own: a check's status, an answer, or the request placed
again in the same attempt (R343, R353). -/
def State.pkEnd (d : Nat) (r : PkRes) (s : State) : State :=
  match r with
  | .out b => s.done d 0 b
  | .key _ _ => s.done d 0 []
  | .verdict yes => s.answer d yes
  | .check st => s.fail d st
  | .retry => s

/-! ## PK_SIGN and PK_VERIFY (R235) -/

/-- The encoded message of an RSA signature (R235). -/
def rsaEncode (d : Bytes) (salt : Bytes) : Bytes :=
  let h := hashOf (u8 d 34)
  let dig := sub d 48 (hashLen (u8 d 34))
  let k := rsaLen (u8 d 32)
  if u8 d 33 = 0 then pssEncode h k dig salt else v15Encode h k dig

/-- The signature of an item (R235, R342, R352): `rnd` holds the salt or the nonce, then the blinding. -/
def State.signature (e : Entry) (rnd : Bytes) (s : State) : PkRes :=
  let a := u8 e.desc 32
  let mat := s.matOf e 0
  match ecOf a with
  | some c => ecSignOp c (beNat mat) (rnd.take (c.len + 8)) (sub e.desc 48 (hashLen (u8 e.desc 34)))
  | none =>
    if isRsa a then rsaPrivate (rsaLen a) mat (rsaEncode e.desc (rnd.take (u8 e.desc 35)))
    else .out (edSign mat (e.inputs.headD []))

/-- Bytes drawn for a signature: the salt or the nonce, and the blinding. -/
def signDraw (d : Bytes) : Nat :=
  let a := u8 d 32
  (match ecOf a with | some c => c.len + 8 | none => u8 d 35) + blindLen a

/-- PK_SIGN (R235). -/
def State.pkSign (d : Nat) (e : Entry) (s : State) : State :=
  s.withDraw (signDraw e.desc) d (fun r s => s.pkEnd d (s.signature e r))

/-- PK_SIGN. -/
def execPkSign (d : Idx) (s : State) : Host.Outcome State Fault Refusal := s.runItem d 0x0601 (State.pkSign d)

/-- The check of an RSA signature's encoding by the pier (R235, R342). -/
def rsaEncodingOk (d em : Bytes) : Bool :=
  let h := hashOf (u8 d 34)
  let dig := sub d 48 (hashLen (u8 d 34))
  let k := rsaLen (u8 d 32)
  if u8 d 33 = 0 then pssVerify h k (u8 d 35) dig em else em == v15Encode h k dig

/-- The outcome of a verification (R235, R349). -/
def State.verification (e : Entry) (s : State) : PkRes :=
  let a := u8 e.desc 32
  let ext := (u8 e.desc 36).testBit 0
  let pub := if ext then e.inputs.headD [] else (publicOf a (s.matOf e 0)).bytes
  let sig := e.inputs.getLastD []
  let dig := sub e.desc 48 (hashLen (u8 e.desc 34))
  match ecOf a with
  | some c => ecVerifyOp c ext pub sig dig
  | none =>
    if isRsa a then
      match rsaPublic (rsaLen a) ext pub sig with
      | .out em => .verdict (rsaEncodingOk e.desc em)
      | r => r
    else
      let m := if (bufAt e.desc 48).2 = 0 then [] else e.inputs.getD (b2n ext) []
      edVerifyOp ext pub sig m

/-- PK_VERIFY (R235). -/
def execPkVerify (d : Idx) (s : State) : Host.Outcome State Fault Refusal :=
  s.runItem d 0x0602 (fun e s => s.pkEnd d (s.verification e))

/-! ## PK_ECDH, PK_KEYGEN and RSA_DECRYPT (R236 to R239) -/

/-- The key agreement of PK_ECDH (R236). -/
def State.agreement (e : Entry) (s : State) : PkRes :=
  let a := u8 e.desc 32
  let h : HashAlg := if u8 e.desc 33 = 0 then .sha256 else .sha384
  let n := (ecdhOut (u8 e.desc 34)).2
  let info := sub e.desc 64 (u8 e.desc 44)
  let peer := e.inputs.headD []
  let mat := s.matOf e 0
  match ecOf a with
  | some c => ecdhOp c (beNat mat) peer info h n
  | none => x25519Op mat peer info h n

/-- PK_ECDH (R236, R285): one blob under the TDK, MODULE_MADE set. -/
def State.pkEcdh (d : Nat) (e : Entry) (s : State) : State :=
  s.withDraw (blindLen (u8 e.desc 32)) d (fun _ s =>
    match s.agreement e with
    | .key mat _ =>
      let alg := (ecdhOut (u8 e.desc 34)).1
      let (b, s) := s.newBlob e 1 0 (newHdr e alg (u8 e.desc 35) 2 (fld e.desc 36 8) 0 (kcvSym alg mat)) mat
      s.done d 0 b
    | r => s.pkEnd d r)

/-- PK_ECDH. -/
def execPkEcdh (d : Idx) (s : State) : Host.Outcome State Fault Refusal := s.runItem d 0x0603 (State.pkEcdh d)

/-- PK_KEYGEN (R237, R285, R353): the private key as blobs under the TDK, then the public key. -/
def State.pkKeygen (d : Nat) (e : Entry) (s : State) : State :=
  let a := u8 e.desc 16
  s.withDraw (genDraw a) d (fun r s =>
    match pkGen a r with
    | .key mat pub =>
      let (b, s) := s.newBlob e 0 0 (newHdr e a (u8 e.desc 17) 2 (fld e.desc 24 8) 0 (kcvPk pub)) mat
      s.done d 0 (b ++ pub)
    | r => s.pkEnd d r)

/-- PK_KEYGEN. -/
def execPkKeygen (d : Idx) (s : State) : Host.Outcome State Fault Refusal := s.runItem d 0x0604 (State.pkKeygen d)

/-- RSA_DECRYPT (R238, R239). -/
def State.rsaDecrypt (d : Nat) (e : Entry) (s : State) : State :=
  let a := u8 e.desc 32
  let ct := e.inputs.headD []
  s.withDraw (blindLen a) d (fun _ s =>
    s.pkEnd d (if u8 e.desc 33 = 1 then rsaV15 (rsaLen a) (s.matOf e 0) ct
      else rsaOaep (rsaLen a) (s.matOf e 0) (hashOf (u8 e.desc 34)) ct (sub e.desc 56 (u8 e.desc 35))))

/-- RSA_DECRYPT. -/
def execRsaDecrypt (d : Idx) (s : State) : Host.Outcome State Fault Refusal := s.runItem d 0x0605 (State.rsaDecrypt d)

/-! ## RANDOM (R394, R395) -/

/-- RANDOM. -/
def execRandom (d : Idx) (s : State) : Host.Outcome State Fault Refusal :=
  s.runItem d 0x0801 (fun e s => s.withDraw (fld e.desc 16 4) d (fun r s => s.done d 0 r))

/-! ## Administration (R597) -/

/-- The word that KEY_STATE_READ returns: the TDK's for key ID 0 (R597). -/
def State.stateWord (s : State) (t kid : Nat) : DWord := if kid = 0 then w64 (s.tdkEpoch t) else s.keyWord t kid

/-- KEY_STATE_READ. -/
def execKeyStateRead (d : Idx) (s : State) : Host.Outcome State Fault Refusal :=
  s.runItem d 0x0F01 (fun e s => s.done d 0 (natLe 8 (s.stateWord (fld e.desc 16 2) (fld e.desc 24 8)).toNat))

/-- SESSION_CLOSE_ALL. -/
def execSessionCloseAll (d : Idx) (s : State) : Host.Outcome State Fault Refusal :=
  s.runItem d 0x0F02 (fun e s => s.doneWith d 0 [] [.closeSessions (fld e.desc 16 2)])

end Sys2Proof.Machine
end

