-- ==== Sys2Proof/Machine/KeyMgmt.lean ====
section
/-! DEFINITION. Stage 10 of the key-management commands, the key journal's progress, the flush of a tenant's slots and the
Keystone's actions (06_key_hierarchy.md). -/

namespace Sys2Proof.Machine

/-! ## KEY_IMPORT_BLOCK, KEY_EXPORT_BLOCK and KEY_GENERATE (R283 to R285, R290) -/

/-- The epoch of a new blob: 0, or COMMITTED + 1 with NEXT (R283). -/
def State.newEpoch (s : State) (e : Entry) : Nat :=
  if u8 e.desc 24 = 0 then 0 else wCommitted (s.keyWord e.fn (targetOf e.desc)) + 1

/-- KEY_IMPORT_BLOCK: the checks of R290 in their order, then one blob. -/
def State.keyImport (d : Nat) (e : Entry) (s : State) : State :=
  let b := e.inputs.headD []
  let aes := (b.getD 0 0).toNat == 0x44
  if !kbHeadOk b then s.fail d 0x1003
  else if aes != aesAlgs.contains (s.algOf e 0) then s.fail d stKeyUsage
  else
    match kbOpen (s.matOf e 0) b with
    | none => s.fail d stIntegrity
    | some mat =>
      match kbAlg (b.getD 7 0) mat.length, kbClass (sub b 5 2) (b.getD 8 0) with
      | some alg, some cls =>
        let kcv := kcvSym alg mat
        if u8 e.desc 25 = 1 ∧ kcv ≠ sub e.desc 28 3 then s.fail d 0x2007
        else
          let exp := b2n ((b.getD 11 0).toNat == 0x45)
          let (r, s) := s.newBlob e 1 (fld e.desc 48 3) (newHdr e alg cls exp (targetOf e.desc) (s.newEpoch e) kcv) mat
          s.done d 0 r
      | _, _ => s.fail d 0x1003

/-- KEY_IMPORT_BLOCK. -/
def execKeyImportBlock (d : Idx) (s : State) : Host.Outcome State Fault Refusal := s.runItem d 0x0501 (State.keyImport d)

/-- KEY_EXPORT_BLOCK (R284, R290). -/
def State.keyExport (d : Nat) (e : Entry) (s : State) : State :=
  let ver := byteOf (u8 e.desc 48)
  let mat := s.matOf e 0
  let alg : Byte := if aesAlgs.contains (s.algOf e 0) then 0x41 else 0x54
  s.withDraw (kbPadLen ver mat.length) d (fun r s =>
    s.done d 0 (kbWrap ver (s.matOf e 1) (sub e.desc 49 2) alg (byteOf (u8 e.desc 51)) (sub e.desc 53 2)
      (byteOf (u8 e.desc 52)) mat r))

/-- KEY_EXPORT_BLOCK. -/
def execKeyExportBlock (d : Idx) (s : State) : Host.Outcome State Fault Refusal := s.runItem d 0x0502 (State.keyExport d)

/-- KEY_GENERATE (R285): fresh material, MODULE_MADE set. -/
def State.keyGenerate (d : Nat) (e : Entry) (s : State) : State :=
  let alg := u8 e.desc 25
  s.withDraw ((algShape alg).getD (0, 1)).1 d (fun mat s =>
    let h := newHdr e alg (u8 e.desc 26) (2 + u8 e.desc 27) (targetOf e.desc) (s.newEpoch e) (kcvSym alg mat)
    let (r, s) := s.newBlob e 0 (fld e.desc 32 3) h mat
    s.done d 0 r)

/-- KEY_GENERATE. -/
def execKeyGenerate (d : Idx) (s : State) : Host.Outcome State Fault Refusal := s.runItem d 0x0503 (State.keyGenerate d)

/-! ## Replacement and revocation (R286 to R288) -/

/-- The intents of a key change (R158, R286 to R288, R429). -/
def State.changeIntents (s : State) (e : Entry) (j : JKind) (k : ChangeKind) (w : DWord) : List Intent :=
  let t := e.fn
  let kid := BitVec.ofNat 64 (targetOf e.desc)
  [.journal j t kid w, .keyState t kid w] ++
    (if j = .stage then [] else [.dropSlots t kid]) ++ (if s.enrolled then [.cluster k t kid w] else [])

/-- The test of a STAGE on a new key (R286): its type, material and header KCV, the KCV, TEST_IN and TEST_OUT supplied; 0, or
the status it gives. -/
def stageTest (alg : Nat) (mat hdrKcv kcv tin tout : Bytes) : Nat :=
  let verdict := fun (yes : Bool) => if yes && hdrKcv == kcv then 0 else 0x2007
  if alg = 0x87 then verdict ((hmacB .sha256 mat tin).take 16 == tout)
  else if 0x80 ≤ alg then
    let c := ciphOf alg mat
    verdict (c.enc (tin.take c.bl) == tout.take c.bl)
  else if !(tin ++ tout).all (· == 0) then 0x1003
  else
    match publicOf alg mat with
    | .out pub => if kcvPk pub = kcv then 0 else 0x2007
    | .check st => st
    | _ => 0x2007

/-- KEY_REPLACE_STAGE (R286). -/
def State.keyStage (d : Nat) (e : Entry) (s : State) : State :=
  let alg := s.algOf e 0
  s.withDraw (if (ecOf alg).isSome then 8 else 0) d (fun _ s =>
    match stageTest alg (s.matOf e 0) (hKcv (s.slotHdr (slotOf e 0))) (sub e.desc 40 3) (sub e.desc 48 16)
      (sub e.desc 64 16) with
    | 0 =>
      let w := keyWordOf (wCommitted (s.keyWord e.fn (targetOf e.desc))) (some (sub e.desc 40 3))
      s.doneWith d 0 [] (s.changeIntents e .stage .stage w)
    | st => s.fail d st)

/-- KEY_REPLACE_STAGE. -/
def execKeyReplaceStage (d : Idx) (s : State) : Host.Outcome State Fault Refusal := s.runItem d 0x0510 (State.keyStage d)

/-- The three commands of KEY_REPLACE_COMMIT differ by ACTION; each acts on items that carry its own. -/
def State.runAction (d act : Nat) (f : Entry → State → State) (s : State) : Host.Outcome State Fault Refusal :=
  s.runItem d 0x0511 (fun e s => if u8 e.desc 24 = act then f e s else s)

/-- KEY_REPLACE_COMMIT with ACTION 0 (R287). -/
def execKeyReplaceCommit (d : Idx) (s : State) : Host.Outcome State Fault Refusal :=
  s.runAction d 0 (fun e s =>
    s.doneWith d 0 [] (s.changeIntents e .commit .commit (keyWordOf (fld e.desc 28 4) none)))

/-- KEY_REPLACE_COMMIT with ACTION 1, an abandon (R287). -/
def execKeyReplaceAbandon (d : Idx) (s : State) : Host.Outcome State Fault Refusal :=
  s.runAction d 1 (fun e s =>
    s.doneWith d 0 [] (s.changeIntents e .abandon .abandon
      (keyWordOf (wCommitted (s.keyWord e.fn (targetOf e.desc))) none)))

/-- KEY_REPLACE_COMMIT with ACTION 2: the key state word (R287). -/
def execKeyReplaceStatus (d : Idx) (s : State) : Host.Outcome State Fault Refusal :=
  s.runAction d 2 (fun e s => s.done d 0 (natLe 8 (s.keyWord e.fn (targetOf e.desc)).toNat))

/-- KEY_REVOKE (R288). -/
def execKeyRevoke (d : Idx) (s : State) : Host.Outcome State Fault Refusal :=
  s.runItem d 0x0512 (fun e s =>
    if wRevoked (s.keyWord e.fn (targetOf e.desc)) then s.done d 0 []
    else s.doneWith d 0 [] (s.changeIntents e .revoke .revoke (keyWordOf 0xFFFFFFFF none)))

/-- KEY_REWRAP (R289): the child's header but for its parent's fields, each part sealed afresh. -/
def State.keyRewrap (d : Nat) (e : Entry) (s : State) : State :=
  let h := s.slotHdr (slotOf e 0)
  let hdr : HdrNew := ⟨hAlg h, hUsage h, hFlags h, hTenant h, hKeyId h, hEpoch h, 0, 0, 0, hKcv h⟩
  let (r, s) := s.newBlob e 1 (fld e.desc 40 3) hdr (s.matOf e 0)
  s.done d 0 r

/-- KEY_REWRAP. -/
def execKeyRewrap (d : Idx) (s : State) : Host.Outcome State Fault Refusal := s.runItem d 0x0513 (State.keyRewrap d)

/-! ## The journal (R263 to R269) -/

/-- The first record that is not yet persistent, marked so. -/
def persistFirst : List Taken → Option (Taken × List Taken)
  | [] => none
  | x :: xs =>
    if x.persistent then (persistFirst xs).map (fun r => (r.1, x :: r.2))
    else some (x, { x with persistent := true } :: xs)

/-- The rating of the journal region in record writes (R269). -/
def jRating : Nat := 6500000000

/-- JOURNAL_RECORD_PERSISTENT (R265, R268): the oldest pending record is persistent, and the tenant's anchor write is issued
unless its window is open. -/
def execJournalRecordPersistent (s : State) : Host.Outcome State Fault Refusal :=
  match persistFirst s.keys.taken with
  | none => .next s
  | some (x, l) =>
    let s := { s with
      cfg.flash := setBytes 0xFF s.cfg.flash (jAddr s.keys.jHalf s.keys.jFill) x.bytes
      keys.taken := l
      keys.jFill := s.keys.jFill + 1
      keys.jCount := s.keys.jCount + 1
      keys.jSnap := s.keys.jSnap || decide (196608 ≤ s.keys.jFill + 1) }
    .next ((s.repay 12000).tryKeySeq x.tenant)

/-- KIND of a snapshot record: the record that would give its word (log 18). -/
def snapKind (w : DWord) : JKind := if wRevoked w then .revoke else if wStaged w then .stage else .commit

/-- The snapshot of the KET: one record each, then SNAPSHOT_END (R267). -/
def snapBytes : Tbl DWord → Bytes
  | [] => jRecord 0 0 7 0 0
  | (k, w) :: t => jRecord 0 (k / 2 ^ 64) (snapKind w).code (k % 2 ^ 64) w ++ snapBytes t

/-- ANC_JRN_WEAR is brought up to date; 80 % of the rating is recorded once, and the rating marks the word worn (R269). -/
def State.jrnWear (s : State) : State :=
  let old := (s.ancGet 0x0A).toNat
  let n := s.keys.jCount
  let s := (s.ancWrite 0x0A [w64 n] .none).1
  let s := if old < jRating / 5 * 4 ∧ jRating / 5 * 4 ≤ n then s.event 0xFFFF 0x030A n 0 0 0 else s
  if jRating ≤ n then { s with anc.worn := tblSet false 0x0A true s.anc.worn } else s

/-- JOURNAL_HALF_ERASE (R267): the KET is written to the other half and SNAPSHOT_END is persistent; the journal goes on
there and the old half is erased. -/
def execJournalHalfErase (s : State) : Host.Outcome State Fault Refusal :=
  if !s.keys.jSnap then .next s
  else
    let n := s.keys.ket.length + 1
    let new := !s.keys.jHalf
    .next ({ s with
      cfg.flash := clearBytes (setBytes 0xFF s.cfg.flash (jAddr new 0) (snapBytes s.keys.ket)) (jAddr s.keys.jHalf 0) 0x800000
      keys.jHalf := new
      keys.jFill := n
      keys.jCount := s.keys.jCount + n
      keys.jSnap := false }).jrnWear

/-- ANCHOR_WINDOW_EXPIRY (R265): a tenant's 50 ms window ends; what its next write can cover is issued. -/
def execAnchorWindowExpiry (t : Fn) (s : State) : Host.Outcome State Fault Refusal :=
  if tblGet false s.keys.windows t then
    .next ({ s with keys.windows := tblSet false t false s.keys.windows }.issueKeySeq t)
  else .next s

/-! ## Flush (R300) -/

/-- KC_FLUSH: the tenant's slots go as in the ABSENT case of R296; ignored while FLUSHING is 1. -/
def execKcFlush (t : Fn) (s : State) : Host.Outcome State Fault Refusal :=
  if s.keys.flushing.isSome then .next s else .next ({ s with keys.flushing := some t.val }.flushTenant t)

/-- KC_FLUSH_DONE: FLUSHING clears (R300). -/
def execKcFlushDone (s : State) : Host.Outcome State Fault Refusal := .next { s with keys.flushing := none }

/-! ## The Keystone (R251) -/

/-- GENERATE: while LOADED is 0 and the commissioning ceremony holds its ticket, the Keystone draws its DRK. -/
def execGenerate (s : State) : Host.Outcome State Fault Refusal :=
  if s.ks.loaded || !s.mss.mayGenerate then .next s else .next { s with rng.waiting := tblSet 0 212 32 s.rng.waiting }

/-- The Keystone is cleared (R251). -/
def State.ksClear (s : State) : State := { s with ks.drk := 0, ks.integrity := 0, ks.loaded := false }

/-- CLEAR: under the decommissioning ceremony or at a cluster removal. -/
def execClear (s : State) : Host.Outcome State Fault Refusal :=
  if s.mss.mayClear then .next s.ksClear else .next s

end Sys2Proof.Machine
end

