-- ==== Sys2Proof/Machine/MssRel.lean ====
section
/-! DEFINITION. Releases of the management subsystem on the Deck (15 R562): their admission, their anchor writes and their
commit point. -/

namespace Sys2Proof.Machine

/-- Words and values of an anchor write. -/
abbrev AncW := Nat × List DWord

/-- The total cost of a release's anchor writes (R648). -/
def costOfWrites (ws : List AncW) : Nat := (ws.map (fun w => ancCost w.2.length)).foldl (· + ·) 0

/-- The admission verdict of an MSS release (R160, R618, R652): a status code, 0 when it is admitted. -/
def State.mssVerdict (ws : List AncW) (s : State) : Nat :=
  if s.pwr.quiesce then 0x5001
  else if !s.admits (costOfWrites ws) then 0x5002
  else if ws.any (fun w => s.ancWorn w.1 w.2.length) then 0x5004
  else 0

/-- A refused release is counted and recorded (R618, R649). -/
def State.mssRefuse (st : Nat) (ws : List AncW) (s : State) : State :=
  let w0 := (ws.map Prod.fst).headD 0
  if st = 0x5002 then (s.refuse (costOfWrites ws)).ancRefuse w0 2
  else if st = 0x5004 then s.ancRefuse (((ws.find? (fun w => s.ancWorn w.1 w.2.length)).map Prod.fst).getD w0) 1
  else s

/-- Issue the writes of a release: the last one is its commit point. -/
def State.issueAll (id : Nat) : List AncW → State → State
  | [], s => s
  | [w], s => s.ancIssue w.1 w.2 (ancCost w.2.length) (.mss id)
  | w :: ws, s => (s.ancIssue w.1 w.2 (ancCost w.2.length) .none).issueAll id ws

/-- Record an MSS release and give it its identifier. -/
def State.newRel (reply : Option (Path × Word × Nat × Bytes)) (act : Option (Nat × BitVec 64 × Word × Nat)) (eff : MssEff)
    (s : State) : State :=
  { s with mss.rels := s.mss.rels ++ [⟨s.mss.nextRel, reply, act, eff⟩], mss.nextRel := s.mss.nextRel + 1 }

/-- An MSS release begins, or is refused with the status returned (R562, R649). -/
def State.mssBegin (ws : List AncW) (reply : Option (Path × Word × Nat × Bytes))
    (act : Option (Nat × BitVec 64 × Word × Nat)) (eff : MssEff) (s : State) : Nat × State :=
  match s.mssVerdict ws with
  | 0 => (0, ((s.admitCost (costOfWrites ws)).newRel reply act eff).issueAll s.mss.nextRel ws)
  | st => (st, s.mssRefuse st ws)

/-- An MSS release with one journal record begins, or is refused (R294, R434). -/
def State.mssJournal (kind : JKind) (t kid : Nat) (w : DWord) (ck : Option Nat) (eff : MssEff) (s : State) : Nat × State :=
  if s.pwr.quiesce then (0x5001, s)
  else if !s.admits journalCost then (0x5002, (s.refuse journalCost).ancRefuse (0x400 + t) 2)
  else if s.journalWorn t then (0x5004, s.ancRefuse (0x400 + t) 1)
  else (0, ((s.admitCost journalCost).newRel none none eff).takeSeq (.mss s.mss.nextRel) kind t kid w ck)

/-- Take a release out of those under way. -/
def State.takeRel (id : Nat) (s : State) : Option MssRel × State :=
  (s.mss.rels.find? (fun r => r.id == id), { s with mss.rels := s.mss.rels.filter (fun r => r.id != id) })

/-- The outcome of R291 for a key whose word has changed: stale slots, and after a commit or a revoke the sessions under the
key or a descendant of it close. -/
def State.applyDrop (t kid : Nat) (closes : Bool) (s : State) : State :=
  let s := s.staleKey t kid
  if closes then
    { s with pay.sess := s.pay.sess.filter (fun x => match x.2 with
      | some y => !(y.fn == t && (y.data.srcKey == kid || y.data.anc.contains kid))
      | none => false) }
  else s

end Sys2Proof.Machine
end

