-- ==== Sys2Proof/Machine/Trestle.lean ====
section
/-! DEFINITION. The Trestle link as the other units use it (10_cluster.md): roles, associations and sending (R407 to R418),
and proposals, decisions and their application (R429 to R437). -/

namespace Sys2Proof.Machine

/-! ## This member (R407, R408, R447) -/

/-- ROLE: 0 none, 1 abutment, 2 pylon, 3 span. -/
def State.role (s : State) : Nat := bitsOf (s.ancGet 0x0D).toNat 17 16
/-- The parent's member number. -/
def State.parentNo (s : State) : Nat := bitsOf (s.ancGet 0x0D).toNat 33 18
/-- Designated standby abutment. -/
def State.isStandby (s : State) : Bool := (s.ancGet 0x0D).getLsbD 34
/-- ANC_CL_TERM. -/
def State.term (s : State) : Nat := (s.ancGet 0x0E).toNat % 2 ^ 32
/-- CL_TIMEOUT in ms. -/
def State.clTimeout (s : State) : Nat := s.trs.timeout.toNat
/-- ANC_CL_MEMBER from its fields (R619). -/
def memberWord (member role parent : Nat) (standby : Bool) : DWord :=
  w64 (member + role * 2 ^ 16 + parent * 2 ^ 18 + b2n standby * 2 ^ 34)

/-- The pylon above a span, by its number (R408). -/
def pylonOf (m : Nat) : Nat := (m - 129) / 128 + 2
/-- The place of a span below its pylon (R408). -/
def spanIx (m : Nat) : Nat := (m - 129) % 128

/-! ## Associations and sending (R414 to R418) -/

/-- The association with a neighbour. -/
def State.assocOf (s : State) (n : Nat) : Option Assoc := tblGet none s.trs.assoc n
/-- Write an association. -/
def State.setAssoc (n : Nat) (a : Assoc) (s : State) : State := { s with trs.assoc := tblSet none n (some a) s.trs.assoc }
/-- Change an association, when it is held. -/
def State.modAssoc (n : Nat) (f : Assoc → Assoc) (s : State) : State :=
  match s.assocOf n with
  | some a => s.setAssoc n (f a)
  | none => s

/-- The port that carries sequenced messages to a neighbour (R418). -/
def Assoc.port (a : Assoc) : Option Port := if !a.failA then some .a else if !a.failB then some .b else none
/-- A port is failed for a neighbour. -/
def Assoc.failed (a : Assoc) (p : Port) : Bool := match p with | .a => a.failA | .b => a.failB

/-- The member that originates a message: this one, but for a request that it forwards (R415). -/
def Msg.srcOf (self : Nat) : Msg → Nat
  | .resyncReq src _ => src
  | _ => self

/-- The member that a message to a neighbour is addressed to (R415). -/
def Msg.dstOf (n : Nat) : Msg → Nat
  | .resyncData dst _ => dst
  | .decision pid _ _ => pid.toNat / 2 ^ 48
  | .remove m => m
  | _ => n

/-- The header of a frame to a neighbour (R415). -/
def State.hdrTo (s : State) (n : Nat) (a : Assoc) (p : Port) (seq tenant : Nat) (m : Msg) : Hdr :=
  ⟨p, m.srcOf s.member, m.dstOf n, seq, a.got, s.term, tenant, !a.failed p⟩

/-- Put a sequenced message on the port that carries the association, when there is one. -/
def State.transmit (n : Nat) (x : Nat × Nat × Msg) (s : State) : State :=
  match s.assocOf n with
  | none => s
  | some a => match a.port with
    | some p => s.emit (.frame (s.hdrTo n a p x.1 x.2.1 x.2.2) x.2.2)
    | none => s

/-- Send a sequenced message to a neighbour: it is held until acknowledged (R417). -/
def State.send (n tenant : Nat) (m : Msg) (s : State) : State :=
  match s.assocOf n with
  | none => s
  | some a =>
    let x := (a.sent + 1, tenant, m)
    (s.setAssoc n { a with sent := a.sent + 1, unacked := a.unacked ++ [x] }).transmit n x

/-- Send an unsequenced message on one port. -/
def State.sendOn (n : Nat) (p : Port) (m : Msg) (s : State) : State :=
  match s.assocOf n with
  | none => s
  | some a => s.emit (.frame (s.hdrTo n a p 0 0xFFFF m) m)

/-- Send an unprotected enrolment message on the ports that are up (R416). -/
def State.sendEnrol (dst : Nat) (m : Msg) (s : State) : State :=
  let h := fun (p : Port) => (⟨p, s.member, dst, 0, 0, s.term, 0xFFFF, false⟩ : Hdr)
  if s.trs.linkA then s.emit (.frame (h .a) m) else if s.trs.linkB then s.emit (.frame (h .b) m) else s

/-- The neighbours on tree associations. -/
def State.neighbours (s : State) : List Nat :=
  s.trs.assoc.filterMap (fun x => match x.2 with
    | some a => if a.tree then some x.1 else none
    | none => none)

/-- The children: every tree neighbour but the parent. -/
def State.children (s : State) : List Nat := s.neighbours.filter (fun n => s.role == 1 || n != s.parentNo)

/-- Send a message to the parent. -/
def State.sendUp (tenant : Nat) (m : Msg) (s : State) : State := s.send s.parentNo tenant m

/-- Send a message to every child. -/
def State.sendDown (tenant : Nat) (m : Msg) (s : State) : State := s.children.foldl (fun s n => s.send n tenant m) s

/-- The neighbour through which a member below is reached. -/
def State.hopTo (s : State) (m : Nat) : Nat := if (s.assocOf m).isSome then m else pylonOf m

/-- Set bits of TRS_EVT; a bit that becomes 1 signals PF vector 0 (R446). -/
def State.trsEvent (bits : BitVec 7) (s : State) : State :=
  let old := s.trs.evt
  let s' := { s with trs.evt := old ||| bits }
  if old ||| bits = old then s' else s'.msix 0 0

/-- An event in class 0x06xx: the spec gives neither its code nor its parameters, which are free values (log 19). -/
def State.event06 (s : State) : State :=
  let (b, s) := s.draw 17
  s.event 0xFFFF (0x0600 + fld b 0 1) (fld b 1 4) (fld b 5 4) (fld b 9 4) (fld b 13 4)

/-! ## Quarantine (R437) -/

/-- What a member does when it becomes quarantined for a tenant. -/
def State.quarEnter (t : Nat) (s : State) : State := (s.flushTenant t).trsEvent 4

/-- The word of ANC_CL_QUAR with a tenant's bit set or clear. -/
def State.quarWord (s : State) (t : Nat) (on : Bool) : DWord :=
  let w := s.ancLatest (0x208 + t / 64)
  let m := w64 (2 ^ (t % 64))
  if on then w ||| m else w &&& ~~~m

/-- The quarantine of an APPLY's exclusion list is recorded in ANC_CL_QUAR before the APPLY is acknowledged (R437). -/
def State.markQuar (t : Nat) (pid : Option (BitVec 64)) (s : State) : State :=
  (s.mssBegin [(0x208 + t / 64, [s.quarWord t true])] none none (.quarantine t pid)).2

/-! ## Verification of a proposal at a member (R430) -/

/-- Open a blob of a tenant under its parent: one in tier one, or one opened from the blobs that follow in the directory
chain, each current. -/
def State.openUnder (s : State) (t : Nat) : List Bytes → Bytes → Option Bytes
  | anc, b =>
    let kid := hParent b
    match s.t1Find t kid 0 (hParentEpoch b), anc with
    | some (_, x), _ => openBlob x.mat b
    | none, [] => none
    | none, a :: rest =>
      let current := if kid = 0 then hEpoch a == s.tdkEpoch t else standOf (wCommitted (s.keyWord t kid)) (hEpoch a) == .current
      if hKeyId a ≠ kid ∨ hTenant a ≠ t ∨ hEpoch a ≠ hParentEpoch b ∨ !current then none
      else
        (if kid = 0 then (s.crkFor (hParentEpoch a)).bind (fun c => openBlob c.1 a) else s.openUnder t rest a).bind
          (fun m => openBlob m b)

/-- The blobs of a staged key read from the member's own directory pass the test of R430: the parts first, then the
ancestors' blobs. -/
def State.stagedOk (s : State) (t kid : Nat) (kcv tin tout : Bytes) (blobs : List Bytes) : Bool :=
  let b0 := blobs.headD []
  let n := algParts (hAlg b0)
  let parts := blobs.take n
  let anc := blobs.drop n
  let mats := parts.map (s.openUnder t anc)
  decide (blobs.length ≥ n) && ((List.range n).zip parts).all (fun x => hdrOk x.2 x.1 && hTenant x.2 == t &&
      hKeyId x.2 == kid && hEpoch x.2 == hEpoch b0 && hAlg x.2 == hAlg b0) &&
    standOf (wCommitted (s.keyWord t kid)) (hEpoch b0) == .next && mats.all Option.isSome &&
    stageTest (hAlg b0) (mats.filterMap id).flatten (hKcv b0) kcv tin tout == 0

/-- This member's answer to a proposal (R430). -/
def State.verifyProp (s : State) (p : Proposal) (own : List Bytes) : Bool :=
  let w := s.keyWord p.tenant p.keyId.toNat
  match p.kind with
  | .stage => !wRevoked w && !wStaged w &&
      s.stagedOk p.tenant p.keyId.toNat (natBe 3 p.kcv.toNat) p.testIn p.testOut own
  | .commit | .abandon => wStaged w && wCommitted w + 1 == p.epoch.toNat
  | .revoke => !s.quarantinedFor p.tenant

/-! ## The abutment's proposals (R430, R432, R435) -/

/-- A DECISION reaches its origin: it counts only for the item's current proposal that still awaits one (R433). -/
def State.gotDecision (pid : BitVec 64) (go : Bool) (excluded : List Nat) (s : State) : State :=
  match s.held.find? (fun x => x.2.pid == pid && x.2.confirm == some none) with
  | some (d, e) => s.setEnt d { e with confirm := some (some (if go then 0 else 0x6002)), excluded := excluded }
  | none => s

/-- The member that a proposal ID names as its origin (R429). -/
def pidOrigin (pid : BitVec 64) : Nat := pid.toNat / 2 ^ 48

/-- The DECISION goes to the origin alone (R432). -/
def State.sendDecision (p : Proposal) (go : Bool) (excluded : List Nat) (s : State) : State :=
  if p.origin = s.member then s.gotDecision p.pid go excluded
  else s.send (s.hopTo p.origin) p.tenant (.decision p.pid go excluded)

/-- The enrolled pylons (R427). -/
def State.pylons (s : State) : List Nat :=
  s.trs.members.filterMap (fun x => match x.2 with
    | some m => if m.role == 2 && x.1 != s.member then some x.1 else none
    | none => none)

/-- The members that a VERDICT excludes: the pylon by its own no, its spans by the bitmap (R431, R432). -/
def excludedBy (a : Nat × Bool × BitVec 128) : List Nat :=
  (if a.2.1 then [] else [a.1]) ++
    ((List.range 128).filter (fun i => a.2.2.getLsbD i)).map (fun i => 129 + (a.1 - 2) * 128 + i)

/-- The decision of a reserved proposal: GO when every pylon has sent a VERDICT (R432); `flip` is a mismatch of the doubled
decision, treated as no VERDICT received. -/
def State.decideProp (x : Held) (flip : Bool) (s : State) : State :=
  let go := !flip && s.pylons.all (fun n => x.answers.any (fun a => a.1 == n))
  let excl := (if x.own then [] else [s.member]) ++ x.answers.flatMap excludedBy
  let s := { s with trs.props := s.trs.props.map (fun (y : Held) => if y.p.pid = x.p.pid then { y with decided := true } else y) }
  s.sendDecision x.p go (if go then excl else [])

/-- Reserve the key for a proposal: it goes to every pylon, and with none it is decided at once (R430). -/
def State.reserveProp (x : Held) (own : Bool) (s : State) : State :=
  let y : Held := { x with reserved := true, own := own }
  let s := { s with trs.props := s.trs.props.map (fun (z : Held) => if z.p.pid = x.p.pid then y else z) }
  let s := s.sendDown x.p.tenant (.propose x.p)
  if s.pylons.isEmpty then s.decideProp y false else s

/-- A proposal reaches the abutment: the key is reserved for it, or it queues (R430). `own` is the abutment's own answer. -/
def State.abutPropose (p : Proposal) (own : Bool) (s : State) : State :=
  if !s.trs.deciding then s
  else
    let x : Held := ⟨p, s.now, false, false, own, []⟩
    let busy := s.trs.props.any (fun (y : Held) => y.p.tenant == p.tenant && y.p.keyId == p.keyId)
    let s := { s with trs.props := s.trs.props ++ [x] }
    if busy then s else s.reserveProp x own

/-- A key's reservation ends: the next queued proposal on the key is reserved (R430, R435). -/
def State.endReservation (pid : BitVec 64) (s : State) : State :=
  match s.trs.props.find? (fun (y : Held) => y.p.pid == pid) with
  | none => s
  | some x =>
    let s := { s with trs.props := s.trs.props.filter (fun (y : Held) => y.p.pid != pid) }
    if !x.reserved then s
    else
      match s.trs.props.find? (fun (y : Held) => y.p.tenant == x.p.tenant && y.p.keyId == x.p.keyId) with
      | some y => s.reserveProp y y.own
      | none => s

/-! ## APPLY and WITHDRAW (R434 to R436, R294) -/

/-- The journal record whose result is a word, from the word before it (R263, R438). -/
def kindFor (old new : DWord) : JKind :=
  if wRevoked new then .revoke else if wStaged new then .stage
  else if wCommitted old = wCommitted new then .abandon else .commit

/-- A member applies an APPLY: the excluded are quarantined, the origin records the CKSEQ alone, any other writes its record
under admission and is quarantined when refused (R434, R436, R437). -/
def State.memberApply (a : ApplyMsg) (s : State) : State :=
  let t := a.tenant
  let ck := a.ckseq.toNat
  if a.excluded.contains s.member then s.markQuar t (some a.pid)
  else if pidOrigin a.pid = s.member then
    let w := s.ancLatest (0x400 + t)
    (s.mssBegin [(0x400 + t, [w64 (ck * 2 ^ 32 + w.toNat % 2 ^ 32)])] none none
      (.applyKey a.pid t a.keyId a.word false)).2
  else
    let old := s.keyWord t a.keyId.toNat
    let k := kindFor old a.word
    match s.mssJournal k t a.keyId.toNat a.word (some ck) (.applyKey a.pid t a.keyId a.word (k == .commit || k == .revoke)) with
    | (0, s) => s
    | (_, s) => s.markQuar t (some a.pid)

/-- The abutment gives an APPLY the tenant's next CKSEQ, sends it down, applies it and ends the reservation (R434, R435). -/
def State.abutApply (a : ApplyMsg) (s : State) : State :=
  let ck := tblGet 0 s.trs.ckseq a.tenant + 1
  let a := { a with ckseq := BitVec.ofNat 32 ck }
  let s := { s with trs.ckseq := tblSet 0 a.tenant ck s.trs.ckseq }
  ((s.sendDown a.tenant (.apply a)).memberApply a).endReservation a.pid

/-- The origin's CLUSTER intent (R434). -/
def State.originApply (pid : BitVec 64) (t : Nat) (kid : BitVec 64) (w : DWord) (excl : List Nat) (s : State) : State :=
  let a : ApplyMsg := ⟨pid, t, kid, w, 0, excl⟩
  if s.role = 1 then s.abutApply a else s.sendUp t (.apply a)

/-- WITHDRAW of an item's proposal, once its PROPOSE has been sent (R435). -/
def State.withdrawOf (e : Entry) (s : State) : State :=
  if e.confirm.isNone then s
  else if s.role = 1 then s.endReservation e.pid
  else s.sendUp e.fn (.withdraw e.pid)

/-- An item that returns to READY withdraws its proposal and will need a new one (R435). -/
def State.unpropose (d : Nat) (s : State) : State :=
  match s.entOf d with
  | none => s
  | some e => (s.withdrawOf e).modEnt d (fun e => { e with confirm := none, pid := 0, excluded := [] })

/-- The items of a function that its next generation discards withdraw their proposals (R435). -/
def State.withdrawAll (fn : Nat) (s : State) : State :=
  (s.held.filter (fun x => x.2.fn == fn && x.2.st == .done)).foldl (fun s x => s.withdrawOf x.2) s

/-- The generation increments with the proposals of the discarded items withdrawn (R83, R166, R435). -/
def State.nextGen (fn : Nat) (s : State) : State := (s.withdrawAll fn).moveGen fn

/-! ## The origin's PROPOSE (R429) -/

/-- The cluster intent of a post. -/
def clusterOf : List Intent → Option (ChangeKind × Nat × BitVec 64 × DWord)
  | [] => none
  | .cluster k t kid w :: _ => some (k, t, kid, w)
  | _ :: l => clusterOf l

/-- The next proposal ID (R429). -/
def State.nextPid (s : State) : BitVec 64 :=
  BitVec.ofNat 64 (s.member * 2 ^ 48 + (s.ancGet 7).toNat % 65536 * 2 ^ 32 + s.trs.pidCtr % 2 ^ 32)

/-- The origin sends PROPOSE for a DONE item and waits for its DECISION (R429). -/
def State.originPropose (d : Nat) (e : Entry) (k : ChangeKind) (t : Nat) (kid : BitVec 64) (w : DWord) (s : State) : State :=
  let pid := s.nextPid
  let parts := (List.range (algParts (hAlg (s.slotHdr (slotOf e 0))))).filterMap (fun i =>
    (e.fetched.find? (fun (x : Nat × Bytes) => x.1 == s.dirAddr t (fld e.desc 24 3 + i))).map Prod.snd)
  let stage := k == .stage
  let epoch := if k = .revoke then 0 else if k = .commit then wCommitted w else wCommitted w + 1
  let p : Proposal := ⟨pid, s.member, k, t, kid, BitVec.ofNat 32 epoch,
    BitVec.ofNat 24 (if stage then fldBe e.desc 40 3 else 0), if stage then sub e.desc 48 16 else [],
    if stage then sub e.desc 64 16 else [], if stage then parts else []⟩
  let s := { s with trs.pidCtr := s.trs.pidCtr + 1, trs.cntPropose := s.trs.cntPropose + 1 }
  let s := s.setEnt d { e with confirm := some none, pid := pid, excluded := [] }
  if s.role = 1 then s.abutPropose p true else s.sendUp t (.propose p)

end Sys2Proof.Machine
end

