-- ==== Sys2Proof/Machine/Release.lean ====
section
/-! DEFINITION. Posts, the pre-release tests, releases and their intents, completions and deadlines (01 R17, R23, 02 R61,
R69, R71, 03 R119 to R131, 04 R157 to R166, 05 R195 to R201, 10 R429, R433). -/

namespace Sys2Proof.Machine

/-! ## ITEM_POST (R157, R173) -/

/-- ITEM_POST: the pier posts the outcome of the attempt and returns towards its take port; an ORPHAN's post is dropped and
its entry freed (R137, R157). -/
def execItemPost (p : PierNo) (s : State) : Host.Outcome State Fault Refusal :=
  match s.pierOf p with
  | .holding d =>
    match s.entOf d with
    | none => .next s
    | some e =>
      match e.phase, e.st with
      | .finished q, .running =>
        .next ((s.setEnt d { e with st := .done, post := q, postedAt := s.now, phase := .idle }).setPier p .idle)
      | .finished _, .orphan => .next ((s.setPier p .idle).leave d)
      | _, _ => .next s
  | _ => .next s

/-! ## Sessions (R195 to R198) -/

/-- The incarnation after one (R195). -/
def nextInc (i : BitVec 20) : BitVec 20 := if i = 0xFFFFE then 0 else i + 1

/-- The lowest free session entry of a function, of the 4,096 (R197). -/
def freeSess (t : Tbl (Option Sess)) (fn : Nat) : Nat → Nat → Option Nat
  | 0, _ => none
  | n + 1, i => if (tblGet none t (4096 * fn + i)).isNone then some i else freeSess t fn n (i + 1)

/-- A KEEP item's release opens a session, or none (R197): the handle's 4 bytes. -/
def State.openSess (fn : Nat) (n : SessNew) (s : State) : Bytes × State :=
  let slot := if n.life = 0 ∨ 65536 ≤ s.pay.sess.length then none else freeSess s.pay.sess fn 4096 0
  match slot with
  | none => (noHandle, s)
  | some i =>
    let k := 4096 * fn + i
    let inc := nextInc (tblGet 0 s.pay.inc k)
    let x : Sess := ⟨fn, (s.tnOf fn).gen, inc, n, s.now + 1000 * n.life⟩
    (natLe 4 (i + inc.toNat * 4096),
      { s with pay.sess := tblSet none k (some x) s.pay.sess, pay.inc := tblSet 0 k inc s.pay.inc })

/-- The place of the handle in a KEEP command's result (R218, R219, R225). -/
def handleAt (op : Nat) : Nat := if op = 0x0201 then 16 else if op = 0x0401 then 8 else 0

/-- Put bytes into a result. -/
def patch (r : Bytes) (o : Nat) (b : Bytes) : Bytes := r.take o ++ b ++ r.drop (o + b.length)

/-- The item carries CLOSE, and the session it resolved is still open: it closes (R198 case 1). -/
def State.closeResolved (e : Entry) (s : State) : State :=
  let close := (opcodeOf e.desc == 0x0202 && (u8 e.desc 35).testBit 2) || (opcodeOf e.desc == 0x0402 && (u8 e.desc 34).testBit 2)
  match e.sess with
  | some (k, x) =>
    if close && ((tblGet none s.pay.sess k).map (fun (y : Sess) => y.inc == x.inc)).getD false then s.closeSess k else s
  | none => s

/-! ## HOST intents (R61, R69 to R71, R126 to R131) -/

/-- A queue pair's block. -/
def State.qpOf (s : State) (fn q : Nat) : QP := tblGet {} s.hiu.qp (64 * fn + q)
/-- Write a queue pair's block. -/
def State.setQp (fn q : Nat) (x : QP) (s : State) : State := { s with hiu.qp := tblSet {} (64 * fn + q) x s.hiu.qp }
/-- SQ_LOG2. -/
def QP.sqLog (x : QP) : Nat := (x.cfg.setWidth 4).toNat
/-- CQ_LOG2. -/
def QP.cqLog (x : QP) : Nat := ((x.cfg >>> 4).setWidth 4).toNat
/-- VEC. -/
def QP.vec (x : QP) : Nat := ((x.cfg >>> 8).setWidth 11).toNat
/-- EN. -/
def QP.en (x : QP) : Bool := x.cfg.getLsbD 31

/-- The function is fenced (R166). -/
def State.fenced (s : State) (fn : Nat) : Bool := tblGet false s.hiu.fence fn

/-- The 64 bytes of a completion (R126, R127, R131). -/
def completion (e : Entry) (status : Nat) (result : Bytes) (x : QP) (at_ : Nat) : Bytes :=
  let inl := !outPtr e.desc && !result.isEmpty
  let phase := x.cqTail.toNat / 2 ^ x.cqLog % 2 == 0
  let key := (e.flow.map (fun f => f.2.1)).getD false
  let cf := e.order + 4 * b2n inl + 8 * b2n e.clamped + 16 * b2n key + 128 * b2n phase
  natLe 2 status ++ sub e.desc 0 2 ++ sub e.desc 4 3 ++ [byteOf cf] ++ sub e.desc 8 4 ++ natLe 4 result.length ++
    (if inl then fit 40 result else zeros 40) ++ natLe 8 at_

/-- A message of the queue pair is due for the completion just written: COUNT are uncovered, or TIME is 0 (R56, R71);
INT_OFF suppresses it. -/
def State.imodCount (fn q : Nat) (s : State) : State :=
  let x := s.qpOf fn q
  let n := x.uncovered + 1
  let count := max 1 (x.imod.setWidth 8).toNat
  if count ≤ n ∨ (x.imod >>> 8).setWidth 10 = 0 then
    let s := s.setQp fn q { x with uncovered := 0 }
    if x.imod.getLsbD 31 then s else s.msix fn x.vec
  else s.setQp fn q { x with uncovered := n }

/-- The HOST intents of a release: result data, completion, status block, message (R69); dropped when the function is fenced
or the link is down (R163). -/
def State.hostOut (e : Entry) (status : Nat) (result : Bytes) (s : State) : State :=
  if s.fenced e.fn || !s.hiu.linkUp then s
  else
    let x := s.qpOf e.fn e.q
    let s := if outPtr e.desc && !result.isEmpty then s.emit (.hostWrite e.fn (outBuf e.desc).1 result true false) else s
    let slot := x.cqTail.toNat % 2 ^ x.cqLog
    let s := s.emit (.hostWrite e.fn (x.cqBase.toNat + 64 * slot) (completion e status result x e.relAt) false false)
    let x := { x with cqTail := x.cqTail + 1 }
    let s := s.setQp e.fn e.q x
    let s := s.emit (.hostWrite e.fn (x.cqBase.toNat + 64 * 2 ^ x.cqLog)
      (natLe 4 x.cqTail.toNat ++ natLe 4 x.sqHead.toNat ++ zeros 56) false false)
    s.imodCount e.fn e.q

/-! ## Intents (R158, R161) -/

/-- The journal intent of a post. -/
def journalOf : List Intent → Option (JKind × Nat × BitVec 64 × DWord)
  | [] => none
  | .journal k t kid w :: _ => some (k, t, kid, w)
  | _ :: l => journalOf l

/-- The item's release changes keys: a session closes with a commit or a revoke (R291). -/
def closesKeys (l : List Intent) : Bool :=
  match journalOf l with
  | some (.commit, _) | some (.revoke, _) => true
  | _ => false

/-- Apply one STATE, EVENT or CLUSTER intent; a session's handle goes into the result (R161). -/
def State.applyIntent (e : Entry) (all : List Intent) (x : Intent) (rs : Bytes × State) : Bytes × State :=
  let (r, s) := rs
  match x with
  | .journal _ _ _ _ => (r, s)
  | .keyState t kid w => (r, s.setKeyWord t kid.toNat w)
  | .dropSlots t kid => (r, s.applyDrop t kid.toNat (closesKeys all))
  | .openSession n =>
    let (h, s) := s.openSess e.fn n
    (patch r (handleAt (opcodeOf e.desc)) h, s)
  | .closeSessions t => (r, { s with pay.sess := s.pay.sess.filter (fun y => match y.2 with
      | some z => z.fn != t
      | none => false) })
  | .event src code p0 p1 p2 p3 => (r, s.offer ⟨BitVec.ofNat 16 src, code, p0, p1, p2, p3⟩)
  | .cluster _ t kid w => (r, s.originApply e.pid t kid w e.excluded)

/-- The release applies its STATE, EVENT, CLUSTER and HOST intents, in that order (R161); the intents are posted in it. -/
def State.applyRel (d : Nat) (s : State) : State :=
  match s.entOf d with
  | none => s
  | some e =>
    if e.st ≠ .releasing then s
    else
      let ok := decide (e.relStatus ≤ 1)
      let p := if ok then e.post else ⟨e.relStatus, [], [], []⟩
      let (r, s) := p.intents.foldl (fun rs x => rs |> State.applyIntent e p.intents x) (p.result, s)
      let s := if ok then s.closeResolved e else s
      (s.hostOut e e.relStatus r).modEnt d (fun e => { e with waiting := false })

/-! ## The release test (R159 to R166) -/

/-- Releases in progress (R164, R184). -/
def State.releasing (s : State) : Nat := (s.held.filter (fun x => x.2.st == .releasing)).length

/-- The admission verdict of an item (R160, R649, R652): a status code, 0 when it is admitted. -/
def State.itemVerdict (e : Entry) (s : State) : Nat :=
  if s.pwr.quiesce then 0x5001
  else
    let key := journalOf e.post.intents
    if key.isSome && !s.admits journalCost then 0x5002
    else if (key.map (fun x => s.journalWorn x.2.1)).getD false then 0x5004
    else match e.confirm with
      | some (some v) => v
      | _ => 0

/-- A refusal is counted and recorded (R618, R627, R649, R657). -/
def State.itemRefused (e : Entry) (v : Nat) (s : State) : State :=
  let w := 0x400 + e.fn
  if v = 0x5002 then (s.refuse journalCost).ancRefuse w 2
  else if v = 0x5004 then s.ancRefuse w 1
  else if v = 0x5001 then { s with pwr.quiesced := s.pwr.quiesced + 1 }
  else s

/-- The release of an item begins with status `v`, or its own when `v` is 0 (R161). -/
def State.beginRelease (d : Nat) (e : Entry) (v : Nat) (s : State) : State :=
  let st := if v = 0 then e.post.status else v
  let s := { s with
    deck.cntRelease := s.deck.cntRelease + 1
    deck.flowPtr := ((e.flow.map flowKey).getD 0) + 1 }
  let s := if v = 0 then s else (s.itemRefused e v).withdrawOf e
  let s := s.setEnt d { e with st := .releasing, relStatus := st, relAt := s.now, waiting := true }
  match (if st ≤ 1 then journalOf e.post.intents else none) with
  | some (k, t, kid, w) => (s.admitCost journalCost).takeSeq (.deck d) k t kid.toNat w none
  | none => s.applyRel d

/-- DEADLINE: nothing of the item is applied, and it leaves flow order (R120). -/
def State.deadline (d : Nat) (e : Entry) (s : State) : State :=
  let s := { s with deck.cntDeadline := s.deck.cntDeadline + 1 }
  let s := (s.withdrawOf e).hostOut { e with relAt := s.now } 0x5003 []
  if e.st = .running then s.setEnt d { e with st := .orphan } else s.leave d

/-- A guard differs from its word: the item returns to READY at the tail of the replay list (R160). -/
def State.guardFail (d : Nat) (e : Entry) (s : State) : State :=
  let s := ((({ s with dsp.cntGuard := s.dsp.cntGuard + 1 }).withdrawOf e).unpin e.binds).setEnt d { e with
    st := .ready, onReplay := true, replay := true, binds := [], fetched := [], phase := .idle, post := ⟨0, [], [], []⟩
    pier := none, confirm := none, pid := 0, excluded := [] }
  (s.replayMove e.pier).toReplay d

/-- The item needs a cluster confirmation that it has not asked for (R162, R429). -/
def State.mustPropose (s : State) (e : Entry) : Option (ChangeKind × Nat × BitVec 64 × DWord) :=
  if s.enrolled && e.confirm.isNone then clusterOf e.post.intents else none

/-- The Deck takes the release tests of an item: it is DONE and eligible, its function unfenced, and a release may begin
(R110, R160, R164, R166, R520). -/
def State.mayTest (s : State) (e : Entry) : Bool :=
  e.st == .done && s.eligible e && e.confirm != some none && !s.fenced e.fn && !s.deck.noRelease && !s.clk.stopped &&
    decide (s.releasing < 64)

/-- The admission mismatch of R160: the event of R715, then a replay; an item of R138 takes the tests again. -/
def State.admissionMismatch (d : Nat) (e : Entry) (s : State) : State :=
  let (b, s) := s.draw 2
  let s := s.event 1138 0x040B d e.fn (s.itemVerdict e) (leNat b)
  if e.flow.isNone then s else (s.unpropose d).redispatch d

/-- RELEASE_TEST (R121, R160 to R165, R429): the pre-release tests in their order, and the start of the release. -/
def execReleaseTest (d : Idx) (entryLost flip : Bool) (s : State) : Host.Outcome State Fault Refusal :=
  match s.entOf d with
  | none => .next s
  | some e =>
    if !s.mayTest e then .next s
    else
      match s.mustPropose e with
      | some (k, t, kid, w) => .next (s.originPropose d e k t kid w)
      | none =>
        if entryLost && e.flow.isSome then .next ((s.unpropose d).redispatch d)
        else if e.post.guards.any (fun g => s.gword g.word != g.value) then .next (s.guardFail d e)
        else if flip then .next (s.admissionMismatch d e)
        else if (e.expiry.map (fun t => decide (t < s.now))).getD false then .next (s.deadline d e)
        else if e.gen ≠ (s.tnOf e.fn).gen then .next ((s.withdrawOf e).discard d)
        else .next (s.beginRelease d e (s.itemVerdict e))

/-- RELEASE_END (R139): every intent is applied and the completion issued; the item leaves flow order. Under hold-up a release
that ends is counted (R657). -/
def execReleaseEnd (d : Idx) (s : State) : Host.Outcome State Fault Refusal :=
  match s.entOf d with
  | some e =>
    if e.st == .releasing && !e.waiting then
      let n := b2n (s.pwr.quiesce && e.relStatus != 0x5001)
      .next ({ s with pwr.heldUp := s.pwr.heldUp + n }.leave d)
    else .next s
  | none => .next s

/-- DEADLINE_EXPIRY (R119 to R122): the expiry time of an item passes before its release has begun. -/
def execDeadlineExpiry (d : Idx) (s : State) : Host.Outcome State Fault Refusal :=
  match s.entOf d with
  | none => .next s
  | some e =>
    match e.expiry with
    | none => .next s
    | some t =>
      let s := s.advance t
      if e.st == .reserved || e.st == .releasing || e.st == .orphan || s.fenced e.fn || s.deck.noRelease ||
          decide (64 ≤ s.releasing) then .next s
      else if e.gen ≠ (s.tnOf e.fn).gen then .next ((s.withdrawOf e).discard d)
      else .next (s.deadline d e)

/-! ## The commit of journal releases (R265) -/

/-- The releases whose SEQ a persistent ANC_TN_KEY_SEQ write of a tenant covers. -/
def covered (t seq : Nat) (l : List Taken) : List Taken := l.filter (fun x => x.tenant == t && decide (x.seq ≤ seq))

/-- IMOD_TIMER_EXPIRY (R71): TIME after the first completion not yet covered, the message is due. -/
def execImodTimerExpiry (f : Fn) (q : Fin 64) (s : State) : Host.Outcome State Fault Refusal :=
  let x := s.qpOf f q
  if x.uncovered = 0 then .next s
  else
    let s := s.setQp f q { x with uncovered := 0 }
    .next (if x.imod.getLsbD 31 then s else s.msix f x.vec)

end Sys2Proof.Machine
end

