-- ==== Sys2Proof/Machine/Hiu.lean ====
section
/-! DEFINITION. The host interface unit: register access over the link, doorbells and queue enables, the fetch arbiter and
the arrival of items, tenant records, and the function-level and link resets (02 R44 to R97, R712, R713, 03 R108 to R118,
R124). -/

namespace Sys2Proof.Machine

/-! ## Which requests reach the registers (R87, R91, R93, R666, R712) -/

/-- The boot has reached step 12, or has stopped at a hold or a halt: configuration requests are answered (R666). -/
def State.cfgNormal (s : State) : Bool := !s.boot.booting || s.boot.answering

/-- PF BAR0 accepts requests: link up, no PF FLR under way, Memory Space Enable set, the HIU powered (R91, R93, R633). -/
def State.pfBar (s : State) : Bool := s.hiu.linkUp && !s.hiu.pfFlr && !s.hiu.cfgReset && s.cfgNormal && s.pwr.state != 2

/-- VF `f` exists on the link (R47, R712). -/
def State.vfExists (s : State) (f : Nat) : Bool := s.hiu.vfEnable && decide (1 ≤ f) && decide (f ≤ s.hiu.numVfs)

/-- HIU_VF_STATUS.READY. -/
def State.vfReady (s : State) (f : Nat) : Bool := tblGet false s.hiu.ready f

/-- A function's BAR accepts requests (R82, R87). -/
def State.barOk (s : State) (f : Nat) : Bool := s.pfBar && (f == 0 || (s.vfExists f && s.vfReady f))

/-- The queue pairs of a function (R54). -/
def qpCount (f : Nat) : Nat := if f = 0 then 64 else 16

/-- Change a queue pair. -/
def State.modQp (f q : Nat) (g : QP → QP) (s : State) : State := s.setQp f q (g (s.qpOf f q))

/-- An error bit of HIU_QP_STATUS is set, with STOPPED where the rule says so; QP_ERR is raised (R57, R59, R62, R65). -/
def State.qpError (f q : Nat) (bit : BitVec 3) (stop : Bool) (s : State) : State :=
  (s.modQp f q (fun x => { x with err := x.err ||| bit, stopped := x.stopped || stop })).tnEvent f 2

/-! ## Doorbells and enables (R58 to R63) -/

/-- SQ_DOORBELL (R62, R63). -/
def execSqDoorbell (f : Fn) (q : Fin 64) (t : Word) (s : State) : Host.Outcome State Fault Refusal :=
  let x := s.qpOf f q
  if !s.barOk f || decide (qpCount f ≤ q) || !x.en || x.stopped then .next s
  else if (t - x.sqHead).toNat ≤ 2 ^ x.sqLog ∧ (t - x.sqTail).toNat ≤ 2 ^ x.sqLog then
    .next (s.setQp f q { x with sqTail := t })
  else .next (s.qpError f q 2 true)

/-- CQ_HEAD_WRITE (R62, R63). -/
def execCqHeadWrite (f : Fn) (q : Fin 64) (h : Word) (s : State) : Host.Outcome State Fault Refusal :=
  let x := s.qpOf f q
  if !s.barOk f || decide (qpCount f ≤ q) || !x.en || x.stopped then .next s
  else if (x.cqTail - h).toNat ≤ 2 ^ x.cqLog ∧ (h - x.cqHead).toNat ≤ 2 ^ x.cqLog then
    .next (s.setQp f q { x with cqHead := h })
  else .next (s.qpError f q 2 true)

/-- The conditions of R59, with that of R77, on a queue pair whose configuration has been written. -/
def State.enableOk (s : State) (f : Nat) (x : QP) : Bool :=
  let inRange := fun (n : Nat) => decide (6 ≤ n) && decide (n ≤ 16)
  let t := s.tnOf f
  t.state == 1 && inRange x.sqLog && inRange x.cqLog && x.sqBase.toNat % 4096 == 0 && x.cqBase.toNat % 4096 == 0 &&
    s.winOk f x.sqBase.toNat (128 * 2 ^ x.sqLog) && s.winOk f x.cqBase.toNat (64 * 2 ^ x.cqLog + 64) &&
    (if f = 0 then decide (1 ≤ x.vec) && decide (x.vec ≤ 1023) else decide (x.vec ≤ 15)) && s.hiu.dpUp &&
    (t.kdirCount == 0 || s.winOk f t.kdirBase.toNat (160 * t.kdirCount.toNat))

/-- QP_ENABLE (R58 to R60): a write of EN = 1 to HIU_QP_CFG. -/
def execQpEnable (f : Fn) (q : Fin 64) (cfg : Word) (s : State) : Host.Outcome State Fault Refusal :=
  let x := s.qpOf f q
  if !s.barOk f || decide (qpCount f ≤ q) || x.en then .next s
  else
    let x := { x with cfg := cfg &&& 0x7FFFF }
    if s.enableOk f x then
      .next (s.setQp f q { x with
        cfg := x.cfg ||| 0x80000000, sqTail := 0, sqHead := 0, cqHead := 0, cqTail := 0, stopped := false, uncovered := 0 })
    else .next ((s.setQp f q x).qpError f q 1 false)

/-- QP_DISABLE (R63): a write of EN = 0. -/
def execQpDisable (f : Fn) (q : Fin 64) (s : State) : Host.Outcome State Fault Refusal :=
  if !s.barOk f || decide (qpCount f ≤ q) then .next s
  else .next (s.modQp f q (fun x => { x with cfg := x.cfg &&& 0x7FFFF }))

/-- MSIX_UNMASK (R71). -/
def execMsixUnmask (f : Fn) (v : Fin 2048) (s : State) : Host.Outcome State Fault Refusal :=
  let k := 2048 * f.val + v.val
  let e := tblGet ({} : Msix) s.hiu.msix k
  if !s.barOk f || (decide (1 ≤ f.val) && decide (16 ≤ v.val)) then .next s
  else
    let s := { s with hiu.msix := tblSet {} k { e with masked := false, pending := false } s.hiu.msix }
    .next (if e.pending && e.masked then s.emit (.msix f v e.addr e.data) else s)

/-! ## The fetch arbiter (R64, R94, R95, R136) -/

/-- The module fetches for a function: link up, data plane up, nothing stopped, tenant ACTIVE and not suspended (R79, R80,
R87, R91). -/
def State.fetches (s : State) (f : Nat) : Bool :=
  s.hiu.linkUp && !s.hiu.pfFlr && s.hiu.dpUp && !s.hiu.noFetch && !s.clk.stopped && !s.fenced f &&
    (s.tnOf f).state == 1 && !(s.tnOf f).suspend && (f == 0 || (s.vfExists f && s.vfReady f))

/-- How many descriptors one request may read: up to 8, not past the ring's end, and within the limits of R64. -/
def State.fetchable (s : State) (f q : Nat) : Nat :=
  let x := s.qpOf f q
  if !x.en || x.stopped || !s.fetches f then 0
  else
    let avail := (x.sqTail - x.sqHead).toNat
    let ring := 2 ^ x.sqLog - x.sqHead.toNat % 2 ^ x.sqLog
    let slots := 2 ^ x.cqLog - (s.qpItems f q + (x.cqTail - x.cqHead).toNat)
    let infl := (s.tnOf f).inflightMax.toNat - s.inflight f
    let room := 32768 - s.held.length
    min (min 8 avail) (min (min ring slots) (min infl room))

/-- The next key of a list at or after a pointer, over `n` places. -/
def rotMin (n ptr : Nat) (l : List Nat) : Option Nat :=
  let key := fun (u : Nat) => (u + n - ptr) % n
  l.foldl (fun best u => match best with
    | none => some u
    | some b => if key u < key b then some u else some b) none

/-- FETCH_GRANT (R64, R65, R95, R136): one descriptor read request; SQ_HEAD advances and Deck entries are reserved. -/
def execFetchGrant (s : State) : Host.Outcome State Fault Refusal :=
  let ok := (s.hiu.qp.map Prod.fst).filter (fun k => decide (0 < s.fetchable (k / 64) (k % 64)))
  match rotMin 1025 s.hiu.fnPtr (ok.map (fun k => k / 64)) with
  | none => .next s
  | some f =>
    match rotMin 64 (tblGet 0 s.hiu.qpPtr f) ((ok.filter (fun k => k / 64 == f)).map (fun k => k % 64)) with
    | none => .next s
    | some q =>
      let x := s.qpOf f q
      let n := s.fetchable f q
      let idxs := freeEntries s.deck.ent 32768 0 n
      let addr := x.sqBase.toNat + 128 * (x.sqHead.toNat % 2 ^ x.sqLog)
      let s := idxs.foldl (fun s d => s.setEnt d { fn := f, q := q }) s
      let s := s.setQp f q { x with sqHead := x.sqHead + w32 n }
      let g : Grant := ⟨s.hiu.nextTag, f, q, idxs, none⟩
      let s := s.emit (.descRead f addr (128 * n) s.hiu.nextTag)
      .next { s with
        hiu.fnPtr := (f + 1) % 1025
        hiu.qpPtr := tblSet 0 f ((q + 1) % qpCount f) s.hiu.qpPtr
        hiu.grants := s.hiu.grants ++ [g]
        hiu.nextTag := s.hiu.nextTag + 1 }

/-! ## Arrival (R96, R108 to R124, R142, R144) -/

/-- Checks 1 to 3 of R123 at arrival. -/
def arrivalCheck (fn : Nat) (d : Bytes) : Nat :=
  let op := opcodeOf d
  if !opcodes.contains op || (op / 256 == 0x0F && fn != 0) then 0x1001
  else if ctrlOf d % 4 = 3 ∨ 0xFFFF00 ≤ flowIdOf d then 0x1004
  else if 8 ≤ flagsOf d ∨ 16 ≤ ctrlOf d then 0x1003
  else 0

/-- The kind of session that an opcode's handle must name (R199). -/
def sessSuits (op kind : Nat) : Bool :=
  if op = 0x0402 then kind == 0x0401 else kind == 0x0201 || kind == 0x0202

/-- The session that an arriving item's handle names (R199). -/
def State.resolveSess (s : State) (fn : Nat) (gen : BitVec 16) (d : Bytes) : Option (Nat × Sess) :=
  match (bodyOf (fun _ _ => true) d).sess with
  | none => none
  | some h =>
    let k := 4096 * fn + h % 4096
    match tblGet none s.pay.sess k with
    | none => none
    | some x =>
      if x.inc.toNat = h / 4096 ∧ x.gen = gen ∧ sessSuits (opcodeOf d) x.data.kind ∧ s.now < x.expiry then some (k, x)
      else none

/-- An item is presented to the dispatcher: checked under checks 1 to 4 and filed, or placed in no flow (R96, R117, R118,
R124, R142, R144, R194). -/
def State.present (idx fn q : Nat) (d : Bytes) (s : State) : State :=
  let gen := (s.tnOf fn).gen
  let arr := s.dsp.arrivals
  let s := { s with dsp.arrivals := arr + 1 }
  let exp := if deadlineOf d = 0 then none else some (s.now + deadlineOf d)
  let fl := flowOf fn d
  let rec_ := tblGet none s.dsp.flows (flowKey fl)
  let st := arrivalCheck fn d
  let seqBad := seqCheckOf d && (match rec_.bind (fun r => r.seq) with
    | some v => w32 (seqOf d) != v + 1
    | none => false)
  let st := if st = 0 ∧ seqBad then 0x1004 else st
  if st ≠ 0 then
    s.setEnt idx { fn := fn, q := q, gen := gen, desc := d, st := .done, arrival := arr, expiry := exp,
                   post := ⟨st, [], [], []⟩, postedAt := s.now }
  else
    let order := if keyFlowOp (opcodeOf d) && ctrlOf d % 4 == 1 then 0 else ctrlOf d % 4
    let prioMax := (s.tnOf fn).sched.toNat / 256 % 4
    let prio := ctrlOf d / 4 % 4
    let f0 := rec_.getD ⟨none, []⟩
    let f1 : Flow := ⟨if seqCheckOf d then some (w32 (seqOf d)) else f0.seq,
      if order = 2 then f0.barriers ++ [arr] else f0.barriers⟩
    let (cls, cost) := costOf d
    ({ s with dsp.flows := tblSet none (flowKey fl) (some f1) s.dsp.flows }).setEnt idx {
      fn := fn, q := q, gen := gen, desc := d, st := .ready, flow := some fl, order := order, prio := min prio prioMax
      clamped := decide (prioMax < prio), arrival := arr, expiry := exp, cls := cls, cost := cost
      policy := s.ancGet (0x1100 + 3 * fn + 1), dectab := s.ancGet (0x1100 + 3 * fn + 2)
      sess := s.resolveSess fn gen d }

/-- Present every grant at the front whose data has returned, in grant order (R96). -/
def State.presentReady : List Grant → State → State
  | [], s => { s with hiu.grants := [] }
  | g :: gs, s =>
    match g.data with
    | none => { s with hiu.grants := g :: gs }
    | some ds => (((g.idxs.zip ds).foldl (fun s x => s.present x.1 g.fn g.q x.2) s)).presentReady gs

/-- A grant's data is known: `some []` when it was dropped. -/
def setGrant (tag : Nat) (ds : List Bytes) (l : List Grant) : List Grant :=
  l.map (fun g => if g.tag = tag then { g with data := some ds } else g)

/-- DESCRIPTOR_ARRIVAL (R96): the data of a grant returns. -/
def execDescriptorArrival (tag : Nat) (descs : List Bytes) (s : State) : Host.Outcome State Fault Refusal :=
  match s.hiu.grants.find? (fun g => g.tag == tag) with
  | none => .next s
  | some g =>
    if g.data.isSome || descs.length != g.idxs.length || descs.any (fun d => d.length != 128) then .next s
    else .next (s.presentReady (setGrant tag descs s.hiu.grants))

/-- The reserved entries of a dropped grant are freed (R64, R136). -/
def State.dropGrant (g : Grant) (s : State) : State :=
  { s with
    deck.ent := g.idxs.foldl (fun t d => tblSet none d none t) s.deck.ent
    hiu.grants := setGrant g.tag [] s.hiu.grants }

/-- A descriptor read ends in error (R65): its descriptors never enter the module, the queue pair stops. -/
def State.descError (tag : Nat) (e : ReadErr) (s : State) : State :=
  match s.hiu.grants.find? (fun g => g.tag == tag) with
  | none => s
  | some g =>
    if g.data.isSome then s
    else
      let s := ((s.dropGrant g).qpError g.fn g.q 4 true).event 1136 0x040A g.fn (g.idxs.headD 0) 2 (readErrCode e)
      s.presentReady s.hiu.grants

/-- DESCRIPTOR_READ_ERROR (R65). -/
def execDescriptorReadError (tag : Nat) (e : ReadErr) (s : State) : Host.Outcome State Fault Refusal := .next (s.descError tag e)

/-- HOST_COMPLETION_TIMEOUT (R65, R68, R275): a read gets no completion within the Completion Timeout. -/
def execHostCompletionTimeout (r : ReadFor) (s : State) : Host.Outcome State Fault Refusal :=
  match r with
  | .descriptors tag => .next (s.descError tag .timeout)
  | .item d =>
    match s.entOf d with
    | none => .next s
    | some e =>
      match e.active, e.phase with
      | true, .binding (some _) => .next ({ s with keys.cntFillErr := s.keys.cntFillErr + 1 }.readFailed d 1 .timeout)
      | true, .input (_ :: _) => .next (s.readFailed d 0 .timeout)
      | _, _ => .next s

/-! ## Tenant records (R72 to R79) -/

/-- A write to the record is refused (R76, R77). -/
def State.tnRefuse (f : Nat) (s : State) : State := s.modTn f (fun r => { r with err := true })

/-- Every queue pair of the function is disabled and it has no item in the module (R77). -/
def State.tnIdle (s : State) (f : Nat) : Bool :=
  s.inflight f == 0 && !s.hiu.qp.any (fun x => x.1 / 64 == f && x.2.en)

/-- TENANT_RECORD_WRITE (R74, R76, R77). -/
def execTenantRecordWrite (f : Fn) (fld : TnField) (value : DWord) (s : State) : Host.Outcome State Fault Refusal :=
  if !s.pfBar then .next s
  else
    let v := value.toNat
    let put := fun (ok : Bool) (g : Tn → Tn) =>
      (if ok then .next (s.modTn f g) else .next (s.tnRefuse f) : Host.Outcome State Fault Refusal)
    let idle := s.tnIdle f
    match fld with
    | .sched =>
      let w := (value.setWidth 32) &&& 0x3FF
      if v % 256 = 0 then
        .next ((s.tnRefuse f).modTn f (fun r => { r with sched := (r.sched &&& 0xFF) ||| (w &&& 0x300) }))
      else .next (s.modTn f (fun r => { r with sched := w }))
    | .inflightMax =>
      put (decide (16 ≤ v % 65536) && decide (v % 65536 ≤ 32768)) (fun r => { r with inflightMax := w32 (v % 65536) })
    | .winBase => put (idle && v % 4096 == 0) (fun r => { r with winBase := value })
    | .winSize => put (idle && v % 4096 == 0 && decide (v ≤ 2 ^ 39)) (fun r => { r with winSize := value })
    | .kdirBase => put (idle && v % 32 == 0) (fun r => { r with kdirBase := value })
    | .kdirCount =>
      put (idle && decide (v % 2 ^ 25 ≤ 16777216)) (fun r => { r with kdirCount := w32 (v % 2 ^ 25) })

/-- TENANT_SUSPEND (R79): a write of HIU_TN_CTRL. -/
def execTenantSuspend (f : Fn) (on : Bool) (s : State) : Host.Outcome State Fault Refusal :=
  if !s.pfBar then .next s else .next (s.modTn f (fun r => { r with suspend := on }))

/-! ## VF resets (R87 to R90, R201, R712) -/

/-- Set or clear a function's fence (R166). -/
def State.setFence (f : Nat) (b : Bool) (s : State) : State := { s with hiu.fence := tblSet false f b s.hiu.fence }

/-- Set or clear READY (R82). -/
def State.setReady (f : Nat) (b : Bool) (s : State) : State := { s with hiu.ready := tblSet false f b s.hiu.ready }

/-- The queue pairs, MSI-X table and mailbox of a function return to their reset values (step 3 of R87, R571). -/
def State.resetFn (f : Nat) (s : State) : State :=
  { s with
    hiu.qp := tblDrop (fun k => k / 64 == f) s.hiu.qp
    hiu.msix := tblDrop (fun k => k / 2048 == f) s.hiu.msix
    mss.vf := tblDrop (fun k => k == f) s.mss.vf }

/-- Outstanding descriptor reads of a function are dropped (R63, R87). -/
def State.dropFetches (f : Nat) (s : State) : State :=
  let s := (s.hiu.grants.filter (fun g => g.fn == f && g.data.isNone)).foldl (fun s g => s.dropGrant g) s
  s.presentReady s.hiu.grants

/-- Sessions of a function close (R198, R201). -/
def State.closeFnSess (f : Nat) (s : State) : State :=
  { s with pay.sess := s.pay.sess.filter (fun x => x.1 / 4096 != f) }

/-- Steps 1 to 3 of R87. -/
def State.vfReset (f : Nat) (s : State) : State :=
  (((((s.setReady f false).setFence f true).dropFetches f).nextGen f).resetFn f).signal (f - 1)

/-- VF_FLR (R87, R89). -/
def execVfFlr (f : Fn) (s : State) : Host.Outcome State Fault Refusal :=
  if !s.hiu.linkUp || s.hiu.pfFlr || !s.vfExists f then .next s else .next (s.vfReset f)

/-- VF_SESSIONS_CLEAR (step 4 of R87, R201). -/
def execVfSessionsClear (f : Fn) (s : State) : Host.Outcome State Fault Refusal :=
  if s.fenced f && decide (1 ≤ f.val) then .next (s.closeFnSess f) else .next s

/-- VF_FLR_READY (step 5 of R87; R712 after VF Enable is set): READY, the FRS message, and FLR_DONE after an FLR. -/
def execVfFlrReady (f : Fn) (s : State) : Host.Outcome State Fault Refusal :=
  if f.val = 0 ∨ s.hiu.pfFlr then .next s
  else
    let frs := fun (s : State) => if s.vfExists f && s.hiu.linkUp then s.emit (.frs f) else s
    if s.fenced f then .next ((frs (((s.closeFnSess f).setFence f false).setReady f true)).tnEvent f 1)
    else if s.vfExists f && !s.vfReady f then .next (frs (s.setReady f true))
    else .next s

/-- VF_ENABLE_CLEAR (R712): every VF goes through a VF FLR. -/
def execVfEnableClear (s : State) : Host.Outcome State Fault Refusal :=
  if !s.hiu.linkUp || s.hiu.pfFlr || !s.hiu.vfEnable then .next s
  else
    let s := ((List.range s.hiu.numVfs).map (· + 1)).foldl (fun s f => s.vfReset f) s
    .next { s with hiu.vfEnable := false }

/-- VF_ENABLE_SET (R47, R712): NumVFs takes 1 to 1,024; READY follows for each VF. -/
def execVfEnableSet (numVfs : Nat) (s : State) : Host.Outcome State Fault Refusal :=
  if !s.hiu.linkUp || s.hiu.pfFlr || !s.cfgNormal || s.hiu.vfEnable || decide (numVfs = 0) || decide (1024 < numVfs) then
    .next s
  else .next { s with hiu.vfEnable := true, hiu.numVfs := numVfs, hiu.ready := [] }

/-! ## PF FLR and link resets (R91 to R93, R186, R300, R331, R371) -/

/-- Every item whose release has not begun is abandoned, its proposal withdrawn (R91, R435); a release that has begun goes
on (R163). -/
def State.abandonItems (s : State) : State :=
  let s := (s.held.filter (fun x => x.2.st == .done)).foldl (fun s x => s.withdrawOf x.2) s
  { s with deck.ent := s.deck.ent.filter (fun x => match x.2 with
      | some e => e.st == .releasing
      | none => false) }

/-- Every generation moves on, skipping the values that releases under way still carry (R84, R91). -/
def State.moveAllGens (s : State) : State :=
  { s with hiu.tn := (List.range 1025).foldl (fun t f =>
      let used := (s.held.filter (fun x => x.2.fn == f)).map (fun x => x.2.gen)
      tblMod {} f (fun r => { r with gen := freshGen used 32769 (r.gen + 1) }) t) s.hiu.tn }

/-- A pier after the reset of step 4 of R91: towards its take port, unless quarantined, kept out or parked (R176). -/
def pierReset (x : PierSt) : PierSt :=
  match x with
  | .holding _ | .waiting | .idle => .idle
  | x => x

/-- The data plane is reset (steps 2 to 4 of R91): pointers to 0 (R178), registers as R186, R300, R331 and R371 say, key
cache, Deck, flow table and staging invalidated, engine bays power-cycled, sessions closed. -/
def State.resetDataPlane (s : State) : State :=
  let s := { s with deck.ent := tblMap none (fun _ x => x.map (fun (e : Entry) => { e with binds := [] })) s.deck.ent }
  let s := (List.range 12).foldl (fun s b => s.bayOff b) s
  let s := s.clearRange 0x40000000 0x4800000
  { s with
    dsp := { ctrl := s.dsp.ctrl, piers := tblMap .idle (fun _ x => pierReset x) s.dsp.piers, parkNext := s.dsp.parkNext,
             quar := s.dsp.quar, noGrant := s.dsp.noGrant, arrivals := s.dsp.arrivals }
    deck := { ent := s.deck.ent, noRelease := true }
    hiu := { s.hiu with qp := [], msix := [], grants := [], fnPtr := 0, qpPtr := [], ready := [], vfEnable := false, d3hot := false }
    keys.t1 := []
    keys.t2 := []
    keys.ctrl := 3
    keys.flushing := none
    pay.sess := []
    eng.ports := []
    eng.engPtr := []
    eng.pierPtr := []
    eng.sceFault := 0
    eng.pksFault := 0
    mss.vf := []
    evr.pagePf := 0 }

/-- HIU_ID_STATE.STATE changes: PF vector 0 is raised, and ALERT_CAUSE notes it (R53, R563). -/
def State.setIdState (x : BitVec 3) (s : State) : State :=
  if s.hiu.idState = x then s
  else ({ s with hiu.idState := x, mss.alert := s.mss.alert ||| 4 }).msix 0 0

/-- A PF FLR begins (steps 1 to 4 of R91). -/
def State.pfFlrStart (s : State) : State :=
  let s := { s with hiu.pfFlr := true, hiu.dpUp := false
                    hiu.fence := (List.range 1025).map (fun f => (f, true)) }
  (((s.abandonItems).moveAllGens).resetDataPlane).signal 1136

/-- PF_FLR (R91). -/
def execPfFlr (s : State) : Host.Outcome State Fault Refusal :=
  if !s.hiu.linkUp || s.boot.booting then .next s else .next s.pfFlrStart

/-- The configuration enables the data plane: an overlay with a data plane, and DP_ENABLE of item 0x0003 (R607, R609). -/
def State.dpEnabled (s : State) : Bool := (s.hiu.overlay == 0 || s.hiu.overlay == 3) && s.boot.enItem.getLsbD 0

/-- The data plane may be up: the boot is done and nothing holds it down (R53, R607, R669, R672). -/
def State.dpAllowed (s : State) : Bool := !s.boot.booting && s.hiu.idState == 3 && s.dpEnabled

/-- PF_FLR_READY (step 5 of R91): the PF is ready, DP_UP returns to 1 where the state allows, fences end. -/
def execPfFlrReady (s : State) : Host.Outcome State Fault Refusal :=
  if !s.hiu.pfFlr then .next s
  else
    let s := { s with hiu.pfFlr := false, hiu.fence := [], hiu.dpUp := s.dpAllowed, deck.noRelease := s.pwr.quiesce || s.boot.request.isSome
                      hiu.linkUp := s.hiu.linkUp || !s.hw.perst }
    .next (if s.hiu.linkUp then s.emit (.frs 0) else s)

/-- What acts as a PF FLR with configuration space at its reset values and the link retraining (R93); in DORMANT the saved copy of
the HIU state (R642) is reset with it. -/
def State.linkReset (s : State) : State :=
  let s := if s.boot.booting then s else s.pfFlrStart
  let s := { s with hiu.cfgReset := true, hiu.linkUp := false, hiu.vfEnable := false, hiu.numVfs := 0, hiu.d3hot := false }
  { s with pwr.saved := s.pwr.saved.map (fun (v : Saved) => { v with hiu := s.hiu }) }

/-- HOT_RESET (R93). -/
def execHotReset (s : State) : Host.Outcome State Fault Refusal := if s.hiu.linkUp then .next s.linkReset else .next s

/-- DL_DOWN (R93). -/
def execDlDown (s : State) : Host.Outcome State Fault Refusal := if s.hiu.linkUp then .next s.linkReset else .next s

/-- CONFIG_REQUEST (R87, R91, R93, R666, R712): retry status, Unsupported Request, or a normal answer; after a reset of
configuration space the host sets the PF up again with the requests that are answered normally (log 20). A request to the PF that is
answered normally may write its power state: `d3` is D3hot, or D0, where it does (R634, log 62). -/
def execConfigRequest (f : Fn) (d3 : Option Bool) (s : State) : Host.Outcome State Fault Refusal :=
  if !s.hiu.linkUp then .next s
  else if f.val = 0 then
    if s.hiu.pfFlr || !s.cfgNormal then .next (s.emit (.config 0 .retry))
    else .next ({ s with hiu.cfgReset := false, hiu.d3hot := d3.getD s.hiu.d3hot }.emit (.config 0 .normal))
  else if !s.vfExists f then .next (s.emit (.config f .unsupported))
  else if !s.vfReady f then .next (s.emit (.config f .retry))
  else .next (s.emit (.config f .normal))

end Sys2Proof.Machine
end

