-- ==== Sys2Proof/Machine/Clock.lean ====
section
/-! DEFINITION. The clock monitor, the fabric clock switch with its replays, the MSS PLL, and the power-up and gating of
pier groups and engine bays (01 R19 to R33). -/

namespace Sys2Proof.Machine

/-! ## Fabric PLLs (R21 to R26) -/

/-- The other fabric PLL. -/
def otherPll : PllName → PllName
  | .a => .b
  | .b => .a

/-- The number of a PLL in events and in PWR_STATUS. -/
def pllNo : PllName → Nat
  | .a => 0
  | .b => 1

/-- A fabric PLL. -/
def State.pll (s : State) (p : PllName) : Pll := match p with
  | .a => s.clk.pllA
  | .b => s.clk.pllB

/-- Write a fabric PLL. -/
def State.setPll (p : PllName) (x : Pll) (s : State) : State := match p with
  | .a => { s with clk.pllA := x }
  | .b => { s with clk.pllB := x }

/-- A PLL is measured: commanded on, and locked or in its relock self-test; one that is off or starting is ignored (R26). -/
def Pll.running (x : Pll) : Bool := x.on && (x.locked || x.quarantined)

/-- A PLL can take the fabric clock: running, locked and not quarantined (R24). -/
def Pll.standby (x : Pll) : Bool := x.on && x.locked && !x.quarantined

/-- A failed PLL is quarantined and its count of windows begins anew (R24). -/
def Pll.fail (x : Pll) (locked : Bool) : Pll := { x with locked := locked, quarantined := true, windows := 0 }

/-- The items that were executing when the fabric clock was held: they restart (R23, R169). -/
def State.executing (s : State) : List (Nat × Entry) := s.held.filter (fun x => x.2.active)

/-- The DONE items posted since the start of the window that failed, of 2 µs, by the rotating pointer over the piers that
held them (R23, R169). -/
def State.recentDone (s : State) : List Nat :=
  let l := s.held.filter (fun x => x.2.st == .done && x.2.flow.isSome && decide (s.now ≤ x.2.postedAt + 2))
  let place := fun (e : Entry) => (e.pier.getD 0 + 128 - s.dsp.replayPtr) % 128
  (List.range 128).flatMap (fun i => (l.filter (fun x => place x.2 == i)).map Prod.fst)

/-- The replays of R23. -/
def State.clockReplays (s : State) : State :=
  let run := s.executing
  let done := s.recentDone
  let s := run.foldl (fun s x => s.restart x.1) s
  done.foldl (fun s d => (s.unpropose d).redispatch d) s

/-- The active PLL fails (R22 to R25): the fabric moves to the standby PLL and the affected items are replayed; with no
standby the fabric stops and a module reset is requested. `cause` as event 0x0408 names it. -/
def State.activeFail (cause : Nat) (s : State) : State :=
  let p := s.clk.active
  let x := s.pll p
  if !x.running || s.clk.stopped || s.pwr.state != 0 then s
  else
    let n := (s.executing.filter (fun y => y.2.st == .running)).length
    let m := s.recentDone.length
    let other := (s.pll (otherPll p)).standby
    let s := s.setPll p (x.fail (cause != 0))
    if other then
      ({ s with clk.active := otherPll p }.clockReplays).event 1145 0x0408 (pllNo p) cause n m
    else ({ s with clk.stopped := true }).requestReset 1

/-- The standby PLL fails: it is quarantined and nothing is replayed (R24). -/
def State.standbyFail (locked : Bool) (s : State) : State :=
  let p := otherPll s.clk.active
  let x := s.pll p
  if x.running && !x.quarantined then s.setPll p (x.fail locked) else s

/-- CLOCK_MONITOR_WINDOW (R22, R24, R26): a window of a running PLL ends; a quarantined one counts its consecutive windows
in tolerance. -/
def execClockMonitorWindow (pll : PllName) (inTolerance : Bool) (s : State) : Host.Outcome State Fault Refusal :=
  let x := s.pll pll
  if !x.running then .next s
  else if x.quarantined then
    .next (s.setPll pll { x with locked := inTolerance, windows := if inTolerance then min 1000 (x.windows + 1) else 0 })
  else if inTolerance then .next s
  else if pll = s.clk.active then .next (s.activeFail 1)
  else .next (s.standbyFail true)

/-- FABRIC_PLL_FAIL (R22 to R25): the active PLL fails by loss of lock, window frequency or edge detector. -/
def execFabricPllFail (cause : Fin 3) (s : State) : Host.Outcome State Fault Refusal := .next (s.activeFail cause)

/-- STANDBY_PLL_FAIL (R24). -/
def execStandbyPllFail (s : State) : Host.Outcome State Fault Refusal := .next (s.standbyFail false)

/-- PLL_QUARANTINE_END (R24): a quarantined PLL returns as standby after 1,000 consecutive windows in tolerance, or fails its
relock self-test and stays quarantined. -/
def execPllQuarantineEnd (pll : PllName) (pass : Bool) (s : State) : Host.Outcome State Fault Refusal :=
  let x := s.pll pll
  if !x.quarantined || (pass && decide (x.windows < 1000)) then .next s
  else if pass then
    .next ((s.setPll pll { x with locked := true, quarantined := false, windows := 0 }).event 1145 0x0409 (pllNo pll) 0 0 0)
  else .next ((s.setPll pll { x with windows := 0 }).event 1145 0x0409 (pllNo pll) 1 0 0)

/-- SECOND_PLL_LOCK (R26): the second PLL to lock after a wake becomes standby. -/
def execSecondPllLock (s : State) : Host.Outcome State Fault Refusal :=
  let p := otherPll s.clk.active
  let x := s.pll p
  if x.on && !x.locked && !x.quarantined && s.pwr.state == 0 then .next (s.setPll p { x with locked := true }) else .next s

/-! ## The MSS PLL (R27) -/

/-- MSS_PLL_LOSS: the MSS falls back to the reference and records it. -/
def execMssPllLoss (s : State) : Host.Outcome State Fault Refusal :=
  if s.clk.mssLocked && s.pwr.state == 0 then .next ({ s with clk.mssLocked := false }.event 0xFFFF 0x040C 0 0 0 0)
  else .next s

/-- MSS_PLL_RELOCK. -/
def execMssPllRelock (s : State) : Host.Outcome State Fault Refusal :=
  if !s.clk.mssLocked && s.pwr.state == 0 then .next ({ s with clk.mssLocked := true }.event 0xFFFF 0x040C 1 0 0 0)
  else .next s

/-! ## Pier groups (R29) -/

/-- The state of a pier group. -/
def State.groupOf (s : State) (g : Nat) : GroupSt := tblGet .powered s.clk.groups g
/-- Set the state of a pier group. -/
def State.setGroup (g : Nat) (x : GroupSt) (s : State) : State := { s with clk.groups := tblSet .powered g x s.clk.groups }

/-- The piers of a group. -/
def groupPiers (g : Nat) : List Nat := (List.range 8).map (fun i => 8 * g + i)

/-- PIER_GROUP_POWER_UP (R29): the group's local memories are cleared and their firmware loaded, and the parked piers run
towards their take ports. -/
def execPierGroupPowerUp (g : Fin 16) (s : State) : Host.Outcome State Fault Refusal :=
  if s.groupOf g ≠ .powering then .next s
  else
    .next ((groupPiers g).foldl (fun s p =>
      (if s.pierOf p = .parked then s.setPier p .idle else s).clearInst .pierLocal p) (s.setGroup g .powered))

/-! ## Engine bays (R30 to R32) -/

/-- Every engine of a bay is idle with an empty request queue. -/
def State.bayIdle (s : State) (b : Nat) : Bool := (bayEngines b).all (fun e => (s.engOf e).q.isEmpty && !(s.engOf e).scrubbing)

/-- A bay that is marked parked powers down once its engines have finished the requests they hold (R321, R656). -/
def State.parkSettle (b : Nat) (s : State) : State :=
  if s.parkMarked b && s.bayIdle b && s.bayOf b != .parked then (s.bayOff b).setBay b .parked else s

/-- BAY_POWER_GATE (R30, R321): an idle bay loses its power; one that is marked parked is parked. -/
def execBayPowerGate (b : Bay) (s : State) : Host.Outcome State Fault Refusal :=
  let i := bayIx b
  if s.parkMarked i then .next (s.parkSettle i)
  else if s.bayOf i = .powered ∧ s.bayIdle i then .next ((s.bayOff i).setBay i .gated)
  else .next s

/-- BAY_WAKE (R31): a request to a power-gated bay wakes it. -/
def execBayWake (b : Bay) (s : State) : Host.Outcome State Fault Refusal :=
  let i := bayIx b
  if s.bayOf i = .gated then .next (s.setBay i .waking) else .next s

/-- BAY_WAKE_DONE (R32): the bay is powered, its engines clean. The requests that wait for it enter its queues with the
power-up, which takes at most 2.0 µs. -/
def execBayWakeDone (b : Bay) (s : State) : Host.Outcome State Fault Refusal :=
  let i := bayIx b
  if s.bayOf i = .waking then .next (s.setBay i .powered) else .next s

end Sys2Proof.Machine
end

