-- ==== Sys2Proof/Machine/EngOps.lean ====
section
/-! DEFINITION. The operations of the cipher, hash and public-key engines as functions of a request, its input and its key
(07 R301 to R317, 08 R341 to R354). -/

namespace Sys2Proof.Machine

/-- What an engine makes of a request. -/
inductive EngOut where
  /-- DONE with an output. -/
  | out (b : Bytes)
  /-- DONE or VERIFY_NO of a compare. -/
  | verdict (yes : Bool)
  /-- Another RSTATUS. -/
  | status (st : Nat)
  /-- DONE with a derived or generated key and its public key. -/
  | key (mat pub : Bytes)
  /-- DONE with an opened PIN. -/
  | pin (digits : List Nat)
  /-- DONE with an output of `n` bytes whose value the spec does not state (an input that is not whole blocks). -/
  | unstated (n : Nat)
deriving DecidableEq, Repr

/-! ## Requests (R303, R306, R341, R342) -/

/-- AUX of a cipher or hash operation lies within the table of R306; `none` for an OP outside it. -/
def auxOk (op aux : Nat) : Option Bool :=
  let mac := fun (lim : Nat) => decide (1 ≤ aux % 256) && decide (aux % 256 ≤ lim) && decide (aux < 256)
  let alg := decide (1 ≤ aux % 4) && decide (aux / 4 % 64 = 0) && decide (1 ≤ aux / 256) && decide (aux / 256 ≤ 16)
  let fmt := fmtOk aux
  match op with
  | 0x0100 | 0x0101 | 0x0110 | 0x0111 | 0x0130 | 0x0131 | 0x0190 | 0x0200 | 0x0201 => some (aux == 0)
  | 0x0120 => some (decide (32 ≤ aux) && decide (aux ≤ 128))
  | 0x0140 | 0x0141 => some (decide (4 ≤ aux / 65536) && decide (aux / 65536 ≤ 16))
  | 0x0150 | 0x0151 => some (mac 16)
  | 0x0160 | 0x0161 | 0x0170 | 0x0171 => some alg
  | 0x0180 | 0x0181 => some (mac 16)
  | 0x01A0 | 0x01A1 => some (aux % 16 == 0 && decide (16 ≤ aux) && decide (aux ≤ 65536))
  | 0x0300 | 0x0301 => some fmt
  | 0x0302 | 0x0303 => some (decide (aux ≤ 12))
  | 0x0304 | 0x0305 => some (decide (1 ≤ aux % 16) && decide (aux / 16 ≤ 9))
  | 0x0800 | 0x0801 | 0x0802 => some (aux == 0)
  | 0x0810 => some (mac 32)
  | 0x0811 => some (mac 16)
  | _ => none

/-- The public-key operations and the key types each takes (R342). -/
def pkOpAlg (op a : Nat) : Option Bool :=
  match op with
  | 0x0400 | 0x0401 | 0x0402 | 0x0403 | 0x0404 | 0x0405 => some (isRsa a)
  | 0x0410 | 0x0411 | 0x0412 | 0x0413 | 0x0414 => some (isCurve a)
  | 0x0420 => some (a == 0x20)
  | 0x0421 | 0x0422 => some (a == 0x21)
  | 0x0423 => some (a == 0x20 || a == 0x21)
  | _ => none

/-- A request that an engine executes: its OP, flags, AUX and LEN are within R303, R306, R341 and R342. -/
def reqOk (e : Nat) (q : Req) : Bool :=
  if e < 48 then
    (if e < 32 then decide (q.op < 0x0800) else decide (0x0800 ≤ q.op)) && (auxOk q.op q.aux).getD false &&
      decide (q.len ≤ 65536) && (q.src != 0 || decide (q.len ≤ 48))
  else
    !q.chain && !q.keyChain && !q.toChain && (pkOpAlg q.op (q.aux % 256)).getD false && decide (q.aux / 256 % 4 ≤ 2) &&
      decide (q.aux / 4096 % 16 = 0) && decide (q.aux < 2 ^ 24) && (q.src != 0 || q.len == 0)

/-- The request needs a key: all but the plain hashes, generations, and what takes its public key from staging (R303,
R341). -/
def needsKey (q : Req) : Bool :=
  match q.op with
  | 0x0800 | 0x0801 | 0x0802 | 0x0404 | 0x0413 => false
  | 0x0401 | 0x0411 | 0x0422 | 0x0423 => q.keyOp != 0
  | _ => true

/-- The key types that the algorithms of R301 and R342 give an operation. -/
def opSuits (q : Req) (alg : Nat) : Bool :=
  let aes := aesAlgs.contains alg
  let tdea := alg == 0x80 || alg == 0x81
  match q.op with
  | 0x0120 | 0x0130 | 0x0131 | 0x0140 | 0x0141 | 0x0190 => aes
  | 0x0170 | 0x0171 => alg == 0x80
  | 0x0180 | 0x0181 => aes || alg == 0x80
  | 0x01A0 | 0x01A1 => alg == 0x85 || alg == 0x86
  | 0x0300 | 0x0301 => (fmtAlgs q.aux).contains alg
  | 0x0810 | 0x0811 => alg == 0x87
  | op => if op < 0x0400 then aes || tdea else alg == q.aux % 256

/-- The key types that suit a KEY_OP of R311 (the fourth condition of R280). -/
def keyOpSuits (k alg : Nat) : Bool :=
  let sym := aesAlgs.contains alg || alg == 0x80 || alg == 0x81
  match k % 128 with
  | 0x01 | 0x02 => sym
  | 0x03 | 0x04 => aesAlgs.contains alg
  | 0x05 | 0x06 => alg == 0x85 || alg == 0x86
  | 0x07 => isRsa alg
  | 0x08 => sym || isCurve alg || alg == 0x20
  | 0x09 | 0x0A => sym || alg == 0x87
  | 0x0B | 0x0E | 0x0F => sym
  | 0x0C | 0x0D => isRsa alg || isCurve alg || alg == 0x21
  | _ => true

/-- The slots that a request's key occupies: SLOT, or the part slots that DATA lists (R341). -/
def reqSlots (q : Req) : List Nat :=
  if 0x0400 ≤ q.op ∧ q.op < 0x0800 ∧ isRsa (q.aux % 256) then
    (List.range (algParts (q.aux % 256))).map (fun i => fld q.data (3 * i) 3 % 2 ^ 18)
  else [q.slot % 2 ^ 18]

/-! ## Cipher engines (R306) -/

/-- CTR with `w` counter bits incremented (R306). -/
def ctrBits (c : Ciph) (w : Nat) : Nat → List Bytes → Bytes
  | _, [] => []
  | n, b :: bs => xorB b (c.enc (natBe 16 n)) ++ ctrBits c w (n / 2 ^ w * 2 ^ w + (n + 1) % 2 ^ w) bs

/-- GCM with an IV of 12 bytes and a tag of `t` bytes; the additional data stands before the text (R306). -/
def gcmRun (enc : Bool) (key iv cmp m : Bytes) (aad t : Nat) : EngOut :=
  let a := m.take aad
  let x := m.drop aad
  if enc then
    let r := gcmSeal key (iv.take 12) a x
    .out (r.1 ++ r.2.take t)
  else if (gcmTag key (iv.take 12) a x).take t = cmp.take t then .out (gcmCtr key (iv.take 12) x)
  else .verdict false

/-- A generated value, or its compare with CMP (R306, R307). -/
def genOrVerify (verify : Bool) (v cmp : Bytes) : EngOut := if verify then .verdict (v == cmp.take v.length) else .out v

/-- The modes of R306 under a key: `m` is the input. -/
def cipherRun (q : Req) (alg : Nat) (mat m : Bytes) : EngOut :=
  let c := ciphOf alg mat
  let n := m.length
  let whole := fun (f : Bytes) => if n % c.bl = 0 then EngOut.out f else .unstated n
  match q.op with
  | 0x0100 => whole (ecbEnc c m)
  | 0x0101 => whole (ecbDec c m)
  | 0x0110 => whole (cbcEnc c (q.iv.take c.bl) m)
  | 0x0111 => whole (cbcDec c (q.iv.take c.bl) m)
  | 0x0120 => .out (ctrBits c q.aux (fldBe q.iv 0 16) (blocks 16 m))
  | 0x0130 => .out (cfbEnc c q.iv m)
  | 0x0131 => .out (cfbDec c q.iv m)
  | 0x0140 => gcmRun true mat q.iv q.cmp m (q.aux % 65536) (q.aux / 65536)
  | 0x0141 => gcmRun false mat q.iv q.cmp m (q.aux % 65536) (q.aux / 65536)
  | 0x0150 => genOrVerify false ((cmacB c m).take q.aux) q.cmp
  | 0x0151 => genOrVerify true ((cmacB c m).take q.aux) q.cmp
  | 0x0160 => genOrVerify false ((mac1 c (q.aux % 4) m).take (q.aux / 256)) q.cmp
  | 0x0161 => genOrVerify true ((mac1 c (q.aux % 4) m).take (q.aux / 256)) q.cmp
  | 0x0170 => genOrVerify false ((mac3 mat (q.aux % 4) m).take (q.aux / 256)) q.cmp
  | 0x0171 => genOrVerify true ((mac3 mat (q.aux % 4) m).take (q.aux / 256)) q.cmp
  | 0x0180 => .out (bcdEnc ((q.aux + 1) / 2) (cvcValue c m q.aux))
  | 0x0181 => .verdict (cvcValue c m q.aux == bcd q.cmp q.aux)
  | 0x0190 => if n % 16 = 0 then .out (cbcMac c (zeros 16) m) else .unstated 16
  | 0x0200 =>
    match algShape q.outAlg with
    | some (k, 1) => if n % c.bl = 0 ∧ k ≤ n then .key ((ecbEnc c m).take k) [] else .status 6
    | _ => .status 6
  | 0x0201 => whole (ecbEnc c m)
  | op =>
    if equalHalves mat then .status 5
    else if n % q.aux ≠ 0 then .unstated n
    else .out (xtsUnits (op == 0x01A0) mat (leNat q.iv) (blocks q.aux m))

/-- The encrypted PIN block of a PIN open: at SRC, or bytes 16 to 31 of DATA beside the PAN field (log 24). -/
def pinBlockIn (q : Req) (m : Bytes) : Bytes := if q.src = 0 then sub q.data 16 16 else fit 16 m

/-- The PAN field or PAN field block in DATA (R309). -/
def panIn (q : Req) : Bytes := sub q.data 0 (if q.aux % 8 = 4 then 16 else 8)

/-- The PIN operations of R306 under a key; `pin` is the PIN register, `rnd` the random fill. -/
def pinRun (q : Req) (alg : Nat) (mat m : Bytes) (pin : Option (List Nat)) (rnd : Bytes) : EngOut :=
  let c := ciphOf alg mat
  if q.op = 0x0300 then
    match pinOpenP q.aux c (pinBlockIn q m) (panIn q) with
    | some p => .pin p
    | none => .status 4
  else
    match pin with
    | none => .status 6
    | some p =>
      let off := pinOffset c (sub q.data 0 8) (bcd (sub q.data 8 8) 16) p
      let vv := pinVvT c (bcd (sub q.data 0 6) 11) (q.aux / 16) p (q.aux % 16)
      match q.op with
      | 0x0301 => .out (pinSealP q.aux c p (panIn q) rnd)
      | 0x0302 => .out (bcdEnc 6 off)
      | 0x0303 => .verdict (decide (q.aux ≤ off.length) && off.take q.aux == bcd q.cmp q.aux)
      | 0x0304 => .out (bcdEnc ((q.aux % 16 + 1) / 2) vv)
      | _ => .verdict (vv == bcd q.cmp (q.aux % 16))

/-! ## Hash engines -/

/-- The hash operations of R306. -/
def hashRun (q : Req) (mat m : Bytes) : EngOut :=
  match q.op with
  | 0x0800 => .out (sha256B m)
  | 0x0801 => .out (sha384B m)
  | 0x0802 => .out (sha512B m)
  | 0x0810 => .out ((hmacB .sha256 mat m).take q.aux)
  | _ => genOrVerify true ((hmacB .sha256 mat m).take q.aux) q.cmp

/-! ## Public-key engines (R342, R343, R352) -/

/-- The random bytes that an operation draws (R352). -/
def pkDraw (q : Req) : Nat :=
  let a := q.aux % 256
  match q.op with
  | 0x0400 | 0x0402 | 0x0403 => blindLen a
  | 0x0404 | 0x0413 => genDraw a
  | 0x0410 => ((ecOf a).map (fun c => c.len + 8)).getD 0 + 8
  | 0x0412 | 0x0414 | 0x0421 => 8
  | 0x0423 => if needsKey q then 0 else genDraw a
  | _ => 0

/-- The inputs at SRC, in the order of R342: a public key unless it came from the key bus, and the rest. -/
def pubAndRest (q : Req) (mat m : Bytes) : Bytes × Bytes :=
  let a := q.aux % 256
  if needsKey q then ((publicOf a mat).bytes, m)
  else
    let n := ((pkSizes a).map Prod.snd).getD 0
    (m.take n, m.drop n)

/-- A public-key operation (R342) on its input, key material and draw. -/
def pkRun (q : Req) (mat m rnd : Bytes) : PkRes :=
  let a := q.aux % 256
  let k := rsaLen a
  let h := hashOf (q.aux / 256 % 4)
  let lab := q.aux / 65536 % 256
  let staged := !needsKey q
  let (pub, rest) := pubAndRest q mat m
  let ec := fun (f : EC → PkRes) => ((ecOf a).map f).getD .retry
  let outLen := ((algShape q.outAlg).map Prod.fst).getD 0
  match q.op with
  | 0x0400 => rsaPrivate k mat (m.take k)
  | 0x0401 => rsaPublic k staged pub (rest.take k)
  | 0x0402 => rsaOaep k mat h (m.take k) ((m.drop k).take lab)
  | 0x0403 => rsaV15 k mat (m.take k)
  | 0x0404 => pkGen a rnd
  | 0x0405 => publicOf a mat
  | 0x0410 => ec (fun c => ecSignOp c (beNat mat) (rnd.take (c.len + 8)) (m.take h.len))
  | 0x0411 => ec (fun c => ecVerifyOp c staged pub (rest.take (2 * c.len)) ((rest.drop (2 * c.len)).take h.len))
  | 0x0412 => ec (fun c => ecdhOp c (beNat mat) (m.take (1 + 2 * c.len)) (m.drop (1 + 2 * c.len)) h outLen)
  | 0x0413 => pkGen a rnd
  | 0x0414 => publicOf a mat
  | 0x0420 => x25519Op mat (m.take 32) (m.drop 32) h outLen
  | 0x0421 => .out (edSign mat m)
  | 0x0422 => edVerifyOp staged pub (rest.take 64) (rest.drop 64)
  | _ => if needsKey q then publicOf a mat else pkGen a rnd

/-- The RSTATUS of an outcome (R343). -/
def pkEngOut (r : PkRes) : EngOut :=
  match r with
  | .out b => .out b
  | .key mat pub => .key mat pub
  | .verdict yes => .verdict yes
  | .check st => .status (if st = 0x4001 then 0x10 else if st = 0x4002 then 0x11 else 0x12)
  | .retry => .status 0x13

end Sys2Proof.Machine
end

