-- ==== Sys2Proof/Machine/Tollgate.lean ====
section
/-! DEFINITION. The Tollgate (11_tollgate.md): the decision of R455 to R458, faults and their capture, holds, and the
rule table. What follows an access that passes or faults is in Access.lean. -/

namespace Sys2Proof.Machine

/-- Initiators 0 to 9 are privileged (R452). -/
def privileged (i : Nat) : Bool := decide (i ≤ 9)

/-- The granules that an access touches (R455). -/
def granules (a : Access) : List Nat :=
  (List.range ((a.addr + a.len - 1) / 64 - a.addr / 64 + 1)).map (· + a.addr / 64)

/-- A rule is inert: LIMIT below BASE, or CACHE or ORDER equal to 3 (R472). -/
def TgRule.inert (r : TgRule) : Bool :=
  decide (r.limit.toNat / 64 < r.base.toNat / 64) || (r.attr.toNat / 16 % 4 == 3) || (r.attr.toNat / 64 % 4 == 3)

/-- A rule is VALID (R483). -/
def TgRule.isValid (r : TgRule) : Bool := r.attr.getLsbD 31

/-- A rule applies to an access's initiator (R454). -/
def TgRule.applies (r : TgRule) (i : Nat) : Bool :=
  r.isValid && !r.inert && r.mask.getLsbD i && (!r.attr.getLsbD 3 || privileged i)

/-- A rule covers a granule (R454). -/
def TgRule.covers (r : TgRule) (g : Nat) : Bool :=
  decide (r.base.toNat / 64 ≤ g) && decide (g ≤ r.limit.toNat / 64)

/-- The governing rule of a granule: the lowest-indexed that applies and covers it (R455, R456). -/
def governing (i g : Nat) : Tbl TgRule → Option (Nat × TgRule)
  | [] => none
  | (k, r) :: t => if r.applies i && r.covers g then some (k, r) else governing i g t

/-- The fixed exclusions of user initiators (R457). -/
def excluded (g : Nat) : Bool :=
  let a := g * 64
  decide (a ≤ 0x3FFFFFFF) || (decide (0x40000000 ≤ a) && decide (a ≤ 0x417FFFFF)) ||
    (decide (0x1000000000 ≤ a) && decide (a ≤ 0x107FFFFFFF)) || (decide (0x1280000000 ≤ a) && decide (a ≤ 0x13FFFFFFFF))

/-- The kinds of fault, by their codes in TG_FAULT_INFO.KIND (R481). -/
inductive TgKind where
  | noMatch
  | denied
  | straddle
  | excluded
  | defaultHole
  | mismatch
deriving DecidableEq, Repr

/-- The code of a fault kind (R481). -/
def TgKind.code : TgKind → Nat
  | .noMatch => 0
  | .denied => 1
  | .straddle => 2
  | .excluded => 3
  | .defaultHole => 4
  | .mismatch => 5

/-- The decision of an access. -/
inductive TgVerdict where
  /-- Passes under a rule (R455 case 6). -/
  | pass
  /-- Passes or faults by the default map (R458), doubled (R459). -/
  | default (ok : Bool)
  /-- Faults with the kind and the governing rule of the first granule (R481). -/
  | fault (k : TgKind) (rule : Nat)
deriving DecidableEq, Repr

/-- The region of the default map that a granule lies in, with the kinds each column grants: for the MSS, and for the
other privileged initiators (R458). -/
def defaultRegion (g : Nat) : Option Nat :=
  match regionOf (g * 64) with
  | .bootRom => some 0
  | .mssSram => some 1
  | .periph => some 2
  | .control => some 3
  | .pool => some 4
  | .dram => some 5
  | .dramReserved => some 5
  | .hostWindow => some 6
  | .hole => none

/-- The default map grants an initiator a kind in a region (R458). -/
def defaultGrants (region i : Nat) (k : AccKind) : Bool :=
  if i = 0 then
    match region with
    | 0 => k != .write
    | 1 => true
    | _ => k != .fetch
  else if region = 1 then i == 7 && k != .fetch
  else decide (4 ≤ region) && k != .fetch

/-- The decision of the default map (R458). -/
def defaultDecide (a : Access) : Bool :=
  match granules a with
  | [] => false
  | g :: gs =>
    match defaultRegion g with
    | none => false
    | some r => gs.all (fun h => defaultRegion h == some r) && defaultGrants r a.init a.kind

/-- The permission bit of an access's kind in TG_RULE_ATTR (R483). -/
def kindBit : AccKind → Nat
  | .read => 0
  | .write => 1
  | .fetch => 2

/-- The decision of R455 under the rule table: the first case that holds. -/
def ruleDecide (rules : Tbl TgRule) (a : Access) : TgVerdict :=
  let gs := granules a
  let govs := gs.map (fun g => governing a.init g rules)
  let first := govs.headD none
  if !privileged a.init && gs.any excluded then .fault .excluded 0
  else if govs.any (fun o => o.map Prod.fst != first.map Prod.fst) then .fault .straddle ((first.map Prod.fst).getD 0)
  else
    match first with
    | none => if privileged a.init then .default (defaultDecide a) else .fault .noMatch 0
    | some (k, r) => if r.attr.getLsbD (kindBit a.kind) then .pass else .fault .denied k

/-- The Tollgate holds an access before it is decided: in boot mode a user's (R477), in a hold any but the MSS's
(R467). -/
def State.tgHolds (s : State) (a : Access) : Bool :=
  if s.tg.boot then !privileged a.init else s.tg.holding && a.init != 0

/-- The decision of an access that is not held: the default map for the MSS while EN is 0 and for every privileged
initiator in boot mode (R458, R467, R477). -/
def State.tgDecide (s : State) (a : Access) : TgVerdict :=
  if s.tg.boot || (!s.tg.en && a.init == 0) then .default (defaultDecide a) else ruleDecide s.tg.rules a

/-- TG_FAULT_INFO of a fault (R481). -/
def tgInfo (a : Access) (kind rule : Nat) : Nat :=
  a.init.val + a.unit.val * 2 ^ 5 + b2n (a.kind == .write) * 2 ^ 12 + b2n (a.kind == .fetch) * 2 ^ 13 +
    b2n (privileged a.init) * 2 ^ 14 + kind * 2 ^ 15 + rule * 2 ^ 18 + 2 ^ 31

/-- The capture, count and record of a fault (R463, R464). -/
def State.tgFault (a : Access) (kind : TgKind) (rule : Nat) (s : State) : State :=
  let info := tgInfo a kind.code rule
  let s := if s.tg.faultInfo.getLsbD 31 then { s with tg.faultInfo := s.tg.faultInfo ||| 0x40000000 }
    else { s with
      tg.faultInfo := w32 info
      tg.faultAddr := w64 (a.addr + (a.len - 1) * 2 ^ 40)
      tg.faultPtr := (a.init.val + 1) % 32 }
  ({ s with tg.cntFault := s.tg.cntFault + 1 }).eventSig 1140 0x0701 info a.addr
    (a.addr / 2 ^ 32 % 256 + (a.len - 1) * 256) 0

/-- An access joins those held at their ports (R467, R470). -/
def State.tgHoldAccess (a : Access) (s : State) : State := { s with tg.held := s.tg.held ++ [a] }

/-- A change point (R467, R465): EN clears, non-MSS accesses are held from the next cycle. -/
def State.tgChangePoint (s : State) : State :=
  { s with
    tg.en := false
    tg.holding := true
    tg.drained := false
    tg.holdLong := false
    tg.holdStart := s.now
    tg.written := []
    tg.cntHold := s.tg.cntHold + 1 }

/-- TG_HOLD (R467): a write of EN = 0 while EN is 1 makes a change point. -/
def execTgHold (s : State) : Host.Outcome State Fault Refusal :=
  .next (if s.tg.en then s.tgChangePoint else s)

/-- TG_DRAINED (R468). -/
def execTgDrained (s : State) : Host.Outcome State Fault Refusal :=
  .next (if s.tg.holding then { s with tg.drained := true } else s)

/-- The inert rules of the table, in index order (R472). -/
def inertRules : Tbl TgRule → List Nat
  | [] => []
  | (k, r) :: t => if r.isValid && r.inert then k :: inertRules t else inertRules t

/-- Setting EN (R470, R472, R477): inert rules are reported, the hold or boot mode ends, and the end of a hold is
recorded. The accesses held are decided next, in their order (Access.lean). -/
def State.tgSetEn (s : State) : State :=
  let bad := inertRules s.tg.rules
  let s := bad.foldl (fun s i => s.eventSig 1140 0x0705 i 0 0 0) s
  let s := match bad with
    | [] => s
    | i :: _ => { s with tg.err := s.tg.err ||| 2, tg.badRule := BitVec.ofNat 12 i }
  let wasHolding := s.tg.holding
  let ns := (s.now - s.tg.holdStart) * 1000
  let w := s.tg.written
  let s := { s with tg.en := true, tg.boot := false, tg.holding := false }
  if wasHolding then
    s.eventSig 1140 0x0703 ns w.length (w.foldl min (w.headD 0)) (w.foldl max 0)
  else s

/-- TG_RULE_WRITE (R466, R482): half `word` of a rule is written while EN is 0; otherwise the write is ignored and
WRITE_WHILE_EN set. Reserved bits read 0. -/
def execTgRuleWrite (i : Fin 4096) (word : Fin 4) (value : DWord) (s : State) : Host.Outcome State Fault Refusal :=
  if s.tg.en then .next { s with tg.err := s.tg.err ||| 1 }
  else
    let r := tblGet {} s.tg.rules i
    let r := match word with
      | 0 => { r with base := value &&& 0xFFFFFFFFC0 }
      | 1 => { r with limit := value &&& 0xFFFFFFFFC0 }
      | 2 => { r with mask := value.setWidth 32 }
      | 3 => { r with attr := value.setWidth 32 &&& 0x800000FF }
    .next { s with
      tg.rules := tblSet {} i r s.tg.rules
      tg.written := if s.tg.written.contains i.val then s.tg.written else s.tg.written ++ [i.val] }

/-- HOLD_LONG (R473): EN has been 0 for 100 µs while an access is held. -/
def execHoldLong (s : State) : Host.Outcome State Fault Refusal :=
  if s.tg.holding ∧ s.tg.held ≠ [] ∧ !s.tg.holdLong then
    let s := s.advance (s.tg.holdStart + 100)
    .next (({ s with tg.holdLong := true }).eventSig 1140 0x0704 s.tg.held.length 0 0 0)
  else .next s

/-- TG_FAULT_REARM (R481): writing 1 to VALID clears VALID and OVERRUN. -/
def execTgFaultRearm (s : State) : Host.Outcome State Fault Refusal :=
  .next { s with tg.faultInfo := s.tg.faultInfo &&& 0x3FFFFFFF }

end Sys2Proof.Machine
end

