-- ==== Sys2Proof/Machine/Engines.lean ====
section
/-! DEFINITION. The engines: placement of chains, the key bus and its doubled decision, requests from their start to their
responses, faults and quarantine, and parking (07 R301 to R331, 08 R341 to R360). -/

namespace Sys2Proof.Machine

/-! ## Entries of a request queue -/

/-- The entry that an engine runs: the first whose outcome is not held yet; a public-key engine runs its head (R302, R313). -/
def runIx (e : Nat) (x : Eng) : Option Nat :=
  match x.q.findIdx? (fun y => y.out.isNone) with
  | some i => if 48 ≤ e ∧ 0 < i then none else some i
  | none => none

/-- Change entry `i` of a queue. -/
def Eng.modQ (i : Nat) (f : QEnt → QEnt) (x : Eng) : Eng := { x with q := x.q.modify i f }

/-- The members of a chain that follow entry `i`, by count (R308). -/
def restOfChain : List QEnt → Nat
  | [] => 0
  | y :: ys => if y.req.chain then (if ys.isEmpty then 0 else 1 + restOfChain ys) else 0

/-- The outcome of entry `i` is held; when it is not DONE the members that follow complete with CANCELLED, and at the end of
the chain the chain registers are cleared (R302, R310). -/
def State.setOut (e i : Nat) (r : Resp) (data : Bytes) (s : State) : State :=
  let x := s.engOf e
  let n := restOfChain (x.q.drop i)
  let x := x.modQ i (fun y => { y with out := some (r, data), key := none })
  if r.status = 0 then s.setEng e (if n = 0 then x.clearRegs else x)
  else
    let x := (List.range n).foldl (fun x j =>
      x.modQ (i + 1 + j) (fun y => { y with out := some (bareResp y.req 0x07, []), first := none, second := none })) x
    s.setEng e x.clearRegs

/-! ## Faults (R322 to R325, R330, R357 to R359, R369) -/

/-- SCE_FAULT_LAST or PKS_FAULT_LAST (R330, R369). -/
def State.faultLast (e kind : Nat) (out : Bool) (s : State) : State :=
  let w := fun (n : Nat) => w32 (n + kind * 64 + b2n out * 512 + 2 ^ 31)
  if e < 48 then { s with eng.sceFault := w e } else { s with eng.pksFault := w (e - 48) }

/-- An entry is refused under R304: ENGINE_FAULT, recorded with its kind (R330, R369, R462). -/
def State.refuseEntry (e i : Nat) (q : Req) (s : State) : State :=
  (s.faultLast e (if e < 48 then 4 else 6) false).setOut e i (bareResp q 0x06) []

/-- The engines of the kind that an engine belongs to. -/
def kindOf (e : Nat) : List Nat :=
  (List.range 96).filter (fun x => if e < 32 then decide (x < 32) else if e < 48 then decide (32 ≤ x) && decide (x < 48) else decide (48 ≤ x))

/-- An engine is kept out: cause 1 a failed self-test, 2 the third quarantine; with every engine of its kind kept out the MSS
performs a module reset (R325, R359). -/
def State.keepOutEng (e cause : Nat) (s : State) : State :=
  let s := (s.modEng e (fun x => { x with st := .out })).event (engSource e) 0x0407 e cause 0 0
  if (kindOf e).all (fun x => (s.engOf x).st == .out) then s.requestReset 1 else s

/-- Every request that an engine holds is answered ENGINE_FAULT and its queue is empty (step 2 of R324 and R358). -/
def State.failQueue (e : Nat) (s : State) : State :=
  let x := s.engOf e
  let s := s.setEng e { x.clearRegs with q := [] }
  x.q.foldl (fun s y => (s.dropSlots y.slots).respond y.req.pier (bareResp y.req 0x06)) s

/-- An engine in service is declared faulty and quarantined (R324, R358). -/
def State.engFails (e kind : Nat) (s : State) : State :=
  if (s.engOf e).st ≠ .inService then s
  else
    let n := (s.engOf e).quar + 1
    let s := if e < 48 then { s with eng.sceCntFault := s.eng.sceCntFault + 1 } else { s with eng.pksCntFault := s.eng.pksCntFault + 1 }
    let s := (s.faultLast e kind (decide (3 ≤ n))).modEng e (fun x => { x with st := .quarantined, quar := n })
    let s := (s.failQueue e).event (engSource e) 0x0405 e kind n 0
    let s := if 48 ≤ e then s.scrub e else s
    if 3 ≤ n then s.keepOutEng e 2 else s

/-! ## Completion (R305, R313, R314, R344 to R347) -/

/-- A response is counted (R327, R366). -/
def State.countResp (e st : Nat) (s : State) : State :=
  if e < 48 then
    if st = 0x07 then { s with eng.sceCntCancel := s.eng.sceCntCancel + 1 }
    else if e < 32 then { s with eng.sceCntReq := s.eng.sceCntReq + 1 }
    else { s with eng.hseCntReq := s.eng.hseCntReq + 1 }
  else if st ≤ 1 then { s with eng.pksCntOp := s.eng.pksCntOp + 1 }
  else if 0x10 ≤ st ∧ st ≤ 0x12 then { s with eng.pksCntCheck := s.eng.pksCntCheck + 1 }
  else s

/-- Beats of the key bus for `n` bytes (R312). -/
def beats (n : Nat) : Nat := (n + 31) / 32

/-- The parts of derived or generated material. -/
def partsOf (alg : Nat) (mat : Bytes) : List Bytes := if algParts alg = 1 then [mat] else blocks 80 mat

/-- Install material as keys of the request's tenant under its source slot, each pinned once; `none` when a set has no way
(R314). -/
def State.installParts (q : Req) (parent : Nat) : List Bytes → State → Option (List Nat × State)
  | [], s => some ([], s)
  | m :: ms, s =>
    let h : HdrNew := ⟨q.outAlg, q.outUsage, 0, q.tenant, 0, 0, 0, 0, 0, []⟩
    match s.install (h.bytes 255) m parent with
    | none => none
    | some (k, s) =>
      match (s.pinSlot k).installParts q parent ms with
      | none => none
      | some (ks, s) => some (k :: ks, s)

/-- Installed slots are pinned for the item: its entry's bind record holds them until its pins end (R277, R314). -/
def State.pinFor (d : Nat) (ks : List Nat) (s : State) : State :=
  match s.entOf d with
  | none => s.dropSlots ks
  | some e => s.setEnt d { e with binds := e.binds ++ ks.map (fun k => (⟨64 + k, [k], 0, 0, []⟩ : Bind)) }

/-- The request's DONE leaves a key to install: held in its output's place (R314, R342). -/
def installs (q : Req) : Bool :=
  (q.op == 0x0200 && !q.toChain) || q.op == 0x0404 || q.op == 0x0412 || q.op == 0x0413 || q.op == 0x0420 || (q.op == 0x0423 && !needsKey q)

/-- The material that a held outcome installs stands before the bytes for DST. -/
def matLen (q : Req) : Nat := ((algShape q.outAlg).map (fun z => z.1 * z.2)).getD 0

/-- The answer of the head entry goes out: output to DST, installed slot, response (R305, R313). -/
def State.answerHead (e : Nat) (y : QEnt) (r : Resp) (data : Bytes) (s : State) : Option State :=
  let q := y.req
  let pop := fun (s : State) => s.modEng e (fun x => { x with q := x.q.drop 1 })
  let put := fun (b : Bytes) (s : State) => if r.status = 0 && q.dst != 0 && !b.isEmpty then s.writeMem (q.dst % 2 ^ 40) b else s
  if r.status = 0 && installs q then
    let mat := data.take (matLen q)
    match s.installParts q (q.slot % 2 ^ 18) (partsOf q.outAlg mat) with
    | none => none
    | some (ks, s) =>
      let s := { s with eng.sceCntKbus := s.eng.sceCntKbus + w64 (beats mat.length) }
      some (((((pop s).countResp e 0).pinFor q.deckIdx ks |> put (data.drop (matLen q)))).respond q.pier
        { r with outSlot := ks.headD 0 })
  else some ((((pop s).countResp e r.status) |> put data).respond q.pier r)

/-- What the doubled decision makes of a held outcome (R313, R344): `none` while the second decision is awaited. -/
def heldResp (y : QEnt) (r : Resp) (data : Bytes) : Option (Resp × Bytes) :=
  if r.status = 0x06 ∨ r.status = 0x07 ∨ r.status = 0x14 then some (r, data)
  else
    match y.first, y.second with
    | none, _ => some (r, data)
    | some _, none => none
    | some a, some b => if a == b then some (r, data) else some (bareResp y.req 0x03, [])

/-- Answer the outcomes at the head of a queue, in order, as far as their second decisions have arrived (R313); a request
with SCRUB_AFTER that has an output scrubs first, any other leaves SCRUB_PENDING (R347). -/
def State.drainF (e : Nat) : Nat → State → State
  | 0, s => s
  | n + 1, s =>
    let x := s.engOf e
    match x.q with
    | [] => s
    | y :: _ =>
      match y.out with
      | none => s
      | some (r0, d0) =>
        match heldResp y r0 d0 with
        | none => s
        | some (r, d) =>
          let after := decide (48 ≤ e) && y.req.aux.testBit 11
          if after && decide (r.status ≤ 1) && x.dirty then s.setEng e { x with scrubbing := true }
          else
            let s := if after && decide (1 < r.status) then s.modEng e (fun x => { x with scrubPending := true }) else s
            let s := if r.status = 0x03 then
                ({ s with keys.cntMismatch := s.keys.cntMismatch + 1 }).setOut e 0 (bareResp y.req 0x03) []
              else s
            match s.answerHead e y r d with
            | none => s
            | some s => s.drainF e n

/-- Entries that no engine executes are refused as they come to be run (R306, R341). -/
def State.refuseBadF (e : Nat) : Nat → State → State
  | 0, s => s
  | n + 1, s =>
    let x := s.engOf e
    match runIx e x with
    | none => s
    | some i =>
      match x.q[i]? with
      | none => s
      | some y => if reqOk e y.req then s else (s.refuseEntry e i y.req).refuseBadF e n

/-- After each change of an engine: refused entries and held outcomes are answered, and a bay marked parked powers down when
it is idle (R313, R321). -/
def State.settle (e : Nat) (s : State) : State :=
  ((s.refuseBadF e 64).drainF e 64 |>.refuseBadF e 64).drainF e 64 |>.parkSettle (Machine.bayOf e)

/-! ## Placement (R308, R319 to R321, R345) -/

/-- The bays of a kind in the order in which a pier tries them, its home bay first. -/
def baysFor (k : EngKind) (p : Nat) : List Nat :=
  let g := p / 8
  match k with
  | .cipher => (List.range 4).map (fun i => (g + i) % 4)
  | .hash => (List.range 2).map (fun i => 4 + (g + i) % 2)
  | .pk => (List.range 6).map (fun i => 6 + (g + i) % 6)

/-- Tabled cycles of a public-key request (R350, R351). -/
def reqCycles (q : Req) : Nat :=
  let a := q.aux % 256
  let rsa := fun (x y z : Nat) => match a with | 1 => x | 2 => y | _ => z
  let ec := fun (p q r s t : Nat) => match a with | 0x10 => p | 0x11 => q | 0x12 => r | 0x18 => s | _ => t
  let more := fun (n : Nat) => if n ≤ 47 then 0 else ceilDiv (n - 47) 128
  match q.op with
  | 0x0400 => rsa 480000 1280000 3200000
  | 0x0401 => rsa 16000 36000 64000
  | 0x0402 | 0x0403 => rsa 492000 1292000 3212000
  | 0x0404 => rsa 108000000 360000000 1080000000
  | 0x0405 => rsa 4000 8000 14000
  | 0x0410 => ec 160000 384000 864000 200000 480000
  | 0x0411 => ec 411400 960000 2160000 514000 1200000
  | 0x0412 => ec 180000 430000 960000 225000 535000
  | 0x0413 | 0x0414 => ec 144000 346000 778000 180000 432000
  | 0x0421 => 144000 + 3200 * more q.len
  | 0x0422 => 288000 + 1600 * more (q.len - 96)
  | _ => 144000

/-- The load of an engine by which a distributor chooses: occupied entries (R319), or the estimated backlog (R345). -/
def State.engLoad (s : State) (e tenant : Nat) : Nat :=
  let x := s.engOf e
  if e < 48 then x.q.length
  else
    let owner := (x.q.getLast?.map (fun (y : QEnt) => y.req.tenant)).getD x.owner
    (x.q.map (fun (y : QEnt) => reqCycles y.req)).foldl (· + ·) 0 + (if owner = tenant then 0 else 2048)

/-- The engine of a bay that takes a chain of `n` entries: in service with room, of least load, a tie to the first at or after
the bay's pointer (R319, R345). -/
def State.pickEng (s : State) (b n tenant : Nat) : Option Nat :=
  let cap := if b < 6 then 64 else 8
  let es := (bayEngines b).filter (fun e => s.engReady e && decide ((s.engOf e).q.length + n ≤ cap))
  let ptr := tblGet 0 s.eng.engPtr b
  let place := fun (e : Nat) => (e % 8 + 8 - ptr) % 8
  es.foldl (fun best e => match best with
    | none => some e
    | some c =>
      let l := s.engLoad e tenant
      let m := s.engLoad c tenant
      if l < m ∨ (l = m ∧ place e < place c) then some e else some c) none

/-- A chain is well formed: 1 to 8 entries of which every one but the last has CHAIN set; a public-key request is one entry
(R308, R341). -/
def chainOk (k : EngKind) (l : List Req) : Bool :=
  decide (1 ≤ l.length) && decide (l.length ≤ 8) && l.dropLast.all (fun q => q.chain) &&
    (l.getLast?.map (fun q => k == .pk || !q.chain)).getD false && (k != .pk || l.length == 1)

/-- CHAIN_PLACE (R308, R319 to R321, R345): the chain joins the queue of the chosen engine, which wakes a gated bay (R31); a
chain that no bay can take waits. -/
def execChainPlace (p : PierNo) (k : EngKind) (entries : List Req) (s : State) : Host.Outcome State Fault Refusal :=
  match s.pierOf p with
  | .holding _ =>
    if !chainOk k entries || s.clk.stopped then .next s
    else
      match (baysFor k p).findSome? (fun b => (s.pickEng b entries.length ((entries.map (fun q => q.tenant)).headD 0)).map (fun e => (b, e))) with
      | none => .next s
      | some (b, e) =>
        let new : List QEnt := entries.map (fun q => ⟨{ q with pier := p }, none, none, none, none, []⟩)
        let s := s.modEng e (fun x => { x with q := x.q ++ new })
        let s := if s.bayOf b = .gated then s.setBay b .waking else s
        .next ({ s with
          eng.engPtr := tblSet 0 b ((e + 1) % 8) s.eng.engPtr
          eng.pierPtr := tblSet 0 b ((p.val + 1) % 128) s.eng.pierPtr }.settle e)
  | _ => .next s

/-! ## The key bus (R280, R311 to R313) -/

/-- A slot serves the item: usable, or STALE and pinned by it (R272). -/
def State.serves (s : State) (d k : Nat) : Bool :=
  s.usable k ||
    ((s.entOf d).map (fun e => e.binds.any (fun b => b.slots.contains k))).getD false

/-- The permit decision of R280 on a slot. -/
def State.permitSlot (s : State) (q : Req) (k : Nat) : Bool :=
  match tblGet none s.keys.t1 k with
  | none => false
  | some x =>
    hTenant x.hdr == q.tenant && s.serves q.deckIdx k && ((opClasses (q.keyOp % 128)).getD []).contains (hUsage x.hdr) &&
      keyOpSuits q.keyOp (hAlg x.hdr)

/-- The permit decision of a request: on its slots, or on the chain key register (R280, R310). -/
def State.permit (s : State) (e : Nat) (q : Req) : Bool :=
  if q.keyChain then
    match (s.engOf e).ckey with
    | none => false
    | some c => c.tenant == q.tenant && ((opClasses (q.keyOp % 128)).getD []).contains c.usage && keyOpSuits q.keyOp c.alg
  else (reqSlots q).all (s.permitSlot q)

/-- The key that a permitted request receives: from the chain key register, or from its slots. -/
def State.keyFor (s : State) (e : Nat) (q : Req) : Option CKey :=
  if q.keyOp.testBit 7 then none
  else if q.keyChain then (s.engOf e).ckey
  else
    let k := (reqSlots q).headD 0
    some ⟨q.tenant, hAlg (s.slotHdr k), hUsage (s.slotHdr k), (reqSlots q).flatMap s.slotMat, k⟩

/-- The words of tier one that hold a slot (R36, R270). -/
def slotWords (k : Nat) : List Nat := wordsIn (0x40000000 + 96 * k) 96

/-- A public-key engine must scrub before it begins a request (R346). -/
def mustScrub (e : Nat) (x : Eng) (q : Req) : Bool :=
  decide (48 ≤ e) && (x.scrubPending || (x.dirty && x.owner != q.tenant))

/-- A request begins: a public-key engine takes its tenant as OWNER and becomes DIRTY (R346). -/
def Eng.begin (e : Nat) (q : Req) (x : Eng) : Eng := if 48 ≤ e then { x with owner := q.tenant, dirty := true } else x

/-- An engine runs: in service, its bay powered, not scrubbing, the fabric clocked. -/
def State.engRuns (s : State) (e : Nat) : Bool :=
  (s.engOf e).st == .inService && s.bayOf (Machine.bayOf e) == .powered && !(s.engOf e).scrubbing && !s.clk.stopped && s.pwr.state == 0

/-- The running entry of an engine that can run. -/
def State.running (s : State) (e : Nat) : Option (Nat × QEnt) :=
  if !s.engRuns e then none
  else match runIx e (s.engOf e) with
    | none => none
    | some i => ((s.engOf e).q[i]?).map (fun y => (i, y))

/-- KEY_BUS_REQUEST (R280, R310 to R313, R346): the running entry asks for its key and the first decision is made. An
uncorrectable slot word gives SLOT_LOST and the slot is invalidated (R312, R167). -/
def execKeyBusRequest (e : Fin 96) (s : State) : Host.Outcome State Fault Refusal :=
  match s.running e with
  | none => .next s
  | some (i, y) =>
    if !needsKey y.req || y.first.isSome then .next s
    else if mustScrub e (s.engOf e) y.req then .next (s.modEng e (fun x => { x with scrubbing := true }))
    else
      let s := { s with eng.busPtr := (e.val + 1) % 96 }
      let s := s.modEng e (Eng.begin e y.req)
      let lost := (reqSlots y.req).filter (fun k => (slotWords k).any s.poisoned)
      if !y.req.keyChain && !lost.isEmpty then
        .next (({ s with keys.t1 := lost.foldl staleSlot s.keys.t1 }.setOut e i (bareResp y.req 0x08) []).settle e)
      else if y.req.keyChain && ((s.engOf e).ckey).isNone then .next ((s.refuseEntry e i y.req).settle e)
      else
        let ok := s.permit e y.req
        let key := if ok then s.keyFor e y.req else none
        let n := if y.req.keyChain then 0 else beats ((key.map (fun c => c.mat.length)).getD 0)
        let s := { s with eng.sceCntKbus := s.eng.sceCntKbus + w64 n }
        let s := s.modEng e (Eng.modQ i (fun y => { y with first := some ok, key := key }))
        .next (if ok then s else s.setOut e i (bareResp y.req 0x02) [])

/-- KEY_BUS_SECOND_DECISION (R280, R310, R313): the second decision of the oldest request that awaits one; `flip` says that
it was disturbed. -/
def execKeyBusSecondDecision (e : Fin 96) (flip : Bool) (s : State) : Host.Outcome State Fault Refusal :=
  match (s.engOf e).q.findIdx? (fun y => y.first.isSome && y.second.isNone) with
  | none => .next s
  | some i =>
    match (s.engOf e).q[i]? with
    | none => .next s
    | some y =>
      let again := if y.req.keyChain then y.first == some true else s.permit e y.req
      .next ((s.modEng e (Eng.modQ i (fun y => { y with second := some (again != flip) }))).settle e)

/-! ## Running a request (R304, R306, R309, R348) -/

/-- The input of a request: the chain data register, DATA, or the bytes at SRC (R303, R309). -/
def State.reqInput (s : State) (x : Eng) (q : Req) : Bytes :=
  if q.fromChainData then (x.cdata.getD []) else if q.src = 0 then q.data.take q.len else s.readMem (q.src % 2 ^ 40) q.len

/-- A range lies in the item's staging: the staging of the SRAM pool, or the DRAM staging of its Deck entry (R36, R231, R304). -/
def inStaging (d a n : Nat) : Bool :=
  let lo := 0x1080000000 + d * 0x40000
  (decide (0x42800000 ≤ a) && decide (a + n ≤ 0x44800000)) || (decide (lo ≤ a) && decide (a + n ≤ lo + 0x40000))

/-- The initiator number and unit of an engine (R452). -/
def engInit (e : Nat) : Fin 32 × Fin 128 := if h : e < 32 then (11, ⟨e, by omega⟩) else if h : e < 48 then (12, ⟨e - 32, by omega⟩)
  else (13, ⟨(e - 48) % 48, by omega⟩)

/-- The interconnect accesses of a range, one for each 64-byte granule. -/
def engAccs (e : Nat) (k : AccKind) (a n : Nat) : List Access :=
  if n = 0 then []
  else (List.range ((a + n - 1) / 64 - a / 64 + 1)).map (fun i =>
    ⟨(engInit e).1, (engInit e).2, k, (a / 64 + i) * 64, 64, [], false, false, none, .clean⟩)

/-- What the Tollgate and the staging rule make of a range. -/
inductive AddrRes where
  | ok
  | held
  | bad

/-- The test of R304 of one range. -/
def State.addrTest (s : State) (e : Nat) (k : AccKind) (d a n : Nat) : AddrRes × State :=
  if a = 0 ∨ n = 0 then (.ok, s)
  else
    let l := engAccs e k (a % 2 ^ 40) n
    if l.any s.tgHolds then (.held, s)
    else
      match l.find? (fun c => s.tgDecide c != .pass) with
      | some c =>
        match s.tgDecide c with
        | .fault kd r => (.bad, s.tgFault c kd r)
        | _ => (.bad, s)
      | none =>
        if inStaging d (a % 2 ^ 40) n then (.ok, s)
        else
          match l with
          | [] => (.ok, s)
          | c :: _ => (.bad, s.tgFault c .denied 0)

/-- The bytes that a request writes to DST, at most (R306, R342). -/
def outMax (q : Req) : Nat :=
  match q.op with
  | 0x0140 => q.len - q.aux % 65536 + q.aux / 65536
  | 0x0141 => q.len - q.aux % 65536
  | 0x0150 | 0x0810 => q.aux
  | 0x0160 | 0x0170 => q.aux / 256
  | 0x0180 => (q.aux + 1) / 2
  | 0x0190 => 16
  | 0x0301 => pinLen q.aux
  | 0x0302 => 6
  | 0x0304 => (q.aux % 16 + 1) / 2
  | 0x0800 => 32
  | 0x0801 => 48
  | 0x0802 => 64
  | 0x0400 | 0x0401 | 0x0402 | 0x0403 => rsaLen (q.aux % 256)
  | 0x0404 | 0x0405 | 0x0413 | 0x0414 | 0x0423 => ((pkSizes (q.aux % 256)).map Prod.snd).getD 0
  | 0x0410 | 0x0421 => ((pkSizes (q.aux % 256)).map Prod.fst).getD 0
  | 0x0100 | 0x0101 | 0x0110 | 0x0111 | 0x0120 | 0x0130 | 0x0131 | 0x01A0 | 0x01A1 | 0x0201 => q.len
  | _ => 0

/-- The random bytes that a request draws: the fill of a PIN seal, and R352. -/
def reqDraw (e : Nat) (q : Req) : Nat := if 48 ≤ e then pkDraw q else if q.op = 0x0301 ∧ q.aux % 8 ≠ 0 then 8 else 0

/-- The operation of a request on its input, key and draw. -/
def reqRun (e : Nat) (x : Eng) (q : Req) (alg : Nat) (mat m rnd : Bytes) : EngOut :=
  if 48 ≤ e then pkEngOut (pkRun q mat m rnd)
  else if 32 ≤ e then hashRun q mat m
  else if 0x0300 ≤ q.op then pinRun q alg mat m x.pin rnd
  else cipherRun q alg mat m

/-- DONE with an output: placed in RESULT when DST is 0 and it fits (R305). -/
def doneResp (q : Req) (b : Bytes) (dataLen : Nat) : Resp :=
  ⟨q.deckIdx, q.attempt, 0, dataLen, 0, if q.dst = 0 && decide (b.length ≤ 16) then b else []⟩

/-- The outcome of the running entry is held (R309, R310, R313). -/
def State.finishReq (e i : Nat) (q : Req) (key : Option CKey) (o : EngOut) (s : State) : State :=
  match o with
  | .status st => if st = 6 then s.refuseEntry e i q else s.setOut e i (bareResp q st) []
  | .verdict yes => s.setOut e i (bareResp q (b2n !yes)) []
  | .pin p =>
    let s := s.modEng e (fun x => { x with pin := some p })
    s.setOut e i (doneResp q [byteOf p.length] 1) []
  | .unstated n =>
    let (b, s) := s.draw n
    s.setOut e i (doneResp q b n) b
  | .key mat pub =>
    if q.toChain then
      (s.modEng e (fun x => { x with ckey := some ⟨q.tenant, q.outAlg, q.outUsage, mat, (key.map (fun c => c.from_)).getD 0⟩ })).setOut
        e i (bareResp q 0) []
    else if mat.length = matLen q ∧ algShape q.outAlg ≠ none then s.setOut e i (doneResp q pub pub.length) (mat ++ pub)
    else s.refuseEntry e i q
  | .out b =>
    let s := if q.op = 0x0190 ∨ q.op = 0x0201 then s.modEng e (fun x => { x with cdata := some (fit 16 b) }) else s
    s.setOut e i (doneResp q b b.length) b

/-- The areas of the operand memory that a public-key request leaves filled (R334, R356). -/
def fillOperands (mat m rnd : Bytes) (o : EngOut) (mem : List Host.Cell) : List Host.Cell :=
  let out : Bytes := match o with
    | .out b => b
    | .key _ pub => pub
    | _ => []
  setBytes 0 (setBytes 0 (setBytes 0 (setBytes 0 mem 0 (mat.take 2048)) 0x800 (m.take 2048)) 0x1000 (out.take 1024)) 0x1400
    (rnd.take 256)

/-- Run the engine's running entry, when it carries one of the operation's codes and has what it needs: its key (R313), its
staging (R304) and its draw (R309, R352). -/
def State.runEng (e op : Nat) (s : State) : Host.Outcome State Fault Refusal :=
  match s.running e with
  | none => .next (s.settle e)
  | some (i, y) =>
    let q := y.req
    if q.op ≠ op then .next (s.settle e)
    else if needsKey q && y.first.isNone then .next s
    else if !needsKey q && mustScrub e (s.engOf e) q then .next (s.modEng e (fun x => { x with scrubbing := true }))
    else
      let s := if needsKey q then s else s.modEng e (Eng.begin e q)
      let alg := (y.key.map (fun c => c.alg)).getD 0
      let mat := (y.key.map (fun c => c.mat)).getD []
      let bad := (needsKey q && (y.key.isNone || !opSuits q alg)) || (q.fromChainData && ((s.engOf e).cdata).isNone)
      if bad then .next ((s.refuseEntry e i q).settle e)
      else
        match s.addrTest e .read q.deckIdx q.src q.len with
        | (.held, s) => .next s
        | (.bad, s) => .next ((s.refuseEntry e i q).settle e)
        | (.ok, s) =>
          match s.addrTest e .write q.deckIdx q.dst (outMax q) with
          | (.held, s) => .next s
          | (.bad, s) => .next ((s.refuseEntry e i q).settle e)
          | (.ok, s) =>
            let go := fun (rnd : Bytes) (s : State) =>
              let x := s.engOf e
              let m := s.reqInput x q
              let o := reqRun e x q alg mat m rnd
              let s := if 48 ≤ e then s.setEng e { x with opmem := fillOperands mat m rnd o x.opmem } else s
              (s.finishReq e i q y.key o).settle e
            if reqDraw e q = 0 then .next (go [] s)
            else
              match s.rngTake (reqDraw e q) with
              | .ok b s => .next (go b s)
              | .stall => .next s
              | .fail s => .next ((s.setOut e i (bareResp q 0x09) []).settle e)

/-! ## The operations (R306, R342) -/

/-- ECB_ENCRYPT. -/
def execEcbEncrypt (e : Fin 32) (s : State) : Host.Outcome State Fault Refusal := s.runEng e 0x0100
/-- ECB_DECRYPT. -/
def execEcbDecrypt (e : Fin 32) (s : State) : Host.Outcome State Fault Refusal := s.runEng e 0x0101
/-- CBC_ENCRYPT. -/
def execCbcEncrypt (e : Fin 32) (s : State) : Host.Outcome State Fault Refusal := s.runEng e 0x0110
/-- CBC_DECRYPT. -/
def execCbcDecrypt (e : Fin 32) (s : State) : Host.Outcome State Fault Refusal := s.runEng e 0x0111
/-- CTR. -/
def execCtr (e : Fin 32) (s : State) : Host.Outcome State Fault Refusal := s.runEng e 0x0120
/-- CFB_ENCRYPT. -/
def execCfbEncrypt (e : Fin 32) (s : State) : Host.Outcome State Fault Refusal := s.runEng e 0x0130
/-- CFB_DECRYPT. -/
def execCfbDecrypt (e : Fin 32) (s : State) : Host.Outcome State Fault Refusal := s.runEng e 0x0131
/-- GCM_ENCRYPT. -/
def execGcmEncrypt (e : Fin 32) (s : State) : Host.Outcome State Fault Refusal := s.runEng e 0x0140
/-- GCM_DECRYPT. -/
def execGcmDecrypt (e : Fin 32) (s : State) : Host.Outcome State Fault Refusal := s.runEng e 0x0141
/-- CMAC_GENERATE. -/
def execCmacGenerate (e : Fin 32) (s : State) : Host.Outcome State Fault Refusal := s.runEng e 0x0150
/-- CMAC_VERIFY. -/
def execCmacVerify (e : Fin 32) (s : State) : Host.Outcome State Fault Refusal := s.runEng e 0x0151
/-- ALG1_MAC_GENERATE. -/
def execAlg1MacGenerate (e : Fin 32) (s : State) : Host.Outcome State Fault Refusal := s.runEng e 0x0160
/-- ALG1_MAC_VERIFY. -/
def execAlg1MacVerify (e : Fin 32) (s : State) : Host.Outcome State Fault Refusal := s.runEng e 0x0161
/-- ALG3_MAC_GENERATE. -/
def execAlg3MacGenerate (e : Fin 32) (s : State) : Host.Outcome State Fault Refusal := s.runEng e 0x0170
/-- ALG3_MAC_VERIFY. -/
def execAlg3MacVerify (e : Fin 32) (s : State) : Host.Outcome State Fault Refusal := s.runEng e 0x0171
/-- ENGINE_CVC_GENERATE. -/
def execEngineCvcGenerate (e : Fin 32) (s : State) : Host.Outcome State Fault Refusal := s.runEng e 0x0180
/-- ENGINE_CVC_VERIFY. -/
def execEngineCvcVerify (e : Fin 32) (s : State) : Host.Outcome State Fault Refusal := s.runEng e 0x0181
/-- FF1_ROUND. -/
def execFf1Round (e : Fin 32) (s : State) : Host.Outcome State Fault Refusal := s.runEng e 0x0190
/-- XTS_ENCRYPT. -/
def execXtsEncrypt (e : Fin 32) (s : State) : Host.Outcome State Fault Refusal := s.runEng e 0x01A0
/-- XTS_DECRYPT. -/
def execXtsDecrypt (e : Fin 32) (s : State) : Host.Outcome State Fault Refusal := s.runEng e 0x01A1
/-- DERIVE_TO_SLOT. -/
def execDeriveToSlot (e : Fin 32) (s : State) : Host.Outcome State Fault Refusal := s.runEng e 0x0200
/-- DERIVE_OUT. -/
def execDeriveOut (e : Fin 32) (s : State) : Host.Outcome State Fault Refusal := s.runEng e 0x0201
/-- PIN_OPEN. -/
def execPinOpen (e : Fin 32) (s : State) : Host.Outcome State Fault Refusal := s.runEng e 0x0300
/-- PIN_SEAL. -/
def execPinSeal (e : Fin 32) (s : State) : Host.Outcome State Fault Refusal := s.runEng e 0x0301
/-- PIN_OFFSET_GENERATE. -/
def execPinOffsetGenerate (e : Fin 32) (s : State) : Host.Outcome State Fault Refusal := s.runEng e 0x0302
/-- PIN_OFFSET_VERIFY. -/
def execPinOffsetVerify (e : Fin 32) (s : State) : Host.Outcome State Fault Refusal := s.runEng e 0x0303
/-- PIN_VV_GENERATE. -/
def execPinVvGenerate (e : Fin 32) (s : State) : Host.Outcome State Fault Refusal := s.runEng e 0x0304
/-- PIN_VV_VERIFY. -/
def execPinVvVerify (e : Fin 32) (s : State) : Host.Outcome State Fault Refusal := s.runEng e 0x0305
/-- SHA256. -/
def execSha256 (e : Fin 16) (s : State) : Host.Outcome State Fault Refusal := s.runEng (32 + e) 0x0800
/-- SHA384. -/
def execSha384 (e : Fin 16) (s : State) : Host.Outcome State Fault Refusal := s.runEng (32 + e) 0x0801
/-- SHA512. -/
def execSha512 (e : Fin 16) (s : State) : Host.Outcome State Fault Refusal := s.runEng (32 + e) 0x0802
/-- HMAC_GENERATE. -/
def execHmacGenerate (e : Fin 16) (s : State) : Host.Outcome State Fault Refusal := s.runEng (32 + e) 0x0810
/-- HMAC_VERIFY. -/
def execHmacVerify (e : Fin 16) (s : State) : Host.Outcome State Fault Refusal := s.runEng (32 + e) 0x0811
/-- RSA_PRIVATE_OP. -/
def execRsaPrivateOp (e : Fin 48) (s : State) : Host.Outcome State Fault Refusal := s.runEng (48 + e) 0x0400
/-- RSA_PUBLIC_OP. -/
def execRsaPublicOp (e : Fin 48) (s : State) : Host.Outcome State Fault Refusal := s.runEng (48 + e) 0x0401
/-- RSA_OAEP_DECRYPT. -/
def execRsaOaepDecrypt (e : Fin 48) (s : State) : Host.Outcome State Fault Refusal := s.runEng (48 + e) 0x0402
/-- RSA_V15_DECRYPT. -/
def execRsaV15Decrypt (e : Fin 48) (s : State) : Host.Outcome State Fault Refusal := s.runEng (48 + e) 0x0403
/-- RSA_KEYGEN. -/
def execRsaKeygen (e : Fin 48) (s : State) : Host.Outcome State Fault Refusal := s.runEng (48 + e) 0x0404
/-- RSA_PUBLIC_FROM_PRIVATE. -/
def execRsaPublicFromPrivate (e : Fin 48) (s : State) : Host.Outcome State Fault Refusal := s.runEng (48 + e) 0x0405
/-- ECDSA_SIGN. -/
def execEcdsaSign (e : Fin 48) (s : State) : Host.Outcome State Fault Refusal := s.runEng (48 + e) 0x0410
/-- ECDSA_VERIFY. -/
def execEcdsaVerify (e : Fin 48) (s : State) : Host.Outcome State Fault Refusal := s.runEng (48 + e) 0x0411
/-- ECDH_KDF. -/
def execEcdhKdf (e : Fin 48) (s : State) : Host.Outcome State Fault Refusal := s.runEng (48 + e) 0x0412
/-- EC_KEYGEN. -/
def execEcKeygen (e : Fin 48) (s : State) : Host.Outcome State Fault Refusal := s.runEng (48 + e) 0x0413
/-- EC_PUBLIC_FROM_SCALAR. -/
def execEcPublicFromScalar (e : Fin 48) (s : State) : Host.Outcome State Fault Refusal := s.runEng (48 + e) 0x0414
/-- X25519_KDF. -/
def execX25519Kdf (e : Fin 48) (s : State) : Host.Outcome State Fault Refusal := s.runEng (48 + e) 0x0420
/-- ED25519_SIGN. -/
def execEd25519Sign (e : Fin 48) (s : State) : Host.Outcome State Fault Refusal := s.runEng (48 + e) 0x0421
/-- ED25519_VERIFY. -/
def execEd25519Verify (e : Fin 48) (s : State) : Host.Outcome State Fault Refusal := s.runEng (48 + e) 0x0422
/-- CURVE25519_KEYGEN. -/
def execCurve25519Keygen (e : Fin 48) (s : State) : Host.Outcome State Fault Refusal := s.runEng (48 + e) 0x0423

/-! ## Responses at the pier (R305, R343) -/

/-- What the pier does with a response for the attempt that it runs. -/
def State.pierActs (p d : Nat) (e : Entry) (st : Nat) (s : State) : State :=
  match st with
  | 0x01 => s.answer d false
  | 0x02 | 0x05 => s.fail d stKeyUsage
  | 0x03 => s.pierFails p 0
  | 0x04 => if opcodeOf e.desc = 0x0102 then s.answer d false else s.fail d 0x1003
  | 0x06 | 0x08 | 0x14 => s.restart d
  | 0x09 => s.fail d 0x4101
  | 0x10 => s.fail d 0x4001
  | 0x11 => s.fail d 0x4002
  | 0x12 => s.fail d 0x4003
  | _ => s

/-- ENGINE_RESPONSE (R305, R343): the pier takes the oldest response from its port and drops it unless it names the attempt
that it runs. -/
def execEngineResponse (p : PierNo) (s : State) : Host.Outcome State Fault Refusal :=
  match tblGet [] s.eng.ports p with
  | [] => .next s
  | r :: rest =>
    let s := { s with eng.ports := tblSet [] p rest s.eng.ports }
    match s.pierOf p with
    | .holding d =>
      match s.entOf d with
      | some e => if r.deckIdx = d ∧ r.attempt = e.attempt then .next (s.pierActs p d e r.status) else .next s
      | none => .next s
    | _ => .next s

/-! ## Fault events -/

/-- ENGINE_FAULT_DETECT (R322, R324, R325): datapath parity, queue or key register, or a ceiling. -/
def execEngineFaultDetect (e : Fin 48) (kind : Fin 8) (s : State) : Host.Outcome State Fault Refusal :=
  if kind.val ≤ 2 then .next (s.engFails e kind) else .next s

/-- ENGINE_SELF_TEST_END (R324, R325, R330). -/
def execEngineSelfTestEnd (e : Fin 48) (pass : Bool) (s : State) : Host.Outcome State Fault Refusal :=
  if (s.engOf e).st ≠ .quarantined then .next s
  else
    let s := s.event (engSource e) 0x0406 e (b2n !pass) 0 0
    if pass then .next (s.modEng e (fun x => { x with st := .inService }))
    else .next (({ s with eng.sceCntFault := s.eng.sceCntFault + 1 }.faultLast e 3 true).keepOutEng e 1)

/-- PKS_FAULT_DETECT (R357, R358): residue, control store, queue or key register, sequencer, output self-check, or step
monitor. -/
def execPksFaultDetect (e : Fin 48) (kind : Fin 8) (s : State) : Host.Outcome State Fault Refusal :=
  if kind.val ≤ 4 then .next (s.engFails (48 + e) kind) else .next s

/-- PKS_SELF_TEST_END (R358, R359): 0 pass, 1 a failed known-answer test, 2 a digest mismatch of the reloaded control store. -/
def execPksSelfTestEnd (e : Fin 48) (result : Fin 3) (s : State) : Host.Outcome State Fault Refusal :=
  let n := 48 + e.val
  if (s.engOf n).st ≠ .quarantined then .next s
  else
    let s := s.event (engSource n) 0x0406 n result 0 0
    if result = 0 then .next (s.modEng n (fun x => { x with st := .inService, loaded := true, dirty := false }))
    else
      let s := if result = 2 then { s with eng.ucMismatch := true }.modEng n (fun x => { x with loaded := false }) else s
      .next (({ s with eng.pksCntFault := s.eng.pksCntFault + 1 }.faultLast n 5 true).keepOutEng n 1)

/-- STEP_MONITOR_FAULT (R156, R167, R357): a class 3 item's engine is faulty, or its item restarts where no engine holds its
request; a class 4 item is a pier overrun. -/
def execStepMonitorFault (d : Idx) (s : State) : Host.Outcome State Fault Refusal :=
  match s.entOf d with
  | none => .next s
  | some e =>
    if !e.active then .next s
    else if e.cls = 3 then
      match (List.range 48).find? (fun n => (s.engOf (48 + n)).q.any (fun y => y.req.deckIdx == d.val)) with
      | some n => .next (s.engFails (48 + n) 4)
      | none => .next (s.restart d)
    else if e.cls = 4 then
      match e.pier with
      | some p => .next (s.countWdog.pierFails p 3)
      | none => .next s
    else .next s

/-! ## Parking (R321, R328, R366) -/

/-- SCE_BAY_PARK or PKS_BAY_PARK takes a value: marked bays power down when idle, unmarked ones are power-gated until a request
wakes them. -/
def State.setPark (pk : Bool) (v : BitVec 6) (s : State) : State :=
  let s := if pk then { s with eng.pksPark := v } else { s with eng.scePark := v }
  let bs := (List.range 6).map (fun i => if pk then 6 + i else i)
  bs.foldl (fun s b =>
    if s.parkMarked b then s.parkSettle b else if s.bayOf b = .parked then s.setBay b .gated else s) s

/-- BAY_PARK (R321). -/
def execBayPark (pk : Bool) (value : Word) (s : State) : Host.Outcome State Fault Refusal :=
  .next (s.setPark pk (value.setWidth 6))

end Sys2Proof.Machine
end

