-- ==== Sys2Proof/Machine/PkEngines.lean ====
section
/-! DEFINITION. Microcode, scrubs and the management public-key unit PKM (08 R336 to R347, R361 to R365). -/

namespace Sys2Proof.Machine

/-! ## Microcode (R336 to R340) -/

/-- The engines that PKS_UCODE_TARGET names. -/
def State.ucTargets (s : State) : List Nat := ((List.range 48).filter (fun n => s.eng.ucTarget.getLsbD n)).map (· + 48)

/-- An engine may be loaded: no request, and parked, quarantined or not marked loaded (R339). -/
def State.loadable (s : State) (e : Nat) : Bool :=
  let x := s.engOf e
  x.q.isEmpty && (s.parkMarked (Machine.bayOf e) || x.st == .quarantined || !x.loaded)

/-- LOAD (R338, R339): refused while LOCKED is 0, while a load is in progress or while a target cannot be loaded. -/
def execLoad (s : State) : Host.Outcome State Fault Refusal :=
  if s.eng.ucLocked && !s.eng.ucBusy && s.ucTargets.all s.loadable then
    .next { s with eng.ucBusy := true, eng.ucRefused := false }
  else .next { s with eng.ucRefused := true }

/-- The accepted digest, as a byte string (R337, R366). -/
def State.ucAccepted (s : State) : Bytes := natLe 48 s.eng.ucDigest.toNat

/-- The payload of a load (R336, R338). -/
def State.ucPayload (s : State) : Bytes := s.readMem s.eng.ucSrc.toNat 262144

/-- One engine ends its load: marked loaded, or kept out with MISMATCH (R338, R359). -/
def State.endLoad (e : Nat) (dig : Bytes) (s : State) : State :=
  let ok := dig == s.ucAccepted
  let s := s.modEng e (fun x => { x with store := dig, loaded := ok })
  if ok then s
  else
    let s := { s with eng.ucMismatch := true, eng.pksCntFault := s.eng.pksCntFault + 1 }.faultLast e 5 true
    (s.event (engSource e) 0x0406 e 2 0 0).keepOutEng e 1

/-- UCODE_LOAD_DONE (R338): `bad` marks the engines whose control store took the payload wrongly: their digest is a free
value. -/
def execUcodeLoadDone (bad : BitVec 48) (s : State) : Host.Outcome State Fault Refusal :=
  if !s.eng.ucBusy then .next s
  else
    let ts := s.ucTargets
    let dig := sha384B s.ucPayload
    let s := { s with eng.ucBusy := false, eng.ucMismatch := false }
    .next (ts.foldl (fun s e =>
      if bad.getLsbD (e - 48) then
        let (b, s) := s.draw 48
        s.endLoad e b
      else s.endLoad e dig) s)

/-- LOCK (R337, R370). -/
def execLock (s : State) : Host.Outcome State Fault Refusal := .next { s with eng.ucLocked := true }

/-! ## Scrubs (R346, R347, R368) -/

/-- PKS_SCRUB (R346, R368): an ordered scrub begins at once, or when the running request has ended. -/
def execPksScrub (value : Word) (s : State) : Host.Outcome State Fault Refusal :=
  let n := (value.setWidth 6).toNat
  if !value.getLsbD 31 || decide (48 ≤ n) then .next s
  else
    let begun := ((s.engOf (48 + n)).q.head?.map (fun y => y.first.isSome || y.out.isSome)).getD false
    .next (s.modEng (48 + n) (fun x => if begun then { x with scrubPending := true } else { x with scrubbing := true }))

/-- SCRUB_END (R346): 2,048 cycles after its start the engine is clean, and takes its next entry. -/
def execScrubEnd (e : Fin 48) (s : State) : Host.Outcome State Fault Refusal :=
  let n := 48 + e.val
  if (s.engOf n).scrubbing then .next ((s.scrub n).settle n) else .next s

/-! ## PKM (R361 to R365) -/

/-- A 64-bit word of PKM_RAM. -/
def State.pkmWord (s : State) (i : Nat) : DWord := tblGet 0 s.eng.pkmRam i

/-- Write a word of PKM_RAM. -/
def State.setPkmWord (i : Nat) (v : DWord) (s : State) : State := { s with eng.pkmRam := tblSet 0 i v s.eng.pkmRam }

/-- The 48-byte operand A at a slot. -/
def State.pkmA (s : State) (slot : Nat) : Nat := leNat ((List.range 6).flatMap (fun i => natLe 8 (s.pkmWord (8 * slot + i)).toNat))

/-- A command is accepted: it is counted and DROPPED clears (R363, R365). -/
def State.pkmAccept (s : State) : State := { s with eng.pkmCnt := s.eng.pkmCnt + 1, eng.pkmDropped := false }

/-- The accumulator plus A × B. -/
def State.pkmSum (s : State) (aSlot bWord : Nat) : BitVec 832 :=
  s.eng.pkmAcc + BitVec.ofNat 832 (s.pkmA aSlot * (s.pkmWord bWord).toNat)

/-- MULACC (R364). -/
def execMulacc (aSlot : Fin 128) (bWord : Fin 1024) (s : State) : Host.Outcome State Fault Refusal :=
  .next { s.pkmAccept with eng.pkmAcc := s.pkmSum aSlot bWord }

/-- MULACC_SHIFT (R364). -/
def execMulaccShift (aSlot : Fin 128) (bWord : Fin 1024) (s : State) : Host.Outcome State Fault Refusal :=
  let a := s.pkmSum aSlot bWord
  .next { s.pkmAccept.setPkmWord bWord (a.setWidth 64) with eng.pkmAcc := a >>> 64 }

/-- ACC_CLEAR (R364). -/
def execAccClear (s : State) : Host.Outcome State Fault Refusal := .next { s.pkmAccept with eng.pkmAcc := 0 }

/-- ACC_STORE (R364): the slot takes the low 64 bytes of the accumulator (log 25). -/
def execAccStore (dst : Fin 128) (s : State) : Host.Outcome State Fault Refusal :=
  .next ((List.range 8).foldl (fun t i => t.setPkmWord (8 * dst.val + i) ((s.eng.pkmAcc >>> (64 * i)).setWidth 64)) s.pkmAccept)

/-- RAM_CLEAR (R364, R365). -/
def execRamClear (s : State) : Host.Outcome State Fault Refusal :=
  .next { s.pkmAccept with eng.pkmAcc := 0, eng.pkmRam := [], eng.pkmEcc := false }

end Sys2Proof.Machine
end

