-- ==== Sys2Proof/Machine/Attest.lean ====
section
/-! DEFINITION. The management subsystem's paths and replies (15 R562, R567 to R571), its draws, officer records, and
attestation reports and certificates (15 R572, R595, R596, 10 R422). -/

namespace Sys2Proof.Machine

/-! ## Draws of the MSS (R381, R385) -/

/-- `n` draws of 8 bytes from RNG_DATA. -/
def State.mssDraws : Nat → State → DrawRes
  | 0, s => .ok [] s
  | n + 1, s =>
    match s.rngTake 8 with
    | .ok b s => match s.mssDraws n with
      | .ok b' s => .ok (b ++ b') s
      | r => r
    | r => r

/-- The MSS draws `n` bytes, 8 at a time. -/
def State.mssDraw (n : Nat) (s : State) : DrawRes :=
  match s.mssDraws ((n + 7) / 8) with
  | .ok b s => .ok (b.take n) s
  | r => r

/-! ## Paths and replies (R562, R567 to R571) -/

/-- The MSS, or in a ROM halt the boot ROM, serves requests: it has booted, its clock runs and no warm restart is under way
(R561, R635, R671). -/
def State.mssUp (s : State) : Bool :=
  !s.boot.booting && !s.boot.warm && s.pwr.state == 0 && s.boot.request.isNone && s.pwr.quiesceStep != 7

/-- A request is being served: its release is under way (R562). -/
def State.mssBusy (s : State) : Bool := s.mss.rels.any (fun r => r.reply.isSome)

/-- A tenant's mailbox. -/
def State.vfMbx (s : State) (t : Nat) : VfMbx := tblGet {} s.mss.vf t
/-- Change a tenant's mailbox. -/
def State.modVfMbx (t : Nat) (f : VfMbx → VfMbx) (s : State) : State := { s with mss.vf := tblMod {} t f s.mss.vf }

/-- A request on a path is accepted now: the MSS is free, and the path carries it (R565, R569, R571, R609). -/
def State.reqTaken (s : State) (p : Path) : Bool :=
  s.mssUp && !s.mssBusy &&
    match p with
    | .pf => s.pfBar && !s.mss.mbxBusy
    | .service => s.boot.enItem.getLsbD 2 || s.boot.romHalt
    | .vf t => !s.boot.romHalt && decide (1 ≤ t.val) && s.barOk t && !(s.vfMbx t).busy

/-- The 16-byte header of a message (R567). -/
def mgmtHead (typ : Nat) (tag : Word) (status : Nat) (len : Nat) : Bytes :=
  natLe 2 typ ++ natLe 2 status ++ natLe 4 len ++ natLe 4 tag.toNat ++ zeros 4

/-- The reply to a request (R565, R569 to R571). -/
def State.reply (p : Path) (typ : Nat) (tag : Word) (status : Nat) (body : Bytes) (s : State) : State :=
  let b := mgmtHead typ tag status body.length ++ body
  match p with
  | .pf =>
    let s' := { s with mss.mbxBusy := false, mss.mbxDone := true, mss.mbxReply := b }
    (if s.mss.mbxDone then s' else s'.msix 0 0).emit (.reply p typ tag status body)
  | .service => s.emit (.reply p typ tag status body)
  | .vf t =>
    let a := (s.vfMbx t).reply.toNat
    let s := if s.winOk t a b.length && !s.fenced t then s.emit (.hostWrite t a b false false) else s
    s.modVfMbx t (fun m => { m with busy := false, done := true })

/-- A request that the service port has received whole is taken up (R565). -/
def State.takeInbox (typ : Nat) (tag : Word) (s : State) : State :=
  { s with mss.inbox := s.mss.inbox.eraseP (fun m => fld m.2.2 0 2 == typ && fld m.2.2 8 4 == tag.toNat) }

/-- A request is taken up on its path. -/
def State.takeReq (p : Path) (typ : Nat) (tag : Word) (s : State) : State :=
  match p with
  | .pf => { s with mss.mbxBusy := true }
  | .service => s.takeInbox typ tag
  | .vf t => s.modVfMbx t (fun m => { m with busy := true })

/-- A request that needs `n` drawn bytes: it waits while the generator stalls, and ends with RNG_UNAVAILABLE when the draw
fails (R385; log 26). -/
def State.reqDraw (n : Nat) (p : Path) (typ : Nat) (tag : Word) (f : Bytes → State → State) (s : State) : State :=
  match s.mssDraw n with
  | .ok b s' => f b s'
  | .stall => s
  | .fail s' => (s'.takeReq p typ tag).reply p typ tag 0x4101 []

/-! ## Officers (R572, R573) -/

/-- The flags word of an officer entry, as the last write admitted leaves it. -/
def State.offFlags (s : State) (i : Nat) : DWord := s.ancGet (0x20 + i)
/-- VALID. -/
def State.offValid (s : State) (i : Nat) : Bool := (s.offFlags i).getLsbD 16
/-- PERMIT of a VALID entry includes an action. -/
def State.offMay (s : State) (i act : Nat) : Bool := s.offValid i && decide (act < 16) && (s.offFlags i).getLsbD act
/-- The officer's public key, 97 bytes. -/
def State.offKey (s : State) (i : Nat) : Bytes :=
  ((List.range 13).flatMap (fun k => natLe 8 (s.ancGet (0x40 + 13 * i + k)).toNat)).take 97
/-- M of an action. -/
def State.quorumM (s : State) (act : Nat) : Nat :=
  bitsOf (s.ancGet (0x10 + act / 8)).toNat (8 * (act % 8) + 7) (8 * (act % 8))

/-- An officer record as OFFICER_READ gives it (R572). -/
def State.offRecord (s : State) (i : Nat) : Bytes :=
  [byteOf i, 0] ++ natLe 2 ((s.offFlags i).toNat % 65536) ++ zeros 4 ++ s.offKey i ++ zeros 7

/-- The 32 records, 3,584 bytes. -/
def State.offRecords (s : State) : Bytes := (List.range 32).flatMap s.offRecord

/-! ## Reports (R595, R596) -/

/-- TRS_MEMBER (R447). -/
def State.trsMember (s : State) : Nat := s.member + s.role * 2 ^ 16 + b2n s.isStandby * 2 ^ 18

/-- The TENANT_INFO reply body: PAY_POLICY, PAY_DECTAB and the KET share (R568). -/
def State.tenantInfoBody (s : State) (t : Nat) : Bytes :=
  natLe 8 (s.ancGet (0x1100 + 3 * t + 1)).toNat ++ natLe 8 (s.ancGet (0x1100 + 3 * t + 2)).toNat ++
    natLe 4 (s.ketShare t)

/-- Bytes 0 to 407 of a report (R596). -/
def State.reportBody (s : State) (kind tenant : Nat) (nonce binding : Bytes) : Bytes :=
  [0x47, 0x58, 0x41, 0x52, 1, byteOf kind] ++ natLe 2 tenant ++ natLe 8 s.hiu.serial.toNat ++ natLe 4 0x0B ++
    natLe 4 s.hiu.verMss.toNat ++ natLe 4 s.hiu.verPier.toNat ++ natLe 4 s.hiu.verPks.toNat ++
    natLe 4 s.hiu.verCfg.toNat ++ natLe 4 (s.hiu.idState.toNat + 8 * b2n s.hiu.dpUp + 256 * s.hiu.overlay.toNat) ++
    natLe 4 s.trsMember ++ natLe 4 s.crkEpoch ++ natLe 4 s.term ++ zeros 4 ++ natLe 8 s.now ++
    natLe 8 s.tsc.toNat ++ natLe 8 s.mss.reports ++ fit 192 s.mss.digests.flatten ++ sha384B s.offRecords ++
    fit 32 nonce ++ fit 48 binding ++
    natLe 4 (b2n s.ks.loaded + 2 * b2n s.ks.checkOk + 4 * b2n s.ks.tamper + 8 * b2n s.mi.testEn + 16 * b2n s.rng.rawEn) ++
    zeros 4

/-- A signature by the DIK with a drawn nonce. -/
def dikSign (rnd body : Bytes) : Bytes :=
  (ecB384.sign (beNat Config.dikKey) (ecB384.scalar rnd) (sha384B body)).getD (zeros 96)

/-- The report, its signature and the count of reports signed (R596). -/
def State.report (kind tenant : Nat) (nonce binding rnd : Bytes) (s : State) : Bytes × State :=
  let b := s.reportBody kind tenant nonce binding
  (b ++ dikSign rnd b, { s with mss.reports := s.mss.reports + 1 })

/-- An identity certificate verifies (R595). -/
def certOk (c : Bytes) : Bool :=
  c.length == 224 && sub c 0 4 == [0x47, 0x58, 0x49, 0x43] && fld c 4 1 == 1 && zeroIn c 5 3 && zeroIn c 117 3 &&
    zeroIn c 124 4 && verifyB384 Config.caKey (sha384B (sub c 0 128)) (sub c 128 96)

/-- An enrolment report verifies: the certificate, then the signature, then the nonce, then the ephemeral key it binds
(R422, R423, R596). -/
def reportOk (rep cert nonce eph : Bytes) : Bool :=
  certOk cert && rep.length == 504 && sub rep 0 4 == [0x47, 0x58, 0x41, 0x52] && fld rep 4 1 == 1 &&
    sub rep 8 8 == sub cert 8 8 && verifyB384 (sub cert 20 97) (sha384B (sub rep 0 408)) (sub rep 408 96) &&
    sub rep 320 32 == fit 32 nonce && fld rep 5 1 == 2 && sub rep 352 48 == sha384B eph

/-- Bits of a draw for an ECDSA nonce or a private scalar on brainpoolP384r1, in bytes. -/
def scalarDraw : Nat := 56

/-- An ephemeral key pair on brainpoolP384r1 from drawn bytes: private scalar and public key. -/
def ephemeral (rnd : Bytes) : Bytes × Bytes :=
  let d := ecB384.scalar rnd
  (natBe 48 d, ecB384.enc (ecB384.mul d ecB384.g))

/-- The ECDH shared secret with a peer's public key. -/
def ecdhSecret (priv pub : Bytes) : Bytes :=
  match ecB384.mul (beNat priv) (ecB384.dec pub) with
  | some (x, _) => natBe 48 x
  | none => zeros 48

/-! ## The requests that change nothing persistent (R568, R576, R596) -/

/-- NONCE_REQ (R576): a fresh nonce with its issue time; a ninth outstanding one evicts the oldest. -/
def execNonceReq (path : Path) (tag : Word) (s : State) : Host.Outcome State Fault Refusal :=
  match path with
  | .vf _ => if s.reqTaken path then .next ((s.takeReq path 1 tag).reply path 1 tag 0x1001 []) else .next s
  | _ =>
    if !s.reqTaken path then .next s
    else .next (s.reqDraw 32 path 1 tag (fun n s =>
      let l := s.mss.nonces ++ [(n, s.now)]
      let s := { s with mss.nonces := if 8 < l.length then l.drop 1 else l }
      (s.takeReq path 1 tag).reply path 1 tag 0 (n ++ natLe 8 s.now)))

/-- ATTEST (R568, R596): KIND 0 on the PF and service paths, KIND 1 for a tenant. -/
def execAttest (path : Path) (tag : Word) (nonce : Bytes) (s : State) : Host.Outcome State Fault Refusal :=
  if !s.reqTaken path then .next s
  else if s.boot.romHalt then .next ((s.takeReq path 3 tag).reply path 3 tag 0x1001 [])
  else if nonce.length ≠ 32 then .next ((s.takeReq path 3 tag).reply path 3 tag 0x1002 [])
  else .next (s.reqDraw scalarDraw path 3 tag (fun rnd s =>
    let (r, s) := match path with
      | .vf t => s.report 1 t nonce (sha384B (s.tenantInfoBody t)) rnd
      | _ => s.report 0 0xFFFF nonce (zeros 48) rnd
    (s.takeReq path 3 tag).reply path 3 tag 0 (r ++ fit 224 Config.dikCert)))

/-- OFFICER_READ (R568, R572). -/
def execOfficerRead (path : Path) (tag : Word) (s : State) : Host.Outcome State Fault Refusal :=
  if !s.reqTaken path then .next s
  else match path with
    | .vf _ => .next ((s.takeReq path 4 tag).reply path 4 tag 0x1001 [])
    | _ =>
      if s.boot.romHalt then .next ((s.takeReq path 4 tag).reply path 4 tag 0x1001 [])
      else .next ((s.takeReq path 4 tag).reply path 4 tag 0 s.offRecords)

/-- TENANT_INFO (R568): on the tenant's own mailbox. -/
def execTenantInfo (t : Fn) (tag : Word) (s : State) : Host.Outcome State Fault Refusal :=
  if s.reqTaken (.vf t) then .next ((s.takeReq (.vf t) 0x10 tag).reply (.vf t) 0x10 tag 0 (s.tenantInfoBody t))
  else .next s

/-- The 28 request words of a tenant mailbox as bytes. -/
def VfMbx.bytes (m : VfMbx) : Bytes := (List.range 28).flatMap (fun i => natLe 4 (tblGet 0 m.req i).toNat)

/-- VF_MBX_GO (R567, R568, R571): the request in the tenant's mailbox is served. -/
def execVfMbxGo (t : Fn) (s : State) : Host.Outcome State Fault Refusal :=
  if !s.reqTaken (.vf t) then .next s
  else
    let b := (s.vfMbx t).bytes
    let typ := fld b 0 2
    let tag := w32 (fld b 8 4)
    let len := fld b 4 4
    let ans := fun (st : Nat) => (.next ((s.takeReq (.vf t) typ tag).reply (.vf t) typ tag st []) : Host.Outcome State Fault Refusal)
    if typ ≠ 3 ∧ typ ≠ 0x10 then ans 0x1001
    else if len ≠ (if typ = 3 then 32 else 0) then ans 0x1002
    else if fld b 2 2 ≠ 0 ∨ fld b 12 4 ≠ 0 then ans 0x1003
    else if typ = 3 then execAttest (.vf t) tag (sub b 16 32) s
    else execTenantInfo t tag s

end Sys2Proof.Machine
end

