-- ==== Sys2Proof/Machine/MssApply.lean ====
section
/-! DEFINITION. What the management subsystem does at the commit point of a release (15 R562, R583 to R588, R594, 16 R622 to
R625, 10 R421 to R444), and the value of HIU_ID_STATE (18 R669). -/

namespace Sys2Proof.Machine

/-! ## HIU_ID_STATE and the data plane (R53, R623, R669, R672, R713) -/

/-- The value of STATE after a boot (R669); 4 from the start of a quiesce on (R652). -/
def State.readyId (s : State) : BitVec 3 :=
  if s.pwr.quiesce then 4
  else if s.hiu.overlay == 2 || s.boot.romHalt then 5
  else if !s.ks.checkOk then 1
  else if s.hiu.overlay == 1 then 2
  else 3

/-- The first DP_UP of a boot, or a boot that keeps the data plane down, confirms a trial of the bank that runs; TRIAL_SEEN is
cleared at that moment of every boot (R623, R673). -/
def State.confirmTrial (s : State) : State :=
  let w := s.ancLatest 0
  let s := { s with boot.trialSeen := false }
  if w.getLsbD 1 && w.getLsbD 0 == s.boot.runBank && !s.boot.otherBank then
    (s.ancWrite 0 [w &&& 1] .none).1.event 0xFFFF 0x0A0A (b2n s.boot.runBank) 0 0 0
  else s

/-- STATE and DP_UP take their values; tenant 0 is ACTIVE whenever the data plane is up (R669, R713). -/
def State.settleId (s : State) : State :=
  let s := s.setIdState s.readyId
  let up := s.dpAllowed
  let s := { s with hiu.dpUp := up }
  let s := if up then s.modTn 0 (fun r => { r with state := 1 }) else s
  if (up || !s.dpEnabled) && !s.pwr.quiesce then s.confirmTrial else s

/-! ## Tenants (R80, R198, R296, R585 to R588) -/

/-- Every queue pair of a function is disabled. -/
def State.disableQps (f : Nat) (s : State) : State :=
  { s with hiu.qp := tblMap {} (fun k (x : QP) => if k / 64 = f then { x with cfg := x.cfg &&& 0x7FFFF } else x) s.hiu.qp }

/-- A tenant's STATE is set. When it becomes ABSENT its queue pairs are disabled, its generation moves on, its sessions close
and its slots leave the key cache (R80, R198, R296). -/
def State.setTenant (t : Nat) (st : BitVec 2) (s : State) : State :=
  let was := (s.tnOf t).state
  let s := s.modTn t (fun r => { r with state := st })
  if st = 0 ∧ was ≠ 0 then (((s.disableQps t).nextGen t).closeFnSess t).flushTenant t else s

/-- Every tenant is set ABSENT. -/
def State.allAbsent (s : State) : State :=
  ((s.hiu.tn.filter (fun x => x.2.state != 0)).map Prod.fst).foldl (fun s t => s.setTenant t 0) s

/-- The KET records of a tenant are dropped (R587). -/
def State.dropKet (t : Nat) (s : State) : State := { s with keys.ket := tblDrop (fun k => k / 2 ^ 64 == t) s.keys.ket }

/-- STATE of a tenant's configuration word 0. -/
def cfgState (w : DWord) : BitVec 2 := w.setWidth 2

/-- The module becomes uncommissioned: the Keystone is cleared and the data plane is down (R584, R672). -/
def State.uncommission (s : State) : State :=
  let s := (s.ksClear).allAbsent
  let s := { s with ks.checkOk := false, keys.t1 := [], keys.t2 := [], pay.sess := [], mss.mayClear := false }
  { s.setIdState s.readyId with hiu.dpUp := false }

/-! ## The cluster root key (R248, R424, R443, R444) -/

/-- The header of a CRK blob (log 13). -/
def crkHdr (epoch : Nat) (mat : Bytes) : HdrNew := ⟨0x84, 10, 2, 0, 0xFFFFFFFFFFFFFFFF, epoch, 0, 0, 0, kcvSym 0x84 mat⟩

/-- The 20 anchor words of a blob. -/
def blobWords (b : Bytes) : List DWord := (List.range 20).map (fun i => w64 (fld b (8 * i) 8))

/-- A CRK sealed under the DRK, as the words of its blob. -/
def State.crkWords (epoch : Nat) (crk : Bytes) (s : State) : List DWord × State :=
  let (iv, s) := s.nextIv
  (blobWords (sealBlob (natBe 32 s.ks.drk.toNat) iv ((crkHdr epoch crk).bytes 0) crk), s)

/-- The header of a TDK blob (R252). -/
def tdkHdr (t epoch parentEpoch : Nat) (mat : Bytes) : HdrNew := ⟨0x84, 10, 2, t, 0, epoch, parentEpoch, 0, 0, kcvSym 0x84 mat⟩

/-- Replace bytes 28 to 31, PARENT_EPOCH, of a header. -/
def withParentEpoch (h : Bytes) (e : Nat) : Bytes := h.take 28 ++ natLe 4 e ++ h.drop 32

/-- The TDK slots, pinned or not, take the new parent epoch; slot 0 takes the new CRK (R443). -/
def State.adoptCrk (epoch : Nat) (crk : Bytes) (s : State) : State :=
  let t := tblMap none (fun k (x : Option Slot) =>
    if 1 ≤ k ∧ k ≤ 1025 then x.map (fun y => { y with hdr := withParentEpoch y.hdr epoch }) else x) s.keys.t1
  ({ s with keys.t1 := t }).putSlot 0 ((crkHdr epoch crk).bytes 0) crk 0

/-- The rewrapped TDK blobs of the ACTIVE tenants, from the blobs read in the first round (R442, R444). -/
def State.rollTdks (crk : Bytes) : List (Nat × Bytes) → State → State
  | [], s => s
  | (t, b) :: l, s =>
    if (s.tnOf t).state ≠ 1 then s.rollTdks crk l
    else
      match openBlob (natBe 32 s.ks.drk.toNat) (s.ancBlob 0x1F4) with
      | none => s.rollTdks crk l
      | some old =>
        match openBlob old b with
        | none => s.rollTdks crk l
        | some m =>
          let (iv, s) := s.nextIv
          let h := withParentEpoch (sub b 0 48) s.crkEpoch
          let s := { s with trs.roll := tblSet [] t (sealBlob crk iv h m) s.trs.roll }
          s.rollTdks crk l

/-! ## Replicated records (R427, R428) -/

/-- What an applied replicated record does beyond its anchor words. -/
def State.applyRepl (r : ReplRec) (s : State) : State :=
  match r with
  | .officer i p v _ => s.event 0xFFFF 0x0304 i (if v then 1 else 2) p.toNat 0
  | .quorum _ _ => s
  | .tenantCreate t _ _ _ _ => s.setTenant t 1
  | .tenantConfig t su _ _ _ => s.setTenant t (if su then 2 else 1)
  | .tenantRemove t => (s.setTenant t 0).dropKet t
  | .clTimeout ms => { s with trs.timeout := BitVec.ofNat 11 ms }
  | .standby _ => s
  | .memberAdd m role parent =>
    let old := tblGet none s.trs.members m
    { s with trs.members := tblSet none m (some ⟨role, parent, (old.map (fun x => x.serial)).getD 0⟩) s.trs.members }
  | .memberRemove m => { s with trs.members := tblSet none m none s.trs.members }

/-- A record is kept for members that ask for it, the last 65,536 (R428). -/
def State.keepRepl (seq : Nat) (r : ReplRec) (s : State) : State :=
  let l := s.trs.replLog ++ [(seq, r)]
  { s with trs.replLog := l.drop (l.length - 65536) }

/-- The children that REPL goes to: pylons from the abutment, spans from a pylon (R427). -/
def State.forwardRepl (seq : Nat) (r : ReplRec) (s : State) : State := s.sendDown 0xFFFF (.repl seq r)

/-! ## Cluster membership (R421, R424, R426, R440) -/

/-- The cluster state of a standalone module: nothing is associated and nothing is under way. -/
def State.leaveCluster (s : State) : State :=
  { s with trs := { ({} : Trs) with
      linkA := s.trs.linkA, linkB := s.trs.linkB, evt := s.trs.evt, cntPropose := s.trs.cntPropose
      cntFailover := s.trs.cntFailover, cntDrop := s.trs.cntDrop } }

/-- A new association with a neighbour (R414). -/
def newAssoc (tree : Bool) (keys : Sak) : Assoc := ⟨tree, 0, 0, [], keys, none, false, false, none⟩

/-! ## The commit of an MSS release (R562) -/

/-- Event 0x0304 for each officer entry changed: index, OP, new PERMIT (R598). -/
def State.officerEvents (l : List (Nat × Nat × Nat)) (s : State) : State :=
  l.foldl (fun (s : State) x => s.event 0xFFFF 0x0304 x.1 x.2.1 x.2.2 0) s

/-- What follows the commit point of a release (R562); `ticket` is TICKET_ID [31:0]. -/
def State.mssEffect (e : MssEff) (ticket : Nat) (s : State) : State :=
  match e with
  | .none | .policy | .recorder => s
  | .officers l => s.officerEvents l
  | .commission l =>
    let s := s.officerEvents l
    let ok := s.ks.loaded && s.ks.integrity == drkWord (natBe 32 s.ks.drk.toNat)
    ({ s with ks.checkOk := ok, mss.mayGenerate := false }).settleId
  | .decommission => s.uncommission
  | .tenantSet t st => s.setTenant t st
  | .tenantGone t => (s.setTenant t 0).dropKet t
  | .bank b mss pier reset =>
    let s := s.event 0xFFFF 0x0A02 (b2n b) mss.toNat pier.toNat ticket
    if reset then s.requestReset 4 else s
  | .minver => s.event 0xFFFF 0x0A05 (s.ancGet 2).toNat (s.ancGet 3).toNat (s.ancGet 4).toNat 0
  | .overlay old new reset =>
    let s := s.event 0xFFFF 0x0A06 old new 0 0
    if reset then s.requestReset 1 else s
  | .applyKey pid t kid w closes =>
    let s := if pidOrigin pid = s.member then s else (s.setKeyWord t kid.toNat w).applyDrop t kid.toNat closes
    if s.role = 1 then s else s.sendUp t (.applied pid 0)
  | .quarantine t pid =>
    let s := s.quarEnter t
    match pid with
    | some p => if s.role = 1 then s else s.sendUp t (.applied p 0)
    | none => s
  | .resynced t words =>
    let s := words.foldl (fun s x =>
      let old := s.keyWord t x.1.toNat
      if old = x.2 then s
      else
        let k := kindFor old x.2
        (s.setKeyWord t x.1.toNat x.2).applyDrop t x.1.toNat (k == .commit || k == .revoke)) s
    (s.setTenant t (cfgState (s.ancGet (0x1100 + 3 * t)))).trsEvent 8
  | .repl seq r =>
    let s := ((s.applyRepl r).keepRepl seq r).forwardRepl seq r
    if s.role = 1 then s else s.sendUp 0xFFFF (.replAck seq)
  | .enrolled g =>
    let s := { s with
      keys.t1 := [], keys.t2 := []
      trs.timeout := BitVec.ofNat 11 g.clTimeout
      trs.quarAll := true
      trs.assoc := tblSet none g.parent (some (newAssoc true g.sak)) s.trs.assoc
      trs.lostAt := none
      trs.join := none }
    let s := (s.trsEvent 16).sendUp 0xFFFF (.enrolDone s.member)
    ((List.range 1025).filter s.quarMarked).foldl (fun (s : State) t => s.sendUp t (.resyncReq s.member t)) s
  | .founded =>
    ({ s with trs.cstate := 3, trs.deciding := true, trs.abutment := 1, trs.timeout := 200 }).trsEvent 16
  | .removed => s.uncommission.leaveCluster
  | .crkCommitted crk =>
    let c := natBe 32 crk.toNat
    let blobs := (s.trs.crkNext.map (fun x => x.2.2)).getD []
    let s := (s.adoptCrk s.crkEpoch c).rollTdks c blobs
    ({ s with trs.rollReady := true, trs.crkNext := none }).trsEvent 64
  | .takeover term =>
    let s := { s with
      trs.assoc := tblMap none (fun _ (x : Option Assoc) => x.map (fun (a : Assoc) => { a with tree := true })) s.trs.assoc
      trs.abutment := s.member
      trs.call := none
      trs.deciding := true
      trs.lostAt := none
      trs.abutLostAt := none
      trs.cstate := 3 }
    (s.sendDown 0xFFFF (.takeover term s.member)).trsEvent 16
  | .newTerm term member =>
    let moved := (((s.assocOf s.trs.abutment).map (fun (a : Assoc) => a.unacked)).getD []).filter (fun x =>
      match x.2.2 with
      | .apply _ | .withdraw _ => true
      | _ => false)
    let s := if s.role = 2 then
        { (s.modAssoc member (fun a => { a with tree := true })) with
          trs.assoc := tblSet none s.trs.abutment none (s.modAssoc member (fun a => { a with tree := true })).trs.assoc }
      else s
    let s := { s with trs.abutment := member, trs.lostAt := none, trs.abutLostAt := none, trs.cstate := 3 }
    let s := moved.foldl (fun (s : State) x => s.send member x.2.1 x.2.2) s
    (s.sendDown 0xFFFF (.takeover term member)).trsEvent 16

/-- An MSS release commits: its effect, event 0x0303 and the reply (R562, R581). -/
def State.mssCommit (id : Nat) (s : State) : State :=
  match s.takeRel id with
  | (none, s) => s
  | (some r, s) =>
    let ticket := (r.act.map (fun a => a.2.1.toNat % 2 ^ 32)).getD 0
    let s := s.mssEffect r.eff ticket
    let s := match r.act with
      | some (code, id, signers, t) => s.event 0xFFFF 0x0303 code id.toNat signers.toNat t
      | none => s
    match r.reply with
    | some (p, tag, typ, body) => s.reply p typ tag 0 body
    | none => s

end Sys2Proof.Machine
end

