-- ==== Sys2Proof/Machine/Cluster.lean ====
section
/-! DEFINITION. The cluster: received Trestle messages and the timers of the link (10_cluster.md). A message counts only as R413 to
R417 and R439 accept it; one that does not changes nothing. -/

namespace Sys2Proof.Machine

/-! ## Reception (R413, R415, R417, R439) -/

/-- The Trestle ports run: enabled by the overlay and item 0x0003, after the boot, in RUN; messages that need the MSS wait
during a warm restart (R607, R609, R674). -/
def State.trsUp (s : State) : Bool :=
  !s.boot.booting && (s.hiu.overlay == 0 || s.hiu.overlay == 3) && s.boot.enItem.getLsbD 1 && s.pwr.state == 0 &&
    !s.boot.warm && !s.pwr.quiesce

/-- The neighbour through which a frame of a member arrives. -/
def State.nbrOf (s : State) (src : Nat) : Nat :=
  if (s.assocOf src).isSome then src else if s.role = 1 then pylonOf src else s.parentNo

/-- Unacknowledged messages up to an acknowledgement leave; an acknowledged REMOVE ends the association (R417, R426). -/
def State.ackUpTo (n ack : Nat) (s : State) : State :=
  match s.assocOf n with
  | none => s
  | some a =>
    let gone := a.unacked.any (fun x => decide (x.1 ≤ ack) && x.2.2 == .remove n)
    if gone then { s with trs.assoc := tblSet none n none s.trs.assoc }
    else s.setAssoc n { a with unacked := a.unacked.filter (fun x => decide (ack < x.1)) }

/-- A former abutment meets a higher term: it stops deciding and rejoins (R441). -/
def State.deposed (term : Nat) (s : State) : State :=
  if s.role = 1 ∧ s.term < term then { s with trs.deciding := false, trs.cstate := 2 } else s

/-- A frame under MACsec is received: an unsequenced one carries only its acknowledgement; a sequenced one is acted on when it
is the next in order, and acknowledged (R417). A lower TERM is dropped (R439). -/
def State.recv (h : Hdr) (sequenced : Bool) (f : State → State) (s : State) : State :=
  if !s.trsUp || h.term < s.term then s
  else
    let n := s.nbrOf h.src
    let s := s.deposed h.term
    match s.assocOf n with
    | none => s
    | some a =>
      let s := s.ackUpTo n h.ack
      if !sequenced then s
      else if h.seq = a.got + 1 then f ((s.modAssoc n (fun a => { a with got := h.seq })).sendOn n h.port .ackOnly)
      else if h.seq ≤ a.got then s.sendOn n h.port .ackOnly
      else s

/-- HEARTBEAT (R417). -/
def execHeartbeat (h : Hdr) (s : State) : Host.Outcome State Fault Refusal := .next (s.recv h false id)

/-- ACK_ONLY (R417). -/
def execAckOnly (h : Hdr) (s : State) : Host.Outcome State Fault Refusal := .next (s.recv h false id)

/-- TRESTLE_FRAME_DROP (R413, R416). -/
def execTrestleFrameDrop (s : State) : Host.Outcome State Fault Refusal :=
  .next { s with trs.cntDrop := s.trs.cntDrop + 1 }

/-! ## Releases with journal records of the MSS (R266, R438, R587) -/

/-- A journal record that the MSS appends itself, persistent with its write; it takes the tenant's next SEQ. -/
def State.jAppend (t kind kid : Nat) (w : DWord) (s : State) : State :=
  let q := tblGet 0 s.keys.seqs t + 1
  { s with
    cfg.flash := setBytes 0xFF s.cfg.flash (jAddr s.keys.jHalf s.keys.jFill) (jRecord q t kind kid w)
    keys.seqs := tblSet 0 t q s.keys.seqs
    keys.jFill := s.keys.jFill + 1
    keys.jCount := s.keys.jCount + 1
    keys.jSnap := s.keys.jSnap || decide (196608 ≤ s.keys.jFill + 1) }

/-- A VOID record over a tenant's SEQs `first` to `last` (R263, R266). -/
def State.jVoid (t first last : Nat) (s : State) : State := s.jAppend t 6 (first % 2 ^ 32 + last % 2 ^ 32 * 2 ^ 32) 0

/-- The verdict of an MSS release that also writes `n` journal records of a tenant. -/
def State.mssVerdictJ (n t : Nat) (ws : List AncW) (s : State) : Nat :=
  if s.pwr.quiesce then 0x5001
  else if !s.admits (costOfWrites ws + 12000 * n) then 0x5002
  else if ws.any (fun w => s.ancWorn w.1 w.2.length) || (decide (0 < n) && s.journalWorn t) then 0x5004
  else 0

/-! ## Enrolment and rejoin (R421 to R425) -/

/-- ENROL_HELLO_TIMER (R416, R422, R425): a standalone commissioned module, or an enrolled one that has to rejoin, is heard. -/
def execEnrolHelloTimer (s : State) : Host.Outcome State Fault Refusal :=
  let rejoin := s.enrolled
  if !s.trsUp || !s.ks.checkOk || (rejoin && s.trs.cstate != 2) || (rejoin && s.role == 1) then .next s
  else .next (s.sendEnrol 0xFFFF (.enrolHello s.hiu.serial rejoin (s.ancGet 7)))

/-- The abutment's challenge (step 2 of R422): a nonce, an ephemeral key and a report over both. -/
def State.challenge (e : Enrol) (dst : Nat) (s : State) : State :=
  match s.mssDraw (32 + 2 * scalarDraw) with
  | .ok b s =>
    let nonce := sub b 0 32
    let (priv, pub) := ephemeral (sub b 32 56)
    let (rep, s) := s.report 2 0xFFFF nonce (sha384B pub) (sub b 88 56)
    let s := { s with trs.enrol := some { e with nonce := nonce, priv := priv, pub := pub } }
    s.sendEnrol dst (.enrolChallenge nonce rep (fit 224 Config.dikCert) pub)
  | _ => s

/-- The enrolment that a hello belongs to: one that a ticket opened, or the rejoin of a member that the records name. -/
def State.enrolFor (s : State) (serial : DWord) (rejoin : Bool) : Option Enrol :=
  if rejoin then
    (s.trs.members.find? (fun x => (x.2.map (fun (m : Member) => m.serial == serial)).getD false)).bind (fun x =>
      x.2.map (fun (m : Member) => ⟨serial, x.1, m.role, m.parent, false, true, [], [], [], []⟩))
  else s.trs.enrol.bind (fun e => if e.serial = serial then some e else none)

/-- ENROL_HELLO (R422): a pylon forwards it, the abutment answers one that a ticket or a record names. -/
def execEnrolHello (h : Hdr) (serial : DWord) (rejoin : Bool) (ivEpoch : DWord) (s : State) :
    Host.Outcome State Fault Refusal :=
  if !s.trsUp || !s.ks.checkOk then .next s
  else if s.role = 2 then .next (s.sendEnrol s.trs.abutment (.enrolHello serial rejoin ivEpoch))
  else if s.role = 1 ∧ s.trs.deciding then
    match s.enrolFor serial rejoin with
    | some e => .next (s.challenge e h.src)
    | none => .next s
  else .next s

/-- The CKSEQ of every tenant that has one (R434). -/
def State.ckseqs (s : State) : List (Nat × Word) :=
  ((List.range 1025).map (fun t => (t, w32 ((s.ancGet (0x400 + t)).toNat / 2 ^ 32)))).filter (fun x => x.2 != 0)

/-- The module may answer a challenge: commissioned, and standalone with no tenant but tenant 0 ACTIVE, or rejoining (R421). -/
def State.mayJoin (s : State) : Bool :=
  s.ks.checkOk && (s.enrolled || !s.hiu.tn.any (fun x => x.1 != 0 && x.2.state == 1))

/-- ENROL_CHALLENGE (step 3 of R422): forwarded by a pylon on its way; verified and answered by the joiner. -/
def execEnrolChallenge (h : Hdr) (nonce report cert ephPub : Bytes) (s : State) : Host.Outcome State Fault Refusal :=
  if !s.trsUp then .next s
  else if s.role = 2 ∧ h.dst ≠ s.member then .next (s.sendEnrol h.dst (.enrolChallenge nonce report cert ephPub))
  else if !s.mayJoin || s.role == 1 || !reportOk report cert nonce ephPub || ecB384.check ephPub != 0 then .next s
  else
    match s.mssDraw (2 * scalarDraw) with
    | .ok b s =>
      let (priv, pub) := ephemeral (sub b 0 56)
      let (rep, s) := s.report 2 0xFFFF nonce (sha384B pub) (sub b 56 56)
      let s := { s with
        trs.join := some ⟨nonce, priv, pub, ephPub, s.enrolled⟩
        trs.cstate := if s.enrolled then 2 else 1 }
      .next (s.sendEnrol h.src (.enrolResponse rep (fit 224 Config.dikCert) pub (if s.enrolled then s.ckseqs else [])))
    | _ => .next s

/-- Draw a channel's keys. -/
def State.drawSak (an : Nat) (f : Sak → State → State) (s : State) : State :=
  match s.mssDraw 44 with
  | .ok b s => f ⟨an, BitVec.ofNat 256 (beNat (sub b 0 32)), BitVec.ofNat 96 (beNat (sub b 32 12))⟩ s
  | _ => s

/-- A neighbour belongs to the tree: the parent, or a child by its number (R407, R408). -/
def State.treeNbr (s : State) (n : Nat) : Bool :=
  n == s.parentNo || s.role == 1 || (s.role == 2 && decide (129 ≤ n) && pylonOf n == s.member)

/-- Channel keys for a neighbour's link are taken into use: a fresh channel, or the next association with the previous one
still accepted (R414). -/
def State.installSak (n : Nat) (k : Sak) (s : State) : State :=
  match s.assocOf n with
  | some a => if k.an = 0 then s.setAssoc n (newAssoc (s.treeNbr n) k) else s.setAssoc n { a with keys := k, prev := some a.keys }
  | none => s.setAssoc n (newAssoc (s.treeNbr n) k)

/-- The report of an enrolment response is one that the abutment accepts: the joiner of the ticket, commissioned, standalone or
the member that it was (R421, R425). -/
def joinerOk (e : Enrol) (rep : Bytes) : Bool :=
  fld rep 8 8 == e.serial.toNat && (fld rep 400 4) % 4 == 3 &&
    (if e.rejoin then fld rep 40 2 == e.member else fld rep 40 2 == 0)

/-- ENROL_RESPONSE (steps 4 to 6 of R422): the abutment verifies the joiner, gives the parent and the joiner their channel
keys and grants membership. -/
def execEnrolResponse (h : Hdr) (report cert ephPub : Bytes) (ckseqs : List (Nat × Word)) (s : State) :
    Host.Outcome State Fault Refusal :=
  if !s.trsUp then .next s
  else if s.role = 2 then .next (s.sendEnrol s.trs.abutment (.enrolResponse report cert ephPub ckseqs))
  else
    match s.trs.enrol with
    | none => .next s
    | some e =>
      if s.role ≠ 1 ∨ e.nonce = [] ∨ !reportOk report cert e.nonce ephPub ∨ ecB384.check ephPub ≠ 0 ∨ !joinerOk e report then
        .next s
      else
        match s.loadCrk with
        | none => .next s
        | some s =>
          .next (s.drawSak 0 (fun k s =>
            let crk := ((tblGet none s.keys.t1 0).map (fun (x : Slot) => x.mat)).getD []
            let s := { s with trs.enrol := some { e with ckseqs := ckseqs } }
            let s := if e.parent = s.member then s.installSak e.member k else s.send e.parent 0xFFFF (.sakSet e.member k)
            s.sendEnrol h.src (.enrolGrant ⟨e.member, e.role, e.parent, e.standby, s.term, s.clTimeout,
              BitVec.ofNat 256 (beNat crk), BitVec.ofNat 32 s.crkEpoch, k⟩)))

/-- ENROL_GRANT (R423, R424): the joiner's release, whose commit point is ANC_CRK_EPOCH. -/
def execEnrolGrant (h : Hdr) (authentic : Bool) (g : EnrolGrant) (s : State) : Host.Outcome State Fault Refusal :=
  if !s.trsUp then .next s
  else if s.role = 2 ∧ h.dst ≠ s.member then .next (s.sendEnrol h.dst (.enrolGrant g))
  else
    match s.trs.join with
    | none => .next s
    | some _ =>
      if !authentic then .next s
      else
        let (crk, s') := s.crkWords g.crkEpoch.toNat (natBe 32 g.crk.toNat)
        let ws : List AncW := [(0x1E0, crk), (0x0D, [memberWord g.member g.role g.parent g.standby]), (0x0E, [w64 g.term]),
          (0x0C, [w64 g.crkEpoch.toNat])]
        .next (s'.mssBegin ws none none (.enrolled g)).2

/-- A record that the abutment originates: its own release, then REPL to every pylon (R427, R588). -/
def State.originate (r : ReplRec) (ws : List AncW) (reply : Option (Path × Word × Nat × Bytes))
    (act : Option (Nat × BitVec 64 × Word × Nat)) (s : State) : Nat × State :=
  let seq := (s.ancLatest 0x0F).toNat + 1
  s.mssBegin (ws ++ [(0x0F, [w64 seq])]) reply act (.repl seq r)

/-- The configuration and key state of a tenant (R438). -/
def State.resyncOf (s : State) (t : Nat) : ResyncMsg :=
  ⟨t, (s.keys.ket.filter (fun x => x.1 / 2 ^ 64 == t)).map (fun x => (BitVec.ofNat 64 (x.1 % 2 ^ 64), x.2)), true,
    BitVec.ofNat 32 ((s.ancGet (0x400 + t)).toNat / 2 ^ 32), (List.range 3).map (fun i => s.ancGet (0x1100 + 3 * t + i))⟩

/-- The message that ends the resynchronisation of a joiner: every tenant's key state has been sent (log 27). -/
def resyncEnd : ResyncMsg := ⟨0xFFFF, [], true, 0, []⟩

/-- RESYNC_DATA of some tenants to a member. -/
def State.sendResync (m : Nat) (ts : List Nat) (s : State) : State :=
  ts.foldl (fun (s : State) t => s.send (s.hopTo m) t (.resyncData m (s.resyncOf t))) s

/-- The standby abutment's associations with every other pylon (R410): keys go to both ends. -/
def State.linkStandby (sb p : Nat) (s : State) : State :=
  if sb = p then s
  else s.drawSak 0 (fun k s => (s.send sb 0xFFFF (.sakSet p k)).send p 0xFFFF (.sakSet sb k))

/-- ENROL_DONE (step 8 of R422, R425): the parent sends the records it keeps; the abutment records a new member and sends the
key state of the tenants that differ. -/
def execEnrolDone (h : Hdr) (member : Nat) (s : State) : Host.Outcome State Fault Refusal :=
  .next (s.recv h true (fun s =>
    let s := if h.src = member then s.trs.replLog.foldl (fun (s : State) x => s.send member 0xFFFF (.repl x.1 x.2)) s else s
    if s.role = 2 then s.sendUp 0xFFFF (.enrolDone member)
    else
      match s.trs.enrol with
      | none => s
      | some e =>
        if s.role ≠ 1 ∨ e.member ≠ member then s
        else
          let s := { s with trs.enrol := none }
          let diff := (List.range 1025).filter (fun t =>
            let mine := (s.ancGet (0x400 + t)).toNat / 2 ^ 32
            let theirs := ((e.ckseqs.find? (fun x => x.1 == t)).map (fun x => x.2.toNat)).getD 0
            if e.rejoin then mine != theirs else (s.tnOf t).state.toNat != 0)
          let s := (s.sendResync member diff).send (s.hopTo member) 0xFFFF (.resyncData member resyncEnd)
          if e.rejoin then s
          else
            let s := { s with trs.members := tblSet none member (some ⟨e.role, e.parent, e.serial⟩) s.trs.members }
            let s := if e.standby then (s.pylons.foldl (fun (s : State) p => s.linkStandby member p) s) else s
            (s.originate (.memberAdd member e.role e.parent) [] none none).2))

/-- SAK_SET (R414): keys for a neighbour link; a pylon passes the keys of a span's link on to the span. -/
def execSakSet (h : Hdr) (neighbour : Nat) (keys : Sak) (s : State) : Host.Outcome State Fault Refusal :=
  .next (s.recv h true (fun s =>
    let s := if s.role = 2 ∧ keys.an ≠ 0 ∧ 129 ≤ neighbour then s.send neighbour 0xFFFF (.sakSet s.member keys) else s
    s.installSak neighbour keys))

/-- SAK_ROLLOVER (R414): the abutment replaces the channel keys of every link with the next association. -/
def execSakRollover (s : State) : Host.Outcome State Fault Refusal :=
  if !s.trsUp || s.role != 1 then .next s
  else
    let next := fun (n : Nat) => 1 + ((s.assocOf n).map (fun (a : Assoc) => a.keys.an)).getD 0 % 3
    let s := s.children.foldl (fun (s : State) n => s.drawSak (next n) (fun k s =>
      (s.send n 0xFFFF (.sakSet s.member k)).installSak n k)) s
    let spans := s.trs.members.filterMap (fun x => match x.2 with
      | some (m : Member) => if m.role == 3 && m.parent != s.member then some (x.1, m.parent) else none
      | none => none)
    .next (spans.foldl (fun (s : State) x => s.drawSak (next x.2) (fun k s => s.send x.2 0xFFFF (.sakSet x.1 k))) s)

/-- SAK_PREVIOUS_EXPIRY (R414): the previous association is no longer accepted. -/
def execSakPreviousExpiry (neighbour : Nat) (s : State) : Host.Outcome State Fault Refusal :=
  .next (s.modAssoc neighbour (fun a => { a with prev := none }))

/-- REMOVE (R426): the member itself clears its cluster state by one release; a pylon passes it on. -/
def execRemove (h : Hdr) (member : Nat) (s : State) : Host.Outcome State Fault Refusal :=
  .next (s.recv h true (fun s =>
    if member ≠ s.member then (if s.role = 2 then s.send member 0xFFFF (.remove member) else s)
    else
      let tenants : List AncW :=
        ((List.range 1025).filter (fun t => s.ancGet (0x1100 + 3 * t) != 0)).map (fun t => (0x1100 + 3 * t, [0, 0, 0]))
      let z20 := List.replicate 20 (0 : DWord)
      let ws : List AncW := tenants ++ [(0x1E0, z20), (0x1F4, z20), (0x208, List.replicate 17 0), (0x0F, [0]), (0x0E, [0]),
        (0x0D, [0])]
      (s.mssBegin ws none none .removed).2))

/-! ## Replicated records (R427, R428) -/

/-- The anchor words of an officer entry (R572, R619). -/
def officerWords (i : Nat) (permit : BitVec 16) (valid : Bool) (key : Bytes) : List AncW :=
  let k := fit 104 (key.take 97)
  [(0x40 + 13 * i, (List.range 13).map (fun j => w64 (fld k (8 * j) 8))), (0x20 + i, [w64 (permit.toNat + b2n valid * 65536)])]

/-- ANC_TN_CFG of a tenant (R619). -/
def tnCfgWords (t st share : Nat) (policy dectab : DWord) : AncW := (0x1100 + 3 * t, [w64 (st + share * 2 ^ 32), policy, dectab])

/-- The anchor words of a replicated record at a member, but for ANC_CL_REPL_SEQ (R428). -/
def State.replWords (s : State) (r : ReplRec) : List AncW :=
  match r with
  | .officer i p v k => officerWords i p v k
  | .quorum a b => [(0x10, [a, b])]
  | .tenantCreate t sh p d ep => [(0x0C00 + t.val, [w64 ep.toNat]), tnCfgWords t 1 sh p d]
  | .tenantConfig t su sh p d => [tnCfgWords t (if su then 2 else 1) sh p d]
  | .tenantRemove t => [tnCfgWords t 0 0 0 0,
      (0x400 + t.val, [w64 ((tblGet 0 s.keys.seqs t + 1) % 2 ^ 32 + (s.ancLatest (0x400 + t)).toNat / 2 ^ 32 * 2 ^ 32)])]
  | .clTimeout _ => []
  | .standby m =>
    if (m == s.member) == s.isStandby then []
    else [(0x0D, [memberWord s.member s.role s.parentNo (m == s.member)])]
  | .memberAdd _ _ _ => []
  | .memberRemove _ => []

/-- The journal records that a replicated record needs: the VOID of a removal (R587). -/
def replRecords : ReplRec → Nat × Nat
  | .tenantRemove t => (1, t)
  | _ => (0, 0)

/-- Begin an MSS release with journal records, once `mssVerdictJ` has let it pass; `put` writes them. -/
def State.mssBeginJ (n t : Nat) (put : State → State) (ws : List AncW) (reply : Option (Path × Word × Nat × Bytes))
    (act : Option (Nat × BitVec 64 × Word × Nat)) (eff : MssEff) (s : State) : Nat × State :=
  match s.mssVerdictJ n t ws with
  | 0 =>
    let s := (put (s.admitCost (costOfWrites ws + 12000 * n))).repay (12000 * n)
    (0, (s.newRel reply act eff).issueAll s.mss.nextRel ws)
  | st => (st, if n = 0 ∨ st ≠ 0x5002 then s.mssRefuse st ws else (s.refuse (costOfWrites ws + 12000 * n)).ancRefuse (0x400 + t) 2)

/-- A member applies the next record by a release whose last write is ANC_CL_REPL_SEQ (R428); one that is refused waits to be
asked for again. -/
def State.replNow (seq : Nat) (r : ReplRec) (s : State) : State :=
  let (n, t) := replRecords r
  let put := fun (s : State) => if n = 0 then s else s.jVoid t 0 (tblGet 0 s.keys.seqs t)
  (s.mssBeginJ n t put (s.replWords r ++ [(0x0F, [w64 seq])]) none none (.repl seq r)).2

/-- The next held record follows the one just released (R428). -/
def State.replDrain (s : State) : State :=
  let next := (s.ancLatest 0x0F).toNat + 1
  match tblGet none s.trs.replHeld next with
  | none => s
  | some r => ({ s with trs.replHeld := tblSet none next none s.trs.replHeld }).replNow next r

/-- REPL (R428, R436). -/
def execRepl (h : Hdr) (seq : Nat) (r : ReplRec) (s : State) : Host.Outcome State Fault Refusal :=
  .next (s.recv h true (fun s =>
    let last := (s.ancLatest 0x0F).toNat
    if seq ≤ last then s
    else if seq = last + 1 then (s.replNow seq r).replDrain
    else ({ s with trs.replHeld := tblSet none seq (some r) s.trs.replHeld }).sendUp 0xFFFF (.replAck last)))

/-- REPL_ACK (R428): a child that lacks records gets them, or the whole key state when they are no longer kept. -/
def execReplAck (h : Hdr) (seq : Nat) (s : State) : Host.Outcome State Fault Refusal :=
  .next (s.recv h true (fun s =>
    let n := s.nbrOf h.src
    let busy := ((s.assocOf n).map (fun (a : Assoc) => a.unacked.any (fun x => match x.2.2 with
      | .repl _ _ => true
      | _ => false))).getD false
    let last := (s.ancGet 0x0F).toNat
    if busy || decide (last ≤ seq) then s
    else if s.trs.replLog.any (fun x => x.1 == seq + 1) then
      (s.trs.replLog.filter (fun x => decide (seq < x.1))).foldl (fun (s : State) x => s.send n 0xFFFF (.repl x.1 x.2)) s
    else if s.role = 1 then (s.sendResync h.src (List.range 1025)).send (s.hopTo h.src) 0xFFFF (.resyncData h.src resyncEnd)
    else s.sendUp 0xFFFF (.resyncReq h.src 0xFFFF)))

/-! ## Proposals and decisions (R430 to R435) -/

/-- A span is unreachable for its pylon: both ports failed for LEASE + 1 ms (R431). -/
def State.unreachable (s : State) (n : Nat) : Bool :=
  match s.assocOf n with
  | some a => (a.lostAt.map (fun t => decide (t + 1000 * (s.clTimeout / 2 + 1) ≤ s.now))).getD false
  | none => true

/-- The bitmap of the spans that answered no or did not answer (R431). -/
def State.noSpans (s : State) (x : Fwd) : BitVec 128 :=
  s.children.foldl (fun b n => if x.answers.any (fun a => a.1 == n && a.2) then b else b ||| BitVec.ofNat 128 (2 ^ spanIx n)) 0

/-- A pylon's VERDICT goes up and the proposal is done with there (R431). -/
def State.pylonVerdict (x : Fwd) (s : State) : State :=
  ({ s with trs.fwd := s.trs.fwd.filter (fun (y : Fwd) => y.pid != x.pid) }).sendUp x.tenant (.verdict x.pid x.own (s.noSpans x))

/-- A pylon sends its VERDICT as soon as every span has answered or is unreachable (R431). -/
def State.pylonCheck (pid : BitVec 64) (s : State) : State :=
  match s.trs.fwd.find? (fun (x : Fwd) => x.pid == pid) with
  | none => s
  | some x => if s.children.all (fun n => x.answers.any (fun a => a.1 == n) || s.unreachable n) then s.pylonVerdict x else s

/-- PROPOSE (R430, R431, R437): towards the abutment, or down to be verified. -/
def execPropose (h : Hdr) (p : Proposal) (ownBlobs : List Bytes) (s : State) : Host.Outcome State Fault Refusal :=
  .next (s.recv h true (fun s =>
    let own := !s.quarantinedFor p.tenant && s.verifyProp p ownBlobs
    if s.role = 1 then s.abutPropose p own
    else if s.role = 2 then
      if s.nbrOf h.src ≠ s.parentNo then s.sendUp p.tenant (.propose p)
      else
        let s := s.sendDown p.tenant (.propose p)
        ({ s with trs.fwd := s.trs.fwd ++ [(⟨p.pid, p.tenant, s.now, own, []⟩ : Fwd)] }).pylonCheck p.pid
    else if s.quarantinedFor p.tenant then s
    else s.sendUp p.tenant (.verdict p.pid own 0)))

/-- VERDICT (R431, R432): a span's answer at its pylon, or a pylon's at the abutment. -/
def execVerdict (h : Hdr) (pid : BitVec 64) (yes : Bool) (noSpans : BitVec 128) (s : State) :
    Host.Outcome State Fault Refusal :=
  .next (s.recv h true (fun s =>
    if s.role = 2 then
      ({ s with trs.fwd := s.trs.fwd.map (fun (x : Fwd) => if x.pid = pid then { x with answers := x.answers ++ [(h.src, yes)] } else x)
        }).pylonCheck pid
    else
      match s.trs.props.find? (fun (x : Held) => x.p.pid == pid && x.reserved && !x.decided) with
      | none => s
      | some x =>
        let y : Held := { x with answers := x.answers.filter (fun a => a.1 != h.src) ++ [(h.src, yes, noSpans)] }
        let s := { s with trs.props := s.trs.props.map (fun (z : Held) => if z.p.pid = pid then y else z) }
        if s.pylons.all (fun n => y.answers.any (fun a => a.1 == n)) then s.decideProp y false else s))

/-- VERDICT_DEADLINE (R431): CL_TIMEOUT - 20 ms after the proposal, the pylon's VERDICT goes up. -/
def execVerdictDeadline (pid : BitVec 64) (s : State) : Host.Outcome State Fault Refusal :=
  match s.trs.fwd.find? (fun (x : Fwd) => x.pid == pid) with
  | none => .next s
  | some x =>
    if !s.trsUp then .next s else .next ((s.advance (x.at_ + 1000 * (s.clTimeout - 20))).pylonVerdict x)

/-- DECISION_DEADLINE (R430, R432): CL_TIMEOUT - 10 ms after its receipt a proposal is decided, a queued one with NONE; `flip`
says that the two computations of the decision differ. -/
def execDecisionDeadline (pid : BitVec 64) (flip : Bool) (s : State) : Host.Outcome State Fault Refusal :=
  match s.trs.props.find? (fun (x : Held) => x.p.pid == pid) with
  | none => .next s
  | some x =>
    if !s.trsUp || x.decided || !s.trs.deciding then .next s
    else
      let s := s.advance (x.at_ + 1000 * (s.clTimeout - 10))
      if x.reserved then .next (s.decideProp x flip)
      else .next (({ s with trs.props := s.trs.props.filter (fun (y : Held) => y.p.pid != pid) }).sendDecision x.p false [])

/-- DECISION (R432, R433): it reaches its origin, through its pylon. -/
def execDecision (h : Hdr) (pid : BitVec 64) (go : Bool) (excluded : List Nat) (s : State) : Host.Outcome State Fault Refusal :=
  .next (s.recv h true (fun s =>
    if pidOrigin pid = s.member then s.gotDecision pid go excluded
    else if s.role = 2 then s.send (pidOrigin pid) 0xFFFF (.decision pid go excluded)
    else s))

/-- CL_TIMEOUT_EXPIRY (R433, R445): no DECISION came in time; the item's verdict is CLUSTER_COMMIT_TIMEOUT. -/
def execClTimeoutExpiry (d : Idx) (s : State) : Host.Outcome State Fault Refusal :=
  match s.entOf d with
  | some e =>
    if e.st = .done ∧ e.confirm = some none then .next (s.setEnt d { e with confirm := some (some 0x6002) }) else .next s
  | none => .next s

/-- WITHDRAW (R435): the abutment ends the key's reservation. -/
def execWithdraw (h : Hdr) (pid : BitVec 64) (s : State) : Host.Outcome State Fault Refusal :=
  .next (s.recv h true (fun s =>
    if s.role = 1 then (s.endReservation pid).sendDown 0xFFFF (.withdraw pid)
    else if s.role = 2 then
      if s.nbrOf h.src ≠ s.parentNo then s.sendUp 0xFFFF (.withdraw pid)
      else ({ s with trs.fwd := s.trs.fwd.filter (fun (y : Fwd) => y.pid != pid) }).sendDown 0xFFFF (.withdraw pid)
    else s))

/-! ## Key changes, quarantine and resynchronisation (R434 to R438) -/

/-- APPLY (R434, R436): the abutment gives it its CKSEQ and sends it down; a pylon passes it on; every member applies it. -/
def execApply (h : Hdr) (a : ApplyMsg) (s : State) : Host.Outcome State Fault Refusal :=
  .next (s.recv h true (fun s =>
    if s.role = 1 then s.abutApply a
    else if s.role = 2 then
      if s.nbrOf h.src ≠ s.parentNo then s.sendUp a.tenant (.apply a) else (s.sendDown a.tenant (.apply a)).memberApply a
    else s.memberApply a))

/-- APPLIED (R416): a pylon passes it on to the abutment. -/
def execApplied (h : Hdr) (pid : BitVec 64) (noSpans : BitVec 128) (s : State) : Host.Outcome State Fault Refusal :=
  .next (s.recv h true (fun s => if s.role = 2 then s.sendUp 0xFFFF (.applied pid noSpans) else s))

/-- RESYNC_REQ (R438): answered by the abutment. -/
def execResyncReq (h : Hdr) (tenant : Nat) (s : State) : Host.Outcome State Fault Refusal :=
  .next (s.recv h true (fun s =>
    if s.role ≠ 1 then s.sendUp tenant (.resyncReq h.src tenant)
    else if tenant = 0xFFFF then
      (s.sendResync h.src (List.range 1025)).send (s.hopTo h.src) 0xFFFF (.resyncData h.src resyncEnd)
    else s.sendResync h.src [tenant]))

/-- RESYNC_DATA at the member it is for (R438): staged keys are verified, one journal record is written for each word that
differs, then the tenant's sequence word, and its bit of ANC_CL_QUAR as the commit point. -/
def State.resyncApply (m : ResyncMsg) (s : State) : State :=
  let t := m.tenant
  if !m.stagedOk then s.event06
  else
    let diff := m.words.filter (fun x => s.keyWord t x.1.toNat != x.2)
    let put := fun (s : State) => diff.foldl (fun (s : State) x =>
      s.jAppend t (kindFor (s.keyWord t x.1.toNat) x.2).code x.1.toNat x.2) s
    let q := tblGet 0 s.keys.seqs t + diff.length
    let cfg : List AncW := if m.cfg.length = 3 then [(0x1100 + 3 * t, m.cfg)] else []
    let ws := cfg ++ [(0x400 + t, [w64 (q % 2 ^ 32 + m.ckseq.toNat * 2 ^ 32)]), (0x208 + t / 64, [s.quarWord t false])]
    (s.mssBeginJ diff.length t put ws none none (.resynced t m.words)).2

/-- RESYNC_DATA (R425, R438): passed on to a span; the end of a rejoin lifts the quarantines that are not recorded. -/
def execResyncData (h : Hdr) (m : ResyncMsg) (s : State) : Host.Outcome State Fault Refusal :=
  .next (s.recv h true (fun s =>
    if h.dst ≠ s.member then (if s.role = 2 then s.send h.dst m.tenant (.resyncData h.dst m) else s)
    else if m.tenant = 0xFFFF then { s with trs.quarAll := false, trs.cstate := 3, trs.lostAt := none }
    else s.resyncApply m))

/-- RESYNC (R438): the host driver asks for every quarantined tenant. -/
def execResync (s : State) : Host.Outcome State Fault Refusal :=
  if !s.pfBar || !s.trsUp || !s.enrolled || s.role == 1 then .next s
  else if s.trs.quarAll then .next (s.sendUp 0xFFFF (.resyncReq s.member 0xFFFF))
  else .next (((List.range 1025).filter s.quarMarked).foldl (fun (s : State) t => s.sendUp t (.resyncReq s.member t)) s)

/-! ## Ports (R417 to R420) -/

/-- HEARTBEAT_TIMER (R410, R417). -/
def execHeartbeatTimer (p : Port) (neighbour : Nat) (s : State) : Host.Outcome State Fault Refusal :=
  if s.trsUp then .next (s.sendOn neighbour p .heartbeat) else .next s

/-- RESEND_TIMER (R417): the oldest unacknowledged message is sent again. -/
def execResendTimer (neighbour : Nat) (s : State) : Host.Outcome State Fault Refusal :=
  match s.trsUp, (s.assocOf neighbour).bind (fun (a : Assoc) => a.unacked.head?) with
  | true, some x => .next (s.transmit neighbour x)
  | _, _ => .next s

/-- Set the failure state of a port for a neighbour. -/
def Assoc.setFail (p : Port) (b : Bool) (a : Assoc) : Assoc := match p with
  | .a => { a with failA := b }
  | .b => { a with failB := b }

/-- The PCS link of a port. -/
def State.setLink (p : Port) (b : Bool) (s : State) : State := match p with
  | .a => { s with trs.linkA := b }
  | .b => { s with trs.linkB := b }

/-- Both ports are failed for a neighbour: the parent or the abutment is lost (R420, R440). -/
def State.nbrLost (n : Nat) (s : State) : State :=
  let s := s.modAssoc n (fun a => { a with lostAt := some s.now })
  let s := if n = s.trs.abutment ∧ s.role = 2 then { s with trs.abutLostAt := some s.now } else s
  if s.role ≠ 1 ∧ n = s.parentNo then ({ s with trs.lostAt := some s.now, trs.cstate := 4 }).trsEvent 32 else s

/-- PORT_FAIL (R418): traffic moves to the other port, and every unacknowledged message is sent again there. Without an
association with the neighbour, the port's link is lost. -/
def execPortFail (p : Port) (neighbour : Nat) (s : State) : Host.Outcome State Fault Refusal :=
  match s.assocOf neighbour with
  | none => .next (s.setLink p false)
  | some a =>
    if !s.trsUp || a.failed p then .next s
    else
      let b := a.setFail p true
      let s := ({ (s.setAssoc neighbour b) with trs.cntFailover := s.trs.cntFailover + 1 }.trsEvent 1).event06
      if b.port.isNone then .next (s.nbrLost neighbour)
      else if a.port = some p then .next (b.unacked.foldl (fun (s : State) x => s.transmit neighbour x) s)
      else .next s

/-- PORT_RECOVER (R419, R425): the port is healthy again; a regained parent is rejoined. -/
def execPortRecover (p : Port) (neighbour : Nat) (s : State) : Host.Outcome State Fault Refusal :=
  match s.assocOf neighbour with
  | none => .next (s.setLink p true)
  | some a =>
    if !s.trsUp || !a.failed p then .next s
    else
      let s := (s.setAssoc neighbour { a.setFail p false with lostAt := none }).trsEvent 2
      let s := if neighbour = s.trs.abutment then { s with trs.abutLostAt := none } else s
      if s.role ≠ 1 ∧ neighbour = s.parentNo ∧ s.trs.cstate = 4 then .next { s with trs.cstate := 2 } else .next s

/-- LEASE_EXPIRY (R420): a span that has lost its pylon for LEASE ms quarantines itself for every tenant. -/
def execLeaseExpiry (s : State) : Host.Outcome State Fault Refusal :=
  match s.trs.lostAt with
  | some t =>
    if s.role = 3 ∧ s.trs.cstate = 4 ∧ !s.trs.quarAll then
      let s := s.advance (t + 1000 * (s.clTimeout / 2))
      .next (({ s with trs.quarAll := true }.staleWhere (fun x => hKeyId x.hdr != 0xFFFFFFFFFFFFFFFF)).trsEvent 4)
    else .next s
  | none => .next s

/-! ## Loss of the abutment (R439 to R441) -/

/-- The enrolled pylons, the standby itself among them. -/
def State.pylonCount (s : State) : Nat := s.pylons.length + b2n (s.role == 2)

/-- With a majority of votes the standby's release writes its role and the new term, its commit point (R440). -/
def State.takeOver (term : Nat) (votes : List Nat) (s : State) : State :=
  if 2 * (votes.length + 1) ≤ s.pylonCount then s
  else
    (({ s with trs.call := none }).mssBegin [(0x0D, [memberWord s.member 1 0 false]), (0x0E, [w64 term])] none none
      (.takeover term)).2

/-- ABUTMENT_LOSS_TIMER (R440): the standby has lost the abutment for 2 s. -/
def execAbutmentLossTimer (s : State) : Host.Outcome State Fault Refusal :=
  match s.trs.abutLostAt with
  | none => .next s
  | some t =>
    if !s.trsUp || s.role != 2 || !s.isStandby || s.trs.call.isSome then .next s
    else
      let s := s.advance (t + 2000000)
      let term := s.term + 1
      let s := { s with trs.call := some (term, []), trs.cstate := 5 }
      let s := s.trs.assoc.foldl (fun (s : State) x => match x.2 with
        | some a => if a.tree then s else s.send x.1 0xFFFF (.takeoverCall term)
        | none => s) s
      .next (s.takeOver term [])

/-- TAKEOVER_CALL (R440): a pylon that has lost the abutment for 2 s votes. -/
def execTakeoverCall (h : Hdr) (term : Nat) (s : State) : Host.Outcome State Fault Refusal :=
  .next (s.recv h true (fun s =>
    match s.trs.abutLostAt with
    | some t =>
      if s.role = 2 ∧ s.term < term ∧ t + 2000000 ≤ s.now then
        s.send h.src 0xFFFF (.vote term (s.ancGet 0x0F).toNat ((s.now - t) / 1000))
      else s
    | none => s))

/-- VOTE (R440): records beyond the standby's own are asked of the voter, and a majority begins the takeover. -/
def execVote (h : Hdr) (term replSeq lostMs : Nat) (s : State) : Host.Outcome State Fault Refusal :=
  .next (s.recv h true (fun s =>
    match s.trs.call with
    | some (c, votes) =>
      if c ≠ term ∨ lostMs < 2000 ∨ votes.contains h.src then s
      else
        let last := (s.ancGet 0x0F).toNat
        let s := if last < replSeq then s.send h.src 0xFFFF (.replAck last) else s
        ({ s with trs.call := some (c, votes ++ [h.src]) }).takeOver term (votes ++ [h.src])
    | none => s))

/-- TAKEOVER (R440): the higher term and the new abutment are adopted by a release; a pylon's new parent is the abutment. -/
def execTakeover (h : Hdr) (term member : Nat) (s : State) : Host.Outcome State Fault Refusal :=
  .next (s.recv h true (fun s =>
    if term ≤ s.term then s
    else
      let own : List AncW := if s.role = 2 then [(0x0D, [memberWord s.member 2 member s.isStandby])] else []
      (s.mssBegin (own ++ [(0x0E, [w64 term])]) none none (.newTerm term member)).2))

/-! ## Changing the cluster root key (R442 to R444) -/

/-- Every ACTIVE tenant's entry-0 blob carries the present epoch of the CRK (R442). -/
def State.blobsReady (s : State) (blobs : List (Nat × Bytes)) : Bool :=
  ((s.hiu.tn.filter (fun x => x.2.state == 1)).map Prod.fst).all (fun t =>
    blobs.any (fun b => b.1 == t && sub b.2 0 4 == blobMagic && hKeyId b.2 == 0 && hTenant b.2 == t &&
      hParentEpoch b.2 == s.crkEpoch))

/-- A member's release of a new CRK (R443): the old blob, the new one, and the epoch as the commit point. -/
def State.applyCrk (s : State) : State :=
  match s.trs.crkNext with
  | none => s
  | some (ep, crk, _) =>
    let (new, s') := s.crkWords ep.toNat (natBe 32 crk.toNat)
    let ws : List AncW := [(0x1F4, blobWords (s.ancBlob 0x1E0)), (0x1E0, new), (0x0C, [w64 ep.toNat])]
    (s'.mssBegin ws none none (.crkCommitted crk)).2

/-- A member's answer at the abutment: a no abandons the change; when every member has answered yes, CRK_COMMIT goes down and
the abutment applies it itself (R442). -/
def State.crkAnswer (member : Nat) (yes : Bool) (s : State) : State :=
  match s.trs.crk with
  | none => s
  | some (ep, crk, got) =>
    if !yes then ({ s with trs.crk := none, trs.crkNext := none }).event06
    else
      let got := if got.contains member then got else got ++ [member]
      let all := (s.trs.members.filterMap (fun x => if x.2.isSome then some x.1 else none)).all got.contains && got.contains s.member
      if all then (({ s with trs.crk := none }).sendDown 0xFFFF .crkCommit).applyCrk
      else { s with trs.crk := some (ep, crk, got) }

/-- CRK_PREPARE (R442): the member's entry-0 blobs are checked and it answers; the abutment's own check of its tenants is this
command with itself as the sender (log 28). -/
def execCrkPrepare (h : Hdr) (epoch : BitVec 32) (crk : BitVec 256) (tdkBlobs : List (Fn × Bytes)) (s : State) :
    Host.Outcome State Fault Refusal :=
  let blobs := tdkBlobs.map (fun x => (x.1.val, x.2))
  let answer := fun (s : State) =>
    let yes := epoch.toNat == s.crkEpoch + 1 && s.blobsReady blobs
    (yes, if yes then { s with trs.crkNext := some (epoch, crk, blobs) } else s)
  if s.role = 1 ∧ h.src = s.member then
    match s.trs.crk with
    | some (ep, key, _) =>
      if s.trsUp ∧ ep = epoch ∧ key = crk then
        let (yes, s) := answer s
        .next (s.crkAnswer s.member yes)
      else .next s
    | none => .next s
  else
    .next (s.recv h true (fun s =>
      let s := if s.role = 2 then s.sendDown 0xFFFF (.crkPrepare epoch crk) else s
      let (yes, s) := answer s
      s.sendUp 0xFFFF (.crkReady s.member yes)))

/-- CRK_READY (R442). -/
def execCrkReady (h : Hdr) (member : Nat) (yes : Bool) (s : State) : Host.Outcome State Fault Refusal :=
  .next (s.recv h true (fun s => if s.role = 1 then s.crkAnswer member yes else s.sendUp 0xFFFF (.crkReady member yes)))

/-- CRK_COMMIT (R443). -/
def execCrkCommit (h : Hdr) (s : State) : Host.Outcome State Fault Refusal :=
  .next (s.recv h true (fun s => (if s.role = 2 then s.sendDown 0xFFFF .crkCommit else s).applyCrk))

end Sys2Proof.Machine
end

