-- ==== Sys2Proof/Machine/Recorder.lean ====
section
/-! DEFINITION. The event recorder (14_event_recorder.md). -/

namespace Sys2Proof.Machine

/-- The slot of sequence number `q` under KEPT_BASE `base` (R544). -/
def evrSlot (base q : Word) : Nat :=
  let d := (q - base).toNat
  if d < 4096 then d else 4096 + (d - 4096) % 61440

/-- The 32 bytes of a record (R539). -/
def Rec.bytes (r : Rec) : Bytes :=
  natLe 4 r.seq.toNat ++ natLe 2 r.code.toNat ++ natLe 2 r.source.toNat ++ natLe 8 r.time ++ natLe 4 r.p0.toNat ++
    natLe 4 r.p1.toNat ++ natLe 4 r.p2.toNat ++ natLe 4 r.p3.toNat

/-- The record a slot's 32 bytes hold; `none` for a slot that holds no record (code 0x0000 is never written, R539). -/
def recOf (b : Bytes) : Option Rec :=
  if fld b 4 2 = 0 ∨ fld b 4 2 = 0xFFFF then none
  else some ⟨w32 (fld b 0 4), BitVec.ofNat 16 (fld b 4 2), BitVec.ofNat 16 (fld b 6 2), fld b 8 8, w32 (fld b 16 4),
    w32 (fld b 20 4), w32 (fld b 24 4), w32 (fld b 28 4)⟩

/-- The flash address of a kept slot in a half of the recorder region (R600, R545). -/
def evrFlash (half : Bool) (slot : Nat) : Nat := 0x3000000 + (if half then 0x20000 else 0) + 32 * slot

/-- The half of the recorder region in use: ANC_EVR_BASE [32] (R619). -/
def State.evrHalf (s : State) : Bool := (s.ancGet 9).getLsbD 32

/-- Write one record of time `time` with the next sequence number: SEQ and TIME are fixed, the slot of R544 is written, and a kept
record waits for its flash write (R541, R542, R544, R545); EVR_EVT.KEPT_FULL and LOST (R559). -/
def State.evrWrite (o : Offer) (time : Nat) (s : State) : State :=
  let q := w32 s.evr.head
  let slot := evrSlot s.evr.keptBase q
  let r : Rec := ⟨q, o.code, o.source, time, o.p0, o.p1, o.p2, o.p3⟩
  let s := { s with
    evr.store := tblSet none slot (some r) s.evr.store
    evr.head := s.evr.head + 1
    evr.keptPending := if slot < 4096 then s.evr.keptPending ++ [slot] else s.evr.keptPending }
  let s := if slot = 4095 then s.evrEvent 1 else s
  if o.code = 0x0B01 ∨ o.code = 0x0B04 then s.evrEvent 16 else s

/-- The recorder raises its ceiling by 65,536 with one anchor write when the count comes within 32,768 of it; a refused
write waits for its retry (R546). -/
def State.evrRaise (s : State) : State :=
  if s.evr.raising || s.evr.retry || decide (32768 < s.evr.ceiling - s.evr.head) then s
  else
    let (s', ok) := s.ancWrite 8 [w64 (s.evr.ceiling + 65536)] .ceiling
    if ok then { s' with evr.raising := true } else { s' with evr.retry := true }

/-- The next record to accept, with its time: a 0x0B05 after a drop, else the recorder's own, else a record of the boot with its own
time, else the oldest offered (R541, R547, R677). -/
def State.evrNext (s : State) : Option (Offer × Nat × State) :=
  if 0 < s.evr.dropped then
    some (⟨1144, 0x0B05, w32 s.evr.dropped, 0, 0, 0⟩, s.now, { s with evr.dropped := 0 })
  else
    match s.evr.own with
    | o :: rest => some (o, s.now, { s with evr.own := rest })
    | [] =>
      match s.boot.log with
      | (o, time) :: rest => some (o, time, { s with boot.log := rest })
      | [] =>
        match s.evr.queue with
        | o :: rest => some (o, s.now, { s with evr.queue := rest })
        | [] => none

/-- RECORD_OFFER (R541, R547 to R551): code 0x0000 is never written (R539). -/
def execRecordOffer (source : Fin 65536) (code : BitVec 16) (p0 p1 p2 p3 : Word) (s : State) :
    Host.Outcome State Fault Refusal :=
  if code = 0 then .next s else .next (s.offer ⟨BitVec.ofNat 16 source, code, p0, p1, p2, p3⟩)

/-- RECORD_ACCEPT (R541, R542, R546, R547): nothing is accepted at the ceiling or during a clear (R546, R554). -/
def execRecordAccept (s : State) : Host.Outcome State Fault Refusal :=
  if s.evr.clearing then .next s
  else if s.evr.ceiling ≤ s.evr.head then .next s.evrRaise
  else
    match s.evrNext with
    | some (o, time, s') => .next (s'.evrWrite o time).evrRaise
    | none => .next s.evrRaise

/-- KEPT_RECORD_FLASH_WRITE_DONE (R545): the oldest pending kept record is in the flash. -/
def execKeptRecordFlashWriteDone (s : State) : Host.Outcome State Fault Refusal :=
  match s.evr.keptPending with
  | [] => .next s
  | slot :: rest =>
    let s := { s with evr.keptPending := rest }
    match tblGet none s.evr.store slot with
    | some r => .next { s with cfg.flash := setBytes 0xFF s.cfg.flash (evrFlash s.evrHalf slot) r.bytes }
    | none => .next s

/-- CEILING_RAISE_DONE (R546): the raise is persistent and waiting records may be accepted. -/
def execCeilingRaiseDone (s : State) : Host.Outcome State Fault Refusal :=
  let c := (s.ancGet 8).toNat
  if s.evr.raising ∧ s.evr.ceiling < c then .next { s with evr.ceiling := c, evr.raising := false } else .next s

/-- CEILING_RETRY (R546): a refused raise is tried again. -/
def execCeilingRetry (s : State) : Host.Outcome State Fault Refusal :=
  if s.evr.retry then .next ({ s with evr.retry := false }).evrRaise else .next s

/-- The 0x0B02 summary and the four 0x0B03 records of a histogram slot, and 0x0B07 when its code leaves fall-back
(R543, R550). -/
def histRecords (slot count : Nat) (h : Hist) : List Offer :=
  let bin := fun k => tblGet 0 h.bins k
  let pair := fun k => w32 (bin k + 65536 * bin (k + 1))
  (⟨1144, 0x0B02, w32 (h.code.toNat + 65536 * slot), w32 count, h.least, h.greatest⟩ : Offer) ::
    (List.range 4).map (fun j => ⟨h.code, 0x0B03, pair (8 * j), pair (8 * j + 2), pair (8 * j + 4), pair (8 * j + 6)⟩) ++
    if count ≤ 1000 then [⟨1144, 0x0B07, h.code.setWidth 32, w32 (h.seconds + 1), 0, 0⟩] else []

/-- What is left of a histogram slot at the end of a second: cleared, or freed (R550). -/
def histEnd (count : Nat) (h : Hist) : Option Hist :=
  if count ≤ 1000 then none else some ⟨h.code, 0, [], 0, 0, h.seconds + 1⟩

/-- The end of a second for every histogram slot, in ascending order (R550). -/
def State.histSecond (s : State) : Tbl (Option Hist) → List Offer
  | [] => []
  | (i, some h) :: t => histRecords i (tblGet 0 s.evr.offered h.code.toNat) h ++ s.histSecond t
  | (_, none) :: t => s.histSecond t

/-- SECOND_END (R548, R550): device time reaches the next multiple of 1,000,000. -/
def execSecondEnd (s : State) : Host.Outcome State Fault Refusal :=
  let s := s.advance ((s.now / 1000000 + 1) * 1000000)
  .next { s with
    evr.own := s.evr.own ++ s.histSecond s.evr.hist
    evr.hist := tblMap none (fun _ o => o.bind (fun h => histEnd (tblGet 0 s.evr.offered h.code.toNat) h)) s.evr.hist
    evr.offered := []
    mi.dieCe := [] }

/-- EVR_WR_GO (R541, R557): the MSS offers the record of the write registers; the write stalls while the input queue is
full, so that nothing happens then. -/
def execEvrWrGo (s : State) : Host.Outcome State Fault Refusal :=
  let code := s.evr.wrHdr.setWidth 16
  if code = 0 ∨ 64 ≤ s.evr.queue.length then .next s
  else
    let p := fun i => tblGet 0 s.evr.wrP i
    .next (s.offer ⟨(s.evr.wrHdr >>> 16).setWidth 16, code, p 0, p 1, p 2, p 3⟩)

/-- The oldest sequence number held: KEPT_BASE, once a record has been written (R554). -/
def State.evrOldest (s : State) : Word :=
  if (tblGet none s.evr.store 0).isSome then s.evr.keptBase else w32 s.evr.head

/-- EVR_CLEAR.GO up to its anchor write (R554 steps 1 to 3), for the MSS holding a verified ticket with its signers and
identifier: the clear record is written to the other flash half and ANC_EVR_BASE is issued; a refused write ends the
clear with nothing changed. -/
def State.evrClear (signers ticket : Word) (s : State) : State :=
  if s.evr.clearing || decide (s.evr.ceiling ≤ s.evr.head) then s
  else
    let h := w32 s.evr.head
    let half := !s.evrHalf
    let r : Rec := ⟨h, 0x0B08, 1144, s.now, s.evrOldest, h - 1, signers, ticket⟩
    let s := { s with evr.clearRefused := false }
    let (s', ok) := s.ancWrite 9 [w64 (h.toNat + (if half then 2 ^ 32 else 0))] .evrClear
    if ok then
      { s' with
        evr.clearing := true
        evr.clearRec := some r
        cfg.flash := setBytes 0xFF s'.cfg.flash (evrFlash half 0) r.bytes }
    else { s' with evr.clearRefused := true }

/-- The commit point of a clear and steps 4 and 5 (R554): KEPT_BASE, the clear record in slot 0, every other slot
invalidated, and the old flash half erased. -/
def State.evrCleared (s : State) : State :=
  match s.evr.clearRec with
  | none => s
  | some r =>
    ({ s with
      evr.clearing := false
      evr.clearRec := none
      evr.keptBase := r.seq
      evr.head := s.evr.head + 1
      evr.circBase := s.evr.head + 4096
      evr.store := [(0, some r)]
      evr.keptPending := []
      cfg.flash := clearBytes s.cfg.flash (evrFlash (!s.evrHalf) 0) 0x20000 }).evrEvent 8

/-- A lost word of the recorder's store (R497): the slot's record is replaced by a 0x0B01 that stands in for it. -/
def State.evrLost (slot : Nat) (s : State) : State :=
  match tblGet none s.evr.store slot with
  | none => s
  | some r =>
    let r' : Rec := ⟨r.seq, 0x0B01, 1144, s.now, w32 slot, r.seq, 0, 0⟩
    ({ s with evr.store := tblSet none slot (some r') s.evr.store }).evrEvent 16

end Sys2Proof.Machine
end

