-- ==== Sys2Proof/Machine/MemInt.lean ====
section
/-! DEFINITION. Memory integrity: captures, events, owner actions, scrubbing, failed dies, the ECC test mode and the DRAM key
(12_memory_integrity.md), and the MSS warm restart (18 R674). -/

namespace Sys2Proof.Machine

/-! ## The MSS warm restart (R561, R570, R576, R674) -/

/-- An MSS warm restart begins: MSS SRAM is cleared, nonces and the open ceremony go with it, a request under way gets no
reply, and a release that it had begun goes on (R570, R576, R590, R674). `cause` is 1 for the watchdog, 2 for memory. -/
def State.warmRestart (cause : Nat) (s : State) : State :=
  if s.boot.warm || s.boot.booting || s.boot.romHalt then s
  else
    let s := s.clearMssSram
    { s with
      boot.warm := true
      boot.warmStart := s.now
      boot.cause := BitVec.ofNat 4 (5 + cause)
      mss.nonces := []
      mss.cerem := none
      mss.frags := []
      mss.inbox := []
      mss.rels := s.mss.rels.map (fun (r : MssRel) => { r with reply := none })
      mss.mbxRestarted := s.mss.mbxRestarted || s.mss.mbxBusy
      mss.mbxBusy := false
      mss.vf := tblMap {} (fun _ (m : VfMbx) => { m with busy := false }) s.mss.vf
      mss.mayPolicy := none
      mss.mayClearEvr := none }

/-! ## Captures and events (R503, R506) -/

/-- MEM_ERR_INFO of an error, VALID aside (R506). -/
def memInfo (mem inst : Nat) (scrub write : Bool) : Nat :=
  mem + inst * 2 ^ 4 + b2n scrub * 2 ^ 11 + b2n write * 2 ^ 12

/-- MEM_ERR_ADDR: the internal address, or instance and word index (R485, R505; log 29). -/
def memAddr (m : SramMem) (inst addr : Nat) : Nat :=
  match m with
  | .pool | .mssSram => addr
  | _ => inst * 2 ^ 32 + addr

/-- An uncorrectable error is captured while VALID is 0, and otherwise sets OVERRUN (R506). -/
def State.memCapture (info addr : Nat) (s : State) : State :=
  if s.mi.errInfo.getLsbD 31 then { s with mi.errInfo := s.mi.errInfo ||| 0x40000000 }
  else { s with mi.errInfo := w32 (info + 2 ^ 31), mi.errAddr := w64 addr }

/-- An event of MEM (R503). -/
def State.memEvent (code info addr p3 : Nat) (s : State) : State :=
  s.eventSig 1141 code (info + 2 ^ 31) addr (addr / 2 ^ 32 % 256) p3

/-! ## Owner actions (R497 to R499) -/

/-- A lost word of staging, by the state of the item that owns it (R499). -/
def State.stagingLost (d : Nat) (s : State) : State :=
  match s.entOf d with
  | none => s
  | some e =>
    match e.st with
    | .running => s.restart d
    | .done => (s.unpropose d).redispatch d
    | _ => s

/-- A lost word of a Deck entry: the posted part of a DONE item re-dispatches it; everything else is repaired (R498). -/
def State.deckLost (d off : Nat) (s : State) : State :=
  match s.entOf d with
  | none => s
  | some e => if 128 ≤ off ∧ e.st = .done ∧ e.flow.isSome then (s.unpropose d).redispatch d else s

/-- The tier-one slot that holds a word, the first of two for a two-slot key (R270). -/
def State.slotAt (s : State) (k : Nat) : Nat :=
  match tblGet none s.keys.t1 k with
  | some (x : Slot) => if x.second then k - 1 else k
  | none => k

/-- The owner's action on a lost word or line of the address map (R497). -/
def State.ownerAt (a : Nat) (s : State) : State :=
  if a ≤ 0x417FFFFF ∧ 0x40000000 ≤ a then
    { s with keys.t1 := staleSlot s.keys.t1 (s.slotAt ((a - 0x40000000) / 96)) }
  else if 0x41C00000 ≤ a ∧ a ≤ 0x423FFFFF then s.deckLost ((a - 0x41C00000) / 256) (a % 256)
  else if 0x42800000 ≤ a ∧ a ≤ 0x447FFFFF then s.stagingLost ((a - 0x42800000) / 0x400)
  else if 0x10000000 ≤ a ∧ a ≤ 0x103FFFFF then s.warmRestart 2
  else if 0x1000000000 ≤ a ∧ a ≤ 0x107FFFFFFF then
    { s with keys.t2 := tblSet none ((a - 0x1000000000) / 128) none s.keys.t2 }
  else if 0x1080000000 ≤ a ∧ a ≤ 0x127FFFFFFF then s.stagingLost ((a - 0x1080000000) / 0x40000)
  else if 0x1280000000 ≤ a ∧ a ≤ 0x12FFFFFFFF then s.warmRestart 2
  else s

/-- A lost word of an operand memory: the running request answers OPERAND_LOST; an idle engine does nothing (R343, R497). -/
def State.operandLost (e : Nat) (s : State) : State :=
  match s.running e with
  | some (i, y) => if y.first.isSome then (s.setOut e i (bareResp y.req 0x14) []).settle e else s
  | none => s

/-- The owner's action on a lost SRAM word (R497). -/
def State.sramOwner (m : SramMem) (inst addr : Nat) (s : State) : State :=
  match m with
  | .pool | .mssSram => s.ownerAt addr
  | .pierLocal => s.pierFails inst 1
  | .operand => if inst < 48 then s.operandLost (48 + inst) else s
  | .controlStore => if inst < 48 then s.engFails (48 + inst) 1 else s
  | .reqQueue => if inst < 96 then s.engFails inst 1 else s
  | .evrStore => s.evrLost (addr / 4)

/-! ## Scrubbing (R486, R495, R496) -/

/-- The ECC test window holds an address: the scrubber skips it (R500, R502). -/
def State.inTestWindow (s : State) (a : Nat) : Bool :=
  s.mi.testEn && decide (s.mi.testBase.toNat ≤ a) && decide (a < s.mi.testBase.toNat + 4096)

/-- A stripe has a line in the ECC test window. -/
def State.stripeInTest (s : State) (i : Nat) : Bool :=
  (List.range 3).any (fun l => s.inTestWindow (0x1000000000 + 192 * i + 64 * l))

/-- The word key that a memory, instance and address name. -/
def scrubKey (m : SramMem) (inst addr : Nat) : Nat :=
  match m with
  | .pool | .mssSram => wordAt addr
  | _ => wordKey m inst addr

/-- Whether poison stays in the word: the regions that their owners repair or rewrite at once keep none (R497). -/
def poisonStays (m : SramMem) (addr : Nat) : Bool :=
  match m with
  | .pool => decide (addr ≤ 0x417FFFFF) || (decide (0x42800000 ≤ addr) && decide (addr ≤ 0x447FFFFF))
  | .mssSram | .operand => true
  | _ => false

/-- The last word of an SRAM pass (log 29). -/
def lastSram (m : SramMem) (addr : Nat) : Bool := m == .evrStore && addr == 262143

/-- SRAM_SCRUB (R495, R496): the scrubber reads a word; a poisoned one has been acted on already. -/
def execSramScrub (m : SramMem) (inst : Fin 128) (addr : Nat) (ecc : Ecc) (s : State) : Host.Outcome State Fault Refusal :=
  if !s.mi.ctrl.getLsbD 0 || s.inTestWindow addr then .next s
  else
    let k := scrubKey m inst addr
    let info := memInfo (sramCode m) inst true false
    let at_ := memAddr m inst addr
    let s1 : State :=
      match ecc with
      | .clean => s
      | .correctable syn =>
        ({ s with mi.cntCeSram := s.mi.cntCeSram + 1, mi.testBits := tblSet none k none s.mi.testBits }).memEvent 0x0801 info at_
          syn.toNat
      | .uncorrectable _ =>
        if s.poisoned k then s
        else
          let s := ({ s with mi.cntUeSram := s.mi.cntUeSram + 1 }.memCapture info at_).memEvent 0x0803 info at_ 0
          let s := if poisonStays m addr then s.poison k else s
          s.sramOwner m inst addr
    if lastSram m addr then
      .next ({ s1 with mi.passSram := w64 s1.now }.memEvent 0x0807 0 0 0)
    else .next s1

/-- Store a stripe as poisoned: zeros, marked in the line poison table, or with the reserved pattern when the table is full
(R495). -/
def State.poisonStripe (i : Nat) (s : State) : State :=
  let s := { s with mem := clearBytes s.mem (0x1000000000 + 192 * i) 192, mi.testStripes := tblSet 0 i 0 s.mi.testStripes }
  if s.mi.linePoison.length < 4096 || tblGet 0 s.mi.linePoison i != 0 then
    { s with mi.linePoison := tblSet 0 i 7 s.mi.linePoison }
  else { s with mi.pattern := tblSet false i true s.mi.pattern }

/-- The owners of a lost stripe's lines act (R495, R497). -/
def State.stripeOwners (i : Nat) (s : State) : State :=
  let a := 0x1000000000 + 192 * i
  let regions := fun (x : Nat) => if x ≤ 0x107FFFFFFF then x / 128 else if x ≤ 0x127FFFFFFF then 2 ^ 32 + x / 0x40000 else 2 ^ 33
  let as_ := (List.range 3).map (fun l => a + 64 * l)
  let first := as_.foldl (fun l x => if l.any (fun y => regions y == regions x) then l else l ++ [x]) ([] : List Nat)
  first.foldl (fun (s : State) x => s.ownerAt x) s

/-- DIE_MARK_FAILED (R491): at most two dies are marked. -/
def State.markDie (die : Nat) (s : State) : State :=
  let marked := ((List.range 16).filter (fun i => s.mi.dieFailed.getLsbD i)).length
  if s.mi.dieFailed.getLsbD die || decide (2 ≤ marked) then s
  else ({ s with mi.dieFailed := s.mi.dieFailed ||| BitVec.ofNat 16 (2 ^ die) }).memEvent 0x0806 (memInfo 7 0 false false) 0 die

/-- DIE_MARK_FAILED (R491). -/
def execDieMarkFailed (die : Fin 16) (s : State) : Host.Outcome State Fault Refusal := .next (s.markDie die)

/-- A corrected DRAM symbol: counted by die, which is marked at 1,024 in a second (R490, R491). The syndrome's low four bits
name the die. -/
def State.dramCorrected (syn : BitVec 8) (info addr : Nat) (s : State) : State :=
  let die := syn.toNat % 16
  let n := tblGet 0 s.mi.dieCe die + 1
  let s := ({ s with mi.cntCeDram := s.mi.cntCeDram + 1, mi.dieCe := tblSet 0 die n s.mi.dieCe }).memEvent 0x0804 info addr die
  if 1024 ≤ n then s.markDie die else s

/-- DRAM_SCRUB (R495, R496). -/
def execDramScrub (stripe : Fin 67108864) (ecc : Ecc) (s : State) : Host.Outcome State Fault Refusal :=
  if !s.mi.ctrl.getLsbD 1 || !s.mi.dramReady || s.stripeInTest stripe || s.pwr.state == 2 then .next s
  else
    let a := 0x1000000000 + 192 * stripe.val
    let info := memInfo 7 0 true false
    let s1 : State :=
      match ecc with
      | .clean => s
      | .correctable syn => s.dramCorrected syn info a
      | .uncorrectable _ =>
        if (List.range 3).any (fun l => s.linePoisoned stripe l) then s
        else
          (((({ s with mi.cntUeDram := s.mi.cntUeDram + 1 }.poisonStripe stripe).memCapture info a).memEvent 0x0803 info a 1)).stripeOwners
            stripe
    if stripe.val = 67108863 then .next ({ s1 with mi.passDram := w64 s1.now }.memEvent 0x0807 0 0 1)
    else .next s1

/-! ## The ECC test mode, the DRAM key and the zero-fill (R492, R494, R500) -/

/-- The window of MEM_TEST_BASE is valid: wholly in MSS SRAM, or in the MSS working area of DRAM with the other lines of its
stripes (R500). -/
def State.testWindowOk (s : State) : Bool :=
  let b := s.mi.testBase.toNat
  (decide (0x10000000 ≤ b) && decide (b + 4096 ≤ 0x10400000)) ||
    (decide (0x1280000000 ≤ b) && decide (b + 4096 ≤ 0x1300000000) &&
      decide (0x1280000000 ≤ 0x1000000000 + 192 * stripeOf b) &&
      decide (0x1000000000 + 192 * (stripeOf (b + 4095) + 1) ≤ 0x1300000000))

/-- ECC_TEST_MODE (R500, R503): EN can be set only under the maintenance overlay with a valid window. -/
def execEccTestMode (en : Bool) (s : State) : Host.Outcome State Fault Refusal :=
  if en then
    if s.mi.testEn then .next s
    else
      if s.hiu.overlay != 1 then .next { s with mi.err := s.mi.err ||| 1 }
      else if !s.testWindowOk then .next { s with mi.err := s.mi.err ||| 3 }
      else .next ({ s with mi.testEn := true }.memEvent 0x0808 0 0 1)
  else if s.mi.testEn then .next ({ s with mi.testEn := false }.memEvent 0x0808 0 0 0)
  else .next s

/-- DRAM_KEY_WRITE (R492). -/
def execDramKeyWrite (key : BitVec 512) (s : State) : Host.Outcome State Fault Refusal := .next { s with mi.dramKey := key }

/-- ZERO_FILL_END (R494): DRAM accesses are granted, and the scrubber begins a pass. -/
def execZeroFillEnd (s : State) : Host.Outcome State Fault Refusal :=
  if s.mi.zeroFilling then .next { s with mi.zeroFilling := false, mi.dramReady := true } else .next s

end Sys2Proof.Machine
end

