-- ==== Sys2Proof/Machine/Parapet.lean ====
section
/-! DEFINITION. The Parapet: checks, alarm latches, response decisions, the policy and its window, and the backup alarm log
(13_tamper_and_environment.md). -/

namespace Sys2Proof.Machine

/-! ## Sources, classes and latches (R509 to R517) -/

/-- Only the backup supply is present: 3V3_AUX is absent and the store does not stand in for it (R522, R710). -/
def State.backupOnly (s : State) : Bool := !s.hw.aux && !s.hw.onStore

/-- The class of a source under a policy: the fixed sources are ERASE (R509, R514, R536). -/
def classOf (policy : BitVec 26) (src : Nat) : Nat := if src < 3 then 3 else bitsOf policy.toNat (2 * src + 1) (2 * src)

/-- One bit of a mask of sources. -/
def srcBit (src : Nat) : BitVec 13 := BitVec.ofNat 13 (2 ^ src)

/-- The sources of a mask, in ascending order. -/
def sourcesOf (m : BitVec 13) : List Nat := (List.range 13).filter (fun i => m.getLsbD i)

/-- The strongest class among the sources of a mask (R517). -/
def strongest (policy : BitVec 26) (m : BitVec 13) : Nat := (sourcesOf m).foldl (fun c i => max c (classOf policy i)) 0

/-- The source is monitored now: backup sources in every state, the others on 3V3_AUX; VOLT while PWR_GOOD_IN is asserted,
GLITCH while the fabric domain is powered; a LID or loop of class OFF is not checked (R509 to R511, R514). -/
def State.monitored (s : State) (src : Nat) : Bool :=
  (if src < 8 then s.hw.vbk || !s.backupOnly else !s.backupOnly) && classOf s.par.policyBk src != 0 &&
    (if src = 8 then s.pwr.mainOk else if src = 9 then s.pwr.state.toNat != 2 && s.pwr.quiesceStep != 7 else true)

/-- A monitored source detects its condition: unless it has still to be re-armed, it latches, with the time-stamp counter, and a
decision begins if none is under way (R517, R518, R525). -/
def State.alarm (src : Nat) (s : State) : State :=
  let b := srcBit src
  let s := { s with par.cond := s.par.cond ||| b }
  if s.par.acted.getLsbD src || s.par.todo.getLsbD src then s
  else
    let s := { s with
      par.latch := s.par.latch ||| b
      par.todo := s.par.todo ||| b
      par.latchTsc := tblSet 0 src s.tsc s.par.latchTsc }
    if s.par.deciding then s
    else { s with
      par.deciding := true
      par.pol := s.par.policyBk
      par.first := BitVec.ofNat 2 (strongest s.par.policyBk s.par.todo) }

/-- LOOP_CHECK (R510): bit 0 of `failed` is LID, bits 1 to 4 the loops; a check that passes shows its condition clear. -/
def execLoopCheck (failed : BitVec 5) (s : State) : Host.Outcome State Fault Refusal :=
  .next ((List.range 5).foldl (fun (s : State) i =>
    if !s.monitored (3 + i) then s
    else if failed.getLsbD i then s.alarm (3 + i)
    else { s with par.cond := s.par.cond &&& ~~~(srcBit (3 + i)) }) s)

/-- ALARM_LATCH (R511, R512, R517). -/
def execAlarmLatch (src : Fin 13) (s : State) : Host.Outcome State Fault Refusal :=
  if s.monitored src then .next (s.alarm src) else .next s

/-! ## The backup alarm log (R524, R538) -/

/-- An entry of the backup alarm log. -/
def State.blogOf (s : State) (n : Nat) : DWord := tblGet 0x8000000000000000 s.par.blog n
/-- Write an entry. -/
def State.setBlog (n : Nat) (v : DWord) (s : State) : State := { s with par.blog := tblSet 0x8000000000000000 n v s.par.blog }

/-- The entry for a source acted on: TSC, SOURCE, CLASS, MISMATCH, BACKUP, and READ once event 0x0201 is recorded (R538). -/
def blogWord (t : BitVec 48) (src cls : Nat) (mismatch backup read : Bool) : DWord :=
  w64 (t.toNat + src * 2 ^ 48 + cls * 2 ^ 52 + b2n mismatch * 2 ^ 54 + b2n backup * 2 ^ 55 + b2n read * 2 ^ 63)

/-- A new entry takes the lowest one marked READ; when none is, it overwrites entry 15 and LOST counts (R524). -/
def State.logAlarm (v : DWord) (s : State) : State :=
  match (List.range 16).find? (fun n => (s.blogOf n).getLsbD 63) with
  | some n => s.setBlog n v
  | none => { (s.setBlog 15 v) with par.lost := if s.par.lost = 255 then 255 else s.par.lost + 1 }

/-- A source acted on is recorded: a log entry, and on 3V3_AUX event 0x0201 (R517, R522, R530, R538). -/
def State.recordAlarm (taken : Nat) (mismatch : Bool) (src : Nat) (s : State) : State :=
  let t := tblGet 0 s.par.latchTsc src
  let back := s.backupOnly
  let s := { s.logAlarm (blogWord t src taken mismatch back (!back)) with par.cntAlarm := s.par.cntAlarm + 1 }
  if back then s else s.eventSig 1143 0x0201 src taken (t.toNat % 2 ^ 32) (2 * b2n mismatch)

/-! ## Responses (R518 to R522) -/

/-- ALARM_OUT# is asserted (R527, R563). -/
def State.alarmOn (s : State) : State :=
  if s.par.alarmOut then s else { s with par.alarmOut := true, mss.alert := s.mss.alert ||| 2 }

/-- A RESET response (R520): the data plane stops, coalesced anchor writes are issued at once and a module reset is asked for;
it changes nothing under a response that is already under way (R518). -/
def State.resetResponse (s : State) : State :=
  if s.par.response != 0 then s.alarmOn
  else
    let s := { s.alarmOn with par.response := 2, dsp.noGrant := true, deck.noRelease := true, hiu.noFetch := true }
    { s.flushKeySeq with boot.request := some 2 }

/-- Steps 1 and 2 of an ERASE (R521): Keystone, DRAM key, key cache tier one, SRAM pool, pier local and operand memories, engine
key and chain registers and PKM_RAM are cleared. -/
def State.zeroise (s : State) : State :=
  let s := { s.ksClear with ks.tamper := true, mi.dramKey := 0, keys.t1 := [], eng.pkmRam := [], deck.noRelease := true }
  let s := (List.range 128).foldl (fun (s : State) p => s.clearInst .pierLocal p) s.clearPool
  let s := (List.range 48).foldl (fun (s : State) p => s.clearInst .operand p) s
  { s with eng.eng := tblMap {} (fun _ (x : Eng) =>
      { x with ckey := none, cdata := none, opmem := [], q := x.q.map (fun (y : QEnt) => { y with key := none }) }) s.eng.eng }

/-- An ERASE response (R521): after it no intent of any release is applied, and a module reset follows. It replaces a RESET
response under way (R518). -/
def State.eraseResponse (s : State) : State :=
  if s.par.response == 3 then s.alarmOn
  else
    let s := s.zeroise.alarmOn
    { s with
      par.response := 3
      mss.rels := []
      mss.mayGenerate := false
      rng.waiting := tblSet 0 212 0 s.rng.waiting
      boot.request := if s.pwr.quiesce then none else some 3 }

/-- The response on the backup supply alone (R522). -/
def State.backupResponse (taken : Nat) (s : State) : State :=
  if taken = 3 then { s.ksClear with ks.tamper := true }
  else if taken = 2 then { s with par.pendingReset := true }
  else s

/-- PARAPET_DECISION_END (R517 to R522): the second computation, which a disturbance may change, the class taken, the records and
the response. -/
def execParapetDecisionEnd (disturbed : Option (Fin 4)) (s : State) : Host.Outcome State Fault Refusal :=
  if !s.par.deciding then .next s
  else
    let first := s.par.first.toNat
    let second := match disturbed with
      | some c => c.val
      | none => strongest s.par.pol s.par.todo
    let taken := max first second
    let mismatch := first != second
    let back := s.backupOnly
    let todo := s.par.todo
    let s := { s with
      par.deciding := false
      par.todo := 0
      par.acted := s.par.acted ||| todo
      par.last := w32 (first + second * 4 + taken * 16 + b2n mismatch * 64 + b2n back * 128 + 2 ^ 31) }
    let s := if mismatch && !back then s.eventSig 1143 0x0202 first second
      (s.par.latch.toNat + b2n s.par.pendingReset * 2 ^ 16) 0 else s
    let s := (sourcesOf todo).foldl (fun (s : State) i => s.recordAlarm taken mismatch i) s
    if back then .next (s.backupResponse taken)
    else if taken = 3 then .next s.eraseResponse
    else if taken = 2 then .next s.resetResponse
    else .next s

/-- SOURCE_REARM (R525): the condition has been clear for its period; a source that had acted is re-armed. -/
def execSourceRearm (src : Fin 13) (s : State) : Host.Outcome State Fault Refusal :=
  let s := { s with par.cond := s.par.cond &&& ~~~(srcBit src) }
  if s.par.acted.getLsbD src then
    let s := { s with par.acted := s.par.acted &&& ~~~(srcBit src) }
    .next (if s.backupOnly then s else s.eventSig 1143 0x0205 src 0 0 0)
  else .next s

/-! ## The policy (R515, R516, R519) -/

/-- POLICY_OPEN (R515, R534): the MSS opens the 1 ms window once it has verified a ticket of a tamper policy change. -/
def execPolicyOpen (s : State) : Host.Outcome State Fault Refusal :=
  if s.mss.mayPolicy.isSome then .next { s with par.policyOpen := true } else .next s

/-- The classes that a policy may not hold: a fixed source other than ERASE, a source of 8 to 12 OFF (R515). -/
def policyBad (v : Word) : Bool :=
  (List.range 3).any (fun i => bitsOf v.toNat (2 * i + 1) (2 * i) != 3) ||
    (List.range 5).any (fun i => bitsOf v.toNat (2 * (8 + i) + 1) (2 * (8 + i)) == 0)

/-- PAR_POLICY as the MSS reads it: ANC_PAR_POLICY (R515, R536). -/
def State.parPolicy (s : State) : Word := ((s.ancGet 0x0B).setWidth 26).setWidth 32

/-- A write of PAR_POLICY (R515, R618): refused outside the window or for a bad class; otherwise one anchor write, which takes
effect when it is persistent. The flag says that it was issued. -/
def State.policyWrite (v : Word) (s : State) : State × Bool :=
  if !s.par.policyOpen then ({ s with par.err := s.par.err ||| 1 }, false)
  else if policyBad v then ({ s with par.err := s.par.err ||| 2 }, false)
  else s.ancWrite 0x0B [(v.setWidth 26).setWidth 64] (.policy s.parPolicy)

/-- PAR_POLICY_WRITE (R515, R618). -/
def execParPolicyWrite (value : Word) (s : State) : Host.Outcome State Fault Refusal := .next (s.policyWrite value).1

/-- A policy write is persistent: the backup copy follows and event 0x0204 is recorded (R515, R516). -/
def State.policyPersist (old : Word) (s : State) : State :=
  ({ s with par.policyBk := (s.ancGet 0x0B).setWidth 26 }).eventSig 1143 0x0204 old.toNat s.parPolicy.toNat 0 0

/-- POLICY_WINDOW_CLOSE (R515): 1 ms after it opened. -/
def execPolicyWindowClose (s : State) : Host.Outcome State Fault Refusal :=
  .next { s with par.policyOpen := false, mss.mayPolicy := none }

/-! ## ALARM_OUT# and the boot hold (R526, R527) -/

/-- ALARM_CLR (R527). -/
def execAlarmClr (s : State) : Host.Outcome State Fault Refusal :=
  if s.ks.tamper then .next s else .next { s with par.alarmOut := false }

/-- A RESET-class condition that has been acted on still holds (R526). -/
def State.holdCond (s : State) : Bool :=
  (sourcesOf (s.par.cond &&& s.par.acted)).any (fun i => classOf s.par.policyBk i == 2)

/-- BOOT_HOLD_RELEASE (R526): the condition has been clear for 100 ms and the boot resumes. -/
def execBootHoldRelease (s : State) : Host.Outcome State Fault Refusal :=
  if s.par.held && !s.holdCond then .next { s with par.held := false } else .next s

end Sys2Proof.Machine
end

