-- ==== Sys2Proof/Machine/Images.lean ====
section
/-! DEFINITION. Images, their verdicts, configuration items and their merge, and compatibility (16 R601 to R612, 18 R667). -/

namespace Sys2Proof.Machine

/-! ## Banks and slots (R600, R601, R604) -/

/-- A place of bytes that images are read from: a bank of the flash, or a bank image that the host holds. -/
abbrev ImgSrc := Nat → Nat → Bytes

/-- The flash bank `b`, addressed from its start. -/
def State.bankSrc (s : State) (b : Bool) : ImgSrc := fun off n => s.flashRead ((if b then 0x1000000 else 0) + off) n

/-- A slot of R601: KIND and, for an overlay, its code. -/
structure ImgSlot where
  kind : Nat
  code : Nat
deriving DecidableEq, Repr

/-- Offset and size of a slot in its bank (R601). -/
def ImgSlot.place (x : ImgSlot) : Nat × Nat :=
  match x.kind with
  | 1 => (0x10000, 0x800000)
  | 2 => (0x810000, 0x100000)
  | 3 => (0x910000, 0x100000)
  | 4 => (0xA10000, 0x200000)
  | _ => (0xC10000 + 0x10000 * x.code, 0x10000)

/-- The place of a slot in the order of R601, from 0. -/
def ImgSlot.index (x : ImgSlot) : Nat := if x.kind ≤ 4 then x.kind - 1 else 4 + x.code

/-- The 256-byte header of an image (R604). -/
def imgHdr (src : ImgSrc) (x : ImgSlot) : Bytes := src x.place.1 256
/-- VERSION. -/
def hdrVersion (h : Bytes) : Nat := fld h 8 4
/-- The magic that begins a header. -/
def imgMagic : Bytes := [0x47, 0x58, 0x49, 0x4D]
/-- The payload; a slot that holds no header has none. -/
def imgPayload (src : ImgSrc) (x : ImgSlot) : Bytes :=
  src (x.place.1 + 256) (if sub (imgHdr src x) 0 4 = imgMagic then min (fld (imgHdr src x) 12 4) x.place.2 else 0)
/-- The whole image, header and payload. -/
def imgBytes (src : ImgSrc) (x : ImgSlot) : Bytes := imgHdr src x ++ imgPayload src x

/-! ## Configuration items (R609, R610) -/

/-- A configuration item. -/
structure CfgItem where
  item : Nat
  index : Nat
  del : Bool
  value : Bytes
deriving DecidableEq, Repr

/-- The item and its value lie inside the table of R609. -/
def CfgItem.ok (overlay : Bool) (x : CfgItem) : Bool :=
  let v := fld x.value 0 4
  match x.item with
  | 1 => decide (x.index ≤ 4095) && x.value.length == 32
  | 2 => x.index == 0 && x.value.length == 4
  | 3 => x.index == 0 && x.value.length == 4 && (x.del || decide (v < 8))
  | 4 => x.index == 0 && x.value.length == 4 && (x.del || (decide (20 ≤ v) && decide (v ≤ 60)))
  | 0x100 => x.index == 0 && x.value.length == 4 && v == 1 && !overlay
  | _ => false

/-- The items of a configuration image's payload; `none` where its form is broken. The first argument bounds their number. -/
def parseItems (overlay : Bool) : Nat → Bytes → Option (List CfgItem)
  | _, [] => some []
  | 0, _ => none
  | n + 1, b =>
    let len := fld b 4 2
    let pad := (8 - len % 8) % 8
    let x : CfgItem := ⟨fld b 0 2, fld b 2 2, (fld b 6 2) % 2 == 1, sub b 8 len⟩
    if b.length < 8 + len + pad ∨ len < 4 ∨ 1024 < len ∨ len % 4 ≠ 0 ∨ 1 < fld b 6 2 ∨ (x.del ∧ !overlay) ∨ !x.ok overlay ∨
        !zeroIn b (8 + len) pad then none
    else (parseItems overlay n (b.drop (8 + len + pad))).map (fun l => x :: l)

/-- ITEM and INDEX as one key. -/
def CfgItem.key (x : CfgItem) : Nat := x.item * 65536 + x.index

/-- Strictly rising order of ITEM and then INDEX (R609). -/
def itemsRise : List CfgItem → Bool
  | x :: y :: l => decide (x.key < y.key) && itemsRise (y :: l)
  | _ => true

/-- The items of a configuration image, when it keeps the rules of R609. -/
def imgItems (src : ImgSrc) (x : ImgSlot) : Option (List CfgItem) :=
  (parseItems (x.kind == 5) 8192 (imgPayload src x)).bind (fun l => if itemsRise l then some l else none)

/-- The merge of the base with an overlay (R610); `none` where the overlay deletes an item that the base lacks (R609). -/
def mergeItems (base ovl : List CfgItem) : Option (List CfgItem) :=
  if ovl.any (fun x => x.del && !base.any (fun y => y.key == x.key)) then none
  else some (base.filter (fun y => !ovl.any (fun x => x.key == y.key)) ++ ovl.filter (fun x => !x.del))

/-- The merged configuration of a bank under an overlay. -/
def mergedOf (src : ImgSrc) (code : Nat) : List CfgItem :=
  (((imgItems src ⟨4, 0⟩).bind (fun b => (imgItems src ⟨5, code⟩).bind (mergeItems b)))).getD []

/-- The value of a one-word item of a merged configuration. -/
def itemWord (l : List CfgItem) (item : Nat) : Option Nat := (l.find? (fun x => x.item == item)).map (fun x => fld x.value 0 4)

/-! ## Verdicts (R604, R612, R667) -/

/-- The verdict on an image: it passes; bits [1] minimum, [2] signature, [3] digest of event 0x0102; its VERSION. -/
structure ImgVerdict where
  ok : Bool
  flags : Nat
  version : Nat
deriving DecidableEq, Repr

/-- Header, slot and, for a configuration image, its items (R604, R609). -/
def imgForm (src : ImgSrc) (x : ImgSlot) : Bool :=
  let h := imgHdr src x
  sub h 0 4 == imgMagic && fld h 4 1 == 1 && fld h 5 1 == x.kind && fld h 6 1 == (if x.kind = 5 then x.code else 0) &&
    decide (fld h 7 1 ≤ 1) && decide (256 + fld h 12 4 ≤ x.place.2) && zeroIn h (16 + 8 * x.kind) 8 && zeroIn h 120 8 &&
    zeroIn h 224 32 &&
    (if x.kind = 4 then (imgItems src x).isSome
     else if x.kind = 5 then ((imgItems src x).bind (fun o => (imgItems src ⟨4, 0⟩).bind (fun b => mergeItems b o))).isSome
     else true)

/-- The verdict on an image, under the minimum version of its kind. -/
def imgVerdict (src : ImgSrc) (minver : Nat → Nat) (x : ImgSlot) : ImgVerdict :=
  let h := imgHdr src x
  let v := hdrVersion h
  if !imgForm src x then ⟨false, 0, v⟩
  else
    let low := decide (v < minver x.kind)
    let sig := verifyB384 (Config.imageKey (fld h 7 1)) (sha384B (sub h 0 128)) (sub h 128 96)
    let dig := sha384B (imgPayload src x) == sub h 64 48
    ⟨!low && sig && dig, 2 * b2n low + 4 * b2n (!sig) + 8 * b2n (!dig), v⟩

/-- ANC_MINVER of a kind (R612). -/
def State.minver (s : State) (kind : Nat) : Nat := (s.ancGet (1 + kind)).toNat % 2 ^ 32

/-! ## Compatibility (R605, R611) -/

/-- The first pair of a set of images, by kind and header, whose declared range leaves out the version found: declaring kind,
declared kind, version. -/
def firstBadH (set : List (Nat × Bytes)) : Option (Nat × Nat × Nat) :=
  let found := (0, 0x0B) :: set.map (fun x => (x.1, hdrVersion x.2))
  (set.flatMap (fun x => (found.filter (fun f => f.1 != x.1)).map (fun f => (x, f)))).findSome? (fun p =>
    let lo := fld p.1.2 (16 + 8 * p.2.1) 4
    let hi := fld p.1.2 (20 + 8 * p.2.1) 4
    if lo ≤ p.2.2 ∧ p.2.2 ≤ hi then none else some (p.1.1, p.2.1, p.2.2))

/-- The first incompatible pair of a set of one bank. -/
def firstBad (src : ImgSrc) (set : List ImgSlot) : Option (Nat × Nat × Nat) := firstBadH (set.map (fun x => (x.kind, imgHdr src x)))

/-- The overlay loads pier firmware and microcode (R607). -/
def loadsFw (src : ImgSrc) (code : Nat) : Bool :=
  code == 0 || (code == 3 && ((itemWord (mergedOf src 3) 3).getD 0) % 2 == 1)

/-- The images in use under an overlay (R611). -/
def imgSet (src : ImgSrc) (code : Nat) : List ImgSlot :=
  let fw : List ImgSlot := if loadsFw src code then [⟨2, 0⟩, ⟨3, 0⟩] else []
  (⟨1, 0⟩ : ImgSlot) :: fw ++ [⟨4, 0⟩, ⟨5, code⟩]

/-- The eight images of a bank image (R601). -/
def imgAll : List ImgSlot := [⟨1, 0⟩, ⟨2, 0⟩, ⟨3, 0⟩, ⟨4, 0⟩, ⟨5, 0⟩, ⟨5, 1⟩, ⟨5, 2⟩, ⟨5, 3⟩]

/-- Every image of a bank image verifies and its production set is compatible (precondition 3 of R621). -/
def bankImageOk (src : ImgSrc) (minver : Nat → Nat) : Bool :=
  imgAll.all (fun x => (imgVerdict src minver x).ok) && (firstBad src (imgSet src 0)).isNone

/-! ## Verdicts at boot (R667, R668, R671) -/

/-- The verdict on an image of bank `b` at boot: a disturbed pair fails it; a failure is recorded (R667). -/
def State.bootVerdict (b : Bool) (flips : BitVec 16) (x : ImgSlot) (s : State) : Bool × State :=
  let v := imgVerdict (s.bankSrc b) s.minver x
  let flip := flips.getLsbD (8 * b2n b + x.index)
  if v.ok && !flip then (true, s)
  else (false, s.event 0xFFFF 0x0102 x.kind (b2n b) (v.flags + b2n flip) v.version)

/-- The verdicts on a list of images. -/
def State.bootVerdicts (b : Bool) (flips : BitVec 16) : List ImgSlot → State → Bool × State
  | [], s => (true, s)
  | x :: l, s =>
    let (ok, s) := s.bootVerdict b flips x
    let (ok', s) := s.bootVerdicts b flips l
    (ok && ok', s)

/-- The MSS firmware, base and recovery overlay of a bank pass and are compatible (R668). -/
def State.recoverySet (b : Bool) (flips : BitVec 16) (s : State) : Bool × State :=
  let (ok, s) := s.bootVerdicts b flips [⟨1, 0⟩, ⟨4, 0⟩, ⟨5, 2⟩]
  (ok && (firstBad (s.bankSrc b) (imgSet (s.bankSrc b) 2)).isNone, s)

/-- The set of a bank under an overlay is verified and its compatibility decided (R611, R667): the overlay that runs, if the bank
can run. -/
def State.tryBank (b : Bool) (flips : BitVec 16) (code : Nat) (s : State) : Option Nat × State :=
  let src := s.bankSrc b
  let (ok, s) := s.bootVerdicts b flips (imgSet src code)
  if !ok then (none, s)
  else
    match firstBad src (imgSet src code) with
    | none => (some code, s)
    | some (k, j, v) =>
      let (mOk, s) := if code = 1 then (false, s) else s.bootVerdict b flips ⟨5, 1⟩
      if mOk && (firstBad src (imgSet src 1)).isNone then (some 1, s.event 0xFFFF 0x0A04 k j v 2)
      else (none, s.event 0xFFFF 0x0A04 k j v 3)

end Sys2Proof.Machine
end

