-- ==== Sys2Proof/Machine/Tickets.lean ====
section
/-! DEFINITION. Quorum tickets and the checks of an ACTION request (15 R573 to R581), the sideband and the service port (15 R563
to R566), nonces, the watchdog and the clear-component ceremony (15 R561, R576, R589 to R591). -/

namespace Sys2Proof.Machine

/-! ## Sideband (R563, R564) -/

/-- The SMBus target is powered: in RUN, DROWSE and DORMANT (R563, R653). -/
def State.smbUp (s : State) : Bool := !s.backupOnly

/-- A block read is answered. -/
def State.smbRead (b : Bytes) (s : State) : Host.Outcome State Fault Refusal := if s.smbUp then .next (s.emit (.smb b)) else .next s

/-- STATUS: HIU_ID_STATE.STATE, DP_UP, ALARM_OUT# and uncommissioned. -/
def State.smbStatusBytes (s : State) : Bytes :=
  natLe 4 (s.hiu.idState.toNat + 8 * b2n s.hiu.dpUp + 16 * b2n s.par.alarmOut + 32 * b2n (!s.ks.checkOk))

/-- HOLDUP: the store's charge in mJ. -/
def State.smbHoldupBytes (s : State) : Bytes := natLe 2 (s.pwr.charge / 1000)

/-- SMB_STATUS (R563). -/
def execSmbStatus (s : State) : Host.Outcome State Fault Refusal := s.smbRead s.smbStatusBytes
/-- SMB_TEMP (R563): the measured value is the world's. -/
def execSmbTemp (tenths : BitVec 16) (s : State) : Host.Outcome State Fault Refusal := s.smbRead (natLe 2 tenths.toNat)
/-- SMB_V12 (R563). -/
def execSmbV12 (mV : BitVec 16) (s : State) : Host.Outcome State Fault Refusal := s.smbRead (natLe 2 mV.toNat)
/-- SMB_I12 (R563). -/
def execSmbI12 (mA : BitVec 16) (s : State) : Host.Outcome State Fault Refusal := s.smbRead (natLe 2 mA.toNat)
/-- SMB_POWER (R563). -/
def execSmbPower (tenths : BitVec 16) (s : State) : Host.Outcome State Fault Refusal := s.smbRead (natLe 2 tenths.toNat)
/-- SMB_HOLDUP (R563). -/
def execSmbHoldup (s : State) : Host.Outcome State Fault Refusal := s.smbRead s.smbHoldupBytes
/-- SMB_SERIAL (R563). -/
def execSmbSerial (s : State) : Host.Outcome State Fault Refusal := s.smbRead (natLe 8 s.hiu.serial.toNat)
/-- SMB_VERSIONS (R563). -/
def execSmbVersions (s : State) : Host.Outcome State Fault Refusal :=
  s.smbRead (natLe 4 s.hiu.verMss.toNat ++ natLe 4 s.hiu.verPier.toNat ++ natLe 4 s.hiu.verPks.toNat ++ natLe 4 s.hiu.verCfg.toNat)
/-- SMB_ALERT_CAUSE (R563): the read clears the byte. -/
def execSmbAlertCause (s : State) : Host.Outcome State Fault Refusal :=
  if s.smbUp then .next { s.emit (.smb [s.mss.alert.setWidth 8]) with mss.alert := 0 } else .next s
/-- SMBUS_ALERT_RESPONSE (R564): while SMB_ALERT# is asserted, the target answers with its address 0x3A. -/
def execSmbusAlertResponse (s : State) : Host.Outcome State Fault Refusal :=
  if s.mss.alert = 0 then .next s else s.smbRead [0x74]

/-- SENSORS (R568): commands 0x01 to 0x06 of R563, 14 bytes. -/
def execSensors (path : Path) (tag : Word) (temp v12 i12 power : BitVec 16) (s : State) : Host.Outcome State Fault Refusal :=
  if !s.reqTaken path then .next s
  else
    let s1 := s.takeReq path 6 tag
    match path with
    | .vf _ => .next (s1.reply path 6 tag 0x1001 [])
    | _ =>
      if s.boot.romHalt then .next (s1.reply path 6 tag 0x1001 [])
      else .next (s1.reply path 6 tag 0 (s.smbStatusBytes ++ natLe 2 temp.toNat ++ natLe 2 v12.toNat ++ natLe 2 i12.toNat ++
        natLe 2 power.toNat ++ s.smbHoldupBytes))

/-! ## Service port (R565) -/

/-- The service port receives: enabled by item 0x0003, or by the boot ROM in a halt, with the MSS running (R565, R609, R671). -/
def State.servicePort (s : State) : Bool := s.mssUp && (s.boot.enItem.getLsbD 2 || s.boot.romHalt)

/-- SERVICE_FRAME (R565): a fragment is stored; the message with all its fragments goes to the MSS. -/
def execServiceFrame (src : BitVec 48) (msgId : Word) (index count : Nat) (payload : Bytes) (s : State) :
    Host.Outcome State Fault Refusal :=
  if !s.servicePort || decide (count = 0) || decide (45 < count) || decide (count ≤ index) || payload.isEmpty ||
      decide (1492 < payload.length) then .next s
  else
    let mine := fun (f : Frag) => f.src == src && f.msgId == msgId
    let f := (s.mss.frags.find? mine).getD ⟨src, msgId, count, s.now, []⟩
    if f.count ≠ count ∨ f.got.any (fun x => x.1 == index) then .next s
    else
      let f := { f with got := f.got ++ [(index, payload)] }
      let rest := s.mss.frags.filter (fun g => !mine g)
      if f.got.length = count then
        let whole := (List.range count).flatMap (fun i => ((f.got.find? (fun x => x.1 == i)).map Prod.snd).getD [])
        .next { s with mss.frags := rest, mss.inbox := s.mss.inbox ++ [(src, msgId, whole)] }
      else .next { s with mss.frags := rest ++ [f] }

/-- FRAGMENT_TIMEOUT (R565): 1 s after its first fragment an incomplete message is discarded. -/
def execFragmentTimeout (msgId : Word) (s : State) : Host.Outcome State Fault Refusal :=
  match s.mss.frags.find? (fun f => f.msgId == msgId) with
  | none => .next s
  | some f => .next ({ s with mss.frags := s.mss.frags.filter (fun g => g.msgId != msgId) }.advance (f.at_ + 1000000))

/-! ## Nonces and the watchdog (R561, R576, R674) -/

/-- NONCE_LAPSE (R576): 300 s after its issue the oldest nonce lapses. -/
def execNonceLapse (s : State) : Host.Outcome State Fault Refusal :=
  match s.mss.nonces with
  | [] => .next s
  | x :: l => .next ({ s with mss.nonces := l }.advance (x.2 + 300000000))

/-- MSS_WATCHDOG_EXPIRY (R561, R639, R674): not while the core is halted in WAIT. -/
def execMssWatchdogExpiry (s : State) : Host.Outcome State Fault Refusal :=
  if s.pwr.halted || s.boot.warm || s.boot.booting || s.boot.romHalt then .next s
  else .next ((s.event 0xFFFF 0x0108 0 0 0 0).warmRestart 1)

/-- WARM_RESTART_END (R674): the verified image runs; one that fails verification leads to a module reset. -/
def execWarmRestartEnd (imageOk : Bool) (s : State) : Host.Outcome State Fault Refusal :=
  if !s.boot.warm then .next s
  else if imageOk then
    .next ({ s with boot.warm := false }.event 0xFFFF 0x0106 (s.boot.cause.toNat - 5) ((s.now - s.boot.warmStart) / 1000) 0 0)
  else .next (s.requestReset 1)

/-- EVR_CLEAR (R554, R557): GO acts for the MSS holding the verified ticket of a recorder clear. -/
def execEvrClear (s : State) : Host.Outcome State Fault Refusal :=
  match s.mss.mayClearEvr with
  | some (sg, t) => .next (s.evrClear sg t)
  | none => .next s

/-! ## Tickets (R573, R576 to R580) -/

/-- An officer table, by entry: PERMIT and KEY of a VALID entry. -/
abbrev OffTab := Nat → Option (Nat × Bytes)

/-- The officer table of the anchors (R572). -/
def State.offTab (s : State) : OffTab := fun i =>
  if i < 32 ∧ s.offValid i then some ((s.offFlags i).toNat % 65536, s.offKey i) else none

/-- TICKET_ID. -/
def ticketId (t : Bytes) : Nat := fld t 8 8
/-- The signature records. -/
def ticketSigs (t : Bytes) : List Bytes := (List.range (min 32 (fld t 128 4))).map (fun i => sub t (132 + 100 * i) 100)
/-- The signer bitmap. -/
def ticketSigners (t : Bytes) : Nat :=
  (List.range 32).foldl (fun n i => if (ticketSigs t).any (fun r => fld r 0 1 == i) then n + 2 ^ i else n) 0

/-- No entry is named twice. -/
def distinctOff : List Nat → Bool
  | [] => true
  | x :: l => !l.contains x && distinctOff l

/-- Check 3 of R579: form, action, serial, nonce and digest. -/
def State.ticketForm (s : State) (act : Nat) (body t : Bytes) : Bool :=
  let n := fld t 128 4
  sub t 0 4 == [0x47, 0x58, 0x51, 0x54] && fld t 4 1 == 1 && zeroIn t 6 2 && zeroIn t 60 4 && zeroIn t 112 16 &&
    decide (1 ≤ n) && decide (n ≤ 32) && t.length == 132 + 100 * n && decide (1 ≤ fld t 56 4) && decide (fld t 56 4 ≤ 300) &&
    (ticketSigs t).all (fun r => zeroIn r 1 3) && fld t 5 1 == act && fld t 16 8 == s.hiu.serial.toNat &&
    s.mss.nonces.any (fun x => x.1 == sub t 24 32) && sub t 64 48 == sha384B body

/-- Check 4: distinct officers who may sign the action, every signature valid, at least M of them. -/
def ticketOfficers (tab : OffTab) (m act : Nat) (t : Bytes) : Bool :=
  let rs := ticketSigs t
  let dig := sha384B (sub t 0 128)
  distinctOff (rs.map (fun r => fld r 0 1)) && decide (m ≤ rs.length) && rs.all (fun r => match tab (fld r 0 1) with
    | some (p, k) => p.testBit act && verifyB384 k dig (sub r 4 96)
    | none => false)

/-- Check 5: the window, from the nonce's issue. -/
def State.ticketWindow (s : State) (t : Bytes) : Bool :=
  s.mss.nonces.any (fun x => x.1 == sub t 24 32 && decide (s.now < x.2 + 1000000 * fld t 56 4))

/-- The verdict of checks 3 to 5: the failing check, or 0. -/
def State.ticketVerdict (s : State) (tab : OffTab) (m act : Nat) (body t : Bytes) : Nat :=
  if !s.ticketForm act body t then 3
  else if !ticketOfficers tab m act t then 4
  else if !s.ticketWindow t then 5
  else 0

/-! ## The checks of an ACTION request (R575, R579 to R581, R671, R672) -/

/-- How the execution of an accepted action ends. -/
inductive ActRes where
  /-- At once, with a reply body. -/
  | done (body : Bytes) (s : State)
  /-- With a release that will reply at its commit. -/
  | begun (s : State)
  /-- Refused with a status. -/
  | refuse (status : Nat) (s : State)
  /-- The request waits for random data or for the recorder. -/
  | stall

/-- An action: its code, the status of its layout (check 1), the table and M its ticket is judged by, its preconditions and its
execution. -/
structure Action where
  code : Nat
  layout : Nat
  tab : OffTab
  m : Nat
  pre : State → Nat
  run : State → ActRes

/-- The path number of events 0x0301 and 0x0302. -/
def pathNo (p : Path) : Nat := match p with | .pf => 0 | _ => 1

/-- An uncommissioned module serves only these actions (R672). -/
def freeAction (code : Nat) : Bool := code == 1 || code == 0x0B || code == 0x0C

/-- An action with the scope of the cluster (R575). -/
def clusterAction (code : Nat) : Bool := code == 3 || code == 4 || code == 5 || code == 6 || code == 0x0D

/-- The general preconditions of check 6: commissioned, and a cluster action only at the abutment that holds the term. -/
def State.actionPre (s : State) (code : Nat) : Nat :=
  if !s.ks.checkOk && !freeAction code then 0x3001
  else if clusterAction code && s.enrolled && !(s.role == 1 && s.trs.deciding) then 0x3001
  else 0

/-- The act record of a release: code, TICKET_ID, signers, tenant. -/
def actOf (code : Nat) (ticket : Bytes) (t : Nat) : Nat × BitVec 64 × Word × Nat :=
  (code, BitVec.ofNat 64 (ticketId ticket), w32 (ticketSigners ticket), t)

/-- The reply record of a release. -/
def repOf (r : ActionReq) (body : Bytes) : Path × Word × Nat × Bytes := (r.path, r.tag, 2, body)

/-- The nonce that a ticket names lapses (R576). -/
def State.useNonce (t : Bytes) (s : State) : State := { s with mss.nonces := s.mss.nonces.filter (fun x => x.1 != sub t 24 32) }

/-- The action's ticket is accepted and the action executes: checks 6 and 7 (R579, R581). -/
def State.actAccepted (r : ActionReq) (a : Action) (t : Nat) (s0 s : State) : State :=
  let id := ticketId r.ticket % 2 ^ 32
  let sg := ticketSigners r.ticket
  let s := s.event 0xFFFF 0x0301 a.code id sg (pathNo r.path)
  let st := if s.actionPre a.code ≠ 0 then s.actionPre a.code else a.pre s
  if st ≠ 0 then s.reply r.path 2 r.tag st []
  else
    match a.run s with
    | .done b s => (s.event 0xFFFF 0x0303 a.code id sg t).reply r.path 2 r.tag 0 b
    | .begun s => s
    | .refuse st s => s.reply r.path 2 r.tag st []
    | .stall => s0

/-- An ACTION request: the checks of R579 in their order. `t` is the tenant of event 0x0303. A service port or PF request only;
in a ROM halt only FIRMWARE_ACTIVATE in MODE 0 or 1 (R671). -/
def State.action (r : ActionReq) (a : Action) (t : Nat) (s : State) : State :=
  if !s.reqTaken r.path then s
  else
    let s1 := s.takeReq r.path 2 r.tag
    let vf : Bool := match r.path with
      | .vf _ => true
      | _ => false
    if vf || (s.boot.romHalt && (a.code != 0x0B || fld r.body 0 1 == 2)) then s1.reply r.path 2 r.tag 0x1001 []
    else if a.layout ≠ 0 then s1.reply r.path 2 r.tag a.layout []
    else if r.ticket = [] then s1.reply r.path 2 r.tag 0x3002 []
    else
      let v := s.ticketVerdict a.tab a.m a.code r.body r.ticket
      let s2 := s1.useNonce r.ticket
      let id := ticketId r.ticket % 2 ^ 32
      if r.flip then
        let (b, s3) := s2.draw 1
        let s3 := s3.event 0xFFFF 0x0309 a.code id 0 0
        let s3 := s3.event 0xFFFF 0x0302 a.code id (if v = 0 then fld b 0 1 else v) (pathNo r.path)
        s3.reply r.path 2 r.tag 0x3003 []
      else if v ≠ 0 then (s2.event 0xFFFF 0x0302 a.code id v (pathNo r.path)).reply r.path 2 r.tag 0x3003 []
      else s2.actAccepted r a t s

/-- A release of an action begins with these writes, or is refused. -/
def State.actRelease (r : ActionReq) (code t : Nat) (ws : List AncW) (body : Bytes) (e : MssEff) (s : State) : ActRes :=
  match s.mssBegin ws (some (repOf r body)) (some (actOf code r.ticket t)) e with
  | (0, s) => .begun s
  | (st, s) => .refuse st s

/-- The draw of an action's execution. -/
def State.actDraw (n : Nat) (f : Bytes → State → ActRes) (s : State) : ActRes :=
  match s.mssDraw n with
  | .ok b s => f b s
  | .stall => .stall
  | .fail s => .refuse 0x4101 s

/-! ## Clear-component ceremonies (R589 to R591) -/

/-- The open ceremony ends: event 0x0305 with its outcome, its components cleared. -/
def State.endCeremony (c : Ceremony) (how : Nat) (s : State) : State :=
  { s with mss.cerem := none }.event 0xFFFF 0x0305 c.id how c.got.length 0

/-- CEREMONY_WINDOW_END (R591). -/
def execCeremonyWindowEnd (s : State) : Host.Outcome State Fault Refusal :=
  match s.mss.cerem with
  | none => .next s
  | some c => .next ((s.advance c.windowEnd).endCeremony c 2)

/-- Bind the parent of a ceremony's key, reading its directory chain from the blobs given, each in turn (R276, R591). -/
def State.bindParent (s : State) (r : KRef) (t : Nat) : Nat → List (Nat × Bytes) → Bool → Option (List Bytes) → BRes
  | 0, _, _, _ => .fail stIntegrity s
  | n + 1, got, t2, blobs =>
    match bindRef ⟨t, got, t2, []⟩ r s with
    | .need (some a) s =>
      match blobs with
      | none => .fail 0x1005 s
      | some [] => .fail 0x1005 s
      | some (b :: l) => s.bindParent r t n (got ++ [(a, b)]) t2 (some l)
    | .need none s => s.bindParent r t n got true blobs
    | x => x

/-- The key of a completed ceremony is checked and sealed (R591): a status with the blob. -/
def State.sealCeremony (c : Ceremony) (parentBlob : Option Bytes) (s : State) : Nat × Bytes × State :=
  let len := ((algShape c.alg).map Prod.fst).getD 0
  let mat := c.got.foldl (fun m x => xorB m (x.2.2.take len)) (zeros len)
  let r : KRef := ⟨c.parentIdx, c.parentId, c.parentIdx == 0 && c.parentId == 0, .use, 0, [], [0x84], false⟩
  if kcvSym c.alg mat ≠ c.kcv then (0x2007, [], s)
  else if s.keyWord c.tenant c.keyId ≠ 0 then (0x2006, [], s)
  else if s.quarantinedFor c.tenant then (0x6001, [], s)
  else
    match s.bindParent r c.tenant 8 [] false (parentBlob.map (blocks 160)) with
    | .ok (k :: _) s =>
      match tblGet none s.keys.t1 k with
      | some (p : Slot) =>
        if !parentOk s k then (stKeyUsage, [], s)
        else
          let h : HdrNew := ⟨c.alg, c.usage, c.kflags, c.tenant, c.keyId, 0, hEpoch p.hdr, c.parentId, c.parentIdx, c.kcv⟩
          let (b, s) := s.sealParts h p.mat 0 [mat]
          (0, b, s)
      | none => (stIntegrity, [], s)
    | .fail st s => (st, [], s)
    | _ => (stIntegrity, [], s)

/-- The status of a part: 0 when it is accepted (R590). -/
def State.partVerdict (s : State) (c : Ceremony) (b : Bytes) : Nat :=
  let part := fld b 4 1
  let off := fld b 43 1
  let len := ((algShape c.alg).map Prod.fst).getD 0
  if !zeroIn b 5 3 || !zeroIn b (8 + len) (32 - len) then 0x1003
  else if decide (c.parts ≤ part) || c.got.any (fun x => x.1 == part) then 0x3001
  else
    match s.offTab off with
    | none => 0x3003
    | some (p, k) =>
      if !p.testBit 7 || c.got.any (fun x => x.2.1 == off) || !verifyB384 k (sha384B (sub b 0 44 ++ c.nonce)) (sub b 44 96) then 0x3003
      else if kcvSym c.alg (sub b 8 len) ≠ sub b 40 3 then 0x2007
      else 0

/-- CC_PART (R566, R590, R591): on the service port; a failure abandons the ceremony. -/
def execCcPart (tag : Word) (body : Bytes) (parentBlob : Option Bytes) (s : State) : Host.Outcome State Fault Refusal :=
  if !s.reqTaken .service then .next s
  else
    let s := s.takeReq .service 5 tag
    let ans := fun (st : Nat) (b : Bytes) (s : State) => (.next (s.reply .service 5 tag st b) : Host.Outcome State Fault Refusal)
    if s.boot.romHalt then ans 0x1001 [] s
    else if body.length ≠ 140 then ans 0x1002 [] s
    else
      match s.mss.cerem with
      | none => ans 0x3001 [] s
      | some c =>
        if fld body 0 4 ≠ c.id then ans 0x3001 [] s
        else if c.windowEnd ≤ s.now then ans 0x3003 [] (s.endCeremony c 2)
        else
          match s.partVerdict c body with
          | 0 =>
            let c := { c with got := c.got ++ [(fld body 4 1, fld body 43 1, sub body 8 32)] }
            if c.got.length < c.parts then ans 0 [] { s with mss.cerem := some c }
            else
              match s.sealCeremony c parentBlob with
              | (0, b, s) => ans 0 b (s.endCeremony c 1)
              | (st, _, s) => ans st [] (s.endCeremony c 2)
          | st => ans st [] (s.endCeremony c 2)

end Sys2Proof.Machine
end

