-- ==== Sys2Proof/Machine/Actions.lean ====
section
/-! DEFINITION. The officer actions (15 R582 to R594, 16 R620 to R625, 10 R421, R426, R442). -/

namespace Sys2Proof.Machine

/-! ## Officer tables (R572, R574, R582) -/

/-- A record of a COMMISSION or OFFICER_TABLE body. -/
structure OffRec where
  index : Nat
  op : Nat
  permit : Nat
  key : Bytes
deriving DecidableEq, Repr

/-- OFFICER_CNT of a body. -/
def offCount (b : Bytes) : Nat := fld b 0 2
/-- The officer records of a body (R582). -/
def offRecs (b : Bytes) : List OffRec :=
  (List.range (offCount b)).map (fun i => let r := sub b (18 + 112 * i) 112
    ⟨fld r 0 1, fld r 1 1, fld r 2 2, sub r 8 97⟩)
/-- M of an action in a body: byte 1 + a for actions 1 to 15. -/
def bodyM (b : Bytes) (a : Nat) : Nat := fld b (1 + a) 1
/-- The two words of ANC_QUORUM_M that a body gives. -/
def quorumWords (b : Bytes) : List DWord := [w64 (256 * fld b 2 7), w64 (fld b 9 8)]

/-- The layout of a body with an officer table (R572, R573, R582). -/
def offLayout (commission : Bool) (b : Bytes) : Nat :=
  let n := offCount b
  let rs := offRecs b
  let rec_ok := fun (i : Nat) => zeroIn b (18 + 112 * i + 4) 4 && zeroIn b (18 + 112 * i + 105) 7
  if b.length < 18 ∨ b.length ≠ 18 + 112 * n then 0x1002
  else if 32 < n ∨ fld b 17 1 ≠ 0 ∨ (commission ∧ n = 1) ∨
      !rs.all (fun r => decide (r.index ≤ 31) && (r.op == 1 || (!commission && r.op == 2))) ∨
      !distinctOff (rs.map (fun r => r.index)) ∨ !(List.range n).all rec_ok ∨
      ((!commission || n != 0) && !(List.range 13).all (fun a => decide (2 ≤ bodyM b (a + 1)) && decide (bodyM b (a + 1) ≤ 32))) then
    0x1003
  else 0

/-- A table with the records of a body applied. -/
def withRecs (tab : OffTab) (rs : List OffRec) : OffTab := fun i =>
  match rs.find? (fun r => r.index == i) with
  | some r => if r.op = 1 then some (r.permit, r.key) else none
  | none => tab i

/-- Every action keeps at least M officers who may sign it (R574). -/
def tableSafe (tab : OffTab) (m : Nat → Nat) : Bool :=
  (List.range 13).all (fun a => decide (m (a + 1) ≤ ((List.range 32).filter (fun i => match tab i with
    | some (p, _) => p.testBit (a + 1)
    | none => false)).length))

/-- The anchor words of the records of a body. -/
def recWords (rs : List OffRec) : List AncW :=
  rs.flatMap (fun r => officerWords r.index (BitVec.ofNat 16 (if r.op = 1 then r.permit else 0)) (r.op == 1)
    (if r.op = 1 then r.key else []))

/-- The changes of entries for event 0x0304. -/
def recEvents (rs : List OffRec) : List (Nat × Nat × Nat) := rs.map (fun r => (r.index, r.op, if r.op = 1 then r.permit else 0))

/-- No officer entry is VALID. -/
def State.noOfficers (s : State) : Bool := !(List.range 32).any s.offValid

/-! ## COMMISSION and DECOMMISSION (R582 to R584) -/

/-- The execution of COMMISSION (R583): a release that is refused leaves the Keystone as it was. -/
def State.commissionRun (r : ActionReq) (s : State) : ActRes :=
  let rs := offRecs r.body
  let solo := !s.enrolled
  s.actDraw (if solo then 64 else 32) (fun b s =>
    let ep := s.crkEpoch + b2n solo
    let (crk, s') := (s.loadDrk (sub b 0 32)).crkWords ep (sub b 32 32)
    let tab : List AncW := if rs = [] then [] else recWords rs ++ [(0x10, quorumWords r.body)]
    let ws := tab ++ (if solo then [(0x1E0, crk)] else []) ++ [(0x0C, [w64 ep])]
    match s'.mssVerdict ws with
    | 0 => { s' with mss.mayGenerate := true }.actRelease r 1 0xFFFF ws [] (.commission (recEvents rs))
    | st => .refuse st { s'.mssRefuse st ws with ks := s.ks })

/-- A cluster removal of this module is pending (R582). -/
def State.removing (s : State) : Bool := s.mss.rels.any (fun x => x.eff == .removed)

/-- COMMISSION (R582, R583). -/
def execCommission (r : ActionReq) (s : State) : Host.Outcome State Fault Refusal :=
  let own := s.noOfficers && offCount r.body != 0
  .next (s.action r {
    code := 1
    layout := offLayout true r.body
    tab := if own then withRecs (fun _ => none) (offRecs r.body) else s.offTab
    m := if own then bodyM r.body 1 else s.quorumM 1
    pre := fun s =>
      if s.ks.loaded || s.removing || s.noOfficers != (offCount r.body != 0) then 0x3001
      else if own && !tableSafe (withRecs (fun _ => none) (offRecs r.body)) (bodyM r.body) then 0x3001
      else 0
    run := State.commissionRun r } 0xFFFF)

/-- The anchor writes of DECOMMISSION (R584, R713). -/
def State.decommissionWrites (s : State) : List AncW :=
  let tn := ((List.range 1025).filter (fun t => (List.range 3).any (fun i => s.ancGet (0x1100 + 3 * t + i) != 0))).map
    (fun t => ((0x1100 + 3 * t, [0, 0, 0]) : AncW))
  let keys := ((List.range 32).filter (fun i => (List.range 13).any (fun j => s.ancGet (0x40 + 13 * i + j) != 0))).map
    (fun i => ((0x40 + 13 * i, List.replicate 13 0) : AncW))
  let z20 := List.replicate 20 (0 : DWord)
  tn ++ [(0x1E0, z20), (0x1F4, z20)] ++ keys ++ [(0x20, List.replicate 32 0), (0x10, [0, 0])]

/-- DECOMMISSION (R584). -/
def execDecommission (r : ActionReq) (s : State) : Host.Outcome State Fault Refusal :=
  .next (s.action r {
    code := 2
    layout := if r.body = [] then 0 else 0x1002
    tab := s.offTab
    m := s.quorumM 2
    pre := fun s => if s.enrolled then 0x3001 else 0
    run := fun s => { s with mss.mayClear := true }.actRelease r 2 0xFFFF s.decommissionWrites [] .decommission } 0xFFFF)

/-! ## Cluster-wide actions by replicated records (R427, R588) -/

/-- Records originated one after the other, the last one with the reply and the act (R427, R588). -/
def State.originateAll (r : ActionReq) (code t : Nat) (body : Bytes) : List (ReplRec × List AncW) → State → State
  | [], s => s
  | [x], s => (s.originate x.1 x.2 (some (repOf r body)) (some (actOf code r.ticket t))).2
  | x :: l, s => ((s.originate x.1 x.2 none none).2).originateAll r code t body l

/-- Begin the releases of replicated records, all of them or none. -/
def State.actOriginate (r : ActionReq) (code t : Nat) (body : Bytes) (l : List (ReplRec × List AncW)) (s : State) : ActRes :=
  let ws := l.flatMap (fun x => x.2 ++ [((0x0F, [0]) : AncW)])
  match s.mssVerdict ws with
  | 0 => .begun (s.originateAll r code t body l)
  | st => .refuse st (s.mssRefuse st ws)

/-- OFFICER_TABLE (R572 to R575; log 31): the body of R582 with records of OP 1 or 2. -/
def execOfficerTable (r : ActionReq) (s : State) : Host.Outcome State Fault Refusal :=
  let rs := offRecs r.body
  .next (s.action r {
    code := 3
    layout := offLayout false r.body
    tab := s.offTab
    m := s.quorumM 3
    pre := fun s => if tableSafe (withRecs s.offTab rs) (bodyM r.body) then 0 else 0x3001
    run := fun s =>
      if s.enrolled then
        let q := quorumWords r.body
        s.actOriginate r 3 0xFFFF [] (rs.map (fun x => (ReplRec.officer ⟨x.index % 32, Nat.mod_lt _ (by decide)⟩
            (BitVec.ofNat 16 (if x.op = 1 then x.permit else 0)) (x.op == 1) (if x.op = 1 then x.key else []), recWords [x])) ++
          [(ReplRec.quorum (q.getD 0 0) (q.getD 1 0), [(0x10, q)])])
      else s.actRelease r 3 0xFFFF (recWords rs ++ [(0x10, quorumWords r.body)]) [] (.officers (recEvents rs)) } 0xFFFF)

/-! ## Tenants (R585 to R588) -/

/-- The layout of a TENANT_CREATE or TENANT_CONFIG body (R585). -/
def tenantLayout (create : Bool) (b : Bytes) : Nat :=
  if b.length ≠ 24 then 0x1002
  else if fld b 0 2 = 0 ∨ 1024 < fld b 0 2 ∨ fld b 3 1 ≠ 0 ∨ (if create then 0 else 1) < fld b 2 1 ∨ fld b 4 4 = 0 ∨
      131072 < fld b 4 4 then 0x1003
  else 0

/-- The sum of the KET shares of every tenant but one. -/
def State.otherShares (s : State) (t : Nat) : Nat :=
  ((List.range 1025).filter (fun i => i != t)).foldl (fun n i => n + s.ketShare i) 0

/-- A tenant number as a function number. -/
def fnOf (t : Nat) : Fn := ⟨t % 1025, Nat.mod_lt _ (by decide)⟩

/-- TENANT_CREATE (R585, R588): the reply is the TDK blob. -/
def execTenantCreate (r : ActionReq) (s : State) : Host.Outcome State Fault Refusal :=
  let b := r.body
  let t := fld b 0 2
  let share := fld b 4 4
  let pol := w64 (fld b 8 8)
  let dec := w64 (fld b 16 8)
  .next (s.action r {
    code := 4
    layout := tenantLayout true b
    tab := s.offTab
    m := s.quorumM 4
    pre := fun s => if (s.tnOf t).state != 0 || decide (131072 < s.otherShares t + share) then 0x3001 else 0
    run := fun s => s.actDraw 32 (fun tdk s =>
      match s.crkFor s.crkEpoch with
      | none => .refuse stIntegrity s
      | some (crk, s) =>
        let ep := s.tdkEpoch t + 1
        let (blob, s) := s.sealParts (tdkHdr t ep s.crkEpoch tdk) crk 0 [tdk]
        let rec_ := ReplRec.tenantCreate (fnOf t) share pol dec (BitVec.ofNat 32 ep)
        let ws : List AncW := [(0x0C00 + t, [w64 ep]), tnCfgWords t 1 share pol dec]
        if s.enrolled then s.actOriginate r 4 t blob [(rec_, ws)]
        else s.actRelease r 4 t ws blob (.tenantSet t 1)) } t)

/-- TENANT_CONFIG (R586, R588). -/
def execTenantConfig (r : ActionReq) (s : State) : Host.Outcome State Fault Refusal :=
  let b := r.body
  let t := fld b 0 2
  let share := fld b 4 4
  let pol := w64 (fld b 8 8)
  let dec := w64 (fld b 16 8)
  let su := fld b 2 1 == 1
  .next (s.action r {
    code := 5
    layout := tenantLayout false b
    tab := s.offTab
    m := s.quorumM 5
    pre := fun s =>
      if (s.tnOf t).state == 0 || decide (share < s.ketUsed t) || decide (131072 < s.otherShares t + share) then 0x3001 else 0
    run := fun s =>
      let st : Nat := if su then 2 else 1
      let ws : List AncW := [tnCfgWords t st share pol dec]
      if s.enrolled then s.actOriginate r 5 t [] [(ReplRec.tenantConfig (fnOf t) su share pol dec, ws)]
      else s.actRelease r 5 t ws [] (.tenantSet t (BitVec.ofNat 2 st)) } t)

/-- TENANT_REMOVE (R587, R588): the VOID record, ANC_TN_KEY_SEQ with its SEQ, the tenant's configuration words as zero. -/
def execTenantRemove (r : ActionReq) (s : State) : Host.Outcome State Fault Refusal :=
  let t := fld r.body 0 2
  .next (s.action r {
    code := 6
    layout := if r.body.length ≠ 2 then 0x1002 else if t = 0 ∨ 1024 < t then 0x1003 else 0
    tab := s.offTab
    m := s.quorumM 6
    pre := fun _ => 0
    run := fun s =>
      let rec_ := ReplRec.tenantRemove (fnOf t)
      let seq := (s.ancLatest 0x0F).toNat + 1
      let ws := s.replWords rec_ ++ (if s.enrolled then [((0x0F, [w64 seq]) : AncW)] else [])
      let eff : MssEff := if s.enrolled then .repl seq rec_ else .tenantGone t
      match s.mssBeginJ 1 t (fun s => s.jVoid t 0 (tblGet 0 s.keys.seqs t)) ws (some (repOf r [])) (some (actOf 6 r.ticket t)) eff with
      | (0, s) => .begun s
      | (st, s) => .refuse st s } t)

/-! ## Ceremonies, backup, policy and recorder (R589, R592, R594) -/

/-- CC_IMPORT (R589). -/
def execCcImport (r : ActionReq) (s : State) : Host.Outcome State Fault Refusal :=
  let b := r.body
  let t := fld b 0 2
  .next (s.action r {
    code := 7
    layout :=
      if b.length ≠ 36 then 0x1002
      else if 1024 < t ∨ fld b 2 1 < 0x80 ∨ 0x84 < fld b 2 1 ∨ 9 < fld b 3 1 ∨ (fld b 4 1 ≠ 2 ∧ fld b 4 1 ≠ 3) ∨ 1 < fld b 5 1 ∨
          !zeroIn b 6 2 ∨ fld b 35 1 ≠ 0 then 0x1003
      else 0
    tab := s.offTab
    m := s.quorumM 7
    pre := fun s => if (s.tnOf t).state != 1 || s.mss.cerem.isSome then 0x3001 else 0
    run := fun s' =>
      let id := (s'.mss.ceremId + 1) % 2 ^ 32
      let issue := ((s.mss.nonces.find? (fun x => x.1 == sub r.ticket 24 32)).map Prod.snd).getD s.now
      let c : Ceremony := ⟨id, t, fld b 2 1, fld b 3 1, fld b 4 1, fld b 5 1, fld b 8 8, fld b 16 4, fld b 24 8, sub b 32 3, [],
        sub r.ticket 24 32, issue + 1000000 * fld r.ticket 56 4⟩
      .done (natLe 4 id) ({ s' with mss.cerem := some c, mss.ceremId := id }.event 0xFFFF 0x0305 id 0 0 0) } t)

/-- DRK_BACKUP (R592): the CRK sealed for one recipient. -/
def execDrkBackup (r : ActionReq) (s : State) : Host.Outcome State Fault Refusal :=
  let pub := sub r.body 0 97
  .next (s.action r {
    code := 8
    layout := if r.body.length ≠ 100 then 0x1002 else if !zeroIn r.body 97 3 then 0x1003 else 0
    tab := s.offTab
    m := s.quorumM 8
    pre := fun _ => if ecB384.ckBound pub ≠ 0 then ecB384.ckBound pub else ecB384.ckCurve pub
    run := fun s => s.actDraw (scalarDraw + 12) (fun rnd s =>
      match s.loadCrk with
      | none => .refuse stIntegrity s
      | some s =>
        let crk := ((tblGet none s.keys.t1 0).map (fun (x : Slot) => x.mat)).getD []
        let (priv, eph) := ephemeral (rnd.take scalarDraw)
        let info := [0x47, 0x58, 0x44, 0x42] ++ natLe 8 s.hiu.serial.toNat ++ sub r.ticket 8 8
        let key := kdf .sha384 (ecdhSecret priv pub) info 32
        let head := [0x47, 0x58, 0x44, 0x42, 1, 0, 0, 0] ++ natLe 8 s.hiu.serial.toNat ++ natLe 4 s.crkEpoch ++ sub r.ticket 8 8 ++
          eph ++ zeros 3
        let iv := rnd.drop scalarDraw
        let (ct, tg) := gcmSeal key iv head crk
        .done (head ++ iv ++ ct ++ tg) (s.event 0xFFFF 0x0306 s.crkEpoch (ticketId r.ticket % 2 ^ 32) 0 0)) } 0xFFFF)

/-- TAMPER_POLICY (R515, R594): the MSS opens the window and writes PAR_POLICY within it. -/
def execTamperPolicy (r : ActionReq) (s : State) : Host.Outcome State Fault Refusal :=
  let v := w32 (fld r.body 0 4)
  .next (s.action r {
    code := 9
    layout := if r.body.length ≠ 4 then 0x1002 else 0
    tab := s.offTab
    m := s.quorumM 9
    pre := fun _ => 0
    run := fun s =>
      let st := s.mssVerdict [(0x0B, [0])]
      let s := { s with mss.mayPolicy := some v, par.policyOpen := true }
      match s.policyWrite v with
      | (s, true) => .begun (s.newRel (some (repOf r [])) (some (actOf 9 r.ticket 0xFFFF)) .policy)
      | (s, false) => .refuse (if policyBad v then 0x3001 else st) s } 0xFFFF)

/-- RECORDER_CLEAR (R554, R594). -/
def execRecorderClear (r : ActionReq) (s : State) : Host.Outcome State Fault Refusal :=
  .next (s.action r {
    code := 0x0A
    layout := if r.body = [] then 0 else 0x1002
    tab := s.offTab
    m := s.quorumM 0x0A
    pre := fun _ => 0
    run := fun s =>
      let sg := w32 (ticketSigners r.ticket)
      let id := w32 (ticketId r.ticket)
      let st := s.mssVerdict [(9, [0])]
      if s.evr.clearing || decide (s.evr.ceiling ≤ s.evr.head) then .stall
      else
        let s := { s with mss.mayClearEvr := some (sg, id) }.evrClear sg id
        if s.evr.clearing then .begun (s.newRel (some (repOf r [])) (some (actOf 0x0A r.ticket 0xFFFF)) .recorder)
        else .refuse st s } 0xFFFF)

/-! ## Firmware and overlays (16 R620 to R625) -/

/-- The layout of a FIRMWARE_ACTIVATE body (R620). -/
def fwLayout (b : Bytes) : Nat :=
  let mode := fld b 0 1
  if b.length ≠ 88 then 0x1002
  else if 2 < mode ∨ 1 < fld b 1 1 ∨ !zeroIn b 2 2 ∨ !zeroIn b 84 4 ∨
      (if mode = 0 then fld b 4 4 < 0xC50000 ∨ 0x1000000 < fld b 4 4 else !zeroIn b 4 12) ∨ (mode = 2 ∧ !zeroIn b 16 48) ∨
      (mode ≠ 2 ∧ !zeroIn b 64 20) then 0x1003
  else 0

/-- The new minimum of a kind in the body. -/
def fwMin (b : Bytes) (kind : Nat) : Nat := fld b (60 + 4 * kind) 4

/-- The running version of a kind (R621). -/
def State.runningVer (s : State) (kind : Nat) : Nat :=
  match kind with
  | 1 => s.hiu.verMss.toNat
  | 2 => s.hiu.verPier.toNat
  | 3 => s.hiu.verPks.toNat
  | 4 => s.hiu.verCfg.toNat
  | _ => hdrVersion (imgHdr (s.bankSrc s.boot.runBank) ⟨5, s.hiu.overlay.toNat⟩)

/-- The new bank image as a source of images: the host's bytes, or the inactive bank. -/
def State.newBank (s : State) (image : Bytes) (mode : Nat) : ImgSrc :=
  if mode = 0 then fun off n => sub image off n else s.bankSrc (!s.activeBank)

/-- The failing precondition of R621, with its status; (0, 0) when all hold. -/
def State.fwPre (s : State) (r : ActionReq) (image : HostRead) : Nat × Nat :=
  let b := r.body
  let mode := fld b 0 1
  let len := fld b 4 4
  let img : Bytes := match image with
    | .data x => x
    | .error _ => []
  let two : Nat :=
    if mode = 0 then
      if !s.winOk 0 (fld b 8 8) len then 0x3001
      else match image with
        | .error _ => 0x1005
        | .data x => if x.length = len ∧ sha384B x = sub b 16 48 then 0 else 0x3001
    else if mode = 1 then
      let src := s.bankSrc (!s.activeBank)
      let n := fld (src 8 4) 0 4
      if n ≤ 0x1000000 ∧ sha384B (src 0 n) = sub b 16 48 then 0 else 0x3001
    else 0
  let isPf := match r.path with | .pf => true | _ => false
  if mode = 0 ∧ !isPf then (1, 0x3001)
  else if two ≠ 0 then (2, two)
  else if mode ≠ 2 ∧ !bankImageOk (s.newBank img mode) s.minver then (3, 0x3001)
  else if mode = 2 ∧ !(List.range 5).all (fun k => decide (s.minver (k + 1) ≤ fwMin b (k + 1)) &&
      decide (fwMin b (k + 1) ≤ s.runningVer (k + 1))) then (4, 0x3001)
  else (0, 0)

/-- The inactive bank is erased, programmed with the image and read back (R622). -/
def State.programBank (image : Bytes) (s : State) : State :=
  let a := if s.activeBank then 0 else 0x1000000
  let sectors := (image.length + 65535) / 65536
  { s with
    cfg.flash := setBytes 0xFF (clearBytes s.cfg.flash a (65536 * sectors)) a image
    cfg.cntErase := s.cfg.cntErase + w64 sectors
    cfg.digest := BitVec.ofNat 384 (leNat (sha384B image)) }.event 0xFFFF 0x0A01 (b2n (!s.activeBank)) (fld (sha384B image) 0 4)
      image.length 0

/-- FIRMWARE_ACTIVATE (R620 to R622). -/
def State.firmware (r : ActionReq) (image : HostRead) (s : State) : State :=
  let b := r.body
  let mode := fld b 0 1
  let reset := fld b 1 1 == 1 || s.boot.romHalt
  s.action r {
    code := 0x0B
    layout := fwLayout b
    tab := s.offTab
    m := s.quorumM 0x0B
    pre := fun _ => 0
    run := fun s =>
      match s.fwPre r image with
      | (0, _) =>
        if mode = 2 then
          s.actRelease r 0x0B 0xFFFF [(2, (List.range 5).map (fun k => w64 (fwMin b (k + 1))))] [] .minver
        else
          let img : Bytes := match image with
            | .data x => x
            | .error _ => []
          let src := s.newBank img mode
          let mssV := hdrVersion (imgHdr src ⟨1, 0⟩)
          let pierV := hdrVersion (imgHdr src ⟨2, 0⟩)
          let inactive := !s.activeBank
          let s := if mode = 0 then s.programBank img else s
          s.actRelease r 0x0B 0xFFFF [(0, [w64 (b2n inactive + 2)])] [] (.bank inactive (w32 mssV) (w32 pierV) reset)
      | (n, st) => .refuse st (s.event 0xFFFF 0x0A03 mode n 0 0) } 0xFFFF

/-- FIRMWARE_ACTIVATE in MODE 0; a body of another defined MODE is another command. -/
def execFirmwareStageActivate (r : ActionReq) (image : HostRead) (s : State) : Host.Outcome State Fault Refusal :=
  if fld r.body 0 1 = 1 ∨ fld r.body 0 1 = 2 then .next s else .next (s.firmware r image)

/-- FIRMWARE_ACTIVATE in MODE 1. -/
def execFirmwareActivateInactive (r : ActionReq) (s : State) : Host.Outcome State Fault Refusal :=
  if fld r.body 0 1 = 0 ∨ fld r.body 0 1 = 2 then .next s else .next (s.firmware r (.data []))

/-- FIRMWARE_ACTIVATE in MODE 2. -/
def execFirmwareRaiseMinimums (r : ActionReq) (s : State) : Host.Outcome State Fault Refusal :=
  if fld r.body 0 1 ≤ 1 then .next s else .next (s.firmware r (.data []))

/-- OVERLAY_SELECT (R625). -/
def execOverlaySelect (r : ActionReq) (s : State) : Host.Outcome State Fault Refusal :=
  let code := fld r.body 0 1
  .next (s.action r {
    code := 0x0C
    layout := if r.body.length ≠ 4 then 0x1002
      else if code = 2 ∨ 3 < code ∨ 1 < fld r.body 1 1 ∨ !zeroIn r.body 2 2 then 0x1003 else 0
    tab := s.offTab
    m := s.quorumM 0x0C
    pre := fun s =>
      let run := s.bankSrc s.boot.runBank
      let set : List (Nat × Bytes) := [(1, imgHdr run ⟨1, 0⟩), (4, imgHdr run ⟨4, 0⟩), (5, imgHdr (s.bankSrc s.activeBank) ⟨5, code⟩)]
      if (firstBadH set).isNone then 0 else 0x3001
    run := fun s => s.actRelease r 0x0C 0xFFFF [(1, [w64 code])] []
      (.overlay ((s.ancGet 1).toNat % 4) code (fld r.body 1 1 == 1)) } 0xFFFF)

/-! ## CLUSTER_ENROL (R594) -/

/-- The layout of a CLUSTER_ENROL body of a KIND: the fields that the kind does not use are 0. -/
def enrolLayout (b : Bytes) : Nat :=
  if b.length ≠ 20 then 0x1002
  else
    let bad : Bool := match fld b 0 1 with
      | 0 => fld b 1 1 == 0 || decide (3 < fld b 1 1) || decide (1 < fld b 2 1) || !zeroIn b 3 1 || !zeroIn b 16 4
      | 1 => !zeroIn b 1 11 || !zeroIn b 14 6
      | 2 => !zeroIn b 1 19
      | 3 => !zeroIn b 1 15 || (fld b 16 2 == 0 && fld b 18 2 == 0) ||
          (fld b 16 2 != 0 && (decide (fld b 16 2 < 100) || decide (2000 < fld b 16 2)))
      | _ => true
    if bad then 0x1003 else 0

/-- The numbers of a joiner are those of its role and parent (R407, R408). -/
def joinNumbers (role member parent : Nat) (standby : Bool) : Bool :=
  match role with
  | 2 => decide (2 ≤ member) && decide (member ≤ 128) && parent == 1
  | 3 => decide (129 ≤ member) && decide (member ≤ 16384) && parent == pylonOf member && !standby
  | _ => false

/-- A member of the abutment's records. -/
def State.memberOf (s : State) (m : Nat) : Option Member := tblGet none s.trs.members m

/-- The body founds the cluster: role abutment for this module itself (R421). -/
def founding (s : State) (b : Bytes) : Bool := fld b 1 1 == 1 && fld b 4 8 == s.hiu.serial.toNat

/-- A CLUSTER_ENROL action of one KIND. -/
def State.enrolAction (r : ActionReq) (kind : Nat) (pre : State → Nat) (run : State → ActRes) (s : State) :
    Host.Outcome State Fault Refusal :=
  if fld r.body 0 1 ≠ kind ∧ fld r.body 0 1 ≤ 3 then .next s
  else .next (s.action r
    { code := 0x0D, layout := enrolLayout r.body, tab := s.offTab, m := s.quorumM 0x0D, pre := pre, run := run } 0xFFFF)

/-- CLUSTER_ENROL of KIND 0 (R421, R422): the cluster is founded, or a joiner is awaited. -/
def execClusterEnrolJoin (r : ActionReq) (s : State) : Host.Outcome State Fault Refusal :=
  let b := r.body
  let role := fld b 1 1
  let member := fld b 12 2
  let parent := fld b 14 2
  let sb := fld b 2 1 == 1
  s.enrolAction r 0
    (fun s =>
      if founding s b then (if s.enrolled || member != 1 || parent != 0 || sb then 0x3001 else 0)
      else if !s.enrolled || !joinNumbers role member (if parent = s.member then 1 else parent) sb || (s.memberOf member).isSome ||
          s.trs.enrol.isSome || (parent != s.member && (s.memberOf parent).isNone) then 0x3001
      else 0)
    (fun s =>
      if founding s b then
        s.actRelease r 0x0D 0xFFFF [(0x0D, [memberWord 1 1 0 false]), (0x0E, [1])] [] .founded
      else .done [] { s with trs.enrol := some ⟨w64 (fld b 4 8), member, role, parent, sb, false, [], [], [], []⟩ })

/-- CLUSTER_ENROL of KIND 1 (R426): REMOVE goes down the tree and the record follows. -/
def execClusterRemove (r : ActionReq) (s : State) : Host.Outcome State Fault Refusal :=
  let m := fld r.body 12 2
  s.enrolAction r 1
    (fun s => if !s.enrolled || (s.memberOf m).isNone || m == s.member then 0x3001 else 0)
    (fun s =>
      match s.mssVerdict [(0x0F, [0])] with
      | 0 =>
        let s := s.send (s.hopTo m) 0xFFFF (.remove m)
        let s := ((s.trs.props.filter (fun x => x.p.origin == m)).map (fun x => x.p.pid)).foldl
          (fun (s : State) p => s.endReservation p) s
        s.actOriginate r 0x0D 0xFFFF [] [(ReplRec.memberRemove m, [])]
      | st => .refuse st (s.mssRefuse st [(0x0F, [0])]))

/-- CLUSTER_ENROL of KIND 2 (R442): the first round of a CRK change. -/
def execCrkChange (r : ActionReq) (s : State) : Host.Outcome State Fault Refusal :=
  s.enrolAction r 2
    (fun s => if !s.enrolled || s.trs.crk.isSome then 0x3001 else 0)
    (fun s => s.actDraw 32 (fun b s =>
      let ep := BitVec.ofNat 32 (s.crkEpoch + 1)
      let crk := BitVec.ofNat 256 (beNat b)
      .done [] (({ s with trs.crk := some (ep, crk, []) }).sendDown 0xFFFF (.crkPrepare ep crk))))

/-- CLUSTER_ENROL of KIND 3 (R427, R594): CL_TIMEOUT, the standby designation, or both; 0 leaves one as it is. -/
def execClusterParameters (r : ActionReq) (s : State) : Host.Outcome State Fault Refusal :=
  let ms := fld r.body 16 2
  let sb := fld r.body 18 2
  s.enrolAction r 3
    (fun s => if !s.enrolled || (sb != 0 && ((s.memberOf sb).map (fun x => x.role != 2)).getD true) then 0x3001 else 0)
    (fun s => s.actOriginate r 0x0D 0xFFFF []
      ((if ms = 0 then [] else [(ReplRec.clTimeout ms, [])]) ++
        (if sb = 0 then [] else [(ReplRec.standby sb, ([] : List AncW))])))

end Sys2Proof.Machine
end

