-- ==== Sys2Proof/Machine/Anchors.lean ====
section
/-! DEFINITION. The completion of anchor writes with what each owner does at its commit point (16 R614, R615, 06 R265, 15 R562),
and the ageing of quarantine counts (04 R176, 07 R325, 08 R359, 09 R389). -/

namespace Sys2Proof.Machine

/-- The release that a persistent key sequence write covers applies its intents (R161, R265). -/
def State.commitOwner (o : Owner) (s : State) : State :=
  match o with
  | .deck d => s.applyRel d
  | .mss id => { s with pwr.heldUp := s.pwr.heldUp + b2n s.pwr.quiesce }.mssCommit id

/-- A tenant's coalesced key sequence write is persistent: every release up to it commits, in SEQ order (R265). -/
def State.keySeqPersist (t seq : Nat) (s : State) : State :=
  let l := covered t seq s.keys.taken
  let s := { s with keys.taken := s.keys.taken.filter (fun x => !(x.tenant == t && decide (x.seq ≤ seq))) }
  l.foldl (fun (s : State) (x : Taken) => s.commitOwner x.owner) s

/-- The commit of the MSS release that carries an effect: a policy write or a recorder clear asked for by an action. -/
def State.commitRels (eff : MssEff) (s : State) : State :=
  (s.mss.rels.filter (fun (r : MssRel) => r.eff == eff)).foldl (fun (s : State) (r : MssRel) => s.mssCommit r.id) s

/-- What an owner does once its anchor write is persistent. -/
def State.afterAnchor (e : Eff) (s : State) : State :=
  match e with
  | .none | .ceiling => s
  | .evrClear => ({ s.evrCleared with mss.mayClearEvr := none }).commitRels .recorder
  | .policy old => (s.policyPersist old).commitRels .policy
  | .keySeq t seq => s.keySeqPersist t seq
  | .mss id => s.commitOwner (.mss id)

/-- The effect is an intent of a release: a key change, or an effect of the MSS. -/
def Eff.ofRelease : Eff → Bool
  | .keySeq _ _ | .mss _ => true
  | _ => false

/-- The oldest issued write is persistent and its cost leaves O (R614, R615, R650). Under an ERASE no intent of any release is
applied any more (R521). -/
def State.anchorDone (s : State) : State :=
  match s.anc.queue with
  | [] => s
  | a :: rest =>
    let s := s.ancPersist a rest
    if s.par.response == 3 && a.eff.ofRelease then s else (s.afterAnchor a.eff).replDrain

/-- ANCHOR_WRITE_COMPLETE (R614, R615, R650). -/
def execAnchorWriteComplete (s : State) : Host.Outcome State Fault Refusal := .next s.anchorDone

/-- QUARANTINE_COUNT_AGE_OUT: a quarantine 24 h old leaves its unit's count. -/
def execQuarantineCountAgeOut (u : QUnit) (s : State) : Host.Outcome State Fault Refusal :=
  match u with
  | .pier p => .next { s with dsp.quar := tblMod 0 p (· - 1) s.dsp.quar }
  | .engine e => .next (s.modEng e (fun x => { x with quar := x.quar - 1 }))
  | .pks e => .next (s.modEng (48 + e) (fun x => { x with quar := x.quar - 1 }))
  | .source n => .next { s with rng.src := tblMod {} n (fun (x : Src) => { x with quar := x.quar - 1 }) s.rng.src }

end Sys2Proof.Machine
end

