-- ==== Sys2Proof/Machine/Views.lean ====
section
/-! DEFINITION. What the registers read: the register tables of every block, by the offset in its window of the control space (01
R35) and by the offset in PF BAR0 and VF BAR0 (02 R49, R50). A write-only register reads zero (R12), a reserved range reads zero
(R11, R49, R50). RNG_DATA and RNG_RAW, whose reads act, are commands of their own (Rng.lean). -/

namespace Sys2Proof.Machine

/-- A register: its offset, its size in 32-bit words, and the value it reads. -/
abbrev RegRow := Nat × Nat × Nat

/-- The 32-bit word that a register table holds at an offset. -/
def rowsWord (l : List RegRow) (off : Nat) : Option Nat :=
  (l.find? (fun x => decide (x.1 ≤ off) && decide (off < x.1 + 4 * x.2.1))).map (fun x => x.2.2 / 2 ^ (8 * (off - x.1)) % 2 ^ 32)

/-- A number from its bits, bit 0 first. -/
def maskOf (p : Nat → Bool) (n : Nat) : Nat := (List.range n).foldl (fun m i => m + b2n (p i) * 2 ^ i) 0

/-- Entries of a list that a test accepts. -/
def countOf {α : Type} (p : α → Bool) (l : List α) : Nat := (l.filter p).length

/-! ## The control-space windows (R35) -/

/-- TG_STATUS (R479). -/
def State.tgStatus (s : State) : Nat :=
  let ports := countOf (fun i => s.tg.held.any (fun a => a.init.val == i)) (List.range 32)
  b2n s.tg.holding + 2 * b2n s.tg.drained + 4 * b2n s.tg.holdLong + 2 ^ 16 * ports

/-- The Tollgate (R478); rule `n` stands at 0x1_0000 + 32 × n (R482). -/
def State.tgWord (s : State) (off : Nat) : Option Nat :=
  if 0x10000 ≤ off ∧ off < 0x30000 then
    let r := tblGet {} s.tg.rules ((off - 0x10000) / 32)
    rowsWord [(0x00, 2, r.base.toNat), (0x08, 2, r.limit.toNat), (0x10, 1, r.mask.toNat), (0x14, 1, r.attr.toNat), (0x18, 2, 0)]
      (off % 32)
  else
    rowsWord [(0x00, 1, b2n s.tg.en), (0x04, 1, s.tgStatus), (0x08, 1, s.tg.err.toNat), (0x0C, 1, s.tg.badRule.toNat),
      (0x10, 1, s.tg.faultInfo.toNat), (0x18, 2, s.tg.faultAddr.toNat), (0x20, 2, s.tg.cntFault.toNat),
      (0x28, 2, s.tg.cntDefault.toNat), (0x30, 2, s.tg.cntMismatch.toNat), (0x38, 2, s.tg.cntHold.toNat)] off

/-- A pier is in service: neither quarantined nor kept out (R180). -/
def State.pierServes (s : State) (p : Nat) : Bool := s.pierOf p != .quarantined && s.pierOf p != .out

/-- The dispatcher (R180 to R182). -/
def State.dspWord (s : State) (off : Nat) : Option Nat :=
  let insvc := maskOf s.pierServes 128
  rowsWord [(0x00, 1, s.dsp.ctrl.toNat),
    (0x04, 1, s.waitingPiers + 2 ^ 8 * s.longPiers + 2 ^ 16 * countOf s.pierServes (List.range 128)),
    (0x08, 1, s.held.length % 2 ^ 16 + 2 ^ 16 * (s.dsp.flows.length % 2 ^ 16)), (0x0C, 1, s.dsp.replayList.length),
    (0x10, 4, insvc), (0x20, 4, maskOf (fun p => s.pierOf p == .quarantined) 128), (0x30, 4, maskOf (fun p => s.pierOf p == .out) 128),
    (0x40, 2, s.dsp.cntReplay.toNat), (0x48, 2, s.dsp.cntWdog.toNat), (0x50, 2, s.dsp.cntGuard.toNat)] off

/-- The Deck (R183 to R185). -/
def State.deckWord (s : State) (off : Nat) : Option Nat :=
  rowsWord [(0x00, 1, s.releasing + 2 ^ 7 * b2n (s.hiu.fence.any (fun x => x.2))), (0x08, 2, s.deck.cntRelease.toNat),
    (0x10, 2, s.deck.cntDeadline.toNat), (0x18, 2, s.deck.cntDiscard.toNat),
    (0x20, 1, countOf (fun x => x.2.st == .held) s.held), (0x24, 1, s.deck.heldLast.toNat)] off

/-- Items whose key binding waits for a blob of host memory: KC_STATUS.FILLS (R299). -/
def State.hostFills (s : State) : Nat :=
  min 255 (countOf (fun x => match x.2.phase with
    | .binding (some _) => true
    | _ => false) s.held)

/-- The key cache (R297 to R300). -/
def State.kcWord (s : State) (off : Nat) : Option Nat :=
  rowsWord [(0x00, 1, s.keys.ctrl.toNat), (0x04, 1, s.hostFills + 2 ^ 8 * b2n s.keys.flushing.isSome), (0x08, 1, s.keys.t1.length),
    (0x0C, 1, s.keys.t2.length), (0x10, 1, s.keys.ket.length), (0x14, 1, 0), (0x18, 2, s.keys.cntHit1.toNat),
    (0x20, 2, s.keys.cntHit2.toNat), (0x28, 2, s.keys.cntFill.toNat), (0x30, 2, s.keys.cntFillErr.toNat),
    (0x38, 2, s.keys.cntUsage.toNat), (0x40, 2, s.keys.cntMismatch.toNat)] off

/-- The code of a bay's state: 0 power-gated, 1 waking, 2 powered, 3 parked (R329). -/
def baySt : BaySt → Nat
  | .gated => 0
  | .waking => 1
  | .powered => 2
  | .parked => 3

/-- Two bits for each of `n` bays from bay `b` on (R329, R366). -/
def State.bayStatus (s : State) (b n : Nat) : Nat := (List.range n).foldl (fun m i => m + baySt (s.bayOf (b + i)) * 4 ^ i) 0

/-- The engines from `e` on, `n` of them, whose service state is `st`. -/
def State.engMask (s : State) (e n : Nat) (st : EngSt) : Nat := maskOf (fun i => (s.engOf (e + i)).st == st) n

/-- The cipher and hash engines (R327 to R330). -/
def State.sceWord (s : State) (off : Nat) : Option Nat :=
  rowsWord [(0x00, 1, s.eng.scePark.toNat), (0x04, 1, s.bayStatus 0 6), (0x08, 1, s.engMask 0 32 .inService),
    (0x0C, 1, s.engMask 0 32 .quarantined), (0x10, 1, s.engMask 0 32 .out), (0x14, 1, s.engMask 32 16 .inService),
    (0x18, 1, s.engMask 32 16 .quarantined), (0x1C, 1, s.engMask 32 16 .out), (0x20, 1, s.eng.sceFault.toNat),
    (0x28, 2, s.eng.sceCntReq.toNat), (0x30, 2, s.eng.hseCntReq.toNat), (0x38, 2, s.eng.sceCntFault.toNat),
    (0x40, 2, s.eng.sceCntCancel.toNat), (0x48, 2, s.eng.sceCntKbus.toNat)] off

/-- A request or a scrub executes in an engine: its head entry has taken its key-bus decision, or a scrub runs (R367). -/
def Eng.runs (x : Eng) : Bool := x.scrubbing || (x.q.head?.map (fun (y : QEnt) => y.first.isSome)).getD false

/-- PKS_ENG_STATE of an engine (R367). -/
def Eng.stateWord (x : Eng) : Nat :=
  x.owner + 2 ^ 11 * b2n x.dirty + 2 ^ 12 * b2n x.scrubPending + 2 ^ 13 * x.q.length + 2 ^ 17 * b2n x.runs

/-- The public-key engines (R366 to R370). -/
def State.pksWord (s : State) (off : Nat) : Option Nat :=
  if 0x100 ≤ off ∧ off < 0x1C0 then some ((s.engOf (48 + (off - 0x100) / 4)).stateWord)
  else
    rowsWord [(0x00, 1, s.eng.pksPark.toNat), (0x04, 1, s.bayStatus 6 6), (0x08, 2, s.engMask 48 48 .inService),
      (0x10, 2, s.engMask 48 48 .quarantined), (0x18, 2, s.engMask 48 48 .out), (0x20, 1, 0), (0x24, 1, s.eng.pksFault.toNat),
      (0x28, 1, 0),
      (0x2C, 1, b2n s.eng.ucBusy + 2 * b2n s.eng.ucLocked + 4 * b2n s.eng.ucMismatch + 8 * b2n s.eng.ucRefused),
      (0x30, 2, s.eng.ucSrc.toNat), (0x38, 2, s.eng.ucTarget.toNat), (0x40, 12, s.eng.ucDigest.toNat),
      (0x70, 2, s.eng.pksCntOp.toNat), (0x78, 2, s.eng.pksCntCheck.toNat), (0x80, 2, s.eng.pksCntScrub.toNat),
      (0x88, 2, s.eng.pksCntFault.toNat)] off

/-- A noise source. -/
def State.rngSrc (s : State) (n : Nat) : Src := tblGet {} s.rng.src n
/-- An expander is seeded. -/
def State.expSeeded (s : State) (i : Nat) : Bool := (tblGet ({} : Exp) s.rng.exp i).seeded
/-- A source's byte of RNG_SRC_STATE (R404). -/
def Src.stateByte (x : Src) : Nat := x.st.toNat + 4 * min 3 x.quar + 16 * x.last.toNat

/-- The random number generator (R401 to R406). -/
def State.rngWord (s : State) (off : Nat) : Option Nat :=
  rowsWord [(0x00, 1, s.rng.st.toNat + 2 ^ 3 * maskOf (fun n => (s.rngSrc n).st == 1) 4 +
      2 ^ 7 * countOf s.expSeeded (List.range 16) + 2 ^ 12 * b2n s.rng.condFault),
    (0x04, 1, b2n s.rng.rawEn + 2 * s.rng.rawSrc.toNat),
    (0x08, 1, (List.range 4).foldl (fun m n => m + (s.rngSrc n).stateByte * 2 ^ (8 * n)) 0),
    (0x0C, 1, 2 * b2n s.rng.katTarget + 4 * s.rng.katExp.toNat + 2 ^ 8 * b2n s.rng.katBusy.isSome + 2 ^ 9 * b2n s.rng.katPass +
      2 ^ 10 * b2n s.rng.katValid),
    (0x10, 1, maskOf s.expSeeded 16), (0x14, 1, s.rng.evt.toNat), (0x28, 2, s.rng.cntSeed.toNat), (0x30, 2, s.rng.cntHealth.toNat),
    (0x38, 2, s.rng.cntErrDraw.toNat), (0x40, 2, s.rng.cntBytes.toNat)] off

/-- The memory integrity unit (R505 to R507); the DRAM key is write-only. -/
def State.memWord (s : State) (off : Nat) : Option Nat :=
  let dies := countOf (fun i => s.mi.dieFailed.getLsbD i) (List.range 16)
  rowsWord [(0x00, 1, s.mi.ctrl.toNat),
    (0x04, 1, b2n s.mi.dramReady + 2 * b2n s.mi.zeroFilling + 4 * dies + 16 * b2n s.mi.testEn), (0x08, 1, s.mi.dieFailed.toNat),
    (0x0C, 1, s.mi.err.toNat), (0x10, 1, s.mi.errInfo.toNat), (0x18, 2, s.mi.errAddr.toNat), (0x20, 1, b2n s.mi.testEn),
    (0x24, 1, s.mi.testCheck.toNat), (0x28, 2, s.mi.testBase.toNat), (0x30, 1, s.mi.testDsym.toNat), (0x34, 1, s.mi.testSynd.toNat),
    (0x38, 2, s.mi.passSram.toNat), (0x40, 2, s.mi.passDram.toNat), (0x48, 2, s.mi.cntCeSram.toNat), (0x50, 2, s.mi.cntUeSram.toNat),
    (0x58, 2, s.mi.cntCeDram.toNat), (0x60, 2, s.mi.cntUeDram.toNat), (0x80, 16, 0)] off

/-- PAR_STATUS (R533). -/
def State.parStatus (s : State) : Nat :=
  b2n s.par.deciding + 2 * s.par.response.toNat + 8 * b2n s.par.alarmOut + 16 * b2n s.par.held + 32 * b2n s.par.policyOpen

/-- The Parapet (R532 to R538) and the Keystone (R249, R250). -/
def State.parWord (s : State) (off : Nat) : Option Nat :=
  if 0x80 ≤ off ∧ off < 0x100 then rowsWord [(0, 2, (s.blogOf ((off - 0x80) / 8)).toNat)] (off % 8)
  else
    let unread := countOf (fun n => !(s.blogOf n).getLsbD 63) (List.range 16)
    rowsWord [(0x00, 1, s.parStatus), (0x04, 1, 0), (0x08, 1, s.par.latch.toNat + 2 ^ 16 * b2n s.par.pendingReset),
      (0x0C, 1, s.par.cond.toNat), (0x10, 1, s.parPolicy.toNat), (0x14, 1, s.par.policyBk.toNat), (0x18, 2, s.tsc.toNat),
      (0x20, 2, s.now), (0x28, 1, unread + 2 ^ 8 * s.par.lost.toNat), (0x2C, 1, s.par.err.toNat), (0x30, 1, s.par.last.toNat),
      (0x34, 1, s.par.temp.toNat), (0x38, 2, s.par.cntAlarm.toNat),
      (0x8000, 1, b2n s.ks.loaded + 2 * b2n s.ks.checkOk + 4 * b2n s.ks.tamper), (0x8004, 1, 0)] off

/-- Every kept slot holds a record (R558). -/
def State.keptFull (s : State) : Bool := decide (4096 ≤ (s.evr.store.filter (fun x => x.1 < 4096 && x.2.isSome)).length)

/-- EVR_OLDEST: the oldest circulating record held, or the head when there is none (R557). -/
def State.evrOldestCirc (s : State) : Nat :=
  let h := s.evr.head
  let lo := max (max (s.evr.keptBase.toNat + 4096) s.evr.circBase) (h - 61440)
  (if lo < h then lo else h) % 2 ^ 32

/-- EVR_STATUS (R558). -/
def State.evrStatus (s : State) : Nat :=
  b2n s.keptFull + 2 * b2n s.evr.clearing + 4 * b2n s.evr.clearRefused + 8 * b2n (decide (s.evr.ceiling ≤ s.evr.head)) +
    2 ^ 8 * countOf (fun x => x.2.isSome) s.evr.hist

/-- The event recorder, in the PF view or the MSS view (R557 to R559): rows marked MSS only read zero in the PF view. -/
def State.evrWord (s : State) (mss : Bool) (off : Nat) : Option Nat :=
  let page := (if mss then s.evr.pageMss else s.evr.pagePf).toNat
  if 0x80000 ≤ off ∧ off < 0x100000 then
    match tblGet none s.evr.store (16384 * page + (off - 0x80000) / 32) with
    | some r => some (fld r.bytes (off % 32) 4)
    | none => some 0
  else if 0x100 ≤ off ∧ off < 0x180 then
    some (match tblGet none s.evr.hist ((off - 0x100) / 4) with
      | some h => h.code.toNat + 2 ^ 31
      | none => 0)
  else
    let own := fun (n : Nat) => if mss then n else 0
    rowsWord [(0x00, 1, s.evrStatus), (0x04, 1, page), (0x08, 2, s.evr.head), (0x10, 1, s.evr.keptBase.toNat),
      (0x14, 1, s.evrOldestCirc), (0x18, 2, s.evr.cntDropped.toNat), (0x20, 2, s.evr.cntFallback.toNat), (0x28, 1, s.evr.evt.toNat),
      (0x2C, 1, 0), (0x30, 1, own s.evr.wrHdr.toNat), (0x34, 1, own (tblGet 0 s.evr.wrP 0).toNat),
      (0x38, 1, own (tblGet 0 s.evr.wrP 1).toNat), (0x3C, 1, own (tblGet 0 s.evr.wrP 2).toNat),
      (0x40, 1, own (tblGet 0 s.evr.wrP 3).toNat), (0x44, 1, 0)] off

/-- PWR_STATUS (R660). -/
def State.pwrStatus (s : State) : Nat :=
  s.pwr.state.toNat + 4 * b2n s.pwr.entry.isSome + 8 * b2n s.pwr.aborted + 16 * s.pwr.lastAbort.toNat + 64 * b2n s.pwr.quiesce +
    128 * b2n s.pwr.mainOk + 256 * b2n s.clk.pllA.locked + 512 * b2n s.clk.pllB.locked + 1024 * b2n (s.clk.active == .b) +
    2048 * b2n s.pwr.storeLow

/-- The power and energy unit, in the PF view or the MSS view (R659 to R662). -/
def State.pwrWord (s : State) (mss : Bool) (off : Nat) : Option Nat :=
  let own := fun (n : Nat) => if mss then n else 0
  rowsWord [(0x00, 1, own s.pwr.mode.toNat), (0x04, 1, s.pwrStatus), (0x08, 1, own s.pwr.wakeEn.toNat),
    (0x0C, 1, own s.pwr.wakePend.toNat), (0x10, 2, own s.pwr.wakeTimer.toNat), (0x18, 1, own s.pwr.pads.toNat),
    (0x20, 1, s.pwr.charge), (0x24, 1, s.pwr.outstanding), (0x28, 1, floorUJ), (0x2C, 1, s.pwr.full), (0x30, 1, s.pwr.envelope),
    (0x34, 1, s.pwr.policy.toNat), (0x38, 1, s.pwr.alloc.toNat), (0x40, 1, s.pwr.evt.toNat), (0x48, 2, s.pwr.cntAdmit.toNat),
    (0x50, 2, s.pwr.cntRefused.toNat)] off

/-- The anchor store (R629, R630). GROUP reads 1 while the write in progress is a group. -/
def State.ancWord (s : State) (off : Nat) : Option Nat :=
  if 0x10000 ≤ off ∧ off < 0x20000 then
    rowsWord [(0, 2, (s.ancGet ((off - 0x10000) / 8)).toNat)] (off % 8)
  else
    let group := (s.anc.queue.head?.map (fun (a : AncWrite) => decide (1 < a.vals.length))).getD false
    let n := s.anc.wearSel.toNat
    let wear := tblGet 0 s.anc.wear n
    let worn := tblGet false s.anc.worn n || decide (10 ^ 10 ≤ wear)
    rowsWord [(0x00, 1, b2n (!s.anc.queue.isEmpty) + 2 * b2n group + 4 * (s.anc.queue.length - 1)), (0x04, 1, s.anc.err.toNat),
      (0x08, 1, s.anc.errWord.toNat), (0x0C, 1, n), (0x10, 2, wear + 2 ^ 63 * b2n worn), (0x18, 1, 0), (0x20, 2, s.anc.cntWrite.toNat),
      (0x28, 2, s.anc.cntRefused.toNat)] off

/-- Port status of a Trestle port (R449). -/
def State.portStatus (s : State) (p : Port) : Nat :=
  let up := match p with
    | .a => s.trs.linkA
    | .b => s.trs.linkB
  let parent := if s.role = 1 then none else s.assocOf s.parentNo
  let carries := (parent.map (fun (a : Assoc) => a.port == some p)).getD false
  let failed := (parent.map (fun (a : Assoc) => a.failed p)).getD false
  let healthy := countOf (fun (x : Nat × Option Assoc) => match x.2 with
    | some a => !a.failed p
    | none => false) s.trs.assoc
  b2n up + 2 * b2n carries + 4 * b2n failed + 2 ^ 8 * healthy

/-- The cluster registers, in either view (R446 to R450). -/
def State.trsWord (s : State) (off : Nat) : Option Nat :=
  if 0x80000 ≤ off ∧ off < 0xA80A0 then
    some (fld (tblGet [] s.trs.roll ((off - 0x80000) / 160)) ((off - 0x80000) % 160) 4)
  else if 0x80 ≤ off ∧ off < 0x104 then
    some (maskOf (fun n => decide ((off - 0x80) / 4 * 32 + n ≤ 1024) && s.quarantinedFor ((off - 0x80) / 4 * 32 + n)) 32)
  else
    rowsWord [(0x00, 1, s.member + 2 ^ 16 * s.role + 2 ^ 18 * b2n s.isStandby),
      (0x04, 1, s.trs.cstate.toNat + 8 * b2n s.trs.deciding + 16 * b2n s.trs.rollReady), (0x08, 1, s.parentNo + 2 ^ 16 * s.trs.abutment),
      (0x0C, 1, s.term), (0x10, 1, s.trs.timeout.toNat), (0x14, 1, s.portStatus .a), (0x18, 1, s.portStatus .b),
      (0x1C, 1, s.trs.evt.toNat), (0x20, 1, 0), (0x28, 2, (s.ancGet 0x0F).toNat), (0x30, 2, s.trs.cntPropose.toNat),
      (0x38, 2, s.trs.cntFailover.toNat), (0x40, 2, s.trs.cntDrop.toNat)] off

/-- The configuration flash controller (R631, R632). -/
def State.cfgWord (s : State) (off : Nat) : Option Nat :=
  rowsWord [(0x00, 1, b2n s.cfg.cmd.isSome + 2 * b2n s.activeBank + 4 * b2n s.cfg.refused + 8 * b2n s.cfg.error), (0x04, 1, 0),
    (0x08, 1, s.cfg.flashAddr.toNat), (0x0C, 1, s.cfg.len.toNat), (0x10, 2, s.cfg.memAddr.toNat), (0x18, 12, s.cfg.digest.toNat),
    (0x48, 2, s.cfg.cntErase.toNat)] off

/-! ## The host's view (R49 to R57, R70 to R82, R569 to R571) -/

/-- The identity registers (R51 to R53). -/
def State.idWord (s : State) (off : Nat) : Option Nat :=
  rowsWord [(0x00, 1, 0x6400), (0x04, 1, 0x0B), (0x08, 2, s.hiu.serial.toNat), (0x10, 1, s.hiu.verMss.toNat),
    (0x14, 1, s.hiu.verPier.toNat), (0x18, 1, s.hiu.verPks.toNat), (0x1C, 1, s.hiu.verCfg.toNat), (0x20, 1, s.hiu.overlay.toNat),
    (0x24, 1, s.hiu.idState.toNat + 8 * b2n s.hiu.dpUp)] off

/-- HIU_QP_STATUS (R57): DRAINED reads 1 while no item fetched from the queue pair is unreleased. -/
def State.qpStatus (s : State) (f q : Nat) : Nat :=
  let x := s.qpOf f q
  let busy := s.held.any (fun e => e.2.fn == f && e.2.q == q)
  x.err.toNat + 8 * b2n (!busy) + 16 * b2n x.stopped

/-- A queue-pair block (R54 to R57). -/
def State.qpWord (s : State) (f q off : Nat) : Option Nat :=
  let x := s.qpOf f q
  rowsWord [(0x00, 1, x.sqTail.toNat), (0x04, 1, x.cqHead.toNat), (0x08, 1, x.sqHead.toNat), (0x0C, 1, x.cqTail.toNat),
    (0x10, 2, x.sqBase.toNat), (0x18, 2, x.cqBase.toNat), (0x20, 1, x.cfg.toNat), (0x24, 1, x.imod.toNat),
    (0x28, 1, s.qpStatus f q)] off

/-- A tenant record (R72 to R75). -/
def State.tnWord (s : State) (t off : Nat) : Option Nat :=
  let r := s.tnOf t
  rowsWord [(0x00, 1, r.state.toNat + 2 ^ 16 * r.gen.toNat), (0x04, 1, r.sched.toNat), (0x08, 1, r.inflightMax.toNat),
    (0x0C, 1, s.inflight t), (0x10, 2, r.winBase.toNat), (0x18, 2, r.winSize.toNat), (0x20, 2, r.kdirBase.toNat),
    (0x28, 1, r.kdirCount.toNat), (0x2C, 1, b2n r.suspend), (0x30, 1, r.evt.toNat), (0x34, 1, b2n r.err)] off

/-- An MSI-X table entry (R49, R50; the layout is the PCIe specification's, log 4). -/
def State.msixWord (s : State) (f v off : Nat) : Option Nat :=
  let e := tblGet ({} : Msix) s.hiu.msix (2048 * f + v)
  rowsWord [(0x00, 2, e.addr.toNat), (0x08, 1, e.data.toNat), (0x0C, 1, b2n e.masked)] off

/-- 32 bits of an MSI-X pending bit array. -/
def State.pbaWord (s : State) (f off : Nat) : Nat :=
  maskOf (fun i => (tblGet ({} : Msix) s.hiu.msix (2048 * f + 8 * off + i)).pending) 32

/-- The PF management mailbox (R569, R570). -/
def State.mbxWord (s : State) (off : Nat) : Option Nat :=
  if 0x10000 ≤ off ∧ off < 0x20000 then some (tblGet 0 s.mss.mbxReq ((off - 0x10000) / 4)).toNat
  else if 0x20000 ≤ off ∧ off < 0x30000 then some (fld s.mss.mbxReply (off - 0x20000) 4)
  else rowsWord [(0x00, 1, 0), (0x04, 1, b2n s.mss.mbxBusy + 2 * b2n s.mss.mbxDone + 4 * b2n s.mss.mbxRestarted)] off

/-- A tenant mailbox (R571). -/
def State.vfMbxWord (s : State) (f off : Nat) : Option Nat :=
  let m := tblGet ({} : VfMbx) s.mss.vf f
  if 0x10 ≤ off ∧ off < 0x80 then some (tblGet 0 m.req ((off - 0x10) / 4)).toNat
  else rowsWord [(0x00, 1, 0), (0x04, 1, b2n m.busy + 2 * b2n m.done), (0x08, 2, m.reply.toNat)] off

/-- HIU_VF_STATUS and HIU_VF_INFLIGHT (R81, R82). -/
def State.vfStatusWord (s : State) (f off : Nat) : Option Nat :=
  let r := s.tnOf f
  rowsWord [(0x00, 1, b2n (s.vfReady f) + 2 * b2n (r.state != 0) + 4 * b2n s.hiu.dpUp + 8 * b2n (r.suspend || r.state == 2) +
    2 ^ 16 * r.gen.toNat), (0x04, 1, s.inflight f + 2 ^ 16 * r.inflightMax.toNat)] off

/-- What the 32-bit word at an offset of PF BAR0 reads (R49). -/
def State.pfRead (s : State) (off : Nat) : Nat :=
  let w : Option Nat :=
    if off < 0x10000 then s.idWord off
    else if off < 0x11000 then s.qpWord 0 ((off - 0x10000) / 64) (off % 64)
    else if 0x100000 ≤ off ∧ off < 0x110040 then s.tnWord ((off - 0x100000) / 64) (off % 64)
    else if 0x200000 ≤ off ∧ off < 0x300000 then s.evrWord false (off - 0x200000)
    else if 0x300000 ≤ off ∧ off < 0x400000 then s.pwrWord false (off - 0x300000)
    else if 0x400000 ≤ off ∧ off < 0x500000 then s.trsWord (off - 0x400000)
    else if 0x500000 ≤ off ∧ off < 0x600000 then s.mbxWord (off - 0x500000)
    else if 0x800000 ≤ off ∧ off < 0x808000 then s.msixWord 0 ((off - 0x800000) / 16) (off % 16)
    else if 0x808000 ≤ off ∧ off < 0x808100 then some (s.pbaWord 0 (off - 0x808000))
    else none
  w.getD 0

/-- What the 32-bit word at an offset of VF `f`'s BAR0 reads (R50). -/
def State.vfRead (s : State) (f off : Nat) : Nat :=
  let w : Option Nat :=
    if off < 0x400 then s.qpWord f (off / 64) (off % 64)
    else if off < 0x800 then s.vfStatusWord f (off - 0x400)
    else if off < 0x880 then s.vfMbxWord f (off - 0x800)
    else if 0x8000 ≤ off ∧ off < 0x8100 then s.msixWord f ((off - 0x8000) / 16) (off % 16)
    else if 0x9000 ≤ off ∧ off < 0x9008 then some (s.pbaWord f (off - 0x9000) % 2 ^ 16)
    else none
  w.getD 0

/-! ## The internal address map (R34, R35, R361, R678) -/

/-- The word at an internal address of the control space or the local peripherals; `none` for a reserved part. -/
def State.ctlWord (s : State) (a : Nat) : Option Nat :=
  let off := a % 0x100000
  match a / 0x100000 with
  | 0x200 => s.tgWord off
  | 0x201 => s.dspWord off
  | 0x202 => s.deckWord off
  | 0x203 => s.kcWord off
  | 0x204 => s.sceWord off
  | 0x205 => s.pksWord off
  | 0x206 => s.rngWord off
  | 0x207 => s.memWord off
  | 0x208 => s.parWord off
  | 0x209 => s.evrWord true off
  | 0x20A => s.pwrWord true off
  | 0x20B => s.ancWord off
  | 0x20C => s.idWord off
  | 0x20D => s.trsWord off
  | 0x20E => s.cfgWord off
  | 0x1F0 =>
    if 0x40000 ≤ off ∧ off < 0x50000 then
      let o := off - 0x40000
      if 0x2000 ≤ o ∧ o < 0x4000 then rowsWord [(0, 2, (tblGet 0 s.eng.pkmRam ((o - 0x2000) / 8)).toNat)] (o % 8)
      else rowsWord [(0x00, 1, 0), (0x04, 1, 2 * b2n s.eng.pkmDropped + 4 * b2n s.eng.pkmEcc), (0x08, 2, s.eng.pkmCnt.toNat)] o
    else
      rowsWord [(0x50000, 1, b2n s.boot.trialSeen + 2 * b2n s.boot.runBank + 4 * b2n s.boot.otherBank),
        (0x50004, 1, s.boot.cause.toNat), (0x50008, 1, s.boot.time.toNat)] off
  | _ => none

/-- A byte range of the control space: its bytes, and whether every one of them lies in a register. -/
def State.ctlBytes (s : State) (a n : Nat) : Bytes × Bool :=
  let get := fun (i : Nat) => (s.ctlWord ((a + i) / 4 * 4)).map (fun w => byteOf (w / 2 ^ (8 * ((a + i) % 4))))
  ((List.range n).map (fun i => (get i).getD 0), (List.range n).all (fun i => (get i).isSome))

end Sys2Proof.Machine
end

