-- ==== Sys2Proof/Machine/Access.lean ====
section
/-! DEFINITION. Interconnect accesses: their decision by the Tollgate, faults and what follows them, and what a passing access does
in the memories, the control space and the host window (01 R40, R41, 02 R66, R67, 11 R452 to R477, 12 R485 to R502). -/

namespace Sys2Proof.Machine

/-! ## Answers -/

/-- The answer to an access: an error response with zero data for a read, or its data. -/
def State.accAnswer (a : Access) (error : Bool) (data : Bytes) (s : State) : State :=
  s.emit (.access a.init a.unit error (if a.kind == .write then [] else if error then zeros a.len else data))

/-- A permitted access to a hole or a reserved part (R40): event 0x0706 and an error response. -/
def State.accHole (a : Access) (s : State) : State :=
  (s.eventSig 1140 0x0706 (tgInfo a 0 0) a.addr (a.addr / 2 ^ 32 % 256 + (a.len - 1) * 256) 0).accAnswer a true []

/-! ## SRAM (R486 to R488, R501, R502) -/

/-- The access is one of the MSS inside the ECC test window (R500 to R502). -/
def State.testAcc (s : State) (a : Access) : Bool := a.init == 0 && s.inTestWindow a.addr

/-- The memory that an address of the pool or MSS SRAM lies in. -/
def sramAt (a : Nat) : SramMem := if regionOf a = .mssSram then .mssSram else .pool

/-- MEM_TEST_SYND of a read in the window (R502, R507). -/
def State.captureSynd (a : Access) (synd : Nat) (ue dram : Bool) (s : State) : State :=
  if s.testAcc a then { s with mi.testSynd := BitVec.ofNat 18 (synd + 2 ^ 16 * b2n ue + 2 ^ 17 * b2n dram) } else s

/-- An uncorrectable word met by a demand access: counted, captured, recorded, and its owner acts unless it lies in the test window
(R487, R497, R502). -/
def State.sramLost (a : Access) (syn : Nat) (s : State) : State :=
  let info := memInfo (sramCode (sramAt a.addr)) 0 false (a.kind == .write)
  let s := (({ s with mi.cntUeSram := s.mi.cntUeSram + 1 }.memCapture info a.addr).memEvent 0x0802 info a.addr syn)
  if s.testAcc a then s else s.ownerAt a.addr

/-- A correctable word met by a demand access (R487 case 2). -/
def State.sramCorrected (a : Access) (k syn : Nat) (s : State) : State :=
  let info := memInfo (sramCode (sramAt a.addr)) 0 false (a.kind == .write)
  ({ s with mi.cntCeSram := s.mi.cntCeSram + 1, mi.testBits := tblSet none k none s.mi.testBits }).memEvent 0x0801 info a.addr syn

/-- A read of SRAM (R487): a word that is not valid reads zero, and a poisoned one ends the read. -/
def State.sramRead (a : Access) (s : State) : State :=
  let ks := wordsIn a.addr a.len
  let live := ks.filter s.valid
  if live.any s.poisoned then
    let (b, s) := s.draw 1
    ((s.captureSynd a (leNat b) true false).sramLost a (leNat b)).accAnswer a true []
  else
    match a.ecc, live with
    | .correctable syn, k :: _ =>
      ((s.captureSynd a syn.toNat false false).sramCorrected a k syn.toNat).accAnswer a false (s.readMem a.addr a.len)
    | .uncorrectable syn, _ :: _ => ((s.captureSynd a syn.toNat true false).sramLost a syn.toNat).accAnswer a true []
    | _, _ => (s.captureSynd a 0 false false).accAnswer a false (s.readMem a.addr a.len)

/-- The access covers the whole SRAM word that holds address `x`. -/
def fullWord (a : Access) (x : Nat) : Bool := decide (a.addr ≤ x / 8 * 8) && decide (x / 8 * 8 + 8 ≤ a.addr + a.len)

/-- Write the bytes of an access whose words are not among the bad ones. -/
def putBytes (bad : List Nat) : Nat → Bytes → State → State
  | _, [], s => s
  | x, b :: bs, s =>
    putBytes bad (x + 1) bs (if bad.contains (wordAt x) then s else { s with mem := setByte 0 s.mem x b })

/-- The stored check bits of the words that an access writes in full (R501). -/
def State.setTestBits (a : Access) (k : Nat) (s : State) : State :=
  { s with mi.testBits := tblSet none k (if s.testAcc a then some s.mi.testCheck else none) s.mi.testBits }

/-- A write of SRAM (R486, R488): a word written in part is merged; when it is lost it is poisoned and keeps its data. -/
def State.sramWrite (a : Access) (s : State) : State :=
  let ks := wordsIn a.addr a.len
  let full := ks.filter (fun k => fullWord a ((k % 2 ^ 37) * 8))
  let part := ks.filter (fun k => s.valid k && !full.contains k)
  let lost : List Nat := match a.ecc, part with
    | .uncorrectable _, k :: _ => [k]
    | _, _ => []
  let bad := part.filter (fun k => s.poisoned k || lost.contains k)
  let s := match a.ecc, part with
    | .correctable syn, k :: _ => if bad.isEmpty then s.sramCorrected a k syn.toNat else s
    | _, _ => s
  let good := ks.filter (fun k => !bad.contains k)
  let s := good.foldl (fun (s : State) k => s.markValid k) (putBytes bad a.addr (fit a.len a.wdata) s)
  let s := full.foldl (fun (s : State) k => s.setTestBits a k) s
  if bad.isEmpty then s.accAnswer a false []
  else
    let s := bad.foldl (fun (s : State) k => s.poison k) s
    let (b, s) := s.draw 1
    let syn : Nat := match a.ecc with
      | .uncorrectable x => x.toNat
      | _ => leNat b
    (s.sramLost a syn).accAnswer a true []

/-! ## DRAM (R489 to R495, R501) -/

/-- The number of symbol positions that a stored corruption leaves in error once failed dies are erased (R491, R501). -/
def State.badSymbols (s : State) (i : Nat) : List Nat :=
  let v := (tblGet 0 s.mi.testStripes i).toNat
  if v / 2 ^ 16 = 0 then [] else (List.range 16).filter (fun n => v.testBit n && !s.mi.dieFailed.getLsbD n)

/-- What a stripe's check symbols say: of a stored corruption of up to three symbols by R490 and R491, else as met. -/
def State.dramEcc (s : State) (i : Nat) (met : Ecc) : Ecc :=
  let marked := countOf (fun n => s.mi.dieFailed.getLsbD n) (List.range 16)
  match s.badSymbols i with
  | [] => met
  | [n] => if marked ≤ 1 then .correctable (BitVec.ofNat 8 n) else .uncorrectable 0
  | [_, _] => .uncorrectable 0
  | [_, _, _] => .uncorrectable 0
  | _ => met

/-- SYND of a DRAM read: a bit for each symbol position in error. -/
def State.dramSynd (s : State) (i : Nat) (e : Ecc) : Nat :=
  match e with
  | .clean => 0
  | .correctable n => 2 ^ (n.toNat % 16)
  | .uncorrectable x => if s.badSymbols i = [] then x.toNat else (s.badSymbols i).foldl (fun m n => m + 2 ^ n) 0

/-- A demand access that meets an uncorrectable codeword or a poisoned line (R490, R495, R502). -/
def State.dramLost (a : Access) (dies : Nat) (s : State) : State :=
  let info := memInfo 7 0 false (a.kind == .write)
  let s := (({ s with mi.cntUeDram := s.mi.cntUeDram + 1 }.memCapture info a.addr).memEvent 0x0805 info a.addr dies)
  if s.testAcc a then s else s.ownerAt a.addr

/-- The lines that an access touches, as stripe and line. -/
def linesOf (a : Access) : List (Nat × Nat) := (granules a).map (fun g => (stripeOf (g * 64), lineOf (g * 64)))

/-- The stripes that an access touches. -/
def stripesOf (a : Access) : List Nat :=
  (List.range (stripeOf (a.addr + a.len - 1) - stripeOf a.addr + 1)).map (fun i => stripeOf a.addr + i)

/-- A read of module DRAM (R490, R493, R495). -/
def State.dramRead (a : Access) (s : State) : State :=
  if (linesOf a).any (fun x => s.linePoisoned x.1 x.2) then
    let (b, s) := s.draw 2
    ((s.captureSynd a (leNat b) true true).dramLost a (leNat b)).accAnswer a true []
  else
    let i := stripeOf a.addr
    let e := s.dramEcc i a.ecc
    let s1 := fun (ue : Bool) => s.captureSynd a (s.dramSynd i e) ue true
    match e with
    | .clean => (s1 false).accAnswer a false (s.readMem a.addr a.len)
    | .correctable syn => ((s1 false).dramCorrected syn (memInfo 7 0 false false) a.addr).accAnswer a false (s.readMem a.addr a.len)
    | .uncorrectable syn => ((s1 true).dramLost a syn.toNat).accAnswer a true []

/-- The part of an access that lies in a stripe: address and bytes. -/
def partOf (a : Access) (i : Nat) : Nat × Bytes :=
  let lo := max a.addr (0x1000000000 + 192 * i)
  let hi := min (a.addr + a.len) (0x1000000000 + 192 * (i + 1))
  (lo, sub (fit a.len a.wdata) (lo - a.addr) (hi - lo))

/-- The access covers a whole line. -/
def fullLine (a : Access) (i l : Nat) : Bool :=
  let x := 0x1000000000 + 192 * i + 64 * l
  decide (a.addr ≤ x) && decide (x + 64 ≤ a.addr + a.len)

/-- The access touches a line. -/
def touchesLine (a : Access) (i l : Nat) : Bool :=
  let x := 0x1000000000 + 192 * i + 64 * l
  decide (x < a.addr + a.len) && decide (a.addr < x + 64)

/-- Store the merged stripe: its bytes, the marks of lines written in full cleared, and the corruption of a test write (R493, R495,
R501). -/
def State.dramStore (a : Access) (i : Nat) (s : State) : State :=
  let p := partOf a i
  let full := (List.range 3).filter (fun l => fullLine a i l)
  let marks := full.foldl (fun (m : BitVec 3) l => m &&& ~~~(BitVec.ofNat 3 (2 ^ l))) (tblGet 0 s.mi.linePoison i)
  { s with
    mem := setBytes 0 s.mem p.1 p.2
    mi.linePoison := tblSet 0 i marks s.mi.linePoison
    mi.pattern := if full.length = 3 then tblSet false i false s.mi.pattern else s.mi.pattern
    mi.testStripes := tblSet 0 i (if s.testAcc a && !full.isEmpty then s.mi.testDsym else 0) s.mi.testStripes }

/-- A write of one stripe: the flag says that it ended with an error response. -/
def State.dramWriteStripe (a : Access) (i : Nat) (e : Ecc) (s : State) : Bool × State :=
  let touched := (List.range 3).filter (fun l => touchesLine a i l)
  let whole := decide (((List.range 3).filter (fun l => fullLine a i l)).length = 3)
  if tblGet false s.mi.pattern i && !whole then (true, s.dramLost a 0)
  else if !tblGet false s.mi.pattern i && touched.any (fun l => s.linePoisoned i l && !fullLine a i l) then (true, s.dramLost a 0)
  else
    match e with
    | .clean => (false, s.dramStore a i)
    | .correctable syn => (false, (s.dramCorrected syn (memInfo 7 0 false true) a.addr).dramStore a i)
    | .uncorrectable _ =>
      if s.testAcc a && touched.all (fun l => fullLine a i l) then
        (false, { s with mem := clearBytes s.mem (0x1000000000 + 192 * i) 192 }.dramStore a i)
      else
        let info := memInfo 7 0 false true
        let s := (({ s with mi.cntUeDram := s.mi.cntUeDram + 1 }.poisonStripe i).memCapture info a.addr).memEvent 0x0803 info a.addr 1
        (true, if s.testAcc a then s else s.stripeOwners i)

/-- A write of module DRAM (R493, R495). -/
def State.dramWrite (a : Access) (s : State) : State :=
  let r := (stripesOf a).foldl (fun (x : Bool × State) i =>
    let (bad, s) := x
    let e := s.dramEcc i (if i = stripeOf a.addr then a.ecc else .clean)
    let (b, s) := s.dramWriteStripe a i e
    (bad || b, s)) (false, s)
  r.2.accAnswer a r.1 []

/-! ## The host window (R41, R66, R67) -/

/-- The function on whose behalf an access goes to the host: the item's for a pier, an RNG staging write or an engine, else the
PF's (R66). -/
def State.accFn (s : State) (a : Access) : Nat :=
  let ofItem := fun (d : Nat) => ((s.entOf d).map (fun (e : Entry) => e.fn)).getD 0
  let ofEng := fun (e : Nat) => match s.running e with
    | some (_, y) => ofItem y.req.deckIdx
    | none => 0
  match a.init.val with
  | 10 | 14 => (match s.pierOf a.unit with
    | .holding d => ofItem d
    | _ => 0)
  | 11 => ofEng a.unit
  | 12 => ofEng (32 + a.unit.val)
  | 13 => ofEng (48 + a.unit.val)
  | _ => 0

/-- An access to the host window: a host address of the function's own window (R67), and a write or a read of the link. The bytes
that a read returns are the host's. -/
def State.hostAcc (a : Access) (s : State) : State :=
  let f := s.accFn a
  let off := a.addr - 0x8000000000
  let t := s.tnOf f
  if t.winSize.toNat < off + a.len then s.accHole a
  else if !s.hiu.linkUp then s.accAnswer a true []
  else
    let h := t.winBase.toNat + off
    if a.kind == .write then (s.emit (.hostWrite f h (fit a.len a.wdata) false false)).accAnswer a false []
    else
      let (b, s) := (s.emit (.hostRead f h a.len)).draw a.len
      s.accAnswer a false b

/-! ## Passing accesses (R40, R455, R461) -/

/-- A passing access reaches its target. Writes of the control space are the commands of their registers; the boot ROM's contents
are not given. -/
def State.accPass (a : Access) (s : State) : State :=
  match regionOf a.addr with
  | .bootRom =>
    if a.kind == .write then s.accAnswer a true []
    else
      let (b, s) := s.draw a.len
      s.accAnswer a false b
  | .mssSram | .pool => if a.kind == .write then s.sramWrite a else s.sramRead a
  | .dram => if a.kind == .write then s.dramWrite a else s.dramRead a
  | .periph | .control =>
    let (b, ok) := s.ctlBytes a.addr a.len
    if ok then s.accAnswer a false b else s.accHole a
  | .hostWindow => s.hostAcc a
  | .dramReserved | .hole => s.accHole a

/-- What an initiator does after a fault (R462). -/
def State.faultEnds (a : Access) (s : State) : State :=
  let eng := fun (e : Nat) => match s.running e with
    | some (i, y) => (s.refuseEntry e i y.req).settle e
    | none => s
  match a.init.val with
  | 0 => s
  | 10 | 14 => s.pierFails a.unit 4
  | 11 => if a.unit.val < 32 then eng a.unit else s
  | 12 => if a.unit.val < 16 then eng (32 + a.unit.val) else s
  | 13 => if a.unit.val < 48 then eng (48 + a.unit.val) else s
  | _ => s.requestReset 1

/-- An access faults (R462, R463). -/
def State.accFault (a : Access) (k : TgKind) (rule : Nat) (s : State) : State :=
  ((s.tgFault a k rule).accAnswer a true []).faultEnds a

/-- The pairs of a doubled default-map decision: a pair that differs is recorded and computed again, a second one faults (R459). -/
def State.accDefault (a : Access) (s : State) : State :=
  let miss := fun (s : State) => { s with tg.cntMismatch := s.tg.cntMismatch + 1 }
  let s := if a.flip1 then (miss s).eventSig 1140 0x0702 (a.init.val + a.unit.val * 2 ^ 5) (a.addr % 2 ^ 32) 0 0 else s
  if a.flip1 && a.flip2 then (miss s).accFault a .mismatch 0
  else
    let s := { s with tg.cntDefault := s.tg.cntDefault + 1 }
    if defaultDecide a then s.accPass a else s.accFault a .defaultHole 0

/-- Both copies of a rule are found lost (R465): EN clears, the access is held, and the lost rule governs nothing any more. -/
def State.ruleLost (a : Access) (i : Nat) (s : State) : State :=
  let s := { s with tg.rules := tblSet {} i {} s.tg.rules, tg.err := s.tg.err ||| 4 }
  let s := (s.tgChangePoint).eventSig 1140 0x0707 i 2 0 0
  if a.init = 0 then s.accDefault a else s.tgHoldAccess a

/-- The decision under the rule table (R455). -/
def State.accRules (a : Access) (s : State) : State :=
  match ruleDecide s.tg.rules a with
  | .pass => s.accPass a
  | .default _ => s.accDefault a
  | .fault k r => s.accFault a k r

/-- An access that is not held is decided (R455, R458, R465, R467, R477). -/
def State.accDecide (a : Access) (s : State) : State :=
  if s.tg.boot || (!s.tg.en && a.init == 0) then s.accDefault a
  else
    match a.parity with
    | some (i, true) => s.ruleLost a i
    | some (i, false) => (s.eventSig 1140 0x0707 i 1 0 0).accRules a
    | none => s.accRules a

/-- An access arrives: it is held, or decided. -/
def State.accArrive (a : Access) (s : State) : State := if s.tgHolds a then s.tgHoldAccess a else s.accDecide a

/-- The access is one that an initiator can make (R452). -/
def accFormed (a : Access) : Bool :=
  decide (1 ≤ a.len) && decide (a.len ≤ 256) && decide (a.init.val ≤ 14) && a.addr / 4096 == (a.addr + a.len - 1) / 4096 &&
    decide (a.addr < 2 ^ 40) && (a.kind != .fetch || a.init == 0)

/-- The access has to wait: for the zero-fill, for DRAM (R494), or for the fabric's clock. -/
def State.accWaits (s : State) (a : Access) : Bool :=
  s.clk.stopped || s.pwr.state == 2 || (regionOf a.addr == .dram && !s.mi.dramReady && a.init.val != 5)

/-- INTERCONNECT_ACCESS (R455). -/
def execInterconnectAccess (a : Access) (s : State) : Host.Outcome State Fault Refusal :=
  if !accFormed a || s.accWaits a then .next s else .next (s.accArrive a)

/-- Setting EN with the decision of the held accesses, each port's first held access before its later ones (R470). -/
def State.tgEnableNow (s : State) : State :=
  let l := s.tg.held
  l.foldl (fun (s : State) a => s.accArrive a) { s.tgSetEn with tg.held := [] }

/-- TG_ENABLE (R470, R472, R477). -/
def execTgEnable (s : State) : Host.Outcome State Fault Refusal := .next s.tgEnableNow

end Sys2Proof.Machine
end

