-- ==== Sys2Proof/Machine/Registers.lean ====
section
/-! DEFINITION. Writes of registers with no behaviour of their own, by access type and view (00 R11, R12 and the register tables of
every section). -/

namespace Sys2Proof.Machine

/-- A view reaches its registers: PF BAR0 and a VF's BAR0 as the link and the function allow, the MSS always (R82, R91, R93). -/
def State.viewOk (s : State) (v : View) : Bool :=
  match v with
  | .pf => s.pfBar
  | .vf n => decide (1 ≤ n.val) && s.barOk n
  | .mss => true

/-- The function whose own registers a view writes: the PF or a VF. -/
def viewFn : View → Option Nat
  | .pf => some 0
  | .vf n => if n.val = 0 then none else some n.val
  | .mss => none

/-- The new value of a write-one-to-clear field (R12). -/
def w1c {n : Nat} (old : BitVec n) (value : DWord) : BitVec n := old &&& ~~~(value.setWidth n)

/-- A field of a queue pair that is writable only while EN is 0 (R58). -/
def State.qpField (f q : Nat) (g : QP → QP) (s : State) : State :=
  if (s.qpOf f q).en then s else s.modQp f q g

/-- A queue-pair register (R54 to R58). -/
def State.writeQp (f q : Nat) (r : Reg) (x : DWord) (s : State) : State :=
  if qpCount f ≤ q then s
  else
    match r with
    | .qpSqBase _ _ => s.qpField f q (fun b => { b with sqBase := x })
    | .qpCqBase _ _ => s.qpField f q (fun b => { b with cqBase := x })
    | .qpCfg _ _ => s.qpField f q (fun b => { b with cfg := x.setWidth 32 &&& 0x7FFFF })
    | .qpImod _ _ => s.modQp f q (fun b => { b with imod := x.setWidth 32 &&& 0x8003FFFF })
    | .qpStatus _ _ => s.modQp f q (fun b => { b with err := w1c b.err x })
    | _ => s

/-- An MSI-X table register (R49, R50): 2,048 entries of the PF, 16 of a VF; a mask that clears sends a pending message (R71). -/
def State.writeMsix (f v : Nat) (r : Reg) (x : DWord) (s : State) : State :=
  if 1 ≤ f ∧ 16 ≤ v then s
  else
    let k := 2048 * f + v
    let put := fun (g : Msix → Msix) => { s with hiu.msix := tblMod {} k g s.hiu.msix }
    match r with
    | .msixAddr _ _ => put (fun e => { e with addr := x })
    | .msixData _ _ => put (fun e => { e with data := x.setWidth 32 })
    | .msixMask _ _ =>
      if x.getLsbD 0 then put (fun e => { e with masked := true })
      else
        let e := tblGet ({} : Msix) s.hiu.msix k
        let s := put (fun e => { e with masked := false, pending := false })
        if e.masked && e.pending then s.emit (.msix f v e.addr e.data) else s
    | _ => s

/-- Replace 32 bits of a wider register, at 32-bit word `i`. -/
def setWord32 {n : Nat} (old : BitVec n) (i : Nat) (x : DWord) : BitVec n :=
  let mask : BitVec n := BitVec.ofNat n (2 ^ 32 - 1) <<< (32 * i)
  (old &&& ~~~mask) ||| (BitVec.ofNat n (x.toNat % 2 ^ 32) <<< (32 * i))

/-- A write of PAR_LATCH (R525, R535): a latch clears only when its source is re-armed. -/
def State.writeParLatch (x : DWord) (s : State) : State :=
  let rearmed := ~~~(s.par.acted ||| s.par.todo)
  { s with
    par.latch := s.par.latch &&& ~~~(x.setWidth 13 &&& rearmed)
    par.pendingReset := s.par.pendingReset && !x.getLsbD 16 }

/-- A register of the MSS view. -/
def State.writeMss (r : Reg) (x : DWord) (s : State) : State :=
  let w : Word := x.setWidth 32
  match r with
  | .dspCtrl => { s with dsp.ctrl := w &&& 0xFF0F }
  | .kcCtrl => { s with keys.ctrl := x.setWidth 2 }
  | .pksUcodeSrc => { s with eng.ucSrc := x.setWidth 40 }
  | .pksUcodeTargetLo => { s with eng.ucTarget := setWord32 s.eng.ucTarget 0 x }
  | .pksUcodeTargetHi => { s with eng.ucTarget := setWord32 s.eng.ucTarget 1 (x &&& 0xFFFF) }
  | .pksUcodeDigest i => if s.eng.ucLocked then s else { s with eng.ucDigest := setWord32 s.eng.ucDigest i x }
  | .pkmRam i => { s with eng.pkmRam := tblMod 0 (i.val / 2) (fun v => setWord32 v (i.val % 2) x) s.eng.pkmRam }
  | .rngCtrl => { s with rng.rawSrc := (x >>> 1).setWidth 2 }
  | .rngKat => { s with rng.katTarget := x.getLsbD 1, rng.katExp := (x >>> 2).setWidth 4 }
  | .rngEvt => { s with rng.evt := w1c s.rng.evt x }
  | .trsEvt => { s with trs.evt := w1c s.trs.evt x }
  | .tgErr => { s with tg.err := w1c s.tg.err x }
  | .memCtrl => { s with mi.ctrl := x.setWidth 2 }
  | .memErr => { s with mi.err := w1c s.mi.err x }
  | .memErrInfo => if x.getLsbD 31 then { s with mi.errInfo := s.mi.errInfo &&& 0x3FFFFFFF } else s
  | .memTestCheck => { s with mi.testCheck := x.setWidth 8 }
  | .memTestBase => { s with mi.testBase := x &&& 0xFFFFFFF000 }
  | .memTestDsym => { s with mi.testDsym := x.setWidth 24 }
  | .parLatch => s.writeParLatch x
  | .parErr => { s with par.err := w1c s.par.err x }
  | .parBlog i => if x.getLsbD 63 then s.setBlog i (s.blogOf i ||| 0x8000000000000000) else s
  | .evrPage => { s with evr.pageMss := x.setWidth 2 }
  | .evrEvt => { s with evr.evt := w1c s.evr.evt x }
  | .evrWrHdr => { s with evr.wrHdr := w }
  | .evrWrP i => { s with evr.wrP := tblSet 0 i w s.evr.wrP }
  | .ancErr => { s with anc.err := w1c s.anc.err x }
  | .ancWearSel => { s with anc.wearSel := x.setWidth 14 }
  | .cfgFlashAddr => { s with cfg.flashAddr := x.setWidth 26 }
  | .cfgLen => { s with cfg.len := x.setWidth 26 }
  | .cfgMemAddr => { s with cfg.memAddr := x.setWidth 40 }
  | .pwrMode => if x &&& 3 = 3 then s else { s with pwr.mode := x.setWidth 2 }
  | .pwrWakeEn => { s with pwr.wakeEn := x.setWidth 5 }
  | .pwrWakePend => { s with pwr.wakePend := w1c s.pwr.wakePend x }
  | .pwrWakeTimer => { s with pwr.wakeTimer := x }
  | .nrgPolicy => { s with pwr.policy := x.setWidth 17 }
  | .nrgEvt => { s with pwr.evt := w1c s.pwr.evt x }
  | .mssBootInfo => { s with boot.trialSeen := x.getLsbD 0 }
  | _ => s

/-- A register of PF BAR0, besides the PF's queue pairs and MSI-X table: the rows that are not marked MSS only (R49, R446, R557,
R569, R659). -/
def State.writePf (r : Reg) (x : DWord) (s : State) : State :=
  match r with
  | .tnEvt f => s.modTn f (fun t => { t with evt := w1c t.evt x })
  | .tnErr f => s.modTn f (fun t => { t with err := t.err && !x.getLsbD 0 })
  | .trsEvt => { s with trs.evt := w1c s.trs.evt x }
  | .evrPage => { s with evr.pagePf := x.setWidth 2 }
  | .evrEvt => { s with evr.evt := w1c s.evr.evt x }
  | .mbxStatus => { s with mss.mbxDone := s.mss.mbxDone && !x.getLsbD 1, mss.mbxRestarted := s.mss.mbxRestarted && !x.getLsbD 2 }
  | .mbxReq i => { s with mss.mbxReq := tblSet 0 i (x.setWidth 32) s.mss.mbxReq }
  | .nrgPolicy => { s with pwr.policy := x.setWidth 17 }
  | .nrgEvt => { s with pwr.evt := w1c s.pwr.evt x }
  | _ => s

/-- A register of a VF's BAR0, besides its queue pairs and MSI-X table: its mailbox (R571). -/
def State.writeVf (f : Nat) (r : Reg) (x : DWord) (s : State) : State :=
  match r with
  | .vfMbxStatus => s.modVfMbx f (fun m => { m with done := m.done && !x.getLsbD 1 })
  | .vfMbxReply => s.modVfMbx f (fun m => { m with reply := x })
  | .vfMbxReq i => s.modVfMbx f (fun m => { m with req := tblSet 0 i (x.setWidth 32) m.req })
  | _ => s

/-- The function whose queue pair or MSI-X entry a register belongs to, when it is one of those. -/
def regFn : Reg → Option Nat
  | .qpSqBase f _ | .qpCqBase f _ | .qpCfg f _ | .qpImod f _ | .qpStatus f _ => some f
  | .msixAddr f _ | .msixData f _ | .msixMask f _ => some f
  | _ => none

/-- A queue pair or MSI-X register. -/
def State.writeRing (r : Reg) (x : DWord) (s : State) : State :=
  match r with
  | .qpSqBase f q | .qpCqBase f q | .qpCfg f q | .qpImod f q | .qpStatus f q => s.writeQp f q r x
  | .msixAddr f v | .msixData f v | .msixMask f v => s.writeMsix f v r x
  | _ => s

/-- A write of a register in a view that reaches it. -/
def State.writeReg (v : View) (r : Reg) (x : DWord) (s : State) : State :=
  match regFn r with
  | some f => if viewFn v = some f then s.writeRing r x else s
  | none =>
    match v with
    | .mss => s.writeMss r x
    | .pf => s.writePf r x
    | .vf n => s.writeVf n r x

/-- REGISTER_WRITE (R11, R12): a register that the view does not hold, a read-only one and a reserved range ignore the write. -/
def execRegisterWrite (v : View) (r : Reg) (value : DWord) (s : State) : Host.Outcome State Fault Refusal :=
  if s.viewOk v then .next (s.writeReg v r value) else .next s

end Sys2Proof.Machine
end

