-- ==== Sys2Proof/Machine/Power.lean ====
section
/-! DEFINITION. Power states, waking, the hold-up store's charge, the loss of main power and the power envelope
(17_power_and_energy.md). -/

namespace Sys2Proof.Machine

/-! ## The envelope (R654 to R656) -/

/-- Pier groups, or bays of a kind, that hold a unit not kept out, in their order (R655). -/
def State.openGroups (s : State) : List Nat :=
  (List.range 16).filter (fun g => (groupPiers g).any (fun p => s.pierOf p != .out))
/-- The bays from `b` on, `n` of them, that hold an engine not kept out. -/
def State.openBays (s : State) (b n : Nat) : List Nat :=
  ((List.range n).map (· + b)).filter (fun x => (bayEngines x).any (fun e => (s.engOf e).st != .out))

/-- A kind of unit in the allocation: units powered, units there are, and the budget of one in 0.05 W. -/
structure Share where
  n : Nat
  max : Nat
  budget : Nat
deriving DecidableEq, Repr

/-- The index of the kind with the lowest powered fraction, the earliest of equals. -/
def lowest (l : List Share) : Nat :=
  (List.range l.length).foldl (fun best i =>
    let b := l.getD best ⟨0, 0, 0⟩
    let x := l.getD i ⟨0, 0, 0⟩
    if x.n * b.max < b.n * x.max then i else best) 0

/-- The loop of R655: shares in the order groups, cipher, pk, hash, and the budget used. -/
def allocLoop (e : Nat) : Nat → List Share → Nat → List Share × Nat
  | 0, l, used => (l, used)
  | f + 1, l, used =>
    let k := lowest l
    let x := l.getD k ⟨0, 0, 0⟩
    if x.n = x.max ∨ e < used + x.budget then (l, used)
    else allocLoop e f (l.set k { x with n := x.n + 1 }) (used + x.budget)

/-- The allocation for an envelope in 0.05 W (R655). -/
def State.allocOf (s : State) (e : Nat) : List Share × Nat :=
  let l : List Share := [⟨1, s.openGroups.length, 35⟩, ⟨1, (s.openBays 0 4).length, 26⟩, ⟨1, (s.openBays 6 6).length, 40⟩,
    ⟨1, (s.openBays 4 2).length, 8⟩]
  let l := l.map (fun (x : Share) => { x with n := min 1 x.max })
  let base := 220 + 60 * b2n (s.boot.enItem.getLsbD 1)
  allocLoop e 64 l (base + (l.map (fun (x : Share) => x.n * x.budget)).foldl (· + ·) 0)

/-- A pier group is to be parked: idle piers park now, others when their items end (R152). -/
def State.parkGroup (g : Nat) (s : State) : State :=
  (groupPiers g).foldl (fun (s : State) p =>
    match s.pierOf p with
    | .idle | .waiting => s.setPier p .parked
    | .holding _ => { s with dsp.parkNext := tblSet false p true s.dsp.parkNext }
    | _ => s) s

/-- A pier group is to be powered: a parked group powers up (R29), and no pier of it parks any more. -/
def State.unparkGroup (g : Nat) (s : State) : State :=
  let s := (groupPiers g).foldl (fun (s : State) p => { s with dsp.parkNext := tblSet false p false s.dsp.parkNext }) s
  match s.groupOf g with
  | .parked => s.setGroup g .powering
  | .powering => s
  | .powered => (groupPiers g).foldl (fun (s : State) p => if s.pierOf p = .parked then s.setPier p .idle else s) s

/-- Every pier of a group that takes work is parked: the group is power-gated (R29). -/
def State.groupSettle (g : Nat) (s : State) : State :=
  let down := (groupPiers g).all (fun p => match s.pierOf p with
    | .parked | .out | .quarantined => true
    | _ => false)
  if s.groupOf g = .powered ∧ down ∧ (groupPiers g).any (fun p => s.pierOf p == .parked) then s.setGroup g .parked else s

/-- The bays of a kind that stay powered: the first `n` that are open. -/
def parkMask (opens : List Nat) (b total n : Nat) : Nat := maskOf (fun i => !(opens.take n).contains (b + i)) total

/-- The allocation takes effect (R655, R656): units are powered and parked, NRG_ALLOC and event 0x0504 follow. -/
def State.allocate (s : State) : State :=
  let (l, used) := s.allocOf (20 * s.pwr.envelope)
  let n := fun (i : Nat) => (l.getD i ⟨0, 0, 0⟩).n
  let on := s.openGroups.take (n 0)
  let sce := parkMask (s.openBays 0 4) 0 4 (n 1) + 16 * parkMask (s.openBays 4 2) 4 2 (n 3)
  let pks := parkMask (s.openBays 6 6) 6 6 (n 2)
  let parks := (List.range 16).any (fun g => !on.contains g && s.groupOf g == .powered) ||
    (List.range 6).any (fun b => sce.testBit b && s.bayOf b != .parked) || (List.range 6).any (fun b => pks.testBit b && s.bayOf (6 + b) != .parked)
  let s := (List.range 16).foldl (fun (s : State) g =>
    if on.contains g then s.unparkGroup g else (s.parkGroup g).groupSettle g) s
  let s := (s.setPark false (BitVec.ofNat 6 sce)).setPark true (BitVec.ofNat 6 pks)
  let w := n 0 + n 1 * 2 ^ 5 + n 3 * 2 ^ 8 + n 2 * 2 ^ 10 + used / 5 * 2 ^ 16
  let s := ({ s with pwr.alloc := w32 w, pwr.parking := parks }).event 1145 0x0504 s.pwr.envelope w 0 0
  if parks then s else s.nrgEvent 1

/-- ENVELOPE_WRITE (R654, R655): a value outside 20 to 60 W is clamped. -/
def execEnvelopeWrite (value : Word) (s : State) : Host.Outcome State Fault Refusal :=
  if s.boot.booting || s.pwr.quiesceStep == 7 || s.backupOnly then .next s
  else
    let e := max 20 (min 60 (value.toNat % 64))
    let t := { s with pwr.envelope := e }
    .next (if e = s.pwr.envelope ∨ s.pwr.state ≠ 0 then t else t.allocate)

/-- ENVELOPE_MET (R656): the last unit that an allocation parks has powered down. -/
def execEnvelopeMet (s : State) : Host.Outcome State Fault Refusal :=
  let s := (List.range 16).foldl (fun (s : State) g => s.groupSettle g) s
  let bays := (List.range 12).all (fun b => !s.parkMarked b || s.bayOf b == .parked)
  if s.pwr.parking && bays && !s.dsp.parkNext.any (fun x => x.2) then
    .next ({ s with pwr.parking := false }.nrgEvent 1)
  else .next s

/-! ## Conditions of a power state (R634) -/

/-- The conditions of DROWSE, besides the time for which no item has been held. -/
def State.drowseOk (s : State) : Bool :=
  (s.pwr.policy.setWidth 16).toNat != 0 && s.held.isEmpty && s.anc.queue.isEmpty && s.keys.taken.isEmpty && s.mss.rels.isEmpty &&
    !s.tg.holding && !s.eng.ucBusy

/-- The conditions of DORMANT. -/
def State.dormantOk (s : State) : Bool :=
  s.drowseOk && s.pwr.policy.getLsbD 16 && (s.hiu.l12 || s.hiu.d3hot) && !s.mi.testEn && !s.rng.rawEn

/-- The conditions of the state that an entry goes to still hold. -/
def State.stateOk (s : State) (m : BitVec 2) : Bool := if m = 2 then s.dormantOk else s.drowseOk

/-- LINK_L12_ENTRY (R634). -/
def execLinkL12Entry (s : State) : Host.Outcome State Fault Refusal :=
  if s.hiu.linkUp then .next { s with hiu.l12 := true } else .next s

/-! ## Entering a state (R635 to R638, R642 to R644) -/

/-- The HIU and control state that firmware saves before it enters DORMANT (R642). -/
def State.savedNow (s : State) : Saved := ⟨s.hiu, s.dsp.ctrl, w32 s.keys.ctrl.toNat, w32 s.eng.scePark.toNat, w32 s.eng.pksPark.toNat, s.pay.inc⟩

/-- WAIT (R635, R636): in mode 0 the core halts until its next interrupt, otherwise an entry begins. -/
def State.wait (s : State) : State :=
  let s := { s with pwr.halted := true, pwr.aborted := false, pwr.forced := false }
  if s.pwr.mode = 0 then s
  else { s with pwr.entry := some (s.pwr.mode, 0), pwr.saved := if s.pwr.mode = 2 then some s.savedNow else s.pwr.saved }

/-- The MSS core executes an instruction: it runs, and is not halted. -/
def State.coreRuns (s : State) : Bool := s.mssUp && !s.pwr.halted && s.pwr.entry.isNone && !s.pwr.quiesce

/-- WAIT (R635). -/
def execWait (s : State) : Host.Outcome State Fault Refusal := if s.coreRuns then .next s.wait else .next s

/-- DROWSE_IDLE_EXPIRY (R634): the firmware enters DORMANT where the policy and the link allow, else DROWSE. -/
def execDrowseIdleExpiry (s : State) : Host.Outcome State Fault Refusal :=
  if !s.coreRuns then .next s
  else if s.dormantOk then .next { s with pwr.mode := 2 }.wait
  else if s.drowseOk then .next { s with pwr.mode := 1 }.wait
  else .next s

/-- A fabric PLL is started: it locks unless it is in quarantine. -/
def Pll.start (x : Pll) : Pll := { x with on := true, locked := !x.quarantined }
/-- A fabric PLL is stopped. -/
def Pll.stop (x : Pll) : Pll := { x with on := false, locked := false }

/-- The HIU fetches and the dispatcher grants again, unless a reset or quiesce forbids it. -/
def State.goOn (s : State) : State :=
  let stop := s.pwr.quiesce || s.boot.request.isSome
  { s with hiu.noFetch := stop, dsp.noGrant := stop }

/-- The entry is abandoned at an abort point: its steps are undone and WAIT returns (R637, R645). -/
def State.abandonEntry (m : BitVec 2) (ap : Nat) (s : State) : State :=
  let s := s.goOn
  let s := if 2 ≤ ap then { s with clk.pllA := s.clk.pllA.start, clk.pllB := s.clk.pllB.start, clk.mssLocked := true } else s
  ({ s with
    pwr.pads := s.pwr.pads &&& ~~~s.pwr.entryPads
    pwr.entryPads := 0
    pwr.entry := none
    pwr.saved := none
    pwr.halted := false
    pwr.forced := false
    pwr.aborted := true
    pwr.lastAbort := BitVec.ofNat 2 ap }).event 1145 0x0507 m.toNat ap s.pwr.wakePend.toNat 0

/-- The domains that DORMANT powers off lose their state (R28, R33, R477, R643): sessions, tier one and the SRAM pool, pier and
operand memories, control stores, the rule table, flows and pointers; an enrolled member loses its parent. -/
def State.powerOff (s : State) : State :=
  let s := (List.range 12).foldl (fun (s : State) b => s.bayOff b) s.clearPool
  let s := (List.range 128).foldl (fun (s : State) p => s.clearInst .pierLocal p) s
  let s := (List.range 48).foldl (fun (s : State) e => (s.clearInst .operand e).clearInst .controlStore e) s
  { s with
    pay.sess := []
    keys.t1 := []
    keys.flushing := none
    hiu := { s.hiu with qp := [], msix := [], grants := [], fnPtr := 0, qpPtr := [], dpUp := false }
    dsp := { s.dsp with turn := [], visited := [], deficit := [], pierPtr := 0, replayPtr := 0, flows := [],
                        piers := tblMap .idle (fun _ x => pierReset x) s.dsp.piers, parkNext := [] }
    deck.flowPtr := 0
    eng.eng := tblMap {} (fun _ (x : Eng) => { x with loaded := false, store := [] }) s.eng.eng
    eng.ports := []
    eng.engPtr := []
    eng.pierPtr := []
    eng.busPtr := 0
    tg := { s.tg with rules := [], en := false, boot := true, holding := false, drained := false, held := [], written := [] }
    trs.linkA := false
    trs.linkB := false
    trs.lostAt := if s.enrolled && s.role != 1 then some s.now else s.trs.lostAt
    trs.cstate := if s.enrolled && s.role != 1 then 4 else s.trs.cstate }

/-- The levels that STATUS_LED[1:0] show (R686). -/
def State.led01 (s : State) : BitVec 2 :=
  if s.pwr.pads.getLsbD 0 then s.pwr.padLed else BitVec.ofNat 2 (b2n s.hiu.dpUp + 2 * b2n s.par.alarmOut)

/-- What a step of an entry does as it ends (R636, R644). -/
def State.entryStep (m : BitVec 2) (k : Nat) (s : State) : State :=
  match k with
  | 2 => { s with hiu.noFetch := true, dsp.noGrant := true }
  | 3 => { s with clk.pllA := s.clk.pllA.stop, clk.pllB := s.clk.pllB.stop, clk.mssLocked := false }
  | 4 => if m = 2 then { s with pwr.padLed := s.led01, pwr.entryPads := ~~~s.pwr.pads, pwr.pads := 7 } else s
  | 5 =>
    let s := ({ s with pwr.state := m, pwr.entry := none, pwr.entryPads := 0 }).event 1145 0x0501 0 m.toNat 0 0
    if m = 2 then s.powerOff else s
  | _ => s

/-- A wake begins: WAIT returns (R640, R641); the generator starts anew on a wake from DORMANT (R397). -/
def State.startWake (s : State) : State :=
  if s.pwr.state = 0 ∨ s.pwr.waking.isSome then s
  else
    let s := { s with pwr.waking := some (s.pwr.state, s.pwr.wakePend.setWidth 32, s.now), pwr.halted := false }
    if s.pwr.state = 2 then s.rngStart false else s

/-- ENTRY_STEP_END (R636 to R638): the step's effect and the test of the abort point that follows. -/
def execEntryStepEnd (s : State) : Host.Outcome State Fault Refusal :=
  match s.pwr.entry with
  | none => .next s
  | some (m, n) =>
    let k := n + 1
    let wake := fun (s : State) => s.pwr.wakePend != 0 || s.pwr.forced
    let s := s.entryStep m k
    if 5 ≤ k then .next (if wake s then s.startWake else s)
    else if wake s || (k == 1 && !s.stateOk m) then .next (s.abandonEntry m (k - 1))
    else .next { s with pwr.entry := some (m, k) }

/-! ## Waking (R639 to R645) -/

/-- The bit of a maskable wake source in PWR_WAKE_EN. -/
def wakeBit : WakeSrc → Option (BitVec 5)
  | .host => some 1
  | .trestle => some 2
  | .service => some 4
  | .timer => some 8
  | .perst => some 16
  | .parapet | .mainLoss => none

/-- A wake event arrives (R638, R639): it is latched when its source is enabled, and begins a wake in DROWSE or DORMANT; host
activity takes the link out of L1.2. -/
def State.wakeBy (src : WakeSrc) (s : State) : State :=
  let s := if src = .host then { s with hiu.l12 := false } else s
  match wakeBit src with
  | none => if s.pwr.entry.isSome then { s with pwr.forced := true } else s.startWake
  | some b =>
    if s.pwr.wakeEn &&& b = 0 ∨ (src = .trestle ∧ s.pwr.state = 2) then s
    else ({ s with pwr.wakePend := s.pwr.wakePend ||| b }).startWake

/-- WAKE_EVENT (R639). -/
def execWakeEvent (src : WakeSrc) (s : State) : Host.Outcome State Fault Refusal :=
  if s.boot.booting || s.backupOnly || s.pwr.quiesceStep == 7 then .next s else .next (s.wakeBy src)

/-- WAKE_TIMER (R639): device time reaches PWR_WAKE_TIMER. -/
def execWakeTimer (s : State) : Host.Outcome State Fault Refusal :=
  let t := s.pwr.wakeTimer.toNat
  if t < s.now ∨ s.boot.booting ∨ s.backupOnly then .next s else .next ((s.advance t).wakeBy .timer)

/-- The module is in RUN again: event 0x0501 and the allocation of R655. -/
def State.wakeEnds (old : BitVec 2) (bits : Word) (t0 : Nat) (s : State) : State :=
  ({ s with pwr.state := 0, pwr.waking := none, pwr.saved := none }.event 1145 0x0501 old.toNat 0 bits.toNat (s.now - t0)).allocate

/-- DROWSE_WAKE_DONE (R26, R396, R640): the first fabric PLL to lock drives the fabric. -/
def execDrowseWakeDone (first : PllName) (s : State) : Host.Outcome State Fault Refusal :=
  match s.pwr.waking with
  | some (1, bits, t0) =>
    if (s.pll first).quarantined then .next s
    else
      let other := otherPll first
      let s := (s.setPll first { s.pll first with on := true, locked := true })
      let s := s.setPll other { s.pll other with on := true, locked := false }
      let s := { s with
        clk.active := first
        clk.mssLocked := true
        rng.src := tblMap {} (fun _ (x : Src) => { x with run := (0, 0) }) s.rng.src }
      .next (s.goOn.wakeEnds 1 bits t0)
  | _ => .next s

/-! ## Loading the merged configuration (R341, R477, R609, R610, R641, R664) -/

/-- The bank that runs, as a source of images. -/
def State.runSrc (s : State) : ImgSrc := s.bankSrc s.boot.runBank

/-- A rule from the 32 bytes of configuration item 0x0001. -/
def ruleOf (b : Bytes) : TgRule :=
  ⟨w64 (fld b 0 8) &&& 0xFFFFFFFFC0, w64 (fld b 8 8) &&& 0xFFFFFFFFC0, w32 (fld b 16 4), w32 (fld b 20 4) &&& 0x800000FF⟩

/-- The rule table of the merged configuration. -/
def State.cfgRules (s : State) : Tbl TgRule :=
  ((mergedOf s.runSrc s.hiu.overlay.toNat).filter (fun x => x.item == 1)).foldl (fun t x => tblSet {} x.index (ruleOf x.value) t) []

/-- The rule table is loaded and EN set; the accesses held in boot mode are decided (R477). -/
def State.loadRules (s : State) : State := ({ s with tg.rules := s.cfgRules }).tgEnableNow

/-- The overlay in force loads pier firmware and microcode (R607): every public-key engine that is not kept out is loaded (R340). -/
def State.loadFw (s : State) : State :=
  if loadsFw s.runSrc s.hiu.overlay.toNat then
    (List.range 48).foldl (fun (s : State) e => s.modEng (48 + e) (fun (x : Eng) =>
      if x.st = .out then x else { x with loaded := true, store := natLe 48 s.eng.ucDigest.toNat })) s
  else s

/-- DORMANT_WAKE_DONE (R641, R642): the table is loaded, microcode loaded, the saved HIU state restored, and the data plane accepts
work. -/
def execDormantWakeDone (s : State) : Host.Outcome State Fault Refusal :=
  match s.pwr.waking with
  | some (2, bits, t0) =>
    let s := { s with
      clk.pllA := s.clk.pllA.start
      clk.pllB := s.clk.pllB.start
      clk.active := if s.clk.pllA.quarantined then .b else if s.clk.pllB.quarantined then .a else s.clk.active
      clk.mssLocked := true
      clk.groups := []
      clk.bays := [] }
    let s := s.goOn.loadRules.loadFw
    let s := match s.pwr.saved with
      | some v => { s with
          hiu := { s.hiu with qp := v.hiu.qp, msix := v.hiu.msix, tn := v.hiu.tn }
          dsp.ctrl := v.dspCtrl
          keys.ctrl := v.kcCtrl.setWidth 2
          eng.scePark := v.scePark.setWidth 6
          eng.pksPark := v.pksPark.setWidth 6
          pay.inc := v.incarnations }
      | none => s
    let s := { s with
      hiu.dpUp := s.dpAllowed
      hiu.l12 := false
      trs.linkA := s.boot.enItem.getLsbD 1
      trs.linkB := s.boot.enItem.getLsbD 1
      trs.cstate := if s.enrolled && s.role != 1 then 2 else s.trs.cstate }
    .next (s.wakeEnds 2 bits t0)
  | _ => .next s

/-- PAD_RELEASE (R645): a RELEASE bit acts on a latched group whose domain is powered. -/
def execPadRelease (groups : BitVec 3) (s : State) : Host.Outcome State Fault Refusal :=
  if s.pwr.state ≠ 0 ∨ s.pwr.entry.isSome ∨ s.pwr.quiesceStep = 7 ∨ s.backupOnly then .next s
  else .next { s with pwr.pads := s.pwr.pads &&& ~~~groups }

/-! ## PERST# (R93, R639, R664) -/

/-- PERST_ASSERT (R93): the link is lost and what acts as a PF FLR follows. -/
def execPerstAssert (s : State) : Host.Outcome State Fault Refusal :=
  if s.hw.perst then .next s
  else
    let s := { s with hw.perst := true }
    if s.backupOnly || s.pwr.quiesceStep == 7 then .next s
    else if s.pwr.quiesce then .next { s with hiu.linkUp := false }
    else .next (s.linkReset.wakeBy .perst)

/-- PERST_DEASSERT (R664): the link trains. -/
def execPerstDeassert (s : State) : Host.Outcome State Fault Refusal :=
  if !s.hw.perst then .next s
  else
    let s := { s with hw.perst := false }
    if s.backupOnly || s.pwr.quiesceStep == 7 then .next s
    else .next ({ s with hiu.linkUp := true }.wakeBy .perst)

/-! ## Main power (R646, R652, R653) -/

/-- An item whose release has not begun ends with DEVICE_QUIESCING: it becomes DONE, its requests and pins end, and its pier is
free (step 3 of R652, R129, R323). An ORPHAN's work ends. -/
def State.quiesceItem (d : Nat) (e : Entry) (s : State) : State :=
  match e.st with
  | .releasing => s
  | .reserved => { s with deck.ent := tblSet none d none s.deck.ent }
  | .orphan => ((s.cancelReqs d).releasePier e.pier).leave d
  | _ =>
    let s := (((s.cancelReqs d).releasePier e.pier).endPins d).unpropose d
    s.modEnt d (fun (x : Entry) => { x with
      st := .done, phase := .idle, post := ⟨0x5001, [], [], []⟩, fetched := [], onReplay := false, pier := none, postedAt := s.now })

/-- Every entry of the Deck that is in use. -/
def State.entries (s : State) : List (Nat × Entry) :=
  s.deck.ent.filterMap (fun x => x.2.map (fun e => (x.1, e)))

/-- Main power is lost (R652): quiesce begins with steps 1 to 3, and every coalesced anchor write is issued. A module in DORMANT
takes only step 5; one in DROWSE begins its wake. -/
def State.loseMain (s : State) : State :=
  if !s.pwr.mainOk || s.pwr.quiesce then { s with pwr.mainOk := false }
  else
    let s := match s.pwr.entry with
      | some (m, k) => s.abandonEntry m (min 3 k)
      | none => s
    let s := (s.setIdState 4).nrgEvent 2
    let s := { s with
      hiu.dpUp := false
      pwr.mainOk := false
      pwr.quiesce := true
      pwr.quiesceStep := 5
      pwr.quiesced := 0
      pwr.heldUp := 0
      deck.noRelease := s.deck.noRelease && (s.par.response != 0 || s.hiu.pfFlr)
      boot.request := none }
    if s.pwr.state = 2 then s.flushKeySeq
    else
      let s := if s.pwr.state = 1 then s.startWake else s
      let s := if s.tg.en then s else s.tgEnableNow
      let s := { s with hiu.noFetch := true, dsp.noGrant := true, dsp.replayList := [], hiu.grants := [] }
      let s := s.entries.foldl (fun (s : State) x => s.quiesceItem x.1 x.2) s
      s.flushKeySeq

/-- MAIN_POWER_LOSS (R652). -/
def execMainPowerLoss (s : State) : Host.Outcome State Fault Refusal := .next s.loseMain

/-- QUIESCE_DONE (steps 6 and 7 of R652, R653, R689): releases that had begun have ended and the kept records are in flash; event
0x0502, and the domains of 12 V are off. -/
def execQuiesceDone (s : State) : Host.Outcome State Fault Refusal :=
  let busy := !s.anc.queue.isEmpty || !s.keys.taken.isEmpty || !s.evr.keptPending.isEmpty || s.entries.any (fun x => x.2.st == .releasing)
  if !s.pwr.quiesce || s.pwr.quiesceStep != 5 || busy then .next s
  else
    let s := s.event 1145 0x0502 s.pwr.quiesced s.pwr.heldUp (s.pwr.charge / 1000) (b2n s.hw.aux)
    .next { s with
      pwr.quiesceStep := 7
      hiu.linkUp := false
      trs.linkA := false
      trs.linkB := false
      hw.softStart := false
      hw.charger := false
      hw.onStore := !s.hw.aux }

end Sys2Proof.Machine
end

