-- ==== Sys2Proof/Machine/Boot.lean ====
section
/-! DEFINITION. Power-on, module reset and the boot sequence (18_start_up_and_reset.md, 06 R264 to R266, 13 R523 to R526, 14 R545,
R546). Steps 1 to 10 of R664 are one command, steps 11 and 12 another (log 60). -/

namespace Sys2Proof.Machine

/-! ## What a reset keeps (R675) -/

/-- The module with everything lost but the backup domain, the anchors, the flash, the serial number and the supplies. -/
def State.cold (s : State) : State :=
  { ({} : State) with
    ks := { s.ks with checkOk := false }
    par := { ({} : Par) with
      deciding := s.par.deciding, first := s.par.first, pol := s.par.pol, latch := s.par.latch, acted := s.par.acted
      todo := s.par.todo, pendingReset := s.par.pendingReset, latchTsc := s.par.latchTsc, policyBk := s.par.policyBk
      lost := s.par.lost, blog := s.par.blog }
    anc := { ({} : Anc) with words := s.anc.words, wear := s.anc.wear, worn := s.anc.worn, lost := s.anc.lost, shadow := s.anc.shadow }
    cfg := { ({} : Cfg) with flash := s.cfg.flash }
    hiu := { ({} : Hiu) with serial := s.hiu.serial }
    trs := { ({} : Trs) with abutment := s.trs.abutment, members := s.trs.members }
    hw := s.hw
    now := s.now
    backupUs := s.backupUs
    free := s.free
    out := s.out
    pending := s.pending }

/-- What a module reset keeps beside that: the recorder's store and the records that wait for it, the Parapet's results since
power-on and ALARM_OUT#, the store's charge, TRIAL_SEEN. -/
def State.warm (s : State) : State :=
  let c := s.cold
  { c with
    par := { c.par with alarmOut := s.par.alarmOut, last := s.par.last, cntAlarm := s.par.cntAlarm }
    mss := { c.mss with alert := s.mss.alert }
    evr := { s.evr with evt := 0, cntDropped := 0, cntFallback := 0, clearRefused := false, pagePf := 0, pageMss := 0, wrHdr := 0,
                        wrP := [] }
    pwr := { c.pwr with charge := s.pwr.charge }
    boot := { c.boot with trialSeen := s.boot.trialSeen, everReady := s.boot.everReady, log := s.boot.log } }

/-! ## Rebuilding the key epoch table (R263, R266, R267) -/

/-- A journal record as it is read back (R263). -/
structure JRec where
  seq : Nat
  tenant : Nat
  kind : Nat
  keyId : Nat
  state : DWord
deriving DecidableEq, Repr

/-- The record that 32 bytes hold; `none` where the CRC fails. -/
def jRecOf (b : Bytes) : Option JRec :=
  if crc32 (sub b 0 28) = fld b 28 4 then some ⟨fld b 0 4, fld b 4 2, fld b 6 1, fld b 8 8, w64 (fld b 16 8)⟩ else none

/-- The records of a journal half from record `i` on, up to the first erased one. -/
def State.jScan (s : State) (half : Bool) : Nat → Nat → List (Option JRec)
  | 0, _ => []
  | n + 1, i =>
    let b := s.flashRead (jAddr half i) 32
    if b.all (fun x => x == 0xFF) then [] else jRecOf b :: s.jScan half n (i + 1)

/-- A snapshot is whole in a half: its SNAPSHOT_END is there. -/
def hasEnd (l : List (Option JRec)) : Bool := l.any (fun r => match r with
  | some x => x.kind == 7
  | none => false)

/-- The half that is authoritative (R267): the one with a whole snapshot, the shorter of two such; else the longer. -/
def pickHalf (a b : List (Option JRec)) : Bool :=
  if hasEnd a && hasEnd b then decide (b.length < a.length)
  else if hasEnd a || hasEnd b then hasEnd b
  else decide (a.length < b.length)

/-- The SEQ range of a VOID record covers a record of its tenant. -/
def JRec.voids (v x : JRec) : Bool :=
  v.kind == 6 && v.tenant == x.tenant && decide (v.keyId % 2 ^ 32 ≤ x.seq) && decide (x.seq ≤ v.keyId / 2 ^ 32)

/-- Put a record in SEQ order, after those of equal SEQ. -/
def seqInsert (x : JRec) : List JRec → List JRec
  | [] => [x]
  | y :: l => if x.seq < y.seq then x :: y :: l else y :: seqInsert x l

/-- The KET is rebuilt from the authoritative half; discarded SEQ ranges are noted for their VOID records, the counters resume above
every SEQ found, and the other half is erased (R266, R267). -/
def State.rebuildKet (s : State) : State :=
  let a := s.jScan false 262144 0
  let b := s.jScan true 262144 0
  let half := pickHalf a b
  let all := if half then b else a
  let recs := all.filterMap id
  let top := fun (t : Nat) => (s.ancGet (0x400 + t)).toNat % 2 ^ 32
  let voids := recs.filter (fun x => x.kind == 6 && decide (x.seq ≤ top x.tenant))
  let covered := fun (x : JRec) => voids.any (fun v => v.voids x)
  let keep := recs.filter (fun x => decide (1 ≤ x.kind) && decide (x.kind ≤ 4) && decide (x.seq ≤ top x.tenant) && !covered x)
  let gone := recs.filter (fun x => x.kind != 7 && decide (top x.tenant < x.seq) && !covered x)
  let found := fun (t : Nat) => (recs.filter (fun x => x.tenant == t)).foldl (fun m x => max m x.seq) (top t)
  let range := fun (t : Nat) =>
    match gone.filter (fun x => x.tenant == t) with
    | [] => none
    | x :: l => some (t, l.foldl (fun m y => min m y.seq) x.seq, l.foldl (fun m y => max m y.seq) x.seq)
  let s := { s with
    cfg.flash := clearBytes s.cfg.flash (jAddr (!half) 0) 0x800000
    boot.voids := (List.range 1025).filterMap range
    keys := { ({} : Keys) with
      jHalf := half
      jFill := all.length
      jSnap := decide (196608 ≤ all.length)
      jCount := (s.ancGet 0x0A).toNat
      seqs := (List.range 1025).foldl (fun t i => tblSet 0 i (found i) t) [] } }
  (keep.foldr seqInsert []).foldl (fun (s : State) x => s.setKeyWord x.tenant x.keyId x.state) s

/-! ## The recorder and the backup findings (R523, R526, R545, R546) -/

/-- The recorder after an absence of 3V3_AUX: the kept area from the flash, the circulating area empty, the count at the ceiling, and
0x0B04 as its first record. -/
def State.restoreEvr (s : State) : State :=
  let kept := (List.range 4096).filterMap (fun n => (recOf (s.flashRead (evrFlash s.evrHalf n) 32)).map (fun r => (n, some r)))
  let c := (s.ancGet 8).toNat
  { s with evr := { ({} : Evr) with
    store := kept
    head := c
    ceiling := c
    circBase := c
    keptBase := (s.ancGet 9).setWidth 32
    own := [(⟨1144, 0x0B04, w32 c, w32 kept.length, 0, 0⟩ : Offer)] } }

/-- The backup domain's findings, in the order of R523, and the hold of R526. -/
def State.findings (s : State) : State :=
  let s := (List.range 16).foldl (fun (s : State) n =>
    let v := s.blogOf n
    if v.getLsbD 63 then s
    else (s.eventSig 1143 0x0203 n (v.toNat % 2 ^ 32) (v.toNat / 2 ^ 32) 0).setBlog n (v ||| 0x8000000000000000)) s
  let s := if s.par.lost = 0 then s else { s.eventSig 1143 0x0206 s.par.lost.toNat 0 0 0 with par.lost := 0 }
  let s := if s.par.pendingReset then { s.alarmOn with par.pendingReset := false } else s
  let s := if s.ks.tamper then s.alarmOn else s
  if s.holdCond then
    ({ s with par.held := true, boot.answering := true }.eventSig 1143 0x0207 s.par.cond.toNat 0 0 0).emit .drs
  else s

/-! ## Choosing and verifying what runs (R608, R611, R667, R668, R671, R673) -/

/-- What the boot ROM runs: bank, overlay, cause of event 0x0107 (0 none), whether the set comes from the other bank, ROM halt. -/
structure BootPick where
  bank : Bool
  code : Nat
  cause : Nat
  other : Bool
  halt : Bool
deriving DecidableEq, Repr

/-- The overlay chosen at step 2 and the cause that leads to recovery (R608, R671). -/
def State.overlayAt (s : State) (modeSel : BitVec 2) : Nat × Nat :=
  if modeSel = 3 then (2, 1)
  else if s.anc.lost.any (fun x => x.2 && decide (x.1 ≤ 0x218)) then (2, 2)
  else if modeSel = 2 then (1, 0)
  else ((s.ancGet 1).toNat % 4, 0)

/-- The verdict on an image that has been reached already. -/
def State.knownVerdict (s : State) (b : Bool) (flips : BitVec 16) (x : ImgSlot) : Bool :=
  (imgVerdict (s.bankSrc b) s.minver x).ok && !flips.getLsbD (8 * b2n b + x.index)

/-- The recovery set of the bank whose chosen set failed (first row of R668). -/
def State.sameRecovery (b : Bool) (flips : BitVec 16) (code : Nat) (s : State) : Bool × State :=
  let (r, s) := if code = 2 then (s.knownVerdict b flips ⟨5, 2⟩, s) else s.bootVerdict b flips ⟨5, 2⟩
  (r && s.knownVerdict b flips ⟨1, 0⟩ && s.knownVerdict b flips ⟨4, 0⟩ && (firstBad (s.bankSrc b) (imgSet (s.bankSrc b) 2)).isNone, s)

/-- The rows of R668. -/
def State.pickRecovery (b : Bool) (flips : BitVec 16) (code : Nat) (s : State) : BootPick × State :=
  let (same, s) := s.sameRecovery b flips code
  if same then (⟨b, 2, 3, false, false⟩, s)
  else
    let (o, s) := s.recoverySet (!b) flips
    if o then (⟨!b, 2, 4, true, false⟩, s) else (⟨b, 2, 5, false, true⟩, s)

/-- A bank is verified and what runs is settled. -/
def State.pickBank (b : Bool) (flips : BitVec 16) (code cause : Nat) (s : State) : BootPick × State :=
  match s.tryBank b flips code with
  | (some c, s) => (⟨b, c, if c = 2 then cause else 0, false, false⟩, s)
  | (none, s) => s.pickRecovery b flips code

/-- A trial is rolled back: ANC_BANK_SEL is to name the other bank with TRIAL 0 (R673). -/
def State.rollBack (b : Bool) (s : State) : State :=
  { s with boot.writes := [(0, [w64 (b2n (!b))])] }.event 0xFFFF 0x0105 (b2n b) 0 0 0

/-- Steps 2 to 5: MODE_SEL, the trial and the verdicts. A trial seen before is rolled back; so is one that fails. -/
def State.pick (obs : BootObs) (s : State) : BootPick × State :=
  let (code, cause) := s.overlayAt obs.modeSel
  let sel := (s.ancGet 0).getLsbD 0
  let trial := (s.ancGet 0).getLsbD 1
  let again := trial && s.boot.trialSeen
  let b := if again then !sel else sel
  let s := s.event 0xFFFF 0x0101 s.boot.cause.toNat (b2n b) code obs.modeSel.toNat
  if !trial then s.pickBank b obs.flips code cause
  else if again then (s.rollBack sel).pickBank b obs.flips code cause
  else
    let s := { s with boot.trialSeen := true }
    match s.tryBank b obs.flips code with
    | (some c, s) => (⟨b, c, if c = 2 then cause else 0, false, false⟩, s)
    | (none, s) => (s.rollBack sel).pickBank (!b) obs.flips code cause

/-- The identity registers, PKS_UCODE_DIGEST and the items of the images that run (R51, R337, R596, R610). -/
def State.identify (p : BootPick) (s : State) : State :=
  let src := s.bankSrc p.bank
  let fw := loadsFw src p.code
  let ver := fun (x : ImgSlot) => w32 (hdrVersion (imgHdr src x))
  let dig := fun (x : ImgSlot) => sha384B (imgBytes src x)
  let items := mergedOf src p.code
  { s with
    hiu.verMss := ver ⟨1, 0⟩
    hiu.verPier := if fw then ver ⟨2, 0⟩ else 0
    hiu.verPks := if fw then ver ⟨3, 0⟩ else 0
    hiu.verCfg := ver ⟨4, 0⟩
    mss.digests := [dig ⟨1, 0⟩, if fw then dig ⟨2, 0⟩ else zeros 48, if fw then dig ⟨3, 0⟩ else zeros 48, dig ⟨4, 0⟩]
    eng.ucDigest := if fw then BitVec.ofNat 384 (leNat (sha384B (imgPayload src ⟨3, 0⟩))) else 0
    eng.ucLocked := fw
    boot.dspItem := (itemWord items 2).map w32
    boot.enItem := w32 ((itemWord items 3).getD 0)
    boot.envItem := (itemWord items 4).map w32 }

/-! ## The boot (R663, R664) -/

/-- The Keystone check of step 7 (R247, R672). -/
def State.keystoneCheck (s : State) : State :=
  if s.ks.loaded && s.ks.integrity == drkWord (natBe 32 s.ks.drk.toNat) then { s with ks.checkOk := true }
  else s.event 0xFFFF 0x0104 (b2n s.ks.loaded + 4 * b2n s.ks.tamper) 0 0 0

/-- Step 1: the domains power up, device time is set, the anchor store is repaired, the hold-up store is measured, and lost anchor words
are met (R529, R613, R616, R646, R651). -/
def State.bootStart (cause : BitVec 4) (obs : BootObs) (s : State) : State :=
  let s := { s with now := s.deviceTime }.anchorsRepair
  let s := { s with
    par.cond := obs.cond
    anc.lost := obs.ancLost.foldl (fun t (w : Fin 8192) => tblSet false w.val true t) s.anc.lost
    pwr := { s.pwr with full := obs.fullCharge, mainOk := true }
    hiu := { s.hiu with linkUp := !s.hw.perst, cfgReset := true }
    mi := { s.mi with zeroFilling := true }
    boot := { s.boot with cause := cause, modeSel := obs.modeSel, started := s.deviceTime }
    hw := { s.hw with softStart := true, charger := true } }
  let s := if s.storeIsLow then ({ s with pwr.storeLow := true }.nrgEvent 4).event 1145 0x0506 (s.pwr.full / 1000) 0 0 0 else s
  obs.ancLost.foldl (fun (s : State) (w : Fin 8192) => (s.ancError 4 w.val).event 1146 0x0A08 w.val 0 0 0) s

/-- A ROM halt (R671): no firmware runs, and configuration requests are answered. -/
def State.haltRom (s : State) : State :=
  ({ s with boot.romHalt := true, boot.booting := false }.setIdState 5).emit .drs

/-- Steps 7 and 9 of a boot that runs firmware. -/
def State.bootFirm (s : State) : State :=
  let s := s.keystoneCheck.rebuildKet
  let s := { s with
    par.policyBk := (s.ancGet 0x0B).setWidth 26
    hiu.tn := (List.range 1025).foldl (fun t i => tblSet ({} : Tn) i { ({} : Tn) with state := (s.ancGet (0x1100 + 3 * i)).setWidth 2 } t) [] }
  s

/-- Steps 1 to 10 of R664. The records of the MSS and the boot ROM are held with their own times until the recorder accepts them (R677);
`fresh` tells a boot after an absence of 3V3_AUX. -/
def State.bootFrom (fresh : Bool) (cause : BitVec 4) (obs : BootObs) (s : State) : State :=
  let s := s.bootStart cause obs
  let s := if fresh then { s with evr := { s.restoreEvr.evr with queue := s.evr.queue, offered := s.evr.offered } } else s
  let waiting := s.evr.queue
  let s := { s with evr.queue := [] }
  let (p, s) := s.pick obs
  let s := { s with boot.runBank := p.bank, boot.otherBank := p.other, boot.recovery := p.cause, hiu.overlay := BitVec.ofNat 2 p.code }
  let s := if p.cause = 0 then s else s.event 0xFFFF 0x0107 p.cause (b2n p.bank) 0 0
  let s := if p.halt then s else (s.identify p).bootFirm
  let s := { s with boot.log := s.boot.log ++ s.evr.queue.map (fun o => (o, s.now)), evr.queue := waiting }
  if p.halt then s.haltRom else s.findings

/-- POWER_ON (R663, R664): PWR_GOOD_IN is asserted after a period in which 3V3_AUX was absent. -/
def execPowerOn (obs : BootObs) (s : State) : Host.Outcome State Fault Refusal :=
  if !s.boot.booting || s.pwr.mainOk || s.pwr.quiesce || !s.hw.aux || !s.hw.softStart then .next s
  else .next (s.cold.bootFrom true 0 obs)

/-- Issued anchor writes complete, with what their owners do then. -/
def drainAnchors : Nat → State → State
  | 0, s => s
  | n + 1, s => if s.anc.queue.isEmpty then s else drainAnchors n s.anchorDone

/-- MODULE_RESET (R663): a reset that was asked for begins, once the anchor writes issued have ended. -/
def execModuleReset (obs : BootObs) (s : State) : Host.Outcome State Fault Refusal :=
  match s.boot.request with
  | none => .next s
  | some c =>
    if s.pwr.quiesce then .next s
    else .next ((drainAnchors (s.anc.queue.length + 64) s).warm.bootFrom false c obs)

/-- MAIN_POWER_RETURN (R653): 12 V is back after quiesce; event 0x0503, and a module reset with cause 5. -/
def execMainPowerReturn (obs : BootObs) (s : State) : Host.Outcome State Fault Refusal :=
  if !s.pwr.quiesce || s.pwr.quiesceStep != 7 || !s.hw.aux then .next s
  else .next ((s.event 1145 0x0503 s.pwr.quiesceStep 0 0 0).warm.bootFrom false 5 obs)

/-! ## Steps 11 and 12 (R259, R266, R477, R610, R664, R666, R669) -/

/-- A tenant's VOID record and its anchor write (R266). -/
def State.bootVoid (v : Nat × Nat × Nat) (s : State) : State :=
  let w := 0x400 + v.1
  if s.journalWorn v.1 then s.ancRefuse w 1
  else if !s.admits journalCost then (s.refuse journalCost).ancRefuse w 2
  else
    let s := s.jVoid v.1 v.2.1 v.2.2
    (s.ancWrite w [w64 ((s.ancGet w).toNat / 2 ^ 32 * 2 ^ 32 + tblGet 0 s.keys.seqs v.1 % 2 ^ 32)] .none).1

/-- The boot releases: ANC_BANK_SEL after a roll-back, ANC_IV_EPOCH and the VOID records, each persistent before the next. -/
def State.bootReleases (s : State) : State :=
  let drain := fun (s : State) => drainAnchors (s.anc.queue.length + 64) s
  let s := s.boot.writes.foldl (fun (s : State) w => drain (s.ancWrite w.1 w.2 .none).1) s
  let s := drain (s.ancWrite 7 [s.ancGet 7 + 1] .none).1
  let s := s.boot.voids.foldl (fun (s : State) v => drain (s.bootVoid v)) s
  { s with boot.writes := [], boot.voids := [] }

/-- The boot releases are admitted, or the store is too small for any (R651, R664). -/
def State.bootAdmitted (s : State) : Bool := s.storeIsLow || s.admits (if s.boot.voids.isEmpty then 30 else journalCost)

/-- The cluster link as the boot leaves it (R425, R441, R607): an enrolled member has to rejoin, the abutment decides. -/
def State.bootTrestle (s : State) : State :=
  let up := s.boot.enItem.getLsbD 1
  let s := { s with trs.linkA := up, trs.linkB := up }
  if !s.enrolled then s
  else if s.role = 1 then { s with trs.cstate := 3, trs.deciding := true }
  else { s with trs.cstate := 2, trs.quarAll := true }

/-- BOOT_COMPLETE (steps 11 and 12 of R664, R666, R669): the configuration is loaded and the module is ready. -/
def execBootComplete (s : State) : Host.Outcome State Fault Refusal :=
  if !s.boot.booting || !s.pwr.mainOk || s.par.held || !s.mi.dramReady || s.rng.st != 1 || s.boot.request.isSome || !s.bootAdmitted then
    .next s
  else
    let s := s.bootReleases.loadRules.loadFw
    let s := { s with
      dsp.ctrl := match s.boot.dspItem with
        | some v => v &&& 0xFF0F
        | none => s.dsp.ctrl
      pwr.envelope := match s.boot.envItem with
        | some v => v.toNat % 64
        | none => 60
      boot := { s.boot with booting := false, everReady := true, time := w32 (s.now - s.boot.started) } }
    let again := s.boot.answering
    let s := (s.bootTrestle.settleId).allocate
    let s := s.event 0xFFFF 0x0103 ((s.now - s.boot.started) / 1000) s.hiu.idState.toNat 0 0
    .next (if again then s else s.emit .drs)

end Sys2Proof.Machine
end

