-- ==== Sys2Proof/Machine/Hw.lean ====
section
/-! DEFINITION. Rails, the soft-start switch, the backup supply, the die temperature, the hold-up store's charge and the output pins
(19_module_hardware.md, 15 R563, 17 R646, R653). -/

namespace Sys2Proof.Machine

/-! ## The always-on supply (R653, R688, R691, R692, R698, R710) -/

/-- The module is OFF: the backup domain alone is powered, and the soft-start switch is open; an anchor write under way is cut off (R28,
R616, R653, R689). -/
def State.powerGone (s : State) : State :=
  { s.anchorsCut.cold with hw := { s.hw with aux := false, onStore := false, softStart := false, charger := false } }

/-- The store holds energy that can feed the always-on domain: main power is present, or a quiesce is under way on it. -/
def State.storeFeeds (s : State) : Bool := s.pwr.mainOk || (s.pwr.quiesce && s.pwr.charge != 0)

/-- AUX_POWER_LOSS (R653, R689, R692, R710): the always-on domain moves onto the store, and quiesce runs; without a charged store the
module is OFF. -/
def execAuxPowerLoss (s : State) : Host.Outcome State Fault Refusal :=
  if !s.hw.aux then .next s
  else if s.storeFeeds then
    .next ({ s with hw := { s.hw with aux := false, onStore := true, softStart := false, charger := false } }.loseMain)
  else .next s.powerGone

/-- AUX_POWER_RETURN (R28, R691): P3V3_AUX enters its range; it also feeds the backup domain. -/
def execAuxPowerReturn (s : State) : Host.Outcome State Fault Refusal :=
  .next { s with hw := { s.hw with aux := true, onStore := false, vbk := true } }

/-- CHARGE_UPDATE (R646, R653): the measured charge above the cut-off, less 2 % of NRG_FULL. A store that has come down to its cut-off
while it feeds the always-on domain leaves the module OFF. -/
def execChargeUpdate (measured : Nat) (s : State) : Host.Outcome State Fault Refusal :=
  if s.backupOnly then .next s
  else if measured = 0 ∧ s.hw.onStore then .next s.powerGone
  else .next { s with pwr.charge := measured - s.pwr.full * 2 / 100 }

/-- BACKUP_SUPPLY_LOSS (R516, R528, R698): V_BK falls below 2.0 V while no other supply is there; the Keystone, the log, the counter
and the latches are lost, and the copy of the policy reads its shipped value. -/
def execBackupSupplyLoss (s : State) : Host.Outcome State Fault Refusal :=
  if !s.backupOnly then .next s
  else .next { s with
    ks := {}
    par := {}
    backupUs := 0
    hw := { s.hw with vbk := false } }

/-! ## The soft-start switch (R689, R690, R710) -/

/-- The switch opens: 12 V no longer reaches the module, and main power is lost. -/
def State.openSwitch (s : State) : State := { s with hw := { s.hw with softStart := false, charger := false } }.loseMain

/-- SOFT_START_TRIP (R689). -/
def execSoftStartTrip (s : State) : Host.Outcome State Fault Refusal :=
  if s.hw.softStart then .next s.openSwitch else .next s

/-- REVERSE_CURRENT_TRIP (R689). -/
def execReverseCurrentTrip (s : State) : Host.Outcome State Fault Refusal :=
  if s.hw.softStart then .next s.openSwitch else .next s

/-- SOFT_START_CLOSE (R689, R690): with P3V3_AUX in range the switch closes and the charger may run. -/
def execSoftStartClose (s : State) : Host.Outcome State Fault Refusal :=
  if s.hw.aux then .next { s with hw := { s.hw with softStart := true, charger := true } } else .next s

/-! ## Temperature and outputs (R563, R564, R686) -/

/-- TEMPERATURE_ALERT (R563): PAR_TEMP follows the die, and above 100 °C ALERT_CAUSE bit 0 is set. -/
def execTemperatureAlert (tenths : BitVec 16) (s : State) : Host.Outcome State Fault Refusal :=
  if s.backupOnly then .next s
  else .next { s with
    par.temp := tenths
    mss.alert := if 1000 < tenths.toInt then s.mss.alert ||| 1 else s.mss.alert }

/-- How STATUS_LED[2] shows (R686). -/
inductive Led where
  | low
  | high
  | blink
deriving DecidableEq, Repr

/-- STATUS_LED[2]. -/
def State.led2 (s : State) : Led :=
  if s.pwr.quiesce || s.boot.booting then .blink
  else if s.boot.romHalt || s.hiu.overlay == 2 then .high
  else .low

/-- SMB_ALERT# is asserted (R564). -/
def State.smbAlert (s : State) : Bool := s.mss.alert != 0

end Sys2Proof.Machine
end

