-- ==== Sys2Proof/Machine/Dispatch.lean ====
section
/-! DEFINITION. One arm for each command: the direct call of its meaning. -/

namespace Sys2Proof.Machine

def exec (i : Instr) (s : State) : Host.Outcome State Fault Refusal :=
  match i with
  | .registerWrite v r value => Sys2Proof.Machine.execRegisterWrite v r value s
  | .clockMonitorWindow pll inTolerance => Sys2Proof.Machine.execClockMonitorWindow pll inTolerance s
  | .fabricPllFail cause => Sys2Proof.Machine.execFabricPllFail cause s
  | .standbyPllFail => Sys2Proof.Machine.execStandbyPllFail s
  | .pllQuarantineEnd pll pass => Sys2Proof.Machine.execPllQuarantineEnd pll pass s
  | .mssPllLoss => Sys2Proof.Machine.execMssPllLoss s
  | .mssPllRelock => Sys2Proof.Machine.execMssPllRelock s
  | .pierGroupPowerUp g => Sys2Proof.Machine.execPierGroupPowerUp g s
  | .bayPowerGate b => Sys2Proof.Machine.execBayPowerGate b s
  | .bayWake b => Sys2Proof.Machine.execBayWake b s
  | .bayWakeDone b => Sys2Proof.Machine.execBayWakeDone b s
  | .sqDoorbell f q t => Sys2Proof.Machine.execSqDoorbell f q t s
  | .cqHeadWrite f q h => Sys2Proof.Machine.execCqHeadWrite f q h s
  | .qpEnable f q cfg => Sys2Proof.Machine.execQpEnable f q cfg s
  | .qpDisable f q => Sys2Proof.Machine.execQpDisable f q s
  | .fetchGrant => Sys2Proof.Machine.execFetchGrant s
  | .descriptorArrival tag descs => Sys2Proof.Machine.execDescriptorArrival tag descs s
  | .descriptorReadError tag e => Sys2Proof.Machine.execDescriptorReadError tag e s
  | .inputReadComplete d n r => Sys2Proof.Machine.execInputReadComplete d n r s
  | .imodTimerExpiry f q => Sys2Proof.Machine.execImodTimerExpiry f q s
  | .msixUnmask f v => Sys2Proof.Machine.execMsixUnmask f v s
  | .tenantRecordWrite f fld value => Sys2Proof.Machine.execTenantRecordWrite f fld value s
  | .tenantSuspend f on => Sys2Proof.Machine.execTenantSuspend f on s
  | .vfFlr f => Sys2Proof.Machine.execVfFlr f s
  | .vfSessionsClear f => Sys2Proof.Machine.execVfSessionsClear f s
  | .vfFlrReady f => Sys2Proof.Machine.execVfFlrReady f s
  | .pfFlr => Sys2Proof.Machine.execPfFlr s
  | .pfFlrReady => Sys2Proof.Machine.execPfFlrReady s
  | .vfEnableClear => Sys2Proof.Machine.execVfEnableClear s
  | .vfEnableSet numVfs => Sys2Proof.Machine.execVfEnableSet numVfs s
  | .hotReset => Sys2Proof.Machine.execHotReset s
  | .dlDown => Sys2Proof.Machine.execDlDown s
  | .perstAssert => Sys2Proof.Machine.execPerstAssert s
  | .perstDeassert => Sys2Proof.Machine.execPerstDeassert s
  | .configRequest f d3 => Sys2Proof.Machine.execConfigRequest f d3 s
  | .takePortRead p => Sys2Proof.Machine.execTakePortRead p s
  | .itemGrant => Sys2Proof.Machine.execItemGrant s
  | .itemPost p => Sys2Proof.Machine.execItemPost p s
  | .releaseTest d entryLost flip => Sys2Proof.Machine.execReleaseTest d entryLost flip s
  | .releaseEnd d => Sys2Proof.Machine.execReleaseEnd d s
  | .deadlineExpiry d => Sys2Proof.Machine.execDeadlineExpiry d s
  | .itemWatchdogExpiry p => Sys2Proof.Machine.execItemWatchdogExpiry p s
  | .pierStallDetect p => Sys2Proof.Machine.execPierStallDetect p s
  | .stepMonitorFault d => Sys2Proof.Machine.execStepMonitorFault d s
  | .pierFault p localMemory => Sys2Proof.Machine.execPierFault p localMemory s
  | .pierSelfTestEnd p pass => Sys2Proof.Machine.execPierSelfTestEnd p pass s
  | .pinTranslate d => Sys2Proof.Machine.execPinTranslate d s
  | .pinVerifyOffset d => Sys2Proof.Machine.execPinVerifyOffset d s
  | .pinGenerateOffset d => Sys2Proof.Machine.execPinGenerateOffset d s
  | .dukptPinTranslate d => Sys2Proof.Machine.execDukptPinTranslate d s
  | .dukptMacVerify d => Sys2Proof.Machine.execDukptMacVerify d s
  | .macGenerate d => Sys2Proof.Machine.execMacGenerate d s
  | .macVerify d => Sys2Proof.Machine.execMacVerify d s
  | .emvArqcVerify d => Sys2Proof.Machine.execEmvArqcVerify d s
  | .emvArpcGenerate d => Sys2Proof.Machine.execEmvArpcGenerate d s
  | .cvcGenerate d => Sys2Proof.Machine.execCvcGenerate d s
  | .cvcVerify d => Sys2Proof.Machine.execCvcVerify d s
  | .fpeFf1 d => Sys2Proof.Machine.execFpeFf1 d s
  | .xtsSector d => Sys2Proof.Machine.execXtsSector d s
  | .pkSign d => Sys2Proof.Machine.execPkSign d s
  | .pkVerify d => Sys2Proof.Machine.execPkVerify d s
  | .pkEcdh d => Sys2Proof.Machine.execPkEcdh d s
  | .pkKeygen d => Sys2Proof.Machine.execPkKeygen d s
  | .rsaDecrypt d => Sys2Proof.Machine.execRsaDecrypt d s
  | .sessionExpiry f ix => Sys2Proof.Machine.execSessionExpiry f ix s
  | .keyImportBlock d => Sys2Proof.Machine.execKeyImportBlock d s
  | .keyExportBlock d => Sys2Proof.Machine.execKeyExportBlock d s
  | .keyGenerate d => Sys2Proof.Machine.execKeyGenerate d s
  | .keyReplaceStage d => Sys2Proof.Machine.execKeyReplaceStage d s
  | .keyReplaceCommit d => Sys2Proof.Machine.execKeyReplaceCommit d s
  | .keyReplaceAbandon d => Sys2Proof.Machine.execKeyReplaceAbandon d s
  | .keyReplaceStatus d => Sys2Proof.Machine.execKeyReplaceStatus d s
  | .keyRevoke d => Sys2Proof.Machine.execKeyRevoke d s
  | .keyRewrap d => Sys2Proof.Machine.execKeyRewrap d s
  | .random d => Sys2Proof.Machine.execRandom d s
  | .keyStateRead d => Sys2Proof.Machine.execKeyStateRead d s
  | .sessionCloseAll d => Sys2Proof.Machine.execSessionCloseAll d s
  | .keyFillComplete d r => Sys2Proof.Machine.execKeyFillComplete d r s
  | .keyBusRequest e => Sys2Proof.Machine.execKeyBusRequest e s
  | .keyBusSecondDecision e flip => Sys2Proof.Machine.execKeyBusSecondDecision e flip s
  | .anchorWindowExpiry t => Sys2Proof.Machine.execAnchorWindowExpiry t s
  | .journalRecordPersistent => Sys2Proof.Machine.execJournalRecordPersistent s
  | .journalHalfErase => Sys2Proof.Machine.execJournalHalfErase s
  | .kcFlush t => Sys2Proof.Machine.execKcFlush t s
  | .kcFlushDone => Sys2Proof.Machine.execKcFlushDone s
  | .generate => Sys2Proof.Machine.execGenerate s
  | .clear => Sys2Proof.Machine.execClear s
  | .chainPlace p k entries => Sys2Proof.Machine.execChainPlace p k entries s
  | .ecbEncrypt e => Sys2Proof.Machine.execEcbEncrypt e s
  | .ecbDecrypt e => Sys2Proof.Machine.execEcbDecrypt e s
  | .cbcEncrypt e => Sys2Proof.Machine.execCbcEncrypt e s
  | .cbcDecrypt e => Sys2Proof.Machine.execCbcDecrypt e s
  | .ctr e => Sys2Proof.Machine.execCtr e s
  | .cfbEncrypt e => Sys2Proof.Machine.execCfbEncrypt e s
  | .cfbDecrypt e => Sys2Proof.Machine.execCfbDecrypt e s
  | .gcmEncrypt e => Sys2Proof.Machine.execGcmEncrypt e s
  | .gcmDecrypt e => Sys2Proof.Machine.execGcmDecrypt e s
  | .cmacGenerate e => Sys2Proof.Machine.execCmacGenerate e s
  | .cmacVerify e => Sys2Proof.Machine.execCmacVerify e s
  | .alg1MacGenerate e => Sys2Proof.Machine.execAlg1MacGenerate e s
  | .alg1MacVerify e => Sys2Proof.Machine.execAlg1MacVerify e s
  | .alg3MacGenerate e => Sys2Proof.Machine.execAlg3MacGenerate e s
  | .alg3MacVerify e => Sys2Proof.Machine.execAlg3MacVerify e s
  | .engineCvcGenerate e => Sys2Proof.Machine.execEngineCvcGenerate e s
  | .engineCvcVerify e => Sys2Proof.Machine.execEngineCvcVerify e s
  | .ff1Round e => Sys2Proof.Machine.execFf1Round e s
  | .xtsEncrypt e => Sys2Proof.Machine.execXtsEncrypt e s
  | .xtsDecrypt e => Sys2Proof.Machine.execXtsDecrypt e s
  | .deriveToSlot e => Sys2Proof.Machine.execDeriveToSlot e s
  | .deriveOut e => Sys2Proof.Machine.execDeriveOut e s
  | .pinOpen e => Sys2Proof.Machine.execPinOpen e s
  | .pinSeal e => Sys2Proof.Machine.execPinSeal e s
  | .pinOffsetGenerate e => Sys2Proof.Machine.execPinOffsetGenerate e s
  | .pinOffsetVerify e => Sys2Proof.Machine.execPinOffsetVerify e s
  | .pinVvGenerate e => Sys2Proof.Machine.execPinVvGenerate e s
  | .pinVvVerify e => Sys2Proof.Machine.execPinVvVerify e s
  | .sha256 e => Sys2Proof.Machine.execSha256 e s
  | .sha384 e => Sys2Proof.Machine.execSha384 e s
  | .sha512 e => Sys2Proof.Machine.execSha512 e s
  | .hmacGenerate e => Sys2Proof.Machine.execHmacGenerate e s
  | .hmacVerify e => Sys2Proof.Machine.execHmacVerify e s
  | .rsaPrivateOp e => Sys2Proof.Machine.execRsaPrivateOp e s
  | .rsaPublicOp e => Sys2Proof.Machine.execRsaPublicOp e s
  | .rsaOaepDecrypt e => Sys2Proof.Machine.execRsaOaepDecrypt e s
  | .rsaV15Decrypt e => Sys2Proof.Machine.execRsaV15Decrypt e s
  | .rsaKeygen e => Sys2Proof.Machine.execRsaKeygen e s
  | .rsaPublicFromPrivate e => Sys2Proof.Machine.execRsaPublicFromPrivate e s
  | .ecdsaSign e => Sys2Proof.Machine.execEcdsaSign e s
  | .ecdsaVerify e => Sys2Proof.Machine.execEcdsaVerify e s
  | .ecdhKdf e => Sys2Proof.Machine.execEcdhKdf e s
  | .ecKeygen e => Sys2Proof.Machine.execEcKeygen e s
  | .ecPublicFromScalar e => Sys2Proof.Machine.execEcPublicFromScalar e s
  | .x25519Kdf e => Sys2Proof.Machine.execX25519Kdf e s
  | .ed25519Sign e => Sys2Proof.Machine.execEd25519Sign e s
  | .ed25519Verify e => Sys2Proof.Machine.execEd25519Verify e s
  | .curve25519Keygen e => Sys2Proof.Machine.execCurve25519Keygen e s
  | .engineResponse p => Sys2Proof.Machine.execEngineResponse p s
  | .engineFaultDetect e kind => Sys2Proof.Machine.execEngineFaultDetect e kind s
  | .engineSelfTestEnd e pass => Sys2Proof.Machine.execEngineSelfTestEnd e pass s
  | .pksFaultDetect e kind => Sys2Proof.Machine.execPksFaultDetect e kind s
  | .pksSelfTestEnd e result => Sys2Proof.Machine.execPksSelfTestEnd e result s
  | .bayPark pk value => Sys2Proof.Machine.execBayPark pk value s
  | .load => Sys2Proof.Machine.execLoad s
  | .ucodeLoadDone bad => Sys2Proof.Machine.execUcodeLoadDone bad s
  | .lock => Sys2Proof.Machine.execLock s
  | .pksScrub value => Sys2Proof.Machine.execPksScrub value s
  | .scrubEnd e => Sys2Proof.Machine.execScrubEnd e s
  | .mulacc aSlot bWord => Sys2Proof.Machine.execMulacc aSlot bWord s
  | .mulaccShift aSlot bWord => Sys2Proof.Machine.execMulaccShift aSlot bWord s
  | .accClear => Sys2Proof.Machine.execAccClear s
  | .accStore dst => Sys2Proof.Machine.execAccStore dst s
  | .ramClear => Sys2Proof.Machine.execRamClear s
  | .adaptiveWindowEnd n samples => Sys2Proof.Machine.execAdaptiveWindowEnd n samples s
  | .sourceExclude n test => Sys2Proof.Machine.execSourceExclude n test s
  | .sourceStartupTestEnd n samples => Sys2Proof.Machine.execSourceStartupTestEnd n samples s
  | .seedReady => Sys2Proof.Machine.execSeedReady s
  | .expanderReseedDue x => Sys2Proof.Machine.execExpanderReseedDue x s
  | .rngDraw port len => Sys2Proof.Machine.execRngDraw port len s
  | .drawServed => Sys2Proof.Machine.execDrawServed s
  | .rngDataRead => Sys2Proof.Machine.execRngDataRead s
  | .rngRawRead samples => Sys2Proof.Machine.execRngRawRead samples s
  | .rngKat value => Sys2Proof.Machine.execRngKat value s
  | .rngKatEnd pass => Sys2Proof.Machine.execRngKatEnd pass s
  | .rawEnWrite value => Sys2Proof.Machine.execRawEnWrite value s
  | .heartbeat h => Sys2Proof.Machine.execHeartbeat h s
  | .ackOnly h => Sys2Proof.Machine.execAckOnly h s
  | .enrolHello h serial rejoin ivEpoch => Sys2Proof.Machine.execEnrolHello h serial rejoin ivEpoch s
  | .enrolChallenge h nonce report cert ephPub => Sys2Proof.Machine.execEnrolChallenge h nonce report cert ephPub s
  | .enrolResponse h report cert ephPub ckseqs => Sys2Proof.Machine.execEnrolResponse h report cert ephPub ckseqs s
  | .enrolGrant h authentic g => Sys2Proof.Machine.execEnrolGrant h authentic g s
  | .enrolDone h member => Sys2Proof.Machine.execEnrolDone h member s
  | .sakSet h neighbour keys => Sys2Proof.Machine.execSakSet h neighbour keys s
  | .remove h member => Sys2Proof.Machine.execRemove h member s
  | .repl h seq r => Sys2Proof.Machine.execRepl h seq r s
  | .replAck h seq => Sys2Proof.Machine.execReplAck h seq s
  | .propose h p ownBlobs => Sys2Proof.Machine.execPropose h p ownBlobs s
  | .verdict h pid yes noSpans => Sys2Proof.Machine.execVerdict h pid yes noSpans s
  | .decision h pid go excluded => Sys2Proof.Machine.execDecision h pid go excluded s
  | .apply h a => Sys2Proof.Machine.execApply h a s
  | .applied h pid noSpans => Sys2Proof.Machine.execApplied h pid noSpans s
  | .withdraw h pid => Sys2Proof.Machine.execWithdraw h pid s
  | .resyncReq h tenant => Sys2Proof.Machine.execResyncReq h tenant s
  | .resyncData h m => Sys2Proof.Machine.execResyncData h m s
  | .takeoverCall h term => Sys2Proof.Machine.execTakeoverCall h term s
  | .vote h term replSeq lostMs => Sys2Proof.Machine.execVote h term replSeq lostMs s
  | .takeover h term member => Sys2Proof.Machine.execTakeover h term member s
  | .crkPrepare h epoch crk tdkBlobs => Sys2Proof.Machine.execCrkPrepare h epoch crk tdkBlobs s
  | .crkReady h member yes => Sys2Proof.Machine.execCrkReady h member yes s
  | .crkCommit h => Sys2Proof.Machine.execCrkCommit h s
  | .heartbeatTimer p neighbour => Sys2Proof.Machine.execHeartbeatTimer p neighbour s
  | .resendTimer neighbour => Sys2Proof.Machine.execResendTimer neighbour s
  | .portFail p neighbour => Sys2Proof.Machine.execPortFail p neighbour s
  | .portRecover p neighbour => Sys2Proof.Machine.execPortRecover p neighbour s
  | .leaseExpiry => Sys2Proof.Machine.execLeaseExpiry s
  | .verdictDeadline pid => Sys2Proof.Machine.execVerdictDeadline pid s
  | .decisionDeadline pid flip => Sys2Proof.Machine.execDecisionDeadline pid flip s
  | .clTimeoutExpiry d => Sys2Proof.Machine.execClTimeoutExpiry d s
  | .abutmentLossTimer => Sys2Proof.Machine.execAbutmentLossTimer s
  | .enrolHelloTimer => Sys2Proof.Machine.execEnrolHelloTimer s
  | .sakRollover => Sys2Proof.Machine.execSakRollover s
  | .resync => Sys2Proof.Machine.execResync s
  | .interconnectAccess a => Sys2Proof.Machine.execInterconnectAccess a s
  | .tgHold => Sys2Proof.Machine.execTgHold s
  | .tgDrained => Sys2Proof.Machine.execTgDrained s
  | .tgEnable => Sys2Proof.Machine.execTgEnable s
  | .tgRuleWrite ix word value => Sys2Proof.Machine.execTgRuleWrite ix word value s
  | .holdLong => Sys2Proof.Machine.execHoldLong s
  | .tgFaultRearm => Sys2Proof.Machine.execTgFaultRearm s
  | .sramScrub m inst addr ecc => Sys2Proof.Machine.execSramScrub m inst addr ecc s
  | .dramScrub stripe ecc => Sys2Proof.Machine.execDramScrub stripe ecc s
  | .dieMarkFailed die => Sys2Proof.Machine.execDieMarkFailed die s
  | .eccTestMode en => Sys2Proof.Machine.execEccTestMode en s
  | .dramKeyWrite key => Sys2Proof.Machine.execDramKeyWrite key s
  | .zeroFillEnd => Sys2Proof.Machine.execZeroFillEnd s
  | .loopCheck failed => Sys2Proof.Machine.execLoopCheck failed s
  | .alarmLatch src => Sys2Proof.Machine.execAlarmLatch src s
  | .parapetDecisionEnd disturbed => Sys2Proof.Machine.execParapetDecisionEnd disturbed s
  | .sourceRearm src => Sys2Proof.Machine.execSourceRearm src s
  | .policyOpen => Sys2Proof.Machine.execPolicyOpen s
  | .parPolicyWrite value => Sys2Proof.Machine.execParPolicyWrite value s
  | .policyWindowClose => Sys2Proof.Machine.execPolicyWindowClose s
  | .alarmClr => Sys2Proof.Machine.execAlarmClr s
  | .bootHoldRelease => Sys2Proof.Machine.execBootHoldRelease s
  | .recordOffer source code p0 p1 p2 p3 => Sys2Proof.Machine.execRecordOffer source code p0 p1 p2 p3 s
  | .recordAccept => Sys2Proof.Machine.execRecordAccept s
  | .ceilingRaiseDone => Sys2Proof.Machine.execCeilingRaiseDone s
  | .ceilingRetry => Sys2Proof.Machine.execCeilingRetry s
  | .secondEnd => Sys2Proof.Machine.execSecondEnd s
  | .evrWrGo => Sys2Proof.Machine.execEvrWrGo s
  | .evrClear => Sys2Proof.Machine.execEvrClear s
  | .mssWatchdogExpiry => Sys2Proof.Machine.execMssWatchdogExpiry s
  | .warmRestartEnd imageOk => Sys2Proof.Machine.execWarmRestartEnd imageOk s
  | .smbStatus => Sys2Proof.Machine.execSmbStatus s
  | .smbTemp tenths => Sys2Proof.Machine.execSmbTemp tenths s
  | .smbV12 mV => Sys2Proof.Machine.execSmbV12 mV s
  | .smbI12 mA => Sys2Proof.Machine.execSmbI12 mA s
  | .smbPower tenths => Sys2Proof.Machine.execSmbPower tenths s
  | .smbHoldup => Sys2Proof.Machine.execSmbHoldup s
  | .smbSerial => Sys2Proof.Machine.execSmbSerial s
  | .smbVersions => Sys2Proof.Machine.execSmbVersions s
  | .smbAlertCause => Sys2Proof.Machine.execSmbAlertCause s
  | .smbusAlertResponse => Sys2Proof.Machine.execSmbusAlertResponse s
  | .serviceFrame src msgId index count payload => Sys2Proof.Machine.execServiceFrame src msgId index count payload s
  | .fragmentTimeout msgId => Sys2Proof.Machine.execFragmentTimeout msgId s
  | .nonceReq path tag => Sys2Proof.Machine.execNonceReq path tag s
  | .attest path tag nonce => Sys2Proof.Machine.execAttest path tag nonce s
  | .officerRead path tag => Sys2Proof.Machine.execOfficerRead path tag s
  | .ccPart tag body parentBlob => Sys2Proof.Machine.execCcPart tag body parentBlob s
  | .sensors path tag temp v12 i12 power => Sys2Proof.Machine.execSensors path tag temp v12 i12 power s
  | .tenantInfo t tag => Sys2Proof.Machine.execTenantInfo t tag s
  | .vfMbxGo t => Sys2Proof.Machine.execVfMbxGo t s
  | .commission r => Sys2Proof.Machine.execCommission r s
  | .decommission r => Sys2Proof.Machine.execDecommission r s
  | .officerTable r => Sys2Proof.Machine.execOfficerTable r s
  | .tenantCreate r => Sys2Proof.Machine.execTenantCreate r s
  | .tenantConfig r => Sys2Proof.Machine.execTenantConfig r s
  | .tenantRemove r => Sys2Proof.Machine.execTenantRemove r s
  | .ccImport r => Sys2Proof.Machine.execCcImport r s
  | .drkBackup r => Sys2Proof.Machine.execDrkBackup r s
  | .tamperPolicy r => Sys2Proof.Machine.execTamperPolicy r s
  | .recorderClear r => Sys2Proof.Machine.execRecorderClear r s
  | .firmwareStageActivate r image => Sys2Proof.Machine.execFirmwareStageActivate r image s
  | .firmwareActivateInactive r => Sys2Proof.Machine.execFirmwareActivateInactive r s
  | .firmwareRaiseMinimums r => Sys2Proof.Machine.execFirmwareRaiseMinimums r s
  | .overlaySelect r => Sys2Proof.Machine.execOverlaySelect r s
  | .clusterEnrolJoin r => Sys2Proof.Machine.execClusterEnrolJoin r s
  | .clusterRemove r => Sys2Proof.Machine.execClusterRemove r s
  | .crkChange r => Sys2Proof.Machine.execCrkChange r s
  | .clusterParameters r => Sys2Proof.Machine.execClusterParameters r s
  | .nonceLapse => Sys2Proof.Machine.execNonceLapse s
  | .ceremonyWindowEnd => Sys2Proof.Machine.execCeremonyWindowEnd s
  | .anchorWriteComplete => Sys2Proof.Machine.execAnchorWriteComplete s
  | .ancMarkWorn value => Sys2Proof.Machine.execAncMarkWorn value s
  | .cfgRead => Sys2Proof.Machine.execCfgRead s
  | .cfgProgram => Sys2Proof.Machine.execCfgProgram s
  | .cfgErase => Sys2Proof.Machine.execCfgErase s
  | .cfgHash => Sys2Proof.Machine.execCfgHash s
  | .cfgCmdDone ok => Sys2Proof.Machine.execCfgCmdDone ok s
  | .wait => Sys2Proof.Machine.execWait s
  | .entryStepEnd => Sys2Proof.Machine.execEntryStepEnd s
  | .drowseIdleExpiry => Sys2Proof.Machine.execDrowseIdleExpiry s
  | .wakeEvent src => Sys2Proof.Machine.execWakeEvent src s
  | .wakeTimer => Sys2Proof.Machine.execWakeTimer s
  | .drowseWakeDone first => Sys2Proof.Machine.execDrowseWakeDone first s
  | .dormantWakeDone => Sys2Proof.Machine.execDormantWakeDone s
  | .padRelease groups => Sys2Proof.Machine.execPadRelease groups s
  | .chargeUpdate measured => Sys2Proof.Machine.execChargeUpdate measured s
  | .mainPowerLoss => Sys2Proof.Machine.execMainPowerLoss s
  | .quiesceDone => Sys2Proof.Machine.execQuiesceDone s
  | .mainPowerReturn obs => Sys2Proof.Machine.execMainPowerReturn obs s
  | .envelopeWrite value => Sys2Proof.Machine.execEnvelopeWrite value s
  | .envelopeMet => Sys2Proof.Machine.execEnvelopeMet s
  | .powerOn obs => Sys2Proof.Machine.execPowerOn obs s
  | .moduleReset obs => Sys2Proof.Machine.execModuleReset obs s
  | .bootComplete => Sys2Proof.Machine.execBootComplete s
  | .auxPowerLoss => Sys2Proof.Machine.execAuxPowerLoss s
  | .softStartTrip => Sys2Proof.Machine.execSoftStartTrip s
  | .reverseCurrentTrip => Sys2Proof.Machine.execReverseCurrentTrip s
  | .auxPowerReturn => Sys2Proof.Machine.execAuxPowerReturn s
  | .softStartClose => Sys2Proof.Machine.execSoftStartClose s
  | .backupSupplyLoss => Sys2Proof.Machine.execBackupSupplyLoss s
  | .keptRecordFlashWriteDone => Sys2Proof.Machine.execKeptRecordFlashWriteDone s
  | .quarantineCountAgeOut u => Sys2Proof.Machine.execQuarantineCountAgeOut u s
  | .hostCompletionTimeout r => Sys2Proof.Machine.execHostCompletionTimeout r s
  | .temperatureAlert tenths => Sys2Proof.Machine.execTemperatureAlert tenths s
  | .sakPreviousExpiry neighbour => Sys2Proof.Machine.execSakPreviousExpiry neighbour s
  | .trestleFrameDrop => Sys2Proof.Machine.execTrestleFrameDrop s
  | .secondPllLock => Sys2Proof.Machine.execSecondPllLock s
  | .linkL12Entry => Sys2Proof.Machine.execLinkL12Entry s

end Sys2Proof.Machine
end

