-- ==== Sys2Proof/Safety.lean ====
section
/-! DEFINITION. What the statements speak of: the parts of the state that a command may change, the invariants of the
module, and the values that the spec fixes at reset. -/

namespace Sys2Proof.Machine

/-- The parts of the state, one for each field of `State`. -/
inductive Part where
  | clk | hiu | dsp | deck | keys | pay | eng | rng | trs | mss | tg | mi | par | ks | evr | anc | cfg | pwr | boot | hw
  | mem | time | irq | free | out | pending
deriving DecidableEq, Repr

/-- Every part of the state that `l` does not name is the same in `s` and in `t`: a frame. Where `.mem` is not named every
byte of the SRAM pool, the MSS SRAM and module DRAM reads as before; where `.cfg` is not named, every byte of the flash. -/
def Frame (l : List Part) (s t : State) : Prop :=
  (.clk ∈ l ∨ t.clk = s.clk) ∧ (.hiu ∈ l ∨ t.hiu = s.hiu) ∧ (.dsp ∈ l ∨ t.dsp = s.dsp) ∧ (.deck ∈ l ∨ t.deck = s.deck) ∧
  (.keys ∈ l ∨ t.keys = s.keys) ∧ (.pay ∈ l ∨ t.pay = s.pay) ∧ (.eng ∈ l ∨ t.eng = s.eng) ∧ (.rng ∈ l ∨ t.rng = s.rng) ∧
  (.trs ∈ l ∨ t.trs = s.trs) ∧ (.mss ∈ l ∨ t.mss = s.mss) ∧ (.tg ∈ l ∨ t.tg = s.tg) ∧ (.mi ∈ l ∨ t.mi = s.mi) ∧
  (.par ∈ l ∨ t.par = s.par) ∧ (.ks ∈ l ∨ t.ks = s.ks) ∧ (.evr ∈ l ∨ t.evr = s.evr) ∧ (.anc ∈ l ∨ t.anc = s.anc) ∧
  (.cfg ∈ l ∨ t.cfg = s.cfg) ∧ (.pwr ∈ l ∨ t.pwr = s.pwr) ∧ (.boot ∈ l ∨ t.boot = s.boot) ∧ (.hw ∈ l ∨ t.hw = s.hw) ∧
  (.mem ∈ l ∨ t.mem = s.mem) ∧ (.time ∈ l ∨ (t.now = s.now ∧ t.backupUs = s.backupUs)) ∧ (.irq ∈ l ∨ t.irq = s.irq) ∧
  (.free ∈ l ∨ t.free = s.free) ∧ (.out ∈ l ∨ t.out = s.out) ∧ (.pending ∈ l ∨ t.pending = s.pending)

/-- The parts of `l`, and those that recording an event and signalling it may change: the recorder, MSI-X pending bits, pending
interrupts, the WAIT that an interrupt ends, and messages sent. -/
def reports (l : List Part) : List Part := .evr :: .hiu :: .irq :: .pwr :: .out :: l

/-- The Keystone is sound (R246 to R251): without a key its register and integrity word are zero; with one the integrity word
is that of the key, and no tamper response has cleared it. -/
def KeystoneOk (k : Keystone) : Prop :=
  (k.loaded = false → k.drk = 0 ∧ k.integrity = 0) ∧
  (k.loaded = true → k.tamper = false ∧ k.integrity = drkWord (natBe 32 k.drk.toNat))

/-- A draw of `n` bytes from state `s` gives the bytes `b` and leaves the state `u`; no byte is drawn for `n = 0`. -/
def Drawn (n : Nat) (s : State) (b : Bytes) (u : State) : Prop :=
  (n = 0 ∧ b = [] ∧ u = s) ∨ (n ≠ 0 ∧ s.rngTake n = .ok b u)

/-- The post of a public-key operation's outcome (R343): its output, its answer or its check's status; none for a request that is
placed again. -/
def pkPost (g : List Guard) : PkRes → Option Post
  | .out b => some ⟨0, b, [], g⟩
  | .key _ _ => some ⟨0, [], [], g⟩
  | .verdict yes => some ⟨if yes then 0 else 1, [], [], g⟩
  | .check st => some ⟨st, [], [], g⟩
  | .retry => none

/-- The request of entry `y` is answered by the response `r`: the engine's queue is empty and the response is the last on its
pier's port (R305, R313). -/
def Answered (n : Nat) (y : QEnt) (r : Resp) (s t : State) : Prop :=
  (t.engOf n).q = [] ∧ tblGet [] t.eng.ports y.req.pier = tblGet [] s.eng.ports y.req.pier ++ [r] ∧
  .response y.req.pier r.status r.result ∈ t.out

/-- What an engine's only request comes to, by the outcome of its operation (R305, R309, R313, R314). -/
def EngineOutcome (n : Nat) (y : QEnt) (s t : State) : EngOut → Prop
  | .out b => installs y.req = false → Answered n y (doneResp y.req b b.length) s t ∧
      (if y.req.dst = 0 ∨ b = [] then t.mem = s.mem else t.mem = (s.writeMem (y.req.dst % 2 ^ 40) b).mem)
  | .verdict yes => installs y.req = false → Answered n y (bareResp y.req (b2n !yes)) s t ∧ t.mem = s.mem
  | .pin p => installs y.req = false → Answered n y (doneResp y.req [byteOf p.length] 1) s t ∧ t.mem = s.mem
  | .status st => (installs y.req = true → st ≠ 0) → Answered n y (bareResp y.req st) s t ∧ t.mem = s.mem
  | .unstated k => installs y.req = false → ∃ b : Bytes, b.length = k ∧ Answered n y (doneResp y.req b k) s t ∧ t.free = s.free + k
  | .key mat pub =>
    if y.req.toChain then installs y.req = false → Answered n y (bareResp y.req 0) s t ∧ t.mem = s.mem
    else if mat.length = matLen y.req ∧ algShape y.req.outAlg ≠ none then
      installs y.req = true → match s.installParts y.req (y.req.slot % 2 ^ 18) (partsOf y.req.outAlg mat) with
        | some (ks, _) => Answered n y { doneResp y.req pub pub.length with outSlot := ks.headD 0 } s t
        | none => (t.engOf n).q.length = 1
    else Answered n y (bareResp y.req 6) s t ∧ t.mem = s.mem

/-- The command `c` runs operation `op` on engine `n`: when the engine's only request carries it, its key is in the key register
with both decisions made (or it needs none and nothing is left to scrub), its ranges pass the test of R304 and its draw is served,
the command completes, and the outcome of the operation is what the request comes to. -/
def EngineRuns (n op : Nat) (c : Instr) : Prop :=
  ∀ (y : QEnt) (rnd : Bytes) (u s : State), s.running n = some (0, y) → (s.engOf n).q = [y] → y.req.op = op →
    s.parkMarked (bayOf n) = false → tblWf {} s.eng.eng →
    (if needsKey y.req then y.first = some true ∧ y.second = some true ∧ ∃ k, y.key = some k ∧ opSuits y.req k.alg = true
      else y.first = none ∧ mustScrub n (s.engOf n) y.req = false) →
    (y.req.fromChainData = true → (s.engOf n).cdata.isSome = true) →
    (s.addrTest n .read y.req.deckIdx y.req.src y.req.len).1 = .ok →
    (s.addrTest n .write y.req.deckIdx y.req.dst (outMax y.req)).1 = .ok →
    (48 ≤ n → y.req.aux.testBit 11 = false) → Drawn (reqDraw n y.req) s rnd u →
    ∃ t : State, exec c s = .next t ∧ Frame [.deck, .keys, .eng, .rng, .mem, .mi, .free, .out] s t ∧
      EngineOutcome n y s t (reqRun n (s.engOf n) y.req ((y.key.map (fun k => k.alg)).getD 0) ((y.key.map (fun k => k.mat)).getD [])
        (s.reqInput (s.engOf n) y.req) rnd)

/-- The header of a frame under MACsec, and whether its type is sequenced (R416, R417). -/
def macsecFrame : Instr → Option (Hdr × Bool)
  | .heartbeat h | .ackOnly h => some (h, false)
  | .enrolDone h _ | .sakSet h _ _ | .remove h _ | .repl h _ _ | .replAck h _ | .propose h _ _ | .verdict h _ _ _
  | .decision h _ _ _ | .apply h _ | .applied h _ _ | .withdraw h _ | .resyncReq h _ | .resyncData h _ | .takeoverCall h _
  | .vote h _ _ _ | .takeover h _ _ | .crkPrepare h _ _ _ | .crkReady h _ _ | .crkCommit h => some (h, true)
  | _ => none

/-- The frame `h` arrives in order from a neighbour of a running member, in that member's own term, and acknowledges no REMOVE;
`u` is the state in which what it acknowledges is released, its number is the last received and an ACK_ONLY has answered it (R415,
R417). -/
def Heard (h : Hdr) (s u : State) : Prop :=
  ∃ a : Assoc, s.trsUp = true ∧ h.term = s.term ∧ s.assocOf (s.nbrOf h.src) = some a ∧ h.seq = a.got + 1 ∧
    (∀ x ∈ a.unacked, x.1 ≤ h.ack → x.2.2 ≠ .remove (s.nbrOf h.src)) ∧
    u = { s with
      trs.assoc := tblSet none (s.nbrOf h.src)
        (some { a with got := h.seq, unacked := a.unacked.filter (fun x => decide (h.ack < x.1)) }) s.trs.assoc
      out := s.out ++ [.frame ⟨h.port, s.member, s.nbrOf h.src, 0, h.seq, s.term, 0xFFFF, !a.failed h.port⟩ .ackOnly] }

/-- The writes that a release issues, in their order, the last one its commit point (R424, R562). -/
def issuedWrites (id : Nat) : List AncW → List AncWrite
  | [] => []
  | [w] => [⟨w.1, w.2, ancCost w.2.length, .mss id⟩]
  | w :: ws => ⟨w.1, w.2, ancCost w.2.length, .none⟩ :: issuedWrites id ws

/-- An MSS release of the writes `ws` begins (R160, R562, R649): their cost joins O, they are issued in order, and the release is held
with what is to follow its commit point. -/
def ReleaseBegins (ws : List AncW) (reply : Option (Path × Word × Nat × Bytes)) (act : Option (Nat × BitVec 64 × Word × Nat))
    (eff : MssEff) (s t : State) : Prop :=
  t.pwr = { s.pwr with outstanding := s.pwr.outstanding + costOfWrites ws, cntAdmit := s.pwr.cntAdmit + 1 } ∧
  t.mss.rels = s.mss.rels ++ [⟨s.mss.nextRel, reply, act, eff⟩] ∧
  t.anc = { s.anc with queue := s.anc.queue ++ issuedWrites s.mss.nextRel ws }

/-- The reply to a request (R565, R567, R569 to R571): the PF's mailbox holds it, with DONE set and BUSY clear; the service port sends
it; a tenant's goes to its host window, when it fits there and the tenant is not fenced. -/
def Replied (p : Path) (typ : Nat) (tag : Word) (st : Nat) (body : Bytes) (s t : State) : Prop :=
  match p with
  | .pf => t.mss.mbxBusy = false ∧ t.mss.mbxDone = true ∧ t.mss.mbxReply = mgmtHead typ tag st body.length ++ body ∧
      .reply .pf typ tag st body ∈ t.out
  | .service => .reply .service typ tag st body ∈ t.out
  | .vf n => (t.vfMbx n).busy = false ∧ (t.vfMbx n).done = true ∧
      (s.winOk n (s.vfMbx n).reply.toNat (mgmtHead typ tag st body.length ++ body).length = true → s.fenced n = false →
        .hostWrite n (s.vfMbx n).reply.toNat (mgmtHead typ tag st body.length ++ body) false false ∈ t.out)

/-- An ACTION request is taken up, on the PF's or the service port's path, by MSS firmware (R562, R575, R671). -/
def TakenUp (r : ActionReq) (s : State) : Prop :=
  s.reqTaken r.path = true ∧ (r.path = .pf ∨ r.path = .service) ∧ s.boot.romHalt = false

/-- What becomes of an ACTION request that is taken up (R575, R576, R579 to R581). A body of a wrong layout and a missing ticket are
refused; a ticket that fails a check, or whose two verdicts differ, is refused with QUORUM_INVALID and its nonce lapses; neither does
anything else. A ticket that passes lets its nonce lapse too, in `u`; then a failed precondition refuses the action, and otherwise `P`
says what it does. -/
def Judged (r : ActionReq) (code layout : Nat) (tab : OffTab) (m pre : Nat) (s t : State) (P : State → Prop) : Prop :=
  if layout ≠ 0 then Replied r.path 2 r.tag layout [] s t ∧ Frame [.hiu, .mss, .out] s t ∧ t.mss.nonces = s.mss.nonces
  else if r.ticket = [] then Replied r.path 2 r.tag 0x3002 [] s t ∧ Frame [.hiu, .mss, .out] s t ∧ t.mss.nonces = s.mss.nonces
  else if r.flip = true ∨ s.ticketVerdict tab m code r.body r.ticket ≠ 0 then
    Replied r.path 2 r.tag 0x3003 [] s t ∧ Frame (reports [.mss, .free]) s t ∧ t.mss.rels = s.mss.rels ∧
      t.mss.nonces = s.mss.nonces.filter (fun x => x.1 != sub r.ticket 24 32)
  else if pre ≠ 0 then
    Replied r.path 2 r.tag pre [] s t ∧ Frame (reports [.mss]) s t ∧ t.mss.rels = s.mss.rels ∧
      t.mss.nonces = s.mss.nonces.filter (fun x => x.1 != sub r.ticket 24 32)
  else ∃ u : State, Frame (reports [.mss]) s u ∧ u.mss.rels = s.mss.rels ∧ u.mss.nextRel = s.mss.nextRel ∧
    u.mss.nonces = s.mss.nonces.filter (fun x => x.1 != sub r.ticket 24 32) ∧ P u

/-- The release of an action begins, to reply with `body` and to record the act at its commit, or it is refused with the status of its
admission and writes nothing (R562, R581, R649). -/
def ReleaseOrRefusal (r : ActionReq) (code tenant : Nat) (ws : List AncW) (body : Bytes) (eff : MssEff) (u t : State) : Prop :=
  (u.mssVerdict ws = 0 → ReleaseBegins ws (some (repOf r body)) (some (actOf code r.ticket tenant)) eff u t) ∧
  (u.mssVerdict ws ≠ 0 → Replied r.path 2 r.tag (u.mssVerdict ws) [] u t ∧ t.mss.rels = u.mss.rels ∧ t.anc.queue = u.anc.queue)

/-- A draw of `n` bytes for an action (R385): it waits, with nothing done, while the generator stalls, and fails with RNG_UNAVAILABLE. -/
def DrawnFor (r : ActionReq) (n : Nat) (s u t : State) (P : Bytes → State → Prop) : Prop :=
  match u.mssDraw n with
  | .ok b w => P b w
  | .stall => t = s
  | .fail _ => Replied r.path 2 r.tag 0x4101 [] s t ∧ t.mss.rels = s.mss.rels ∧ t.ks = s.ks ∧ t.anc.queue = s.anc.queue

/-- The record `o` joins the recorder's input queue, where its code is in no fall-back and room is left (R541, R547, R548). -/
def Recorded (o : Offer) (s t : State) : Prop :=
  histFind o.code s.evr.hist = none → tblGet 0 s.evr.offered o.code.toNat < 1000 → s.evr.queue.length < 62 →
    ∃ l : List Offer, t.evr.queue = s.evr.queue ++ l ∧ o ∈ l

end Sys2Proof.Machine
end

