-- ==== Sys2Proof/Certificates/Slice0/Obligations.lean ====
section
/-! DEFINITION. The statements for the provers, in the order of the spec's sections. A statement about one command says under
which conditions on the state and the operands it has its own effect, what the next state then is, and what stays the same. -/

open Sys2Proof Sys2Proof.Machine

/-- The queue is the model's own (log 2): the command at its front is executed on the state whose queue is the rest, and what that
execution answers is the step's answer. With no command waiting the step is an idle one, in which device time moves on by 1 µs: the
model's choice of log 2. -/
def Obligations.StepExecutesTheFront : Prop :=
  (∀ (c : Instr) (s : State), Machine.step { s with pending := c :: s.pending } = exec c s) ∧
  (∀ (c : Instr) (l : List Instr) (s : State), s.pending = c :: l → Machine.step s = exec c { s with pending := l }) ∧
  (∀ s : State, s.pending = [] → Machine.step s = .next { s with now := s.now + 1, backupUs := s.backupUs + 1 })

/-- Derived from the reset columns of R53 to R56, R72 to R74, R180, R298, R659, R661 and R662, from R87, R178 and R619. The queue is empty
and memory lists nothing (a byte that nothing has written reads 0, R487 and R494). That the state at reset is the start of a first boot
with an anchor store as at manufacture is the model's choice (log 60). -/
def Obligations.ResetValues : Prop :=
  State.reset.pending = [] ∧ State.reset.mem = [] ∧ State.reset.boot.booting = true ∧
  State.reset.hiu.idState = 0 ∧ State.reset.hiu.dpUp = false ∧
  (∀ f q : Nat, State.reset.qpOf f q =
    ⟨0, 0, 0, 0, 0, 0, 0, 1, 0, false, 0⟩ ∧ (State.reset.qpOf f q).imod = 1 ∧ (State.reset.qpOf f q).en = false) ∧
  (∀ k : Nat, (tblGet ({} : Msix) State.reset.hiu.msix k).masked = true) ∧
  (∀ n : Nat, State.reset.tnOf n = ⟨0, 0, 0x310, 0x100, 0, 0, 0, 0, false, 0, false⟩ ∧ (State.reset.tnOf n).sched = 0x310) ∧
  State.reset.dsp.ctrl = 0x4004 ∧ State.reset.dsp.pierPtr = 0 ∧ State.reset.deck.ent = [] ∧ State.reset.keys.ctrl = 3 ∧
  (∀ w : Nat, State.reset.ancGet w = if w = 0x0B then 0x01AA003F else 0) ∧
  State.reset.pwr.state = 0 ∧ State.reset.pwr.mode = 0 ∧ State.reset.pwr.wakeEn = 0x1D ∧ State.reset.pwr.wakePend = 0 ∧
  State.reset.pwr.policy = 0x64 ∧ State.reset.pwr.alloc = 0x00F01A90 ∧ State.reset.pwr.evt = 0 ∧
  State.reset.pwr.outstanding = 0 ∧ KeystoneOk State.reset.ks ∧ Memory.wf 0 State.reset.mem ∧ Memory.wf 0xFF State.reset.cfg.flash

/-- The spec gives every command of the table an effect, if it be none in the state it comes in, so that no command faults and none is
refused; and no command takes another off the queue or puts one on it, for the queue is the model's own (log 2). -/
def Obligations.EveryCommandCompletes : Prop :=
  ∀ (c : Instr) (s : State), ∃ t : State, exec c s = .next t ∧ t.pending = s.pending

/-- Derived from R246 to R251, R521 and R522: whatever command is executed, the Keystone holds a key only together with that key's
integrity word and no erasure since, and an empty Keystone holds zeros in both. The SRAM pool, MSS SRAM and DRAM, and the configuration
flash, keep the one canonical form in which they are held: equal contents are equal data. -/
def Obligations.KeystoneAndMemoriesKept : Prop :=
  ∀ s t : State, KeystoneOk s.ks → Memory.wf 0 s.mem → Memory.wf 0xFF s.cfg.flash → Machine.step s = .next t →
    KeystoneOk t.ks ∧ Memory.wf 0 t.mem ∧ Memory.wf 0xFF t.cfg.flash

/-- Derived from R22 to R26. A window of a quarantined PLL counts towards its return and one out of tolerance begins the count
anew; a window in tolerance of any other running PLL changes nothing; one out of tolerance of the active PLL is its failure.
When the active PLL of a running fabric fails, the standby takes the fabric clock where there is one, and the failed PLL is
quarantined with its count at zero; with no standby the fabric stops and a module reset is requested (cause 1), which stops
grants, releases and fetches and changes nothing else. The standby's failure quarantines it and changes nothing else. A
quarantined PLL returns as standby after 1,000 windows, with event 0x0409. After a wake the second PLL locks as standby. -/
def Obligations.FabricPllsFailAndReturn : Prop :=
  (∀ (p : PllName) (b : Bool) (s : State), (s.pll p).running = true → (s.pll p).quarantined = true →
    exec (.clockMonitorWindow p b) s = .next (s.setPll p { s.pll p with
      locked := b, windows := if b then min 1000 ((s.pll p).windows + 1) else 0 })) ∧
  (∀ (p : PllName) (s : State), (s.pll p).running = true → (s.pll p).quarantined = false →
    exec (.clockMonitorWindow p true) s = .next s) ∧
  (∀ (s : State), (s.pll s.clk.active).running = true → (s.pll s.clk.active).quarantined = false →
    exec (.clockMonitorWindow s.clk.active false) s = exec (.fabricPllFail 1) s) ∧
  (∀ (cause : Fin 3) (s : State), (s.pll s.clk.active).running = true → s.clk.stopped = false → s.pwr.state = 0 →
    (s.pll (otherPll s.clk.active)).standby = true →
    ∃ t : State, exec (.fabricPllFail cause) s = .next t ∧ t.clk.active = otherPll s.clk.active ∧ t.clk.stopped = false ∧
      t.pll s.clk.active = { s.pll s.clk.active with locked := cause != 0, quarantined := true, windows := 0 } ∧
      t.pll (otherPll s.clk.active) = s.pll (otherPll s.clk.active) ∧
      Frame (reports [.clk, .dsp, .deck, .keys, .eng, .trs, .mi, .anc, .boot]) s t) ∧
  (∀ (cause : Fin 3) (s : State), (s.pll s.clk.active).running = true → s.clk.stopped = false → s.pwr.state = 0 →
    (s.pll (otherPll s.clk.active)).standby = false → s.pwr.quiesce = false →
    ∃ t : State, exec (.fabricPllFail cause) s = .next t ∧ t.clk.stopped = true ∧ t.clk.active = s.clk.active ∧
      (t.pll s.clk.active).quarantined = true ∧
      t.boot.request = (if s.boot.request.isSome then s.boot.request else some 1) ∧
      (s.boot.request = none → t.dsp.noGrant = true ∧ t.deck.noRelease = true ∧ t.hiu.noFetch = true) ∧
      t = { s with clk := t.clk, boot.request := t.boot.request, dsp.noGrant := t.dsp.noGrant,
                   deck.noRelease := t.deck.noRelease, hiu.noFetch := t.hiu.noFetch }) ∧
  (∀ (s : State), (s.pll (otherPll s.clk.active)).running = true → (s.pll (otherPll s.clk.active)).quarantined = false →
    exec .standbyPllFail s = .next (s.setPll (otherPll s.clk.active)
      { s.pll (otherPll s.clk.active) with locked := false, quarantined := true, windows := 0 })) ∧
  (∀ (p : PllName) (s : State), (s.pll p).quarantined = true → 1000 ≤ (s.pll p).windows →
    exec (.pllQuarantineEnd p true) s = .next ((s.setPll p
      { s.pll p with locked := true, quarantined := false, windows := 0 }).event 1145 0x0409 (pllNo p) 0 0 0)) ∧
  (∀ (p : PllName) (s : State), (s.pll p).quarantined = true →
    exec (.pllQuarantineEnd p false) s =
      .next ((s.setPll p { s.pll p with windows := 0 }).event 1145 0x0409 (pllNo p) 1 0 0)) ∧
  (∀ (s : State), (s.pll (otherPll s.clk.active)).on = true → (s.pll (otherPll s.clk.active)).locked = false →
    (s.pll (otherPll s.clk.active)).quarantined = false → s.pwr.state = 0 →
    exec .secondPllLock s = .next (s.setPll (otherPll s.clk.active) { s.pll (otherPll s.clk.active) with locked := true }))

/-- Derived from R27 and R29 to R32. The MSS PLL's loss and relock change its lock and record event 0x040C, and touch nothing
of the data plane. A parked group that is powering up becomes powered, its parked piers run towards their take ports and its
other state stays. A powered idle bay that is not marked parked loses its power, with its engines' queues and registers; a
request wakes it, and the wake's end powers it. A write of SCE_BAY_PARK or PKS_BAY_PARK sets that register alone of the two. -/
def Obligations.ClocksBaysAndGroups : Prop :=
  (∀ (s : State), s.clk.mssLocked = true → s.pwr.state = 0 →
    exec .mssPllLoss s = .next ({ s with clk.mssLocked := false }.event 0xFFFF 0x040C 0 0 0 0)) ∧
  (∀ (s : State), s.clk.mssLocked = false → s.pwr.state = 0 →
    exec .mssPllRelock s = .next ({ s with clk.mssLocked := true }.event 0xFFFF 0x040C 1 0 0 0)) ∧
  (∀ (g : Fin 16) (s : State), s.groupOf g = .powering → tblWf .idle s.dsp.piers → tblWf .powered s.clk.groups →
    ∃ t : State, exec (.pierGroupPowerUp g) s = .next t ∧ t.groupOf g = .powered ∧
      (∀ p : PierNo, t.pierOf p = if p.val / 8 = g.val ∧ s.pierOf p = .parked then .idle else s.pierOf p) ∧
      t.clk = { s.clk with groups := t.clk.groups } ∧ t.dsp = { s.dsp with piers := t.dsp.piers } ∧
      Frame [.clk, .dsp, .mi] s t) ∧
  (∀ (b : Bay) (s : State), s.parkMarked (bayIx b) = false → s.bayOf (bayIx b) = .powered → s.bayIdle (bayIx b) = true →
    ∃ t : State, exec (.bayPowerGate b) s = .next t ∧ t.bayOf (bayIx b) = .gated ∧
      t.clk = { s.clk with bays := t.clk.bays } ∧ Frame [.clk, .eng] s t) ∧
  (∀ (b : Bay) (s : State), s.bayOf (bayIx b) = .gated →
    exec (.bayWake b) s = .next { s with clk.bays := tblSet .powered (bayIx b) .waking s.clk.bays }) ∧
  (∀ (b : Bay) (s : State), s.bayOf (bayIx b) = .waking →
    exec (.bayWakeDone b) s = .next { s with clk.bays := tblSet .powered (bayIx b) .powered s.clk.bays }) ∧
  (∀ (pk : Bool) (v : Word) (s : State),
    ∃ t : State, exec (.bayPark pk v) s = .next t ∧
      t.eng.pksPark = (if pk then v.setWidth 6 else s.eng.pksPark) ∧
      t.eng.scePark = (if pk then s.eng.scePark else v.setWidth 6) ∧ Frame [.clk, .eng] s t)

/-- Derived from R11 and R12. A view that is not reached, a read-only register and the ring register of another function ignore
the write. A write-one-to-clear field loses exactly the bits written as 1 (queue-pair errors, tenant events, energy events, anchor
errors). The base of a queue pair is written only while EN is 0 (R58). Clearing an MSI-X mask sends a pending message (R71). A
plain field of the MSS view takes its bits of the value, and PWR_MODE ignores the reserved value 3. -/
def Obligations.RegisterWriteByAccessType : Prop :=
  (∀ (v : View) (r : Reg) (x : DWord) (s : State), s.viewOk v = false → exec (.registerWrite v r x) s = .next s) ∧
  (∀ (v : View) (x : DWord) (s : State), exec (.registerWrite v .readOnly x) s = .next s) ∧
  (∀ (n f : Fn) (q : Fin 64) (x : DWord) (s : State), f ≠ n → exec (.registerWrite (.vf n) (.qpStatus f q) x) s = .next s) ∧
  (∀ (q : Fin 64) (x : DWord) (s : State), s.pfBar = true →
    exec (.registerWrite .pf (.qpStatus 0 q) x) s =
      .next (s.setQp 0 q { s.qpOf 0 q with err := (s.qpOf 0 q).err &&& ~~~(x.setWidth 3) })) ∧
  (∀ (q : Fin 64) (x : DWord) (s : State), s.pfBar = true →
    exec (.registerWrite .pf (.qpSqBase 0 q) x) s =
      .next (if (s.qpOf 0 q).en then s else s.setQp 0 q { s.qpOf 0 q with sqBase := x })) ∧
  (∀ (f : Fn) (x : DWord) (s : State), s.pfBar = true →
    exec (.registerWrite .pf (.tnEvt f) x) s =
      .next (s.modTn f (fun r => { r with evt := r.evt &&& ~~~(x.setWidth 3) }))) ∧
  (∀ (x : DWord) (s : State), s.pfBar = true →
    exec (.registerWrite .pf .nrgEvt x) s = .next { s with pwr.evt := s.pwr.evt &&& ~~~(x.setWidth 4) }) ∧
  (∀ (v : Fin 2048) (x : DWord) (s : State), s.pfBar = true → x.getLsbD 0 = false →
    ∃ t : State, exec (.registerWrite .pf (.msixMask 0 v) x) s = .next t ∧
      t.out = s.out ++ (let e := tblGet ({} : Msix) s.hiu.msix v.val
        if e.masked && e.pending then [.msix 0 v e.addr e.data] else []) ∧
      t = { s with out := t.out, hiu.msix := tblMod {} v.val (fun e => { e with masked := false, pending := false }) s.hiu.msix }) ∧
  (∀ (x : DWord) (s : State),
    exec (.registerWrite .mss .ancErr x) s = .next { s with anc.err := s.anc.err &&& ~~~(x.setWidth 3) } ∧
    exec (.registerWrite .mss .cfgLen x) s = .next { s with cfg.len := x.setWidth 26 } ∧
    exec (.registerWrite .mss .cfgFlashAddr x) s = .next { s with cfg.flashAddr := x.setWidth 26 } ∧
    exec (.registerWrite .mss .pwrMode x) s = .next (if x &&& 3 = 3 then s else { s with pwr.mode := x.setWidth 2 }) ∧
    exec (.registerWrite .mss .pwrWakeTimer x) s = .next { s with pwr.wakeTimer := x })

/-- R62. On an enabled queue pair that is not stopped, a value t written to SQ_TAIL is accepted when t − SQ_HEAD and t minus the
previous SQ_TAIL, mod 2^32, are each at most 2^SQ_LOG2; a value h written to CQ_HEAD when CQ_TAIL − h and h minus the previous
CQ_HEAD are each at most 2^CQ_LOG2. Then the register takes the value and nothing else changes. Any other value leaves the
register as it was, sets DB_ERR (bit 1 of the three errors) and STOPPED and raises QP_ERR (bit 1 of HIU_TN_EVT); no other register
of the queue pair or of the record changes. -/
def Obligations.DoorbellsAcceptedOrRefused : Prop :=
  ∀ (f : Fn) (q : Fin 64) (v : Word) (s : State), s.barOk f = true → q.val < qpCount f → (s.qpOf f q).en = true →
    (s.qpOf f q).stopped = false →
    (if (v - (s.qpOf f q).sqHead).toNat ≤ 2 ^ (s.qpOf f q).sqLog ∧ (v - (s.qpOf f q).sqTail).toNat ≤ 2 ^ (s.qpOf f q).sqLog then
      exec (.sqDoorbell f q v) s = .next (s.setQp f q { s.qpOf f q with sqTail := v })
    else
      ∃ t : State, exec (.sqDoorbell f q v) s = .next t ∧
        t.qpOf f q = { s.qpOf f q with err := (s.qpOf f q).err ||| 2, stopped := true } ∧
        t.tnOf f = { s.tnOf f with evt := (s.tnOf f).evt ||| 2 } ∧
        t = { s with hiu.qp := t.hiu.qp, hiu.tn := t.hiu.tn, hiu.msix := t.hiu.msix, out := t.out }) ∧
    (if ((s.qpOf f q).cqTail - v).toNat ≤ 2 ^ (s.qpOf f q).cqLog ∧ (v - (s.qpOf f q).cqHead).toNat ≤ 2 ^ (s.qpOf f q).cqLog then
      exec (.cqHeadWrite f q v) s = .next (s.setQp f q { s.qpOf f q with cqHead := v })
    else
      ∃ t : State, exec (.cqHeadWrite f q v) s = .next t ∧
        t.qpOf f q = { s.qpOf f q with err := (s.qpOf f q).err ||| 2, stopped := true } ∧
        t.tnOf f = { s.tnOf f with evt := (s.tnOf f).evt ||| 2 } ∧
        t = { s with hiu.qp := t.hiu.qp, hiu.tn := t.hiu.tn, hiu.msix := t.hiu.msix, out := t.out })

/-- R60, with R58, R59 and R63. A write of EN = 1 to a queue pair that is not enabled and that meets every condition of R59 sets EN, sets
all four counters to zero and clears STOPPED, keeping bases, IMOD and errors. When a condition fails EN stays 0, CFG_ERR is set and
QP_ERR is raised. A write of EN = 0 clears EN alone. -/
def Obligations.EnableZeroesCounters : Prop :=
  (∀ (f : Fn) (q : Fin 64) (c : Word) (s : State), s.barOk f = true → q.val < qpCount f → (s.qpOf f q).en = false →
    s.enableOk f { s.qpOf f q with cfg := c &&& 0x7FFFF } = true →
    exec (.qpEnable f q c) s = .next (s.setQp f q { s.qpOf f q with
      cfg := c &&& 0x7FFFF ||| 0x80000000, sqTail := 0, sqHead := 0, cqHead := 0, cqTail := 0, stopped := false,
      uncovered := 0 })) ∧
  (∀ (f : Fn) (q : Fin 64) (c : Word) (s : State), s.barOk f = true → q.val < qpCount f → (s.qpOf f q).en = false →
    s.enableOk f { s.qpOf f q with cfg := c &&& 0x7FFFF } = false → tblWf {} s.hiu.qp →
    ∃ t : State, exec (.qpEnable f q c) s = .next t ∧ (t.qpOf f q).en = false ∧ (t.qpOf f q).err = (s.qpOf f q).err ||| 1 ∧
      (t.tnOf f).evt = (s.tnOf f).evt ||| 2 ∧
      t = { s with hiu.qp := t.hiu.qp, hiu.tn := t.hiu.tn, hiu.msix := t.hiu.msix, out := t.out }) ∧
  (∀ (f : Fn) (q : Fin 64) (s : State), s.barOk f = true → q.val < qpCount f →
    exec (.qpDisable f q) s = .next (s.setQp f q { s.qpOf f q with cfg := (s.qpOf f q).cfg &&& 0x7FFFF }))

/-- Derived from R64, R65, R95, R96 and R136. Where only one queue pair has descriptors to fetch, the fetch grant reads as many as
R64 and R65 let it in one request from the slot of SQ_HEAD, advances SQ_HEAD by that number, reserves one Deck entry for each and
keeps the grant. The data of the only outstanding grant presents its items in ring order. A read that ends in error, or in a timeout,
frees the grant's entries, sets FETCH_ERR and STOPPED and records event 0x040A. -/
def Obligations.FetchAndArrival : Prop :=
  (∀ (f q : Nat) (s : State), f < 1025 → q < 64 → (s.hiu.qp.map Prod.fst).filter
      (fun k => decide (0 < s.fetchable (k / 64) (k % 64))) = [64 * f + q] →
    ∃ t : State, exec .fetchGrant s = .next t ∧
      t.qpOf f q = { s.qpOf f q with sqHead := (s.qpOf f q).sqHead + w32 (s.fetchable f q) } ∧
      t.out = s.out ++ [.descRead f ((s.qpOf f q).sqBase.toNat + 128 * ((s.qpOf f q).sqHead.toNat % 2 ^ (s.qpOf f q).sqLog))
        (128 * s.fetchable f q) s.hiu.nextTag] ∧
      t.hiu.grants = s.hiu.grants ++
        [⟨s.hiu.nextTag, f, q, freeEntries s.deck.ent 32768 0 (s.fetchable f q), none⟩] ∧
      (∀ d ∈ freeEntries s.deck.ent 32768 0 (s.fetchable f q), t.entOf d = some { fn := f, q := q }) ∧
      (∀ d, d ∉ freeEntries s.deck.ent 32768 0 (s.fetchable f q) → t.entOf d = s.entOf d) ∧
      Frame [.hiu, .deck, .out] s t) ∧
  (∀ (g : Grant) (ds : List Bytes) (s : State), s.hiu.grants = [g] → g.data = none → ds.length = g.idxs.length →
    (∀ b ∈ ds, b.length = 128) →
    exec (.descriptorArrival g.tag ds) s =
      .next { (g.idxs.zip ds).foldl (fun s x => s.present x.1 g.fn g.q x.2) s with hiu.grants := [] }) ∧
  (∀ (g : Grant) (e : ReadErr) (s : State), s.hiu.grants = [g] → g.data = none →
    ∃ t : State, exec (.descriptorReadError g.tag e) s = .next t ∧ t.hiu.grants = [] ∧
      t.qpOf g.fn g.q = { s.qpOf g.fn g.q with err := (s.qpOf g.fn g.q).err ||| 4, stopped := true } ∧
      t.tnOf g.fn = { s.tnOf g.fn with evt := (s.tnOf g.fn).evt ||| 2 } ∧
      t.deck.ent = g.idxs.foldl (fun u d => tblSet none d none u) s.deck.ent ∧
      Frame (reports [.deck]) s t) ∧
  (∀ (tag : Nat) (s : State), exec (.hostCompletionTimeout (.descriptors tag)) s = exec (.descriptorReadError tag .timeout) s) ∧
  (∀ (d : Idx) (e : Entry) (a n : Nat) (l : List (Nat × Nat)) (s : State), s.entOf d = some e → e.active = true →
    e.phase = .input ((a, n) :: l) →
    exec (.hostCompletionTimeout (.item d)) s = .next ((s.event 1136 0x040A e.fn d 0 3).fail d 0x1005))

/-- Derived from R96, R117, R118, R123 and R124. The descriptor of the only grant that the data returns for becomes an item: with checks 1
to 3 passed and no failing sequence check it is READY in its flow, with its priority clamped to PRIO_MAX and its expiry DEADLINE µs
from now; with the first failing check's status it is DONE in no flow, and its flow's sequence record is unchanged. -/
def Obligations.ArrivalChecksAndFiling : Prop :=
  (∀ (g : Grant) (i : Nat) (b : Bytes) (s : State), s.hiu.grants = [g] → g.data = none → g.idxs = [i] → b.length = 128 →
    arrivalCheck g.fn b = 0 → seqCheckOf b = false →
    ∃ (t : State) (e : Entry), exec (.descriptorArrival g.tag [b]) s = .next t ∧ t.entOf i = some e ∧ e.st = .ready ∧ e.fn = g.fn ∧ e.q = g.q ∧
      e.desc = b ∧ e.gen = (s.tnOf g.fn).gen ∧ e.flow = some (flowOf g.fn b) ∧ e.arrival = s.dsp.arrivals ∧
      e.prio = min (ctrlOf b / 4 % 4) ((s.tnOf g.fn).sched.toNat / 256 % 4) ∧
      e.clamped = decide ((s.tnOf g.fn).sched.toNat / 256 % 4 < ctrlOf b / 4 % 4) ∧
      e.expiry = (if deadlineOf b = 0 then none else some (s.now + deadlineOf b)) ∧ e.attempt = 0 ∧
      Frame [.hiu, .dsp, .deck] s t) ∧
  (∀ (g : Grant) (i : Nat) (b : Bytes) (s : State), s.hiu.grants = [g] → g.data = none → g.idxs = [i] → b.length = 128 →
    arrivalCheck g.fn b ≠ 0 →
    ∃ (t : State) (e : Entry), exec (.descriptorArrival g.tag [b]) s = .next t ∧ t.entOf i = some e ∧ e.st = .done ∧ e.flow = none ∧
      e.post = ⟨arrivalCheck g.fn b, [], [], []⟩ ∧ t.dsp = { s.dsp with arrivals := s.dsp.arrivals + 1 } ∧
      Frame [.hiu, .dsp, .deck] s t) ∧
  (∀ (g : Grant) (i : Nat) (b : Bytes) (v : Word) (s : State), s.hiu.grants = [g] → g.data = none → g.idxs = [i] →
    b.length = 128 → arrivalCheck g.fn b = 0 → seqCheckOf b = true →
    (tblGet none s.dsp.flows (flowKey (flowOf g.fn b))).bind (fun r => r.seq) = some v →
    ∃ (t : State) (e : Entry), exec (.descriptorArrival g.tag [b]) s = .next t ∧ t.entOf i = some e ∧
      (if w32 (seqOf b) = v + 1 then e.st = .ready ∧
          (tblGet none t.dsp.flows (flowKey (flowOf g.fn b))).bind (fun r => r.seq) = some (v + 1)
        else e.st = .done ∧ e.post = ⟨0x1004, [], [], []⟩ ∧ t.dsp.flows = s.dsp.flows) ∧ Frame [.hiu, .dsp, .deck] s t)

/-- Derived from R71, R79, R712 and R666. A moderation timer with uncovered completions covers them and, unless INT_OFF is set, makes the
message due: it is sent or, for a masked vector, its pending bit set. An unmask clears the mask and the pending bit and sends a pending
message. A write of HIU_TN_CTRL changes SUSPEND alone. A configuration request to the PF gets retry status until the PF is ready and a
normal answer then; one to a VF that does not exist is unsupported, and to one that is not READY gets retry status. -/
def Obligations.MessagesAndConfigRequests : Prop :=
  (∀ (f : Fn) (q : Fin 64) (s : State), (s.qpOf f q).uncovered ≠ 0 →
    exec (.imodTimerExpiry f q) s = .next (
      let u := s.setQp f q { s.qpOf f q with uncovered := 0 }
      let k := 2048 * f.val + (s.qpOf f q).vec
      let e := tblGet ({} : Msix) s.hiu.msix k
      if (s.qpOf f q).imod.getLsbD 31 then u
      else if e.masked then { u with hiu.msix := tblSet {} k { e with pending := true } s.hiu.msix }
      else { u with out := s.out ++ [.msix f (s.qpOf f q).vec e.addr e.data] })) ∧
  (∀ (f : Fn) (v : Fin 2048) (s : State), s.barOk f = true → (f.val = 0 ∨ v.val < 16) →
    exec (.msixUnmask f v) s = .next (
      let e := tblGet ({} : Msix) s.hiu.msix (2048 * f.val + v.val)
      { s with
        hiu.msix := tblSet {} (2048 * f.val + v.val) { e with masked := false, pending := false } s.hiu.msix
        out := s.out ++ if e.pending && e.masked then [.msix f v e.addr e.data] else [] })) ∧
  (∀ (f : Fn) (on : Bool) (s : State), s.pfBar = true →
    exec (.tenantSuspend f on) s = .next (s.modTn f (fun r => { r with suspend := on }))) ∧
  (∀ (d3 : Option Bool) (s : State), s.hiu.linkUp = true → (s.hiu.pfFlr = true ∨ s.cfgNormal = false) →
    exec (.configRequest 0 d3) s = .next { s with out := s.out ++ [.config 0 .retry] }) ∧
  (∀ (d3 : Option Bool) (s : State), s.hiu.linkUp = true → s.hiu.pfFlr = false → s.cfgNormal = true →
    exec (.configRequest 0 d3) s = .next { s with hiu.cfgReset := false, hiu.d3hot := d3.getD s.hiu.d3hot, out := s.out ++ [.config 0 .normal] }) ∧
  (∀ (f : Fn) (d3 : Option Bool) (s : State), f ≠ 0 → s.hiu.linkUp = true →
    exec (.configRequest f d3) s = .next { s with
      out := s.out ++ [.config f (if !s.vfExists f then .unsupported else if !s.vfReady f then .retry else .normal)] })

/-- R76, with R74 and R77. A write of 0 to WEIGHT, of a WIN_SIZE above 512 GiB or not a multiple of 4 KiB, of a base with the wrong
alignment, of an INFLIGHT_MAX outside 16 to 32,768 or of a KDIR_COUNT above 16,777,216 keeps the field and sets CFG_REFUSED; so does a
write of a window or directory field while the function has an enabled queue pair or an item in the module. Any other value is taken,
whatever HIU_TN_INFLIGHT is in the case of INFLIGHT_MAX. No other field of any record changes. -/
def Obligations.TenantRecordWrites : Prop :=
  ∀ (f : Fn) (v : DWord) (s : State), s.pfBar = true →
    exec (.tenantRecordWrite f .inflightMax v) s = .next (s.modTn f (fun r =>
      if 16 ≤ v.toNat % 65536 ∧ v.toNat % 65536 ≤ 32768 then { r with inflightMax := w32 (v.toNat % 65536) }
      else { r with err := true })) ∧
    exec (.tenantRecordWrite f .winBase v) s = .next (s.modTn f (fun r =>
      if s.tnIdle f ∧ v.toNat % 4096 = 0 then { r with winBase := v } else { r with err := true })) ∧
    exec (.tenantRecordWrite f .winSize v) s = .next (s.modTn f (fun r =>
      if s.tnIdle f ∧ v.toNat % 4096 = 0 ∧ v.toNat ≤ 512 * 2 ^ 30 then { r with winSize := v } else { r with err := true })) ∧
    exec (.tenantRecordWrite f .kdirBase v) s = .next (s.modTn f (fun r =>
      if s.tnIdle f ∧ v.toNat % 32 = 0 then { r with kdirBase := v } else { r with err := true })) ∧
    exec (.tenantRecordWrite f .kdirCount v) s = .next (s.modTn f (fun r =>
      if s.tnIdle f ∧ v.toNat % 2 ^ 25 ≤ 16777216 then { r with kdirCount := w32 (v.toNat % 2 ^ 25) }
      else { r with err := true })) ∧
    (tblWf {} s.hiu.tn → ∃ t : State, exec (.tenantRecordWrite f .sched v) s = .next t ∧
      t.tnOf f = (if v.toNat % 256 = 0 then
        { s.tnOf f with sched := ((s.tnOf f).sched &&& 0xFF) ||| (v.setWidth 32 &&& 0x300), err := true }
        else { s.tnOf f with sched := v.setWidth 32 &&& 0x3FF }) ∧
      (∀ g, g ≠ f.val → t.tnOf g = s.tnOf g) ∧ t = { s with hiu.tn := t.hiu.tn })

/-- Derived from R84, R87, R166, R198 and R712. A VF FLR clears READY, fences the function, moves its generation to a value that no item of
the function in the module carries, returns its queue pairs and MSI-X entries to their reset values and raises the VF's event source.
The MSS closes the function's sessions. Step 5 ends the fence, sets READY, sends the FRS message where the VF exists on a link that is up,
and raises FLR_DONE. Clearing VF Enable does an FLR of every VF; setting it takes NumVFs and leaves no VF ready. -/
def Obligations.VfResets : Prop :=
  (∀ (f : Fn) (s : State), s.hiu.linkUp = true → s.hiu.pfFlr = false → s.vfExists f = true → tblWf false s.hiu.ready →
    ∃ t : State, exec (.vfFlr f) s = .next t ∧ t.vfReady f = false ∧ t.fenced f = true ∧
      (∀ q < 64, t.qpOf f q = {}) ∧ (∀ v < 2048, tblGet ({} : Msix) t.hiu.msix (2048 * f.val + v) = {}) ∧
      tblGet false t.irq (f.val - 1) = true ∧
      Frame [.hiu, .dsp, .deck, .keys, .trs, .mss, .pwr, .irq, .out] s t) ∧
  (∀ (f : Fn) (s : State), s.hiu.linkUp = true → s.hiu.pfFlr = false → s.vfExists f = true → s.hiu.grants = [] →
    s.held.length ≤ 32768 → tblWf none s.deck.ent →
    ∃ t : State, exec (.vfFlr f) s = .next t ∧
      (∀ x ∈ s.held, x.2.fn = f.val → x.2.st ≠ .reserved → x.2.gen ≠ (t.tnOf f).gen) ∧
      (∀ x ∈ t.held, x.2.fn = f.val → x.2.st = .reserved ∨ x.2.st = .orphan ∨ x.2.st = .releasing)) ∧
  (∀ (f : Fn) (s : State), s.fenced f = true → f ≠ 0 →
    exec (.vfSessionsClear f) s = .next { s with pay.sess := s.pay.sess.filter (fun x => x.1 / 4096 != f.val) }) ∧
  (∀ (f : Fn) (s : State), f ≠ 0 → s.hiu.pfFlr = false → s.fenced f = true → tblWf false s.hiu.fence →
    ∃ t : State, exec (.vfFlrReady f) s = .next t ∧ t.vfReady f = true ∧ t.fenced f = false ∧
      (t.tnOf f).evt = (s.tnOf f).evt ||| 1 ∧ t.pay.sess = s.pay.sess.filter (fun x => x.1 / 4096 != f.val) ∧
      (s.vfExists f = true → s.hiu.linkUp = true → .frs f ∈ t.out) ∧ Frame [.hiu, .pay, .out] s t) ∧
  (∀ (s : State), s.hiu.linkUp = true → s.hiu.pfFlr = false → s.hiu.vfEnable = true →
    ∃ t : State, exec .vfEnableClear s = .next t ∧ t.hiu.vfEnable = false ∧
      (∀ f : Fn, 1 ≤ f.val → f.val ≤ s.hiu.numVfs → t.fenced f = true) ∧ t.hiu.numVfs = s.hiu.numVfs ∧
      Frame [.hiu, .dsp, .deck, .keys, .trs, .mss, .pwr, .irq, .out] s t) ∧
  (∀ (n : Nat) (s : State), s.hiu.linkUp = true → s.hiu.pfFlr = false → s.cfgNormal = true → s.hiu.vfEnable = false →
    1 ≤ n → n ≤ 1024 →
    exec (.vfEnableSet n) s = .next { s with hiu.vfEnable := true, hiu.numVfs := n, hiu.ready := [] })

/-- Derived from R91 and R93. A PF FLR takes the data plane down and fences every function, empties the queue pairs, the key cache, the
sessions and every Deck entry whose release has not begun, and keeps the anchors, the Keystone, the recorder's store, configuration and
the memory outside the pool's data-plane ranges. Step 5 ends it with the Function Readiness message. A hot reset, a link-down event and an assertion of PERST# in RUN act
as one and also clear VF Enable and take the link down until it has retrained. L1.2 entry is a state of the link alone. -/
def Obligations.PfAndLinkResets : Prop :=
  (∀ (s : State), s.hiu.linkUp = true → s.boot.booting = false →
    ∃ t : State, exec .pfFlr s = .next t ∧ t.hiu.pfFlr = true ∧ t.hiu.dpUp = false ∧ (∀ f : Fn, t.fenced f = true) ∧ t.hiu.qp = [] ∧
      t.hiu.grants = [] ∧ t.hiu.vfEnable = false ∧ t.keys.t1 = [] ∧ t.keys.t2 = [] ∧ t.pay.sess = [] ∧
      t.deck.noRelease = true ∧ (∀ d e, t.entOf d = some e → e.st = .releasing) ∧ tblGet false t.irq 1136 = true ∧
      t.keys.ket = s.keys.ket ∧ t.anc = s.anc ∧ t.evr.store = s.evr.store ∧ t.pay.inc = s.pay.inc ∧
      Frame [.hiu, .dsp, .deck, .keys, .pay, .eng, .trs, .mss, .mi, .evr, .pwr, .mem, .irq, .out] s t) ∧
  (∀ (s : State), s.hiu.pfFlr = true → s.hiu.linkUp = true →
    exec .pfFlrReady s = .next { s with
      hiu.pfFlr := false, hiu.fence := [], hiu.dpUp := s.dpAllowed, deck.noRelease := s.pwr.quiesce || s.boot.request.isSome
      out := s.out ++ [.frs 0] }) ∧
  (∀ (s : State), s.hiu.linkUp = true →
    exec .hotReset s = .next s.linkReset ∧ exec .dlDown s = .next s.linkReset ∧ s.linkReset.hiu.cfgReset = true ∧
      s.linkReset.hiu.linkUp = false ∧ s.linkReset.hiu.vfEnable = false ∧ s.linkReset.hiu.numVfs = 0 ∧
      (s.boot.booting = false → s.linkReset.hiu.pfFlr = true) ∧ s.linkReset.ks = s.ks ∧ s.linkReset.anc = s.anc ∧
      s.linkReset.boot = s.boot) ∧
  (∀ (s : State), s.hw.perst = false → s.pwr.quiesce = false → s.pwr.quiesceStep = 0 → s.backupOnly = false →
    s.pwr.state = 0 → s.pwr.entry = none →
    ∃ t : State, exec .perstAssert s = .next t ∧ t.hw.perst = true ∧ t.hiu.linkUp = false ∧ t.hiu.cfgReset = true ∧ t.ks = s.ks ∧
      t.anc = s.anc ∧ t.boot = s.boot ∧ t.hw = { s.hw with perst := true }) ∧
  (∀ (s : State), s.hw.perst = true → s.pwr.quiesceStep = 0 → s.backupOnly = false → s.pwr.state = 0 → s.pwr.entry = none →
    s.pwr.waking = none →
    exec .perstDeassert s = .next { s with
      hw.perst := false, hiu.linkUp := true
      pwr.wakePend := if s.pwr.wakeEn &&& 16 = 0 then s.pwr.wakePend else s.pwr.wakePend ||| 16 }) ∧
  (∀ (s : State), s.hiu.linkUp = true → exec .linkL12Entry s = .next { s with hiu.l12 := true })

/-- Derived from R145, R149 to R152 and R169. A pier that reads its take port waits there, or parks where the planner has marked it. While
the dispatcher makes grants, the first waiting pier at or after the rotating pointer is granted the head of the replay list; with
the list empty, and only while more than RESERVE piers wait, it is granted a ready item of the highest level that has one. The pier then
holds the item, which runs with its attempt number unchanged, the pointer moves past the pier and the handle of R149 is sent. -/
def Obligations.TakePortsAndGrants : Prop :=
  (∀ (p : PierNo) (s : State), s.pierOf p = .idle → tblGet false s.dsp.parkNext p = false →
    exec (.takePortRead p) s = .next (s.setPier p .waiting)) ∧
  (∀ (p : PierNo) (s : State), s.pierOf p = .idle → tblGet false s.dsp.parkNext p = true →
    exec (.takePortRead p) s = .next { s with
      dsp.parkNext := tblSet false p false s.dsp.parkNext, dsp.piers := tblSet .idle p .parked s.dsp.piers }) ∧
  (∀ (p : PierNo) (i d : Nat) (rest : List Nat) (e : Entry) (s : State), s.granting = true → i < 128 →
    (s.dsp.pierPtr + i) % 128 = p.val → s.pierOf p = .waiting →
    (∀ j < i, s.pierOf ((s.dsp.pierPtr + j) % 128) ≠ .waiting) → s.dsp.replayList = d :: rest → s.entOf d = some e →
    ∃ (t : State) (e' : Entry), exec .itemGrant s = .next t ∧ t.pierOf p = .holding d ∧ t.dsp.pierPtr = (p.val + 1) % 128 ∧ t.dsp.replayList = rest ∧
      t.entOf d = some e' ∧ e'.st = .running ∧ e'.pier = some p.val ∧ e'.onReplay = false ∧ e'.attempt = e.attempt ∧
      .handle p (handleOf d e) ∈ t.out ∧ Frame [.dsp, .deck, .keys, .mi, .out] s t) ∧
  (∀ (p : PierNo) (i d : Nat) (e : Entry) (u s : State), s.granting = true → i < 128 →
    (s.dsp.pierPtr + i) % 128 = p.val → s.pierOf p = .waiting →
    (∀ j < i, s.pierOf ((s.dsp.pierPtr + j) % 128) ≠ .waiting) → s.dsp.replayList = [] → s.reserve < s.waitingPiers →
    s.selectReady = some (d, u) → s.entOf d = some e →
    ∃ (t : State) (e' : Entry), exec .itemGrant s = .next t ∧ t.pierOf p = .holding d ∧ t.entOf d = some e' ∧ e'.st = .running ∧
      .handle p (handleOf d e) ∈ t.out ∧ Frame [.dsp, .deck, .keys, .mi, .out] s t ∧
      (∃ x ∈ s.readyItems, x.1 = d ∧
        ∀ y ∈ s.readyItems, headAllowed (decide (s.longPiers < s.longMax)) y = true → y.2.prio ≤ 3 → y.2.prio ≤ x.2.prio)) ∧
  (∀ (s : State), s.granting = true → s.dsp.replayList = [] → s.waitingPiers ≤ s.reserve → exec .itemGrant s = .next s)

/-- Derived from R157, R160, R161 and R69. A post by the pier that holds a RUNNING item stores the completion and makes it DONE; an ORPHAN's
post frees its entry. A DONE and eligible item that needs no cluster confirmation, whose guards hold, whose expiry has not passed, whose
generation is current and whose admission verdict is no refusal begins its release with its own status: without a key change its
completion is written and CQ_TAIL advances by one; with a key change it waits, with the journal's cost in O and one SEQ taken, and nothing
is sent to the host yet. -/
def Obligations.PostsAndReleases : Prop :=
  (∀ (p : PierNo) (d : Nat) (e : Entry) (q : Post) (s : State), s.pierOf p = .holding d → s.entOf d = some e →
    e.phase = .finished q → e.st = .running →
    exec (.itemPost p) s = .next ((s.setEnt d { e with st := .done, post := q, postedAt := s.now, phase := .idle }).setPier p .idle)) ∧
  (∀ (p : PierNo) (d : Nat) (e : Entry) (q : Post) (s : State), s.pierOf p = .holding d → s.entOf d = some e →
    e.phase = .finished q → e.st = .orphan → tblWf none s.deck.ent →
    ∃ t : State, exec (.itemPost p) s = .next t ∧ t.entOf d = none ∧ (∀ i, i ≠ d → t.entOf i = s.entOf i) ∧
      Frame [.dsp, .deck, .keys] s t) ∧
  (∀ (d : Idx) (e : Entry) (s : State), s.entOf d = some e → s.mayTest e = true → s.mustPropose e = none →
    (∀ g ∈ e.post.guards, s.gword g.word = g.value) → (∀ x, e.expiry = some x → s.now ≤ x) → e.gen = (s.tnOf e.fn).gen →
    s.itemVerdict e = 0 → (e.post.status ≤ 1 → journalOf e.post.intents = none) → tblWf {} s.hiu.qp →
    ∃ (t : State) (e' : Entry), exec (.releaseTest d false false) s = .next t ∧ t.entOf d = some e' ∧ e'.st = .releasing ∧
      e'.relStatus = e.post.status ∧ e'.relAt = s.now ∧ e'.waiting = false ∧ t.deck.cntRelease = s.deck.cntRelease + 1 ∧
      (s.hiu.linkUp = true → (t.qpOf e.fn e.q).cqTail = (s.qpOf e.fn e.q).cqTail + 1) ∧
      (s.hiu.linkUp = false → t.hiu.qp = s.hiu.qp) ∧
      (clusterOf e.post.intents = none → t.keys.taken = s.keys.taken) ∧
      Frame [.hiu, .deck, .keys, .pay, .trs, .mss, .evr, .anc, .pwr, .irq, .out] s t) ∧
  (∀ (d : Idx) (e : Entry) (k : JKind) (n : Nat) (kid : BitVec 64) (w : DWord) (s : State), s.entOf d = some e →
    s.mayTest e = true → s.mustPropose e = none → (∀ g ∈ e.post.guards, s.gword g.word = g.value) →
    (∀ x, e.expiry = some x → s.now ≤ x) → e.gen = (s.tnOf e.fn).gen → s.itemVerdict e = 0 → e.post.status ≤ 1 →
    journalOf e.post.intents = some (k, n, kid, w) →
    ∃ (t : State) (e' : Entry), exec (.releaseTest d false false) s = .next t ∧ t.entOf d = some e' ∧ e'.st = .releasing ∧ e'.waiting = true ∧
      t.pwr.outstanding = s.pwr.outstanding + journalCost ∧ t.pwr.cntAdmit = s.pwr.cntAdmit + 1 ∧
      tblGet 0 t.keys.seqs n = tblGet 0 s.keys.seqs n + 1 ∧ t.keys.taken.length = s.keys.taken.length + 1 ∧
      t.keys.ket = s.keys.ket ∧ Frame [.deck, .keys, .pwr] s t)

/-- Derived from R120, R122, R129, R137, R139, R160 and R166. A refusal (any status above 1) releases the item with that status and applies none of
its intents. A guard that differs returns the item to READY at the tail of the replay list with its attempt number unchanged. An older
generation is discarded. A release that is not waiting ends and frees the entry. An expiry before the release completes the item with
DEADLINE, counted; a RUNNING item becomes ORPHAN and any other leaves. -/
def Obligations.RefusalsGuardsDeadlinesDiscards : Prop :=
  (∀ (d : Idx) (e : Entry) (s : State), s.entOf d = some e → s.mayTest e = true → s.mustPropose e = none →
    (∀ g ∈ e.post.guards, s.gword g.word = g.value) → (∀ x, e.expiry = some x → s.now ≤ x) → e.gen = (s.tnOf e.fn).gen →
    1 < s.itemVerdict e →
    ∃ (t : State) (e' : Entry), exec (.releaseTest d false false) s = .next t ∧ t.entOf d = some e' ∧ e'.st = .releasing ∧
      e'.relStatus = s.itemVerdict e ∧ e'.waiting = false ∧ t.keys = s.keys ∧ t.pay = s.pay) ∧
  (∀ (d : Idx) (e : Entry) (g : Guard) (flip : Bool) (s : State), s.entOf d = some e → s.mayTest e = true →
    s.mustPropose e = none → g ∈ e.post.guards → s.gword g.word ≠ g.value →
    ∃ (t : State) (e' : Entry), exec (.releaseTest d false flip) s = .next t ∧ t.entOf d = some e' ∧ e'.st = .ready ∧ e'.onReplay = true ∧
      e'.attempt = e.attempt ∧ t.dsp.replayList = s.dsp.replayList ++ [d.val] ∧ t.dsp.cntGuard = s.dsp.cntGuard + 1 ∧
      Frame [.dsp, .deck, .keys, .trs, .out] s t) ∧
  (∀ (d : Idx) (e : Entry) (s : State), s.entOf d = some e → s.mayTest e = true → s.mustPropose e = none →
    (∀ g ∈ e.post.guards, s.gword g.word = g.value) → (∀ x, e.expiry = some x → s.now ≤ x) → e.gen ≠ (s.tnOf e.fn).gen →
    tblWf none s.deck.ent →
    ∃ t : State, exec (.releaseTest d false false) s = .next t ∧ t.entOf d = none ∧ t.deck.cntDiscard = s.deck.cntDiscard + 1 ∧
      t.deck.cntRelease = s.deck.cntRelease ∧ Frame [.dsp, .deck, .keys, .trs, .out] s t) ∧
  (∀ (d : Idx) (e : Entry) (s : State), s.entOf d = some e → e.st = .releasing → e.waiting = false → tblWf none s.deck.ent →
    ∃ t : State, exec (.releaseEnd d) s = .next t ∧ t.entOf d = none ∧ (∀ i, i ≠ d.val → t.entOf i = s.entOf i) ∧
      Frame [.dsp, .deck, .keys, .pwr] s t) ∧
  (∀ (d : Idx) (e : Entry) (x : Nat) (s : State), s.entOf d = some e → e.expiry = some x → e.st = .running →
    s.fenced e.fn = false → s.deck.noRelease = false → s.releasing < 64 → e.gen = (s.tnOf e.fn).gen → tblWf {} s.hiu.qp →
    ∃ (t : State) (e' : Entry), exec (.deadlineExpiry d) s = .next t ∧ t.entOf d = some e' ∧ e'.st = .orphan ∧
      t.deck.cntDeadline = s.deck.cntDeadline + 1 ∧ t.now = max s.now x ∧
      (s.hiu.linkUp = true → (t.qpOf e.fn e.q).cqTail = (s.qpOf e.fn e.q).cqTail + 1) ∧ t.keys = s.keys ∧
      Frame [.hiu, .deck, .trs, .time, .out] s t) ∧
  (∀ (d : Idx) (e : Entry) (x : Nat) (s : State), s.entOf d = some e → e.expiry = some x → (e.st = .ready ∨ e.st = .done ∨
    e.st = .held) → s.fenced e.fn = false → s.deck.noRelease = false → s.releasing < 64 → e.gen = (s.tnOf e.fn).gen →
    tblWf none s.deck.ent →
    ∃ t : State, exec (.deadlineExpiry d) s = .next t ∧ t.entOf d = none ∧ t.deck.cntDeadline = s.deck.cntDeadline + 1 ∧
      t.keys.ket = s.keys.ket ∧ t.keys.taken = s.keys.taken ∧ Frame [.hiu, .dsp, .deck, .keys, .trs, .time, .out] s t)

/-- Derived from R153 to R156, R167, R169, R172, R175 and R176. A fault of a pier that holds a RUNNING item quarantines the pier, counts the
quarantine, and puts the item on the replay list with one more attempt, or, on what would be its third replay, makes it HELD. The third
quarantine keeps the pier out. The watchdog and the stall monitor are counted and act as such faults, but not in a monitored wait. The
self-test returns the pier towards its take port or keeps it out. A step monitor fault of a class 4 item is a pier overrun, one of a class 3
item a fault of the engine that holds its request. -/
def Obligations.PierFaultsAndMonitors : Prop :=
  (∀ (p : PierNo) (m : Bool) (d : Nat) (e : Entry) (s : State), s.pierOf p = .holding d → s.entOf d = some e → e.st = .running →
    e.attempt < 2 → tblGet 0 s.dsp.quar p < 2 →
    ∃ (t : State) (e' : Entry), exec (.pierFault p m) s = .next t ∧ t.pierOf p = .quarantined ∧
      tblGet 0 t.dsp.quar p = tblGet 0 s.dsp.quar p + 1 ∧ t.entOf d = some e' ∧ e'.st = .ready ∧ e'.onReplay = true ∧
      e'.replay = true ∧ e'.attempt = e.attempt + 1 ∧ e'.desc = e.desc ∧ t.dsp.replayList = s.dsp.replayList ++ [d] ∧
      t.dsp.cntReplay = s.dsp.cntReplay + 1 ∧ Frame (reports [.dsp, .deck, .keys, .eng, .mi]) s t) ∧
  (∀ (p : PierNo) (m : Bool) (d : Nat) (e : Entry) (s : State), s.pierOf p = .holding d → s.entOf d = some e → e.st = .running →
    e.attempt = 2 → tblGet 0 s.dsp.quar p < 2 →
    ∃ (t : State) (e' : Entry), exec (.pierFault p m) s = .next t ∧ t.pierOf p = .quarantined ∧ t.entOf d = some e' ∧ e'.st = .held ∧
      t.dsp.replayList = s.dsp.replayList ∧ t.deck.heldLast = w32 (d + e.fn * 2 ^ 15 + 2 ^ 31)) ∧
  (∀ (p : PierNo) (m : Bool) (s : State), (s.pierOf p = .idle ∨ s.pierOf p = .waiting) → tblGet 0 s.dsp.quar p = 2 →
    s.piersOut < 127 →
    ∃ t : State, exec (.pierFault p m) s = .next t ∧ t.pierOf p = .out ∧ t.deck = s.deck ∧ Frame (reports [.dsp, .mi]) s t) ∧
  (∀ (p : PierNo) (d : Nat) (e : Entry) (s : State), s.pierOf p = .holding d → s.entOf d = some e → e.cls ≠ 3 → e.cls ≠ 4 →
    (∀ a, e.phase ≠ .binding a) → (∀ l, e.phase ≠ .input l) →
    exec (.itemWatchdogExpiry p) s = .next (s.countWdog.pierFails p 3) ∧
    exec (.pierStallDetect p) s = .next (s.countWdog.pierFails p 2)) ∧
  (∀ (p : PierNo) (d : Nat) (e : Entry) (a : Option Nat) (s : State), s.pierOf p = .holding d → s.entOf d = some e →
    e.phase = .binding a → exec (.itemWatchdogExpiry p) s = .next s ∧ exec (.pierStallDetect p) s = .next s) ∧
  (∀ (p : PierNo) (s : State), s.pierOf p = .quarantined →
    exec (.pierSelfTestEnd p true) s = .next ((s.event (1024 + p.val / 8) 0x0402 p 0 0 0).setPier p .idle)) ∧
  (∀ (p : PierNo) (s : State), s.pierOf p = .quarantined → s.piersOut < 127 →
    ∃ t : State, exec (.pierSelfTestEnd p false) s = .next t ∧ t.pierOf p = .out ∧ Frame (reports [.dsp]) s t) ∧
  (∀ (d : Idx) (p : Nat) (e : Entry) (s : State), s.entOf d = some e → e.active = true → e.cls = 4 → e.pier = some p →
    exec (.stepMonitorFault d) s = .next (s.countWdog.pierFails p 3)) ∧
  (∀ (d : Idx) (n : Nat) (e : Entry) (s : State), s.entOf d = some e → e.active = true → e.cls = 3 →
    (List.range 48).find? (fun n => (s.engOf (48 + n)).q.any (fun y => y.req.deckIdx == d.val)) = some n →
    exec (.stepMonitorFault d) s = .next (s.engFails (48 + n) 4))

/-- Derived from R203 to R219. For an item at stage 10 that carries the opcode: a malformed incoming block ends PIN_TRANSLATE, DUKPT_PIN_TRANSLATE and
PIN_GENERATE_OFFSET with FORMAT_ERROR and answers no to PIN_VERIFY_OFFSET; otherwise the translation seals the same PIN in format b, with 8
drawn bytes where b is not 0, and RNG_UNAVAILABLE where the draw fails; a verification answers whether the leftmost digits agree with the ones
in the body; the generation returns the digits. A DUKPT_PIN_TRANSLATE under KEEP posts the intent that opens a session. The attempt's outcome and the
draw are the only changes. -/
def Obligations.PinCommands : Prop :=
  ∀ (d : Idx) (e : Entry) (s : State), s.entOf d = some e → e.active = true → e.phase = .exec →
    (opcodeOf e.desc = 0x0101 →
      pinOpenB (u8 e.desc 48) (s.ciphFor e 0) (sub e.desc 56 16) (panOf e.desc 72 (u8 e.desc 50)) = none →
      exec (.pinTranslate d) s = .next (s.setEnt d { e with phase := .finished ⟨0x1003, [], [], e.post.guards⟩ })) ∧
    (∀ pin r u, opcodeOf e.desc = 0x0101 → Drawn (if u8 e.desc 49 = 0 then 0 else 8) s r u →
      pinOpenB (u8 e.desc 48) (s.ciphFor e 0) (sub e.desc 56 16) (panOf e.desc 72 (u8 e.desc 50)) = some pin →
      exec (.pinTranslate d) s = .next (u.setEnt d { e with phase := .finished ⟨0,
        pinSealB (u8 e.desc 49) (s.ciphFor e 1) pin (panOf e.desc 82 (u8 e.desc 51)) r, [], e.post.guards⟩ })) ∧
    (∀ pin u, opcodeOf e.desc = 0x0101 → u8 e.desc 49 ≠ 0 → s.rngTake 8 = .fail u →
      pinOpenB (u8 e.desc 48) (s.ciphFor e 0) (sub e.desc 56 16) (panOf e.desc 72 (u8 e.desc 50)) = some pin →
      exec (.pinTranslate d) s = .next (u.setEnt d { e with phase := .finished ⟨0x4101, [], [], e.post.guards⟩ })) ∧
    (opcodeOf e.desc = 0x0102 →
      ∃ ok, exec (.pinVerifyOffset d) s = .next (s.setEnt d { e with phase := .finished ⟨if ok then 0 else 1, [], [], e.post.guards⟩ }) ∧
        (ok = true ↔ ∃ v, s.pinReference e = some v ∧ u8 e.desc 51 ≤ v.length ∧
          v.take (u8 e.desc 51) = bcd (sub e.desc 98 6) (u8 e.desc 51))) ∧
    (opcodeOf e.desc = 0x0103 →
      exec (.pinGenerateOffset d) s = .next (s.setEnt d { e with phase := .finished (match s.pinReference e with
        | none => ⟨0x1003, [], [], e.post.guards⟩
        | some v => ⟨0, bcdEnc 6 v ++ [byteOf v.length, 0], [], e.post.guards⟩) })) ∧
    (opcodeOf e.desc = 0x0201 →
      pinOpenB (u8 e.desc 50) ⟨u8 e.desc 48 == 1, (dukptKeys (u8 e.desc 48) (u8 e.desc 49) (s.matOf e 0) (sub e.desc 56 12)).1⟩
        (sub e.desc 72 16) (panOf e.desc 88 (u8 e.desc 52)) = none →
      exec (.dukptPinTranslate d) s = .next (s.setEnt d { e with phase := .finished ⟨0x1003, [], [], e.post.guards⟩ })) ∧
    (∀ pin r u, opcodeOf e.desc = 0x0201 → Drawn (if u8 e.desc 51 = 0 then 0 else 8) s r u →
      pinOpenB (u8 e.desc 50) ⟨u8 e.desc 48 == 1, (dukptKeys (u8 e.desc 48) (u8 e.desc 49) (s.matOf e 0) (sub e.desc 56 12)).1⟩
        (sub e.desc 72 16) (panOf e.desc 88 (u8 e.desc 52)) = some pin →
      ∃ p : Post, exec (.dukptPinTranslate d) s = .next (u.setEnt d { e with phase := .finished p }) ∧ p.status = 0 ∧
        p.result = fit 16 (pinSealB (u8 e.desc 51) (s.ciphFor e 1) pin (panOf e.desc 98 (u8 e.desc 53)) r) ++ noHandle ∧
        (p.intents ≠ [] ↔ (u8 e.desc 54).testBit 0 = true) ∧ p.guards = e.post.guards)

/-- Derived from R219 to R228. For an item at stage 10 that carries the opcode, each command ends its attempt with the value that its algorithm gives
over the bound key and the message, or with the answer whether the body's value equals it; a verification that agrees under KEEP, and only that, posts
the intent that opens a session. The outcome of the attempt is the only change. -/
def Obligations.MacEmvAndCardCodes : Prop :=
  ∀ (d : Idx) (e : Entry) (s : State), s.entOf d = some e → e.active = true → e.phase = .exec →
    (opcodeOf e.desc = 0x0202 →
      ∃ (p : Post) (mac : Bytes), exec (.dukptMacVerify d) s = .next (s.setEnt d { e with phase := .finished p }) ∧
        p.status = (if mac = sub e.desc 56 (u8 e.desc 34) then 0 else 1) ∧ p.result = noHandle ∧ p.guards = e.post.guards ∧
        (e.sess = none → u8 e.desc 32 ≠ 0 → mac = (cmacB ⟨true,
          (dukptKeys (u8 e.desc 32) (u8 e.desc 33) (s.matOf e 0) (sub e.desc 36 12)).2⟩ (e.inputs.headD [])).take (u8 e.desc 34)) ∧
        (e.sess = none → u8 e.desc 32 = 0 → mac = (mac3
          (dukptKeys 0 (u8 e.desc 33) (s.matOf e 0) (sub e.desc 36 12)).2 1 (e.inputs.headD [])).take (u8 e.desc 34)) ∧
        (∀ i x, e.sess = some (i, x) → (u8 e.desc 35).testBit 1 = true → u8 e.desc 32 ≠ 0 →
          mac = (cmacB ⟨true, x.data.keys.getD 1 []⟩ (e.inputs.headD [])).take (u8 e.desc 34)) ∧
        (p.intents ≠ [] ↔ p.status = 0 ∧ (u8 e.desc 35).testBit 0 = true)) ∧
    (opcodeOf e.desc = 0x0301 →
      exec (.macGenerate d) s = .next (s.setEnt d { e with phase := .finished ⟨0, s.macValue e, [], e.post.guards⟩ })) ∧
    (opcodeOf e.desc = 0x0302 →
      exec (.macVerify d) s = .next (s.setEnt d { e with phase := .finished ⟨if s.macValue e = sub e.desc 56 (u8 e.desc 34) then 0 else 1, [], [], e.post.guards⟩ })) ∧
    (opcodeOf e.desc = 0x0401 →
      ∃ p : Post, exec (.emvArqcVerify d) s = .next (s.setEnt d { e with phase := .finished p }) ∧ p.guards = e.post.guards ∧
        (if emvMac (s.emvParts e).1 (s.emvParts e).2.1 (e.inputs.headD []) = (s.emvParts e).2.2
          then p.status = 0 ∧ p.result = s.arpc e ++ noHandle ∧ (p.intents ≠ [] ↔ (u8 e.desc 34).testBit 0 = true)
          else p.status = 1 ∧ p.result = zeros 8 ++ noHandle ∧ p.intents = [])) ∧
    (opcodeOf e.desc = 0x0402 →
      exec (.emvArpcGenerate d) s = .next (s.setEnt d { e with phase := .finished ⟨0, s.arpc e, [], e.post.guards⟩ })) ∧
    (opcodeOf e.desc = 0x0410 →
      exec (.cvcGenerate d) s = .next (s.setEnt d { e with phase := .finished ⟨0, bcdEnc 3 (s.cvcOf e), [], e.post.guards⟩ })) ∧
    (opcodeOf e.desc = 0x0411 →
      exec (.cvcVerify d) s = .next (s.setEnt d { e with phase := .finished ⟨if s.cvcOf e = bcd (sub e.desc 50 3) (u8 e.desc 33) then 0 else 1, [], [], e.post.guards⟩ }))

/-- Derived from R198 and R229 to R233. FPE_FF1 returns the FF1 image of the body's symbols in its alphabet; XTS_SECTOR refuses a key with equal halves with
KEY_USAGE and otherwise returns its data units under consecutive numbers. FF1 decryption undoes FF1 encryption on every string of 2 or more symbols of the
alphabet. An open session closes at its expiry time and no other session does. -/
def Obligations.FormatPreservingXtsAndSessions : Prop :=
  (∀ (d : Idx) (e : Entry) (s : State), s.entOf d = some e → e.active = true → e.phase = .exec → opcodeOf e.desc = 0x0702 →
    exec (.fpeFf1 d) s = .next (s.setEnt d { e with phase := .finished ⟨0,
      (ff1 (u8 e.desc 32 == 0) (s.matOf e 0) (sub e.desc 36 (u8 e.desc 35)) (ff1Alphabet (u8 e.desc 33)).length
        ((sub e.desc 72 (u8 e.desc 34)).map (symIx (ff1Alphabet (u8 e.desc 33))))).map (fun i => (ff1Alphabet (u8 e.desc 33)).getD i 0),
      [], e.post.guards⟩ })) ∧
  (∀ (d : Idx) (e : Entry) (s : State), s.entOf d = some e → e.active = true → e.phase = .exec → opcodeOf e.desc = 0x0701 →
    exec (.xtsSector d) s = .next (s.setEnt d { e with phase := .finished (if equalHalves (s.matOf e 0) then ⟨stKeyUsage, [], [], e.post.guards⟩
      else ⟨0, xtsUnits (u8 e.desc 32 == 0) (s.matOf e 0) (fld e.desc 40 16) (blocks (fld e.desc 36 4) (e.inputs.headD [])), [],
        e.post.guards⟩) })) ∧
  (∀ (key tweak : Bytes) (radix : Nat) (x : List Nat), 2 ≤ radix → 2 ≤ x.length → (∀ c ∈ x, c < radix) →
    ff1 false key tweak radix (ff1 true key tweak radix x) = x) ∧
  (∀ (f : Fn) (i : Fin 4096) (x : Sess) (s : State), tblGet none s.pay.sess (4096 * f.val + i.val) = some x →
    tblWf none s.pay.sess →
    ∃ t : State, exec (.sessionExpiry f i) s = .next t ∧ tblGet none t.pay.sess (4096 * f.val + i.val) = none ∧
      (∀ k, k ≠ 4096 * f.val + i.val → tblGet none t.pay.sess k = tblGet none s.pay.sess k) ∧ t.pay.inc = s.pay.inc ∧
      t.now = max s.now x.expiry ∧ Frame [.pay, .time] s t)

/-- Derived from R235 to R239, R343, R394 and R597. For an item at stage 10 that carries the opcode, with the bytes that its operation draws: a signature, a
verification and an RSA decryption end with the output, the answer or the status of the check that fails, and an operation that must be placed
again leaves the item as it is; a key agreement and a key generation end with a blob under the tenant's TDK (and the public key); RANDOM returns the bytes
drawn; KEY_STATE_READ returns the key state word or the TDK's epoch and SESSION_CLOSE_ALL posts the intent that closes the tenant's sessions. -/
def Obligations.PublicKeyRandomAndAdminItems : Prop :=
  ∀ (d : Idx) (e : Entry) (s : State), s.entOf d = some e → e.active = true → e.phase = .exec →
    (∀ r u, opcodeOf e.desc = 0x0601 → Drawn (signDraw e.desc) s r u →
      exec (.pkSign d) s = .next (match pkPost e.post.guards (s.signature e r) with
        | some p => u.setEnt d { e with phase := .finished p }
        | none => u)) ∧
    (opcodeOf e.desc = 0x0602 →
      exec (.pkVerify d) s = .next (match pkPost e.post.guards (s.verification e) with
        | some p => s.setEnt d { e with phase := .finished p }
        | none => s)) ∧
    (∀ r u mat pub, opcodeOf e.desc = 0x0603 → Drawn (blindLen (u8 e.desc 32)) s r u → s.agreement e = .key mat pub →
      ∃ (t : State) (p : Post), exec (.pkEcdh d) s = .next t ∧ t.entOf d = some { e with phase := .finished p } ∧ p.status = 0 ∧ p.intents = [] ∧
        p.result = (u.newBlob e 1 0 (newHdr e (ecdhOut (u8 e.desc 34)).1 (u8 e.desc 35) 2 (fld e.desc 36 8) 0
          (kcvSym (ecdhOut (u8 e.desc 34)).1 mat)) mat).1 ∧ Frame (reports [.deck, .keys, .rng, .anc]) s t) ∧
    (∀ r u p, opcodeOf e.desc = 0x0603 → Drawn (blindLen (u8 e.desc 32)) s r u → (∀ m q, s.agreement e ≠ .key m q) →
      pkPost e.post.guards (s.agreement e) = some p →
      exec (.pkEcdh d) s = .next (u.setEnt d { e with phase := .finished p })) ∧
    (∀ r u mat pub, opcodeOf e.desc = 0x0604 → Drawn (genDraw (u8 e.desc 16)) s r u → pkGen (u8 e.desc 16) r = .key mat pub →
      ∃ (t : State) (p : Post), exec (.pkKeygen d) s = .next t ∧ t.entOf d = some { e with phase := .finished p } ∧ p.status = 0 ∧ p.intents = [] ∧
        p.result = (u.newBlob e 0 0 (newHdr e (u8 e.desc 16) (u8 e.desc 17) 2 (fld e.desc 24 8) 0 (kcvPk pub)) mat).1 ++ pub ∧
        Frame (reports [.deck, .keys, .rng, .anc]) s t) ∧
    (∀ r u, opcodeOf e.desc = 0x0605 → Drawn (blindLen (u8 e.desc 32)) s r u →
      exec (.rsaDecrypt d) s = .next (match pkPost e.post.guards (if u8 e.desc 33 = 1
          then rsaV15 (rsaLen (u8 e.desc 32)) (s.matOf e 0) (e.inputs.headD [])
          else rsaOaep (rsaLen (u8 e.desc 32)) (s.matOf e 0) (hashOf (u8 e.desc 34)) (e.inputs.headD [])
            (sub e.desc 56 (u8 e.desc 35))) with
        | some p => u.setEnt d { e with phase := .finished p }
        | none => u)) ∧
    (∀ r u, opcodeOf e.desc = 0x0801 → Drawn (fld e.desc 16 4) s r u →
      exec (.random d) s = .next (u.setEnt d { e with phase := .finished ⟨0, r, [], e.post.guards⟩ })) ∧
    (opcodeOf e.desc = 0x0F01 →
      exec (.keyStateRead d) s = .next (s.setEnt d { e with phase := .finished (let w := if fld e.desc 24 8 = 0 then w64 (s.tdkEpoch (fld e.desc 16 2)) else s.keyWord (fld e.desc 16 2) (fld e.desc 24 8)
         ⟨0, natLe 8 w.toNat, [], e.post.guards⟩) })) ∧
    (opcodeOf e.desc = 0x0F02 →
      exec (.sessionCloseAll d) s = .next (s.setEnt d { e with phase := .finished (⟨0, [], [.closeSessions (fld e.desc 16 2)], e.post.guards⟩ : Post) }))

/-- Derived from R283 to R285, R289 and R290. KEY_IMPORT_BLOCK ends with FORMAT_ERROR for a bad header, KEY_USAGE where the block's version does not suit the wrapping
key, the integrity status where the block does not open, and otherwise with one new blob; KEY_EXPORT_BLOCK with the key block of the bound key under the
bound wrapping key; KEY_GENERATE with a blob of the bytes drawn; KEY_REWRAP with the child's blobs sealed afresh. -/
def Obligations.KeyBlockCommands : Prop :=
  ∀ (d : Idx) (e : Entry) (s : State), s.entOf d = some e → e.active = true → e.phase = .exec →
    (opcodeOf e.desc = 0x0501 → kbHeadOk (e.inputs.headD []) = false →
      exec (.keyImportBlock d) s = .next (s.setEnt d { e with phase := .finished (⟨0x1003, [], [], e.post.guards⟩ : Post) })) ∧
    (opcodeOf e.desc = 0x0501 → kbHeadOk (e.inputs.headD []) = true →
      ((((e.inputs.headD []).getD 0 0).toNat == 0x44) != aesAlgs.contains (s.algOf e 0)) = true →
      exec (.keyImportBlock d) s = .next (s.setEnt d { e with phase := .finished (⟨stKeyUsage, [], [], e.post.guards⟩ : Post) })) ∧
    (opcodeOf e.desc = 0x0501 → kbHeadOk (e.inputs.headD []) = true →
      (((e.inputs.headD []).getD 0 0).toNat == 0x44) = aesAlgs.contains (s.algOf e 0) →
      kbOpen (s.matOf e 0) (e.inputs.headD []) = none →
      exec (.keyImportBlock d) s = .next (s.setEnt d { e with phase := .finished (⟨stIntegrity, [], [], e.post.guards⟩ : Post) })) ∧
    (∀ mat alg cls, opcodeOf e.desc = 0x0501 → kbHeadOk (e.inputs.headD []) = true →
      (((e.inputs.headD []).getD 0 0).toNat == 0x44) = aesAlgs.contains (s.algOf e 0) →
      kbOpen (s.matOf e 0) (e.inputs.headD []) = some mat → kbAlg ((e.inputs.headD []).getD 7 0) mat.length = some alg →
      kbClass (sub (e.inputs.headD []) 5 2) ((e.inputs.headD []).getD 8 0) = some cls →
      u8 e.desc 25 = 1 → kcvSym alg mat ≠ sub e.desc 28 3 →
      exec (.keyImportBlock d) s = .next (s.setEnt d { e with phase := .finished (⟨0x2007, [], [], e.post.guards⟩ : Post) })) ∧
    (∀ mat alg cls, opcodeOf e.desc = 0x0501 → kbHeadOk (e.inputs.headD []) = true →
      (((e.inputs.headD []).getD 0 0).toNat == 0x44) = aesAlgs.contains (s.algOf e 0) →
      kbOpen (s.matOf e 0) (e.inputs.headD []) = some mat → kbAlg ((e.inputs.headD []).getD 7 0) mat.length = some alg →
      kbClass (sub (e.inputs.headD []) 5 2) ((e.inputs.headD []).getD 8 0) = some cls →
      (u8 e.desc 25 = 1 → kcvSym alg mat = sub e.desc 28 3) →
      ∃ (t : State) (p : Post), exec (.keyImportBlock d) s = .next t ∧ t.entOf d = some { e with phase := .finished p } ∧ p.status = 0 ∧ p.intents = [] ∧
        p.result = (s.newBlob e 1 (fld e.desc 48 3) (newHdr e alg cls (b2n (((e.inputs.headD []).getD 11 0).toNat == 0x45))
          (targetOf e.desc) (s.newEpoch e) (kcvSym alg mat)) mat).1 ∧ t.keys.ket = s.keys.ket ∧
        Frame (reports [.deck, .keys, .anc]) s t) ∧
    (∀ r u, opcodeOf e.desc = 0x0502 → Drawn (kbPadLen (byteOf (u8 e.desc 48)) (s.matOf e 0).length) s r u →
      exec (.keyExportBlock d) s = .next (u.setEnt d { e with phase := .finished (⟨0, kbWrap (byteOf (u8 e.desc 48)) (s.matOf e 1)
        (sub e.desc 49 2) (if aesAlgs.contains (s.algOf e 0) then 0x41 else 0x54) (byteOf (u8 e.desc 51)) (sub e.desc 53 2)
        (byteOf (u8 e.desc 52)) (s.matOf e 0) r, [], e.post.guards⟩ : Post) })) ∧
    (∀ r u, opcodeOf e.desc = 0x0503 → Drawn ((algShape (u8 e.desc 25)).getD (0, 1)).1 s r u →
      ∃ (t : State) (p : Post), exec (.keyGenerate d) s = .next t ∧ t.entOf d = some { e with phase := .finished p } ∧ p.status = 0 ∧ p.intents = [] ∧
        p.result = (u.newBlob e 0 (fld e.desc 32 3) (newHdr e (u8 e.desc 25) (u8 e.desc 26) (2 + u8 e.desc 27) (targetOf e.desc)
          (s.newEpoch e) (kcvSym (u8 e.desc 25) r)) r).1 ∧ Frame (reports [.deck, .keys, .rng, .anc]) s t) ∧
    (opcodeOf e.desc = 0x0513 →
      ∃ (t : State) (p : Post), exec (.keyRewrap d) s = .next t ∧ t.entOf d = some { e with phase := .finished p } ∧ p.status = 0 ∧ p.intents = [] ∧
        p.result = (s.newBlob e 1 (fld e.desc 40 3) (let h := s.slotHdr (slotOf e 0)
          ⟨hAlg h, hUsage h, hFlags h, hTenant h, hKeyId h, hEpoch h, 0, 0, 0, hKcv h⟩) (s.matOf e 0)).1 ∧
        Frame (reports [.deck, .keys, .anc]) s t)

/-- Derived from R158, R286 to R288 and R429. A STAGE whose test passes posts STAGED with the KCV over the present COMMITTED; a COMMIT posts EPOCH as COMMITTED; an
ABANDON posts the present COMMITTED with nothing staged; a REVOKE posts the revoked word, unless the key is revoked already. Each posts the journal record and
the key state word of the target, a commit, an abandon and a revoke also the drop of the target's slots, and an enrolled member the CLUSTER intent. STATUS returns the
word. The key state word itself changes only at the release. -/
def Obligations.KeyReplacementCommands : Prop :=
  ∀ (d : Idx) (e : Entry) (s : State), s.entOf d = some e → e.active = true → e.phase = .exec →
    (∀ r u, opcodeOf e.desc = 0x0510 → Drawn (if (ecOf (s.algOf e 0)).isSome then 8 else 0) s r u →
      ∃ p : Post, exec (.keyReplaceStage d) s = .next (u.setEnt d { e with phase := .finished p }) ∧ p.guards = e.post.guards ∧ p.result = [] ∧
        p.status = stageTest (s.algOf e 0) (s.matOf e 0) (hKcv (s.slotHdr (slotOf e 0))) (sub e.desc 40 3) (sub e.desc 48 16)
          (sub e.desc 64 16) ∧
        (p.status ≠ 0 → p.intents = []) ∧
        (p.status = 0 → journalOf p.intents = some (.stage, e.fn, BitVec.ofNat 64 (targetOf e.desc),
            keyWordOf (wCommitted (s.keyWord e.fn (targetOf e.desc))) (some (sub e.desc 40 3))) ∧
          ((clusterOf p.intents).isSome ↔ s.enrolled = true))) ∧
    (opcodeOf e.desc = 0x0511 → u8 e.desc 24 = 0 →
      ∃ p : Post, exec (.keyReplaceCommit d) s = .next (s.setEnt d { e with phase := .finished p }) ∧ p.status = 0 ∧
        journalOf p.intents = some (.commit, e.fn, BitVec.ofNat 64 (targetOf e.desc), keyWordOf (fld e.desc 28 4) none) ∧
        .dropSlots e.fn (BitVec.ofNat 64 (targetOf e.desc)) ∈ p.intents ∧ ((clusterOf p.intents).isSome ↔ s.enrolled = true)) ∧
    (opcodeOf e.desc = 0x0511 → u8 e.desc 24 = 1 →
      ∃ p : Post, exec (.keyReplaceAbandon d) s = .next (s.setEnt d { e with phase := .finished p }) ∧ p.status = 0 ∧
        journalOf p.intents = some (.abandon, e.fn, BitVec.ofNat 64 (targetOf e.desc),
          keyWordOf (wCommitted (s.keyWord e.fn (targetOf e.desc))) none) ∧
        .dropSlots e.fn (BitVec.ofNat 64 (targetOf e.desc)) ∈ p.intents) ∧
    (opcodeOf e.desc = 0x0511 → u8 e.desc 24 = 2 →
      exec (.keyReplaceStatus d) s = .next (s.setEnt d { e with phase := .finished (⟨0, natLe 8 (s.keyWord e.fn (targetOf e.desc)).toNat, [], e.post.guards⟩ : Post) })) ∧
    (opcodeOf e.desc = 0x0512 → wRevoked (s.keyWord e.fn (targetOf e.desc)) = true →
      exec (.keyRevoke d) s = .next (s.setEnt d { e with phase := .finished (⟨0, [], [], e.post.guards⟩ : Post) })) ∧
    (opcodeOf e.desc = 0x0512 → wRevoked (s.keyWord e.fn (targetOf e.desc)) = false →
      ∃ (p : Post) (w : DWord), exec (.keyRevoke d) s = .next (s.setEnt d { e with phase := .finished p }) ∧ p.status = 0 ∧
        journalOf p.intents = some (.revoke, e.fn, BitVec.ofNat 64 (targetOf e.desc), w) ∧ wRevoked w = true ∧
        .dropSlots e.fn (BitVec.ofNat 64 (targetOf e.desc)) ∈ p.intents)

/-- Derived from R68, R123, R170, R274 and R275. A blob that a binding waits for is kept with the item and the binding goes on from it; a tier-two install lets the
binding go on; a read that ends in error records event 0x040A and ends the attempt with HOST_READ_ERROR, counted where it was a key fill. The input read
that is awaited is staged in order, and after the last one the item stands at stage 10. -/
def Obligations.FillsAndInputReads : Prop :=
  (∀ (d : Idx) (e : Entry) (a : Nat) (b : Bytes) (s : State), s.entOf d = some e → e.active = true → e.phase = .binding (some a) →
    b.length = 160 →
    exec (.keyFillComplete d (.data b)) s = .next ((s.setEnt d { e with fetched := (a, b) :: e.fetched }).bindOn d false)) ∧
  (∀ (d : Idx) (e : Entry) (r : HostRead) (s : State), s.entOf d = some e → e.active = true → e.phase = .binding none →
    exec (.keyFillComplete d r) s = .next (s.bindOn d true)) ∧
  (∀ (d : Idx) (e : Entry) (a : Nat) (x : ReadErr) (s : State), s.entOf d = some e → e.active = true →
    e.phase = .binding (some a) →
    ∃ t : State, exec (.keyFillComplete d (.error x)) s = .next t ∧
      t.entOf d = some { e with phase := .finished ⟨0x1005, [], [], e.post.guards⟩ } ∧
      t.keys = { s.keys with cntFillErr := s.keys.cntFillErr + 1 } ∧ Frame (reports [.deck, .keys]) s t) ∧
  (∀ (d : Idx) (e : Entry) (a n : Nat) (b : Bytes) (s : State), s.entOf d = some e → e.active = true →
    e.phase = .input [(a, n)] → b.length = n → (s.bodyFor e).reads.length = e.inputs.length + 1 →
    exec (.inputReadComplete d e.inputs.length (.data b)) s =
      .next (s.setEnt d { e with inputs := e.inputs ++ [b], phase := .exec })) ∧
  (∀ (d : Idx) (e : Entry) (a n a' n' : Nat) (l : List (Nat × Nat)) (b : Bytes) (s : State), s.entOf d = some e → e.active = true →
    e.phase = .input ((a, n) :: (a', n') :: l) → b.length = n → e.gen = (s.tnOf e.fn).gen →
    (s.bodyFor e).reads.drop (e.inputs.length + 1) = (a', n') :: l →
    ∃ t : State, exec (.inputReadComplete d e.inputs.length (.data b)) s = .next t ∧
      t.entOf d = some { e with inputs := e.inputs ++ [b], phase := .input ((a', n') :: l) } ∧
      t.out = s.out ++ [.hostRead e.fn a' n'] ∧ Frame [.deck, .out] s t) ∧
  (∀ (d : Idx) (e : Entry) (p : Nat × Nat) (l : List (Nat × Nat)) (x : ReadErr) (s : State), s.entOf d = some e → e.active = true →
    e.phase = .input (p :: l) →
    exec (.inputReadComplete d e.inputs.length (.error x)) s =
      .next ((s.event 1136 0x040A e.fn d 0 (readErrCode x)).fail d 0x1005))

/-- Derived from R263 to R269 and R300. The oldest record that is not persistent is written at the fill point of the active half, its cost leaves O, and its
tenant's ANC_TN_KEY_SEQ write is issued unless the tenant's 50 ms window is open; the window's end issues what has become coverable. The erase of a half leaves the
KET's snapshot in the other half, which becomes active, and no byte outside the journal region changes. KC_FLUSH sets FLUSHING and leaves the tenant no usable slot, and is ignored
while FLUSHING is 1. -/
def Obligations.JournalAndFlush : Prop :=
  (∀ (x : Taken) (l : List Taken) (s : State), s.keys.taken = x :: l → x.persistent = false →
    ∃ t : State, exec .journalRecordPersistent s = .next t ∧
      t.cfg.flash = setBytes 0xFF s.cfg.flash (jAddr s.keys.jHalf s.keys.jFill) x.bytes ∧
      t.keys.jFill = s.keys.jFill + 1 ∧ t.keys.jCount = s.keys.jCount + 1 ∧ t.keys.ket = s.keys.ket ∧
      t.pwr.outstanding = s.pwr.outstanding - 12000 ∧
      (tblGet false s.keys.windows x.tenant = true → s.keys.urgent = false → t.anc = s.anc) ∧
      (tblGet false s.keys.windows x.tenant = false → l = [] → x.issued = false →
        ∃ w : AncWrite, t.anc.queue = s.anc.queue ++ [w] ∧ w.word = 0x400 + x.tenant ∧ w.eff = .keySeq x.tenant x.seq ∧
          w.vals.map (fun v => v.toNat % 2 ^ 32) = [x.seq % 2 ^ 32]) ∧
      Frame [.keys, .anc, .cfg, .pwr] s t) ∧
  (∀ (f : Fn) (s : State), tblGet false s.keys.windows f = true → coverable f s.keys.taken = [] →
    exec (.anchorWindowExpiry f) s = .next { s with keys.windows := tblSet false f false s.keys.windows }) ∧
  (∀ (f : Fn) (x : Taken) (s : State), tblGet false s.keys.windows f = true → s.keys.taken = [x] → x.tenant = f.val →
    x.persistent = true → x.issued = false →
    ∃ (t : State) (w : AncWrite), exec (.anchorWindowExpiry f) s = .next t ∧ t.anc.queue = s.anc.queue ++ [w] ∧ w.word = 0x400 + f.val ∧
      w.eff = .keySeq f.val x.seq ∧ tblGet false t.keys.windows f = true ∧ t.keys.taken = [{ x with issued := true }] ∧
      Frame [.keys, .anc] s t) ∧
  (∀ (s : State), s.keys.jSnap = true →
    ∃ t : State, exec .journalHalfErase s = .next t ∧ t.keys.jHalf = !s.keys.jHalf ∧ t.keys.jSnap = false ∧
      t.keys.jFill = s.keys.ket.length + 1 ∧ t.keys.ket = s.keys.ket ∧
      t.cfg.flash = clearBytes (setBytes 0xFF s.cfg.flash (jAddr (!s.keys.jHalf) 0) (snapBytes s.keys.ket))
        (jAddr s.keys.jHalf 0) 0x800000 ∧ Frame (reports [.keys, .anc, .cfg]) s t) ∧
  (∀ (f : Fn) (s : State), s.keys.flushing = none → tblWf none s.keys.t1 →
    ∃ t : State, exec (.kcFlush f) s = .next t ∧ t.keys.flushing = some f.val ∧ t.keys.ket = s.keys.ket ∧
      (∀ k x, tblGet none t.keys.t1 k = some x → x.second = false → hTenant x.hdr = f.val → hKeyId x.hdr ≠ 0xFFFFFFFFFFFFFFFF →
        x.st = .stale) ∧ Frame [.keys] s t) ∧
  (∀ (f : Fn) (s : State), s.keys.flushing.isSome = true → exec (.kcFlush f) s = .next s) ∧
  (∀ (s : State), exec .kcFlushDone s = .next { s with keys.flushing := none })

/-- Derived from R251. GENERATE, while LOADED is 0 and the commissioning ceremony allows it, asks the RNG for 32 bytes on the Keystone's port and changes nothing else; with a
key loaded it is ignored. CLEAR, where a ceremony or a cluster removal allows it, zeroes the key register and the integrity word and clears LOADED; otherwise it is ignored. -/
def Obligations.KeystoneCommands : Prop :=
  (∀ (s : State), s.ks.loaded = false → s.mss.mayGenerate = true →
    exec .generate s = .next { s with rng.waiting := tblSet 0 212 32 s.rng.waiting }) ∧
  (∀ (s : State), s.ks.loaded = true → exec .generate s = .next s) ∧
  (∀ (s : State), s.mss.mayClear = true →
    exec .clear s = .next { s with ks.drk := 0, ks.integrity := 0, ks.loaded := false }) ∧
  (∀ (s : State), s.mss.mayClear = false → exec .clear s = .next s)

/-- Derived from R280, R308, R311 to R313 and R319 to R321. A well-formed chain of executable requests joins the empty queue of the engine that its distributor picks, in the
first bay in the pier's order that can take it; the pointers move on, and a gated bay wakes. The running request that needs a key gets it with the first decision where
the permit holds, and otherwise completes with KEY_REFUSED pending the second decision. A second decision that agrees answers the held outcome, and one that differs answers
MISMATCH and counts it. -/
def Obligations.PlacementAndKeyBus : Prop :=
  (∀ (p : PierNo) (k : EngKind) (l : List Req) (d b e : Nat) (s : State), s.pierOf p = .holding d → chainOk k l = true →
    s.clk.stopped = false →
    (baysFor k p).findSome? (fun b => (s.pickEng b l.length ((l.map (fun q => q.tenant)).headD 0)).map (fun e => (b, e))) = some (b, e) →
    (s.engOf e).q = [] → bayOf e = b → tblWf 0 s.eng.engPtr → tblWf 0 s.eng.pierPtr → (∀ q ∈ l, reqOk e { q with pier := p } = true) →
    ∃ t : State, exec (.chainPlace p k l) s = .next t ∧
      (t.engOf e).q = l.map (fun q => ⟨{ q with pier := p }, none, none, none, none, []⟩) ∧
      tblGet 0 t.eng.engPtr b = (e + 1) % 8 ∧ tblGet 0 t.eng.pierPtr b = (p.val + 1) % 128 ∧
      t.bayOf b = (if s.bayOf b = .gated then .waking else s.bayOf b) ∧ Frame [.clk, .eng] s t) ∧
  (∀ (e : Fin 96) (y : QEnt) (s : State), s.running e = some (0, y) → (s.engOf e).q = [y] → needsKey y.req = true →
    y.first = none → mustScrub e (s.engOf e) y.req = false → y.req.keyChain = false →
    (∀ k ∈ reqSlots y.req, (slotWords k).any s.poisoned = false) → (reqSlots y.req).all (s.permitSlot y.req) = true →
    ∃ t : State, exec (.keyBusRequest e) s = .next t ∧
      (t.engOf e).q = [{ y with first := some true, key := s.keyFor e y.req }] ∧ t.eng.busPtr = (e.val + 1) % 96 ∧
      t.keys = s.keys ∧ Frame [.eng] s t) ∧
  (∀ (e : Fin 96) (y : QEnt) (s : State), s.running e = some (0, y) → (s.engOf e).q = [y] → needsKey y.req = true →
    y.first = none → mustScrub e (s.engOf e) y.req = false → y.req.keyChain = false →
    (∀ k ∈ reqSlots y.req, (slotWords k).any s.poisoned = false) → (reqSlots y.req).all (s.permitSlot y.req) = false →
    ∃ t : State, exec (.keyBusRequest e) s = .next t ∧
      (t.engOf e).q = [{ y with first := some false, key := none, out := some (bareResp y.req 2, []) }] ∧ Frame [.eng] s t) ∧
  (∀ (e : Fin 96) (y : QEnt) (o : Resp × Bytes) (a : Bool) (s : State), (s.engOf e).q = [y] → y.out = some o →
    y.first = some a → y.second = none → y.req.keyChain = false → o.1.status ∉ [6, 7, 0x14, 3] →
    (o.1.status = 0 → installs y.req = false ∧ y.req.dst = 0) → s.parkMarked (bayOf e) = false →
    (48 ≤ e.val → y.req.aux.testBit 11 = false) → tblWf {} s.eng.eng →
    ∃ t : State, exec (.keyBusSecondDecision e (a != s.permit e y.req)) s = .next t ∧ Answered e y o.1 s t ∧ t.keys = s.keys ∧
      Frame [.eng, .out] s t) ∧
  (∀ (e : Fin 96) (y : QEnt) (o : Resp × Bytes) (a : Bool) (s : State), (s.engOf e).q = [y] → y.out = some o →
    y.first = some a → y.second = none → y.req.keyChain = false → o.1.status ∉ [6, 7, 0x14] → s.parkMarked (bayOf e) = false →
    (48 ≤ e.val → y.req.aux.testBit 11 = false) → tblWf {} s.eng.eng →
    ∃ t : State, exec (.keyBusSecondDecision e (a == s.permit e y.req)) s = .next t ∧ Answered e y (bareResp y.req 3) s t ∧
      t.keys = { s.keys with cntMismatch := s.keys.cntMismatch + 1 } ∧ t.mem = s.mem ∧ Frame [.keys, .eng, .out] s t)

/-- Derived from R301 to R309 and R313. For each cipher-mode, MAC, card-code and FF1 command, the only request of an engine, with its key in the key register, its ranges allowed and
its draw served, runs: its outcome is the response that the pier receives, its output is written at DST and nowhere else, and the queue is empty. -/
def Obligations.CipherModeCommands : Prop :=
  ∀ e : Fin 32,
    EngineRuns e 0x0100 (.ecbEncrypt e) ∧ EngineRuns e 0x0101 (.ecbDecrypt e) ∧ EngineRuns e 0x0110 (.cbcEncrypt e) ∧
    EngineRuns e 0x0111 (.cbcDecrypt e) ∧ EngineRuns e 0x0120 (.ctr e) ∧ EngineRuns e 0x0130 (.cfbEncrypt e) ∧
    EngineRuns e 0x0131 (.cfbDecrypt e) ∧ EngineRuns e 0x0140 (.gcmEncrypt e) ∧ EngineRuns e 0x0141 (.gcmDecrypt e) ∧
    EngineRuns e 0x0150 (.cmacGenerate e) ∧ EngineRuns e 0x0151 (.cmacVerify e) ∧ EngineRuns e 0x0160 (.alg1MacGenerate e) ∧
    EngineRuns e 0x0161 (.alg1MacVerify e) ∧ EngineRuns e 0x0170 (.alg3MacGenerate e) ∧ EngineRuns e 0x0171 (.alg3MacVerify e) ∧
    EngineRuns e 0x0180 (.engineCvcGenerate e) ∧ EngineRuns e 0x0181 (.engineCvcVerify e) ∧ EngineRuns e 0x0190 (.ff1Round e) ∧
    EngineRuns e 0x01A0 (.xtsEncrypt e) ∧ EngineRuns e 0x01A1 (.xtsDecrypt e)

/-- Derived from R302 to R309, R313 and R314. For each derivation, PIN and hash command, the only request of an engine, ready as R304 asks, runs: its outcome is the response that the pier receives;
a derived key is installed in a key-cache slot whose number the response carries, or left in the chain key register. -/
def Obligations.DerivePinAndHashCommands : Prop :=
  (∀ e : Fin 32,
    EngineRuns e 0x0200 (.deriveToSlot e) ∧ EngineRuns e 0x0201 (.deriveOut e) ∧ EngineRuns e 0x0300 (.pinOpen e) ∧
    EngineRuns e 0x0301 (.pinSeal e) ∧ EngineRuns e 0x0302 (.pinOffsetGenerate e) ∧ EngineRuns e 0x0303 (.pinOffsetVerify e) ∧
    EngineRuns e 0x0304 (.pinVvGenerate e) ∧ EngineRuns e 0x0305 (.pinVvVerify e)) ∧
  (∀ e : Fin 16,
    EngineRuns (32 + e) 0x0800 (.sha256 e) ∧ EngineRuns (32 + e) 0x0801 (.sha384 e) ∧ EngineRuns (32 + e) 0x0802 (.sha512 e) ∧
    EngineRuns (32 + e) 0x0810 (.hmacGenerate e) ∧ EngineRuns (32 + e) 0x0811 (.hmacVerify e))

/-- Derived from R341 to R353 and R314. For each public-key operation, the only request of an engine, ready as R304 and R346 ask, runs: its output, its answer or the status of the check that fails is the
response that the pier receives; a generated or agreed key is installed in a key-cache slot whose number the response carries. -/
def Obligations.PublicKeyEngineCommands : Prop :=
  ∀ e : Fin 48,
    EngineRuns (48 + e) 0x0400 (.rsaPrivateOp e) ∧ EngineRuns (48 + e) 0x0401 (.rsaPublicOp e) ∧
    EngineRuns (48 + e) 0x0402 (.rsaOaepDecrypt e) ∧ EngineRuns (48 + e) 0x0403 (.rsaV15Decrypt e) ∧
    EngineRuns (48 + e) 0x0404 (.rsaKeygen e) ∧ EngineRuns (48 + e) 0x0405 (.rsaPublicFromPrivate e) ∧
    EngineRuns (48 + e) 0x0410 (.ecdsaSign e) ∧ EngineRuns (48 + e) 0x0411 (.ecdsaVerify e) ∧
    EngineRuns (48 + e) 0x0412 (.ecdhKdf e) ∧ EngineRuns (48 + e) 0x0413 (.ecKeygen e) ∧
    EngineRuns (48 + e) 0x0414 (.ecPublicFromScalar e) ∧ EngineRuns (48 + e) 0x0420 (.x25519Kdf e) ∧
    EngineRuns (48 + e) 0x0421 (.ed25519Sign e) ∧ EngineRuns (48 + e) 0x0422 (.ed25519Verify e) ∧
    EngineRuns (48 + e) 0x0423 (.curve25519Keygen e)

/-- Derived from R305, R322 to R325, R343 and R357 to R359. The pier takes the oldest response: one that names another attempt is dropped, a VERIFY_NO answers no, a refused key ends the attempt with KEY_USAGE. A detected fault of an
engine in service (kinds 0 to 2 of a cipher or hash engine, 0 to 4 of a public-key engine) quarantines it, counts the fault, answers every request it holds with ENGINE_FAULT and records event 0x0405; the third
quarantine keeps it out. A passed self-test returns it to service. -/
def Obligations.ResponsesAndEngineFaults : Prop :=
  (∀ (p : PierNo) (r : Resp) (l : List Resp) (d : Nat) (e : Entry) (s : State), tblGet [] s.eng.ports p = r :: l →
    s.pierOf p = .holding d → s.entOf d = some e → (r.deckIdx ≠ d ∨ r.attempt ≠ e.attempt) →
    exec (.engineResponse p) s = .next { s with eng.ports := tblSet [] p l s.eng.ports }) ∧
  (∀ (p : PierNo) (r : Resp) (l : List Resp) (d : Nat) (e : Entry) (s : State), tblGet [] s.eng.ports p = r :: l →
    s.pierOf p = .holding d → s.entOf d = some e → r.deckIdx = d → r.attempt = e.attempt →
    (r.status = 0 → exec (.engineResponse p) s = .next { s with eng.ports := tblSet [] p l s.eng.ports }) ∧
    (r.status = 1 → ∃ t : State, exec (.engineResponse p) s = .next t ∧
      t.entOf d = some { e with phase := .finished ⟨1, [], [], e.post.guards⟩ } ∧ Frame [.deck, .eng] s t) ∧
    (r.status = 2 ∨ r.status = 5 → ∃ t : State, exec (.engineResponse p) s = .next t ∧
      t.entOf d = some { e with phase := .finished ⟨stKeyUsage, [], [], e.post.guards⟩ } ∧ Frame [.deck, .eng] s t)) ∧
  (∀ (e : Fin 48) (k : Fin 8) (s : State), k.val ≤ 2 → (s.engOf e).st = .inService → (s.engOf e).quar < 2 →
    ∃ t : State, exec (.engineFaultDetect e k) s = .next t ∧ (t.engOf e).st = .quarantined ∧
      (t.engOf e).quar = (s.engOf e).quar + 1 ∧ (t.engOf e).q = [] ∧ t.eng.sceCntFault = s.eng.sceCntFault + 1 ∧
      (∀ y ∈ (s.engOf e).q, .response y.req.pier 6 [] ∈ t.out) ∧ t.deck = s.deck ∧ Frame (reports [.eng, .keys]) s t) ∧
  (∀ (e : Fin 48) (k : Fin 8) (s : State), k.val ≤ 4 → (s.engOf (48 + e)).st = .inService → (s.engOf (48 + e)).quar < 2 →
    ∃ t : State, exec (.pksFaultDetect e k) s = .next t ∧ (t.engOf (48 + e)).st = .quarantined ∧ (t.engOf (48 + e)).q = [] ∧
      (t.engOf (48 + e)).opmem = [] ∧ t.eng.pksCntFault = s.eng.pksCntFault + 1 ∧ t.deck = s.deck ∧
      Frame (reports [.eng, .keys]) s t) ∧
  (∀ (e : Fin 48) (k : Fin 8) (s : State), k.val ≤ 2 → (s.engOf e).st = .inService → (s.engOf e).quar = 2 →
    ∃ t : State, exec (.engineFaultDetect e k) s = .next t ∧ (t.engOf e).st = .out) ∧
  (∀ (e : Fin 48) (s : State), (s.engOf e).st = .quarantined →
    exec (.engineSelfTestEnd e true) s = .next ((s.event (engSource e) 0x0406 e 0 0 0).modEng e (fun x => { x with st := .inService }))) ∧
  (∀ (e : Fin 48) (s : State), (s.engOf e).st = .quarantined →
    ∃ t : State, exec (.engineSelfTestEnd e false) s = .next t ∧ (t.engOf e).st = .out) ∧
  (∀ (e : Fin 48) (s : State), (s.engOf (48 + e)).st = .quarantined →
    exec (.pksSelfTestEnd e 0) s = .next ((s.event (engSource (48 + e)) 0x0406 (48 + e) 0 0 0).modEng (48 + e)
      (fun x => { x with st := .inService, loaded := true, dirty := false }))) ∧
  (∀ (e : Fin 48) (s : State), (s.engOf (48 + e)).st = .quarantined →
    ∃ t : State, exec (.pksSelfTestEnd e 1) s = .next t ∧ (t.engOf (48 + e)).st = .out)

/-- Derived from R337 to R340 and R346. LOCK holds until a reset. LOAD is refused while LOCKED is 0, while a load is in progress or while a target has a request or is neither parked, quarantined nor unloaded; otherwise the load begins. Its end marks every target
whose control store has the accepted digest loaded, and keeps the others out with MISMATCH set. An ordered scrub begins on an idle engine and is left pending on a busy one; its end leaves the operand memory zero and the engine clean. -/
def Obligations.MicrocodeAndScrubs : Prop :=
  (∀ (s : State), exec .lock s = .next { s with eng.ucLocked := true }) ∧
  (∀ (s : State), s.eng.ucLocked = true → s.eng.ucBusy = false → (∀ e ∈ s.ucTargets, s.loadable e = true) →
    exec .load s = .next { s with eng.ucBusy := true, eng.ucRefused := false }) ∧
  (∀ (s : State), (s.eng.ucLocked = false ∨ s.eng.ucBusy = true ∨ ∃ e ∈ s.ucTargets, s.loadable e = false) →
    exec .load s = .next { s with eng.ucRefused := true }) ∧
  (∀ (s : State), s.eng.ucBusy = true →
    ∃ t : State, exec (.ucodeLoadDone 0) s = .next t ∧ t.eng.ucBusy = false ∧
      (if sha384B s.ucPayload = s.ucAccepted then t.eng.ucMismatch = false ∧ Frame [.eng] s t ∧
          ∀ e ∈ s.ucTargets, t.engOf e = { s.engOf e with store := s.ucAccepted, loaded := true }
        else t.eng.ucMismatch = !s.ucTargets.isEmpty ∧
          ∀ e ∈ s.ucTargets, (t.engOf e).loaded = false ∧ (t.engOf e).st = .out)) ∧
  (∀ (n : Fin 48) (v : Word) (s : State), v.getLsbD 31 = true → (v.setWidth 6).toNat = n.val → (s.engOf (48 + n)).q = [] →
    exec (.pksScrub v) s = .next (s.modEng (48 + n) (fun x => { x with scrubbing := true }))) ∧
  (∀ (n : Fin 48) (v : Word) (y : QEnt) (l : List QEnt) (s : State), v.getLsbD 31 = true → (v.setWidth 6).toNat = n.val →
    (s.engOf (48 + n)).q = y :: l → y.first.isSome = true →
    exec (.pksScrub v) s = .next (s.modEng (48 + n) (fun x => { x with scrubPending := true }))) ∧
  (∀ (n : Fin 48) (s : State), (s.engOf (48 + n)).scrubbing = true → (s.engOf (48 + n)).q = [] →
    s.parkMarked (bayOf (48 + n)) = false → tblWf {} s.eng.eng →
    ∃ t : State, exec (.scrubEnd n) s = .next t ∧ (t.engOf (48 + n)) = { s.engOf (48 + n) with
        opmem := [], dirty := false, scrubPending := false, scrubbing := false } ∧
      t.eng.pksCntScrub = s.eng.pksCntScrub + 1 ∧ Frame [.eng] s t)

/-- Derived from R361 to R365. MULACC adds A × B to the accumulator modulo 2^832; MULACC_SHIFT then stores the low word at B and shifts the accumulator right by 64 bits; ACC_CLEAR zeroes it; ACC_STORE writes its low 64 bytes at the slot (the model's reading, log 25) and no other word;
RAM_CLEAR zeroes the memory and the accumulator. Each is counted and clears DROPPED, and nothing outside PKM changes. -/
def Obligations.PkmCommands : Prop :=
  ∀ s : State,
    (∀ (a : Fin 128) (b : Fin 1024), ∃ t : State, exec (.mulacc a b) s = .next t ∧
      t.eng.pkmAcc.toNat = (s.eng.pkmAcc.toNat + s.pkmA a * (s.pkmWord b).toNat) % 2 ^ 832 ∧ t.eng.pkmRam = s.eng.pkmRam ∧
      t.eng.pkmCnt = s.eng.pkmCnt + 1 ∧ t.eng.pkmDropped = false ∧ t.eng.eng = s.eng.eng ∧ Frame [.eng] s t) ∧
    (∀ (a : Fin 128) (b : Fin 1024), tblWf 0 s.eng.pkmRam → ∃ t : State, exec (.mulaccShift a b) s = .next t ∧
      t.eng.pkmAcc.toNat = (s.eng.pkmAcc.toNat + s.pkmA a * (s.pkmWord b).toNat) % 2 ^ 832 / 2 ^ 64 ∧
      (t.pkmWord b).toNat = (s.eng.pkmAcc.toNat + s.pkmA a * (s.pkmWord b).toNat) % 2 ^ 64 ∧
      (∀ i, i ≠ b.val → t.pkmWord i = s.pkmWord i) ∧ t.eng.pkmCnt = s.eng.pkmCnt + 1 ∧ Frame [.eng] s t) ∧
    (exec .accClear s = .next { s with eng.pkmAcc := 0, eng.pkmCnt := s.eng.pkmCnt + 1, eng.pkmDropped := false }) ∧
    (∀ (d : Fin 128), tblWf 0 s.eng.pkmRam → ∃ t : State, exec (.accStore d) s = .next t ∧ t.eng.pkmAcc = s.eng.pkmAcc ∧
      (∀ i < 8, t.pkmWord (8 * d.val + i) = (s.eng.pkmAcc >>> (64 * i)).setWidth 64) ∧
      (∀ i, (i < 8 * d.val ∨ 8 * d.val + 8 ≤ i) → t.pkmWord i = s.pkmWord i) ∧ t.eng.pkmCnt = s.eng.pkmCnt + 1 ∧ Frame [.eng] s t) ∧
    (exec .ramClear s = .next { s with
      eng.pkmAcc := 0, eng.pkmRam := [], eng.pkmEcc := false, eng.pkmCnt := s.eng.pkmCnt + 1, eng.pkmDropped := false })

/-- Derived from R373 to R375 and R387 to R390. A start-up test of 1,024 samples that passes makes a waiting or quarantined source healthy with those samples; a window of 512 samples of a healthy source that passes adds them to its
buffer and changes no other part of the module. A failing test, in a start-up test, at a window's end or within a window, counts the failure, ends the source's health, empties its buffer, and leaves no expander seeded from it; a source that fails
in quarantine, or for the third time, is kept out, and a source kept out stays as it is. -/
def Obligations.NoiseSources : Prop :=
  (∀ (n : Fin 4) (l : List (BitVec 4)) (s : State), ((s.srcOf n).st = 0 ∨ (s.srcOf n).st = 2) → l.length = 1024 →
    (healthTest (0, 0) 0 0 0 l).1 = 0 →
    ∃ t : State, exec (.sourceStartupTestEnd n l) s = .next t ∧ (t.srcOf n).st = 1 ∧ (t.srcOf n).buf = l ∧
      (∀ i, i ≠ n.val → t.srcOf i = s.srcOf i) ∧ (∀ i, t.expOf i = s.expOf i) ∧ Frame (reports [.rng, .deck]) s t) ∧
  (∀ (n : Fin 4) (l : List (BitVec 4)) (s : State), ((s.srcOf n).st = 0 ∨ (s.srcOf n).st = 2) → l.length = 1024 →
    (healthTest (0, 0) 0 0 0 l).1 ≠ 0 →
    exec (.sourceStartupTestEnd n l) s = .next (s.excludeSrc n 3)) ∧
  (∀ (n : Fin 4) (l : List (BitVec 4)) (s : State), (s.srcOf n).st = 1 → l.length = 512 →
    (healthTest (s.srcOf n).run 0 0 0 l).1 = 0 →
    exec (.adaptiveWindowEnd n l) s = .next (s.setSrc n { s.srcOf n with
      run := (healthTest (s.srcOf n).run 0 0 0 l).2, buf := admitSamples (s.srcOf n).buf l })) ∧
  (∀ (n : Fin 4) (l : List (BitVec 4)) (s : State), (s.srcOf n).st = 1 → l.length = 512 →
    (healthTest (s.srcOf n).run 0 0 0 l).1 ≠ 0 →
    exec (.adaptiveWindowEnd n l) s = .next (s.excludeSrc n (healthTest (s.srcOf n).run 0 0 0 l).1)) ∧
  (∀ (n : Fin 4) (k : Fin 2) (s : State), (s.srcOf n).st ≠ 3 →
    ∃ t : State, exec (.sourceExclude n k) s = .next t ∧ t = s.excludeSrc n (k.val + 1) ∧
      (t.srcOf n).st = (if (s.srcOf n).st = 2 ∨ 2 ≤ (s.srcOf n).quar then 3 else 2) ∧ (t.srcOf n).buf = [] ∧
      t.rng.cntHealth = s.rng.cntHealth + 1 ∧
      (∀ i, (t.expOf i).seeded = true → (t.expOf i).srcs.1 ≠ n.val ∧ (t.expOf i).srcs.2 ≠ n.val) ∧
      (∀ i, i ≠ n.val → t.srcOf i = s.srcOf i) ∧ Frame (reports [.rng, .deck]) s t) ∧
  (∀ (n : Fin 4) (k : Fin 2) (s : State), (s.srcOf n).st = 3 → exec (.sourceExclude n k) s = .next s)

/-- Derived from R376 to R380 and R391 to R393. A seed goes to the lowest unseeded expander whose pair of healthy sources each hold 896 samples: it takes those samples from the two sources, and the expander is seeded, with its age beginning now. A reseed that is due leaves the
expander unseeded. A known-answer test starts on GO unless one is running and takes its unit out of use; its end reports the result, and a failed test of the conditioner fails the generator while one of an expander keeps it out. Raw-sample mode starts only in the
maintenance overlay, and its end leaves no seed and no sample. -/
def Obligations.SeedsAndTests : Prop :=
  (∀ (i a b : Nat) (s : State), s.rng.rawEn = false → s.rng.condFault = false → s.rng.katBusy ≠ some 16 → i < 16 →
    s.seedPair i = some (a, b) → (∀ j < i, s.seedPair j = none) → tblWf {} s.rng.src →
    ∃ t : State, exec .seedReady s = .next t ∧ (t.expOf i).seeded = true ∧ (t.expOf i).srcs = (a, b) ∧ (t.expOf i).reqs = 0 ∧
      (t.expOf i).at_ = s.now ∧ (t.srcOf a).buf = (s.srcOf a).buf.drop 896 ∧ (t.srcOf b).buf = (s.srcOf b).buf.drop 896 ∧
      (∀ j, j ≠ i → t.expOf j = s.expOf j) ∧ t.rng.cntSeed = s.rng.cntSeed + 1 ∧ Frame (reports [.rng, .deck]) s t) ∧
  (∀ (x : Fin 16) (s : State), (s.expOf x).seeded = true → tblWf {} s.rng.exp →
    ∃ t : State, exec (.expanderReseedDue x) s = .next t ∧ (t.expOf x).seeded = false ∧ (∀ j, j ≠ x.val → t.expOf j = s.expOf j) ∧
      Frame (reports [.rng, .deck, .time]) s t) ∧
  (∀ (v : Word) (s : State), s.rng.katBusy = none → v.getLsbD 0 = true → v.getLsbD 1 = false →
    exec (.rngKat v) s = .next { s with
      rng.katTarget := false, rng.katExp := (v >>> 2).setWidth 4, rng.katBusy := some 16 }) ∧
  (∀ (v : Word) (s : State), s.rng.katBusy = none → v.getLsbD 0 = true → v.getLsbD 1 = true → tblWf {} s.rng.exp →
    ∃ t : State, exec (.rngKat v) s = .next t ∧ t.rng.katBusy = some ((v >>> 2).setWidth 4 : BitVec 4).toNat ∧
      (t.expOf ((v >>> 2).setWidth 4 : BitVec 4).toNat).seeded = false ∧ Frame (reports [.rng, .deck]) s t) ∧
  (∀ (v : Word) (s : State), s.rng.katBusy.isSome = true →
    ∃ t : State, exec (.rngKat v) s = .next t ∧ t.rng.katBusy = s.rng.katBusy ∧ t.rng.exp = s.rng.exp ∧ Frame [.rng] s t) ∧
  (∀ (u : Nat) (pass : Bool) (s : State), s.rng.katBusy = some u →
    ∃ t : State, exec (.rngKatEnd pass) s = .next t ∧ t.rng.katBusy = none ∧ t.rng.katPass = pass ∧ t.rng.katValid = true ∧
      t.rng.condFault = (s.rng.condFault || (u == 16 && !pass)) ∧ (pass = false → u < 16 → (t.expOf u).out = true) ∧
      (t.rng.condFault = true → t.rng.rawEn = false → t.rng.st = 3) ∧ Frame (reports [.rng, .deck]) s t) ∧
  (∀ (v : Word) (s : State), v.getLsbD 0 = true → s.hiu.overlay ≠ 1 →
    exec (.rawEnWrite v) s = .next (s.rngEvent 16)) ∧
  (∀ (v : Word) (s : State), v.getLsbD 0 = true → s.hiu.overlay = 1 →
    ∃ t : State, exec (.rawEnWrite v) s = .next t ∧ t.rng.rawEn = true ∧ t.rng.rawSrc = (v >>> 1).setWidth 2 ∧ t.rng.st = 4 ∧
      Frame (reports [.rng]) s t) ∧
  (∀ (v : Word) (s : State), v.getLsbD 0 = false → s.rng.rawEn = true →
    ∃ t : State, exec (.rawEnWrite v) s = .next t ∧ t.rng.rawEn = false ∧ (∀ i, (t.expOf i).seeded = false) ∧
      (∀ n, (t.srcOf n).buf = []) ∧ Frame (reports [.rng, .deck]) s t)

/-- Derived from R381 to R385, R393 and R401. A request of 1 to 65,536 bytes on a free port waits, or, while the generator is FAILED, completes at once with the error. The first waiting port at or after the pointer is served with what one generate request gives, and its wait ends; the
Keystone's port loads the DRK with its integrity word. RNG_DATA returns 8 drawn bytes, zero on an error, or waits; RNG_RAW returns samples in raw-sample mode and zero otherwise. -/
def Obligations.RandomDraws : Prop :=
  (∀ (p : Fin 214) (n : Nat) (s : State), 1 ≤ n → n ≤ 65536 → tblGet 0 s.rng.waiting p = 0 → s.rng.st ≠ 3 →
    exec (.rngDraw p n) s = .next { s with rng.waiting := tblSet 0 p n s.rng.waiting }) ∧
  (∀ (p : Fin 214) (n : Nat) (s : State), 1 ≤ n → n ≤ 65536 → tblGet 0 s.rng.waiting p = 0 → s.rng.st = 3 → p.val ≠ 213 →
    ∃ t : State, exec (.rngDraw p n) s = .next t ∧ t.out = s.out ++ [.draw p true []] ∧
      t.rng = { s.rng with cntErrDraw := s.rng.cntErrDraw + 1, waiting := tblSet 0 p 0 s.rng.waiting } ∧
      Frame [.rng, .deck, .out] s t) ∧
  (∀ (p : Nat) (b : Bytes) (u s : State), rotFind 214 s.rng.portPtr (fun p => tblGet 0 s.rng.waiting p != 0) = some p →
    s.rng.st = 1 → s.rngTake (tblGet 0 s.rng.waiting p) = .ok b u →
    ∃ t : State, exec .drawServed s = .next t ∧ t.rng.waiting = tblSet 0 p 0 s.rng.waiting ∧ t.rng.portPtr = (p + 1) % 214 ∧
      t.rng.cntBytes = s.rng.cntBytes + w64 (tblGet 0 s.rng.waiting p) ∧
      (if p = 212 then t.ks = { s.ks with
            drk := BitVec.ofNat 256 (beNat b), integrity := drkWord (natBe 32 (BitVec.ofNat 256 (beNat b)).toNat)
            loaded := true, tamper := false } ∧ t.out = s.out
        else t.ks = s.ks ∧ t.out = s.out ++ [if p = 213 then .readData (w64 (leNat b)) else .draw p false b]) ∧
      Frame [.rng, .ks, .out] s t) ∧
  (∀ (b : Bytes) (u s : State), s.rngTake 8 = .ok b u →
    ∃ t : State, exec .rngDataRead s = .next t ∧ t.out = s.out ++ [.readData (w64 (leNat b))] ∧ t.rng = u.rng ∧ Frame [.rng, .out] s t) ∧
  (∀ (s : State), s.rng.st = 3 →
    exec .rngDataRead s = .next { s with rng.cntErrDraw := s.rng.cntErrDraw + 1, out := s.out ++ [.readData 0] }) ∧
  (∀ (s : State), s.rngTake 8 = .stall →
    exec .rngDataRead s = .next { s with rng.waiting := tblSet 0 213 8 s.rng.waiting }) ∧
  (∀ (x : DWord) (s : State),
    exec (.rngRawRead x) s = .next { s with out := s.out ++ [.readData (if s.rng.rawEn then x else 0)] })

/-- Derived from R413, R415 to R418, R426, R439 and R441. A frame under MACsec changes nothing at a member that does not run, that holds no association with its neighbour, or whose term is above the frame's. A duplicate is only acknowledged, and a frame beyond the next releases what
it acknowledges and no more. HEARTBEAT and ACK_ONLY release the messages up to ACK, an acknowledged REMOVE ends the association, and a former abutment that meets a higher term stops deciding and rejoins. A message is sent with the next number on the port that carries the association
and held; the oldest one held is sent again when its timer ends. A dropped frame is counted. -/
def Obligations.ClusterReception : Prop :=
  (∀ (c : Instr) (h : Hdr) (q : Bool) (s : State), macsecFrame c = some (h, q) → (s.role ≠ 1 ∨ h.src ≠ s.member) →
    (s.trsUp = false ∨ h.term < s.term ∨ (h.term = s.term ∧ s.assocOf (s.nbrOf h.src) = none)) → exec c s = .next s) ∧
  (∀ (c : Instr) (h : Hdr) (a : Assoc) (s : State), macsecFrame c = some (h, true) → (s.role ≠ 1 ∨ h.src ≠ s.member) →
    s.trsUp = true → h.term = s.term → s.assocOf (s.nbrOf h.src) = some a →
    (∀ x ∈ a.unacked, x.1 ≤ h.ack → x.2.2 ≠ .remove (s.nbrOf h.src)) → h.seq ≠ a.got + 1 →
    exec c s = .next { s with
      trs.assoc := tblSet none (s.nbrOf h.src) (some { a with unacked := a.unacked.filter (fun x => decide (h.ack < x.1)) }) s.trs.assoc
      out := if h.seq ≤ a.got
        then s.out ++ [.frame ⟨h.port, s.member, s.nbrOf h.src, 0, a.got, s.term, 0xFFFF, !a.failed h.port⟩ .ackOnly]
        else s.out }) ∧
  (∀ (h : Hdr) (a : Assoc) (s : State), s.trsUp = true → h.term = s.term → s.assocOf (s.nbrOf h.src) = some a →
    (∀ x ∈ a.unacked, x.1 ≤ h.ack → x.2.2 ≠ .remove (s.nbrOf h.src)) →
    exec (.heartbeat h) s = .next { s with
      trs.assoc := tblSet none (s.nbrOf h.src) (some { a with unacked := a.unacked.filter (fun x => decide (h.ack < x.1)) }) s.trs.assoc } ∧
    exec (.ackOnly h) s = exec (.heartbeat h) s) ∧
  (∀ (h : Hdr) (a : Assoc) (q t : Nat) (s : State), s.trsUp = true → h.term = s.term → s.assocOf (s.nbrOf h.src) = some a →
    (q, t, Msg.remove (s.nbrOf h.src)) ∈ a.unacked → q ≤ h.ack →
    exec (.ackOnly h) s = .next { s with trs.assoc := tblSet none (s.nbrOf h.src) none s.trs.assoc }) ∧
  (∀ (h : Hdr) (s : State), s.trsUp = true → s.role = 1 → s.term < h.term →
    ∃ t : State, exec (.heartbeat h) s = .next t ∧ t.trs.deciding = false ∧ t.trs.cstate = 2 ∧ Frame [.trs] s t) ∧
  (∀ (n tenant : Nat) (m : Msg) (a : Assoc) (p : Port) (s : State), s.assocOf n = some a → a.port = some p →
    s.send n tenant m = { s with
      trs.assoc := tblSet none n (some { a with sent := a.sent + 1, unacked := a.unacked ++ [(a.sent + 1, tenant, m)] }) s.trs.assoc
      out := s.out ++ [.frame ⟨p, m.srcOf s.member, m.dstOf n, a.sent + 1, a.got, s.term, tenant, !a.failed p⟩ m] }) ∧
  (∀ s : State, exec .trestleFrameDrop s = .next { s with trs.cntDrop := s.trs.cntDrop + 1 }) ∧
  (∀ (p : Port) (n : Nat) (a : Assoc) (s : State), s.trsUp = true → s.assocOf n = some a →
    exec (.heartbeatTimer p n) s = .next { s with
      out := s.out ++ [.frame ⟨p, s.member, n, 0, a.got, s.term, 0xFFFF, !a.failed p⟩ .heartbeat] }) ∧
  (∀ (n q tenant : Nat) (m : Msg) (l : List (Nat × Nat × Msg)) (a : Assoc) (p : Port) (s : State), s.trsUp = true →
    s.assocOf n = some a → a.unacked = (q, tenant, m) :: l → a.port = some p →
    exec (.resendTimer n) s = .next { s with
      out := s.out ++ [.frame ⟨p, m.srcOf s.member, m.dstOf n, q, a.got, s.term, tenant, !a.failed p⟩ m] }) ∧
  (∀ (n : Nat) (a : Assoc) (s : State), s.assocOf n = some a → a.unacked = [] → exec (.resendTimer n) s = .next s)

/-- Derived from R414, R418 to R420. A port that fails for a neighbour is counted and flagged; while it carried the association and the other port is healthy, every unacknowledged message is sent again there, and with both failed a member has lost its parent. A healthy port returns, and a regained
parent is rejoined. A span that has lost its pylon for LEASE quarantines itself for every tenant: it keeps no second-tier slot of a tenant's key. Channel keys of a fresh channel make a new association, later ones keep those before them until their expiry; a rollover gives each link the next association number. -/
def Obligations.PortsAndChannels : Prop :=
  (∀ (p : Port) (n : Nat) (b : Bool) (s : State), s.assocOf n = none →
    exec (if b then .portRecover p n else .portFail p n) s = .next (s.setLink p b)) ∧
  (∀ (n : Nat) (a : Assoc) (s : State), s.trsUp = true → s.assocOf n = some a → a.failA = false → a.failB = false →
    ∃ t : State, exec (.portFail .a n) s = .next t ∧ t.assocOf n = some { a with failA := true } ∧
      t.trs.cntFailover = s.trs.cntFailover + 1 ∧ t.trs.evt.getLsbD 0 = true ∧
      (∀ x ∈ a.unacked, .frame ⟨.b, x.2.2.srcOf s.member, x.2.2.dstOf n, x.1, a.got, s.term, x.2.1, true⟩ x.2.2 ∈ t.out) ∧
      t.trs.lostAt = s.trs.lostAt ∧ Frame (reports [.trs, .free]) s t) ∧
  (∀ (n : Nat) (a : Assoc) (s : State), s.trsUp = true → s.assocOf n = some a → a.failA = false → a.failB = false →
    ∃ t : State, exec (.portFail .b n) s = .next t ∧ t.assocOf n = some { a with failB := true } ∧
      t.trs.cntFailover = s.trs.cntFailover + 1 ∧ t.trs.lostAt = s.trs.lostAt ∧ Frame (reports [.trs, .free]) s t) ∧
  (∀ (p : Port) (n : Nat) (a : Assoc) (s : State), s.trsUp = true → s.assocOf n = some a → a.failed p = false →
    (a.setFail p true).port = none →
    ∃ t : State, exec (.portFail p n) s = .next t ∧ t.assocOf n = some { a.setFail p true with lostAt := some s.now } ∧
      (n = s.parentNo → s.role ≠ 1 → t.trs.cstate = 4 ∧ t.trs.lostAt = some s.now ∧ t.trs.evt.getLsbD 5 = true) ∧
      (n = s.trs.abutment → s.role = 2 → t.trs.abutLostAt = some s.now) ∧ Frame (reports [.trs, .free]) s t) ∧
  (∀ (p : Port) (n : Nat) (a : Assoc) (s : State), s.trsUp = true → s.assocOf n = some a → a.failed p = true →
    ∃ t : State, exec (.portRecover p n) s = .next t ∧ t.assocOf n = some { a.setFail p false with lostAt := none } ∧
      t.trs.evt.getLsbD 1 = true ∧ (s.role ≠ 1 → n = s.parentNo → s.trs.cstate = 4 → t.trs.cstate = 2) ∧
      Frame [.hiu, .trs, .out] s t) ∧
  (∀ (at_ : Nat) (s : State), s.trs.lostAt = some at_ → s.role = 3 → s.trs.cstate = 4 → s.trs.quarAll = false →
    ∃ t : State, exec .leaseExpiry s = .next t ∧ t.trs.quarAll = true ∧ t.trs.evt.getLsbD 2 = true ∧
      t.now = max s.now (at_ + 1000 * (s.clTimeout / 2)) ∧
      (∀ k x, tblGet none t.keys.t2 k = some x → hKeyId x.hdr = 0xFFFFFFFFFFFFFFFF) ∧ Frame [.hiu, .keys, .trs, .time, .out] s t) ∧
  (∀ s : State, (s.trs.lostAt = none ∨ s.role ≠ 3 ∨ s.trs.quarAll = true) → exec .leaseExpiry s = .next s) ∧
  (∀ (h : Hdr) (n : Nat) (k : Sak) (s u : State), Heard h s u → (s.role ≠ 2 ∨ k.an = 0 ∨ n < 129) →
    (k.an = 0 ∨ u.assocOf n = none) →
    exec (.sakSet h n k) s = .next { u with
      trs.assoc := tblSet none n (some ⟨s.treeNbr n, 0, 0, [], k, none, false, false, none⟩) u.trs.assoc }) ∧
  (∀ (h : Hdr) (n : Nat) (k : Sak) (a : Assoc) (s u : State), Heard h s u → (s.role ≠ 2 ∨ n < 129) → k.an ≠ 0 →
    u.assocOf n = some a →
    exec (.sakSet h n k) s = .next { u with
      trs.assoc := tblSet none n (some { a with keys := k, prev := some a.keys }) u.trs.assoc }) ∧
  (∀ (n : Nat) (a : Assoc) (s : State), s.assocOf n = some a →
    exec (.sakPreviousExpiry n) s = .next { s with trs.assoc := tblSet none n (some { a with prev := none }) s.trs.assoc }) ∧
  (∀ (n : Nat) (a : Assoc) (b : Bytes) (u s : State), s.trsUp = true → s.role = 1 → s.trs.members = [] → s.children = [n] →
    s.assocOf n = some a → s.mssDraw 44 = .ok b u →
    ∃ (t : State) (k : Sak), exec .sakRollover s = .next t ∧ k = ⟨1 + a.keys.an % 3, BitVec.ofNat 256 (beNat (sub b 0 32)),
        BitVec.ofNat 96 (beNat (sub b 32 12))⟩ ∧
      t.assocOf n = some { a with
        keys := k, prev := some a.keys, sent := a.sent + 1, unacked := a.unacked ++ [(a.sent + 1, 0xFFFF, .sakSet s.member k)] } ∧
      Frame [.rng, .trs, .out] s t) ∧
  (∀ s : State, (s.trsUp = false ∨ s.role ≠ 1) → exec .sakRollover s = .next s)

/-- Derived from R416 and R421 to R426. A commissioned standalone module sends ENROL_HELLO; a pylon forwards hellos and responses to the abutment. The abutment answers the hello of the joiner that its ticket names with a fresh nonce, an ephemeral key and a report over both; the joiner answers a
report that verifies, and the abutment grants membership to a joiner whose report verifies, and not otherwise. An authentic ENROL_GRANT begins the joiner's release of the CRK blob, ANC_CL_MEMBER, ANC_CL_TERM and, last, ANC_CRK_EPOCH; a grant that is not authentic changes nothing. ENROL_DONE ends the
enrolment at the abutment, which records the new member. REMOVE makes the member clear its cluster state by one release. -/
def Obligations.EnrolmentAndRemoval : Prop :=
  (∀ s : State, s.trsUp = true → s.ks.checkOk = true → s.enrolled = false → s.trs.linkA = true →
    exec .enrolHelloTimer s = .next { s with
      out := s.out ++ [.frame ⟨.a, 0, 0xFFFF, 0, 0, s.term, 0xFFFF, false⟩ (.enrolHello s.hiu.serial false (s.ancGet 7))] }) ∧
  (∀ s : State, (s.trsUp = false ∨ s.ks.checkOk = false ∨ (s.trs.linkA = false ∧ s.trs.linkB = false)) →
    exec .enrolHelloTimer s = .next s) ∧
  (∀ (h : Hdr) (serial iv : DWord) (rejoin : Bool) (s : State), s.trsUp = true → s.ks.checkOk = true → s.role = 2 →
    s.trs.linkA = true →
    exec (.enrolHello h serial rejoin iv) s = .next { s with
      out := s.out ++ [.frame ⟨.a, s.member, s.trs.abutment, 0, 0, s.term, 0xFFFF, false⟩ (.enrolHello serial rejoin iv)] }) ∧
  (∀ (h : Hdr) (serial iv : DWord) (e : Enrol) (b : Bytes) (u s : State), s.trsUp = true → s.ks.checkOk = true → s.role = 1 →
    s.trs.deciding = true → s.trs.enrol = some e → e.serial = serial → s.mssDraw 144 = .ok b u → s.trs.linkA = true →
    ∃ (t : State) (rep pub : Bytes), exec (.enrolHello h serial false iv) s = .next t ∧
      pub = (ephemeral (sub b 32 56)).2 ∧
      t.trs.enrol = some { e with nonce := sub b 0 32, priv := (ephemeral (sub b 32 56)).1, pub := pub } ∧
      rep = u.reportBody 2 0xFFFF (sub b 0 32) (sha384B pub) ++ dikSign (sub b 88 56) (u.reportBody 2 0xFFFF (sub b 0 32) (sha384B pub)) ∧
      .frame ⟨.a, s.member, h.src, 0, 0, s.term, 0xFFFF, false⟩ (.enrolChallenge (sub b 0 32) rep (fit 224 Config.dikCert) pub) ∈ t.out ∧
      t.mss.reports = s.mss.reports + 1 ∧ Frame [.rng, .trs, .mss, .out] s t) ∧
  (∀ (h : Hdr) (serial iv : DWord) (s : State), s.role = 1 → s.trs.enrol = none →
    exec (.enrolHello h serial false iv) s = .next s) ∧
  (∀ (h : Hdr) (nonce rep cert pub b : Bytes) (u s : State), s.trsUp = true → s.role = 0 → s.mssDraw 112 = .ok b u →
    s.trs.linkA = true →
    ∃ t : State, exec (.enrolChallenge h nonce rep cert pub) s = .next t ∧
      if s.mayJoin = true ∧ reportOk rep cert nonce pub = true ∧ ecB384.check pub = 0 then
        t.trs.join = some ⟨nonce, (ephemeral (sub b 0 56)).1, (ephemeral (sub b 0 56)).2, pub, s.enrolled⟩ ∧
        t.trs.cstate = (if s.enrolled then 2 else 1) ∧
        (∃ r : Bytes, .frame ⟨.a, s.member, h.src, 0, 0, s.term, 0xFFFF, false⟩
          (.enrolResponse r (fit 224 Config.dikCert) (ephemeral (sub b 0 56)).2 (if s.enrolled then s.ckseqs else [])) ∈ t.out) ∧
        Frame [.rng, .trs, .mss, .out] s t
      else t = s) ∧
  (∀ (h : Hdr) (rep cert pub : Bytes) (cks : List (Nat × Word)) (s : State), s.trsUp = true → s.role = 2 →
    exec (.enrolResponse h rep cert pub cks) s = .next (s.sendEnrol s.trs.abutment (.enrolResponse rep cert pub cks))) ∧
  (∀ (h : Hdr) (rep cert pub b : Bytes) (cks : List (Nat × Word)) (e : Enrol) (u v s : State), s.trsUp = true → s.role = 1 →
    s.trs.enrol = some e → e.nonce ≠ [] → e.parent = s.member → s.loadCrk = some v → v.mssDraw 44 = .ok b u →
    s.trs.linkA = true →
    ∃ (t : State) (k : Sak), exec (.enrolResponse h rep cert pub cks) s = .next t ∧
      k = ⟨0, BitVec.ofNat 256 (beNat (sub b 0 32)), BitVec.ofNat 96 (beNat (sub b 32 12))⟩ ∧
      if reportOk rep cert e.nonce pub = true ∧ ecB384.check pub = 0 ∧ joinerOk e rep = true then
        t.trs.enrol = some { e with ckseqs := cks } ∧
        t.assocOf e.member = some ⟨s.treeNbr e.member, 0, 0, [], k, none, false, false, none⟩ ∧
        (∃ g : EnrolGrant, .frame ⟨.a, s.member, h.src, 0, 0, s.term, 0xFFFF, false⟩ (.enrolGrant g) ∈ t.out ∧ g.member = e.member ∧
          g.role = e.role ∧ g.parent = e.parent ∧ g.standby = e.standby ∧ g.term = s.term ∧ g.clTimeout = s.clTimeout ∧
          g.crkEpoch.toNat = s.crkEpoch ∧ g.sak = k) ∧ Frame [.keys, .rng, .trs, .mi, .out] s t
      else t = s) ∧
  (∀ (h : Hdr) (g : EnrolGrant) (j : Join) (ws : List AncW) (s : State), s.trsUp = true → s.role ≠ 2 → s.trs.join = some j →
    ws = [(0x1E0, (s.crkWords g.crkEpoch.toNat (natBe 32 g.crk.toNat)).1), (0x0D, [memberWord g.member g.role g.parent g.standby]),
      (0x0E, [w64 g.term]), (0x0C, [w64 g.crkEpoch.toNat])] → (s.crkWords g.crkEpoch.toNat (natBe 32 g.crk.toNat)).2.mssVerdict ws = 0 →
    ∃ t : State, exec (.enrolGrant h true g) s = .next t ∧
      ReleaseBegins ws none none (.enrolled g) (s.crkWords g.crkEpoch.toNat (natBe 32 g.crk.toNat)).2 t ∧
      Frame (reports [.keys, .mss, .anc]) s t) ∧
  (∀ (h : Hdr) (g : EnrolGrant) (s : State), s.role ≠ 2 → exec (.enrolGrant h false g) s = .next s) ∧
  (∀ (h : Hdr) (m : Nat) (s u : State), Heard h s u → s.role = 2 → h.src ≠ m →
    exec (.enrolDone h m) s = .next (u.sendUp 0xFFFF (.enrolDone m))) ∧
  (∀ (h : Hdr) (e : Enrol) (s u : State), Heard h s u → s.role = 1 → s.trs.enrol = some e → e.rejoin = false → e.standby = false →
    s.mssVerdict [(0x0F, [w64 ((s.ancLatest 0x0F).toNat + 1)])] = 0 →
    ∃ t : State, exec (.enrolDone h e.member) s = .next t ∧ t.trs.enrol = none ∧
      t.trs.members = tblSet none e.member (some ⟨e.role, e.parent, e.serial⟩) s.trs.members ∧
      ReleaseBegins [(0x0F, [w64 ((s.ancLatest 0x0F).toNat + 1)])] none none
        (.repl ((s.ancLatest 0x0F).toNat + 1) (.memberAdd e.member e.role e.parent)) s t ∧
      Frame [.trs, .mss, .anc, .pwr, .out] s t) ∧
  (∀ (h : Hdr) (e : Enrol) (s u : State), Heard h s u → s.role = 1 → s.trs.enrol = some e → e.rejoin = true →
    ∃ t : State, exec (.enrolDone h e.member) s = .next t ∧ t.trs.enrol = none ∧ t.trs.members = s.trs.members ∧
      Frame [.trs, .out] s t) ∧
  (∀ (h : Hdr) (m : Nat) (s u : State), Heard h s u → s.role = 2 → m ≠ s.member →
    exec (.remove h m) s = .next (u.send m 0xFFFF (.remove m))) ∧
  (∀ (h : Hdr) (ws : List AncW) (s u : State), Heard h s u →
    ws = ((List.range 1025).filter (fun t => s.ancGet (0x1100 + 3 * t) != 0)).map (fun t => (0x1100 + 3 * t, [0, 0, 0])) ++
      [(0x1E0, List.replicate 20 0), (0x1F4, List.replicate 20 0), (0x208, List.replicate 17 0), (0x0F, [0]), (0x0E, [0]), (0x0D, [0])] →
    s.mssVerdict ws = 0 →
    ∃ t : State, exec (.remove h s.member) s = .next t ∧ ReleaseBegins ws none none .removed u t ∧
      Frame [.mss, .anc, .pwr] u t)

/-- Derived from R429 to R435. A span that is not quarantined for the tenant answers a PROPOSE with its own verdict; a quarantined one does not. A pylon passes a PROPOSE on, holds it until its spans have answered or its deadline ends, and sends one VERDICT. The abutment reserves a key for the first
proposal on it and queues a second; when every pylon has sent a VERDICT, and the two computations agree, it decides GO with its exclusion list, otherwise, at the deadline, NONE. The DECISION counts only for the item's current proposal. Without one the item's verdict is CLUSTER_COMMIT_TIMEOUT. WITHDRAW ends
the reservation. -/
def Obligations.ProposalsAndDecisions : Prop :=
  (∀ (h : Hdr) (p : Proposal) (l : List Bytes) (s u : State), Heard h s u → s.role ≠ 1 → s.role ≠ 2 →
    exec (.propose h p l) s = .next (if s.quarantinedFor p.tenant then u
      else u.sendUp p.tenant (.verdict p.pid (u.verifyProp p l) 0))) ∧
  (∀ (h : Hdr) (p : Proposal) (l : List Bytes) (s u : State), Heard h s u → s.role = 2 → s.nbrOf h.src ≠ s.parentNo →
    exec (.propose h p l) s = .next (u.sendUp p.tenant (.propose p))) ∧
  (∀ (h : Hdr) (p : Proposal) (l : List Bytes) (c : Nat) (s u : State), Heard h s u → s.role = 2 → s.nbrOf h.src = s.parentNo →
    c ∈ s.children → s.unreachable c = false → (∀ y ∈ s.trs.fwd, y.pid ≠ p.pid) → tblWf none s.trs.assoc →
    ∃ (t : State) (own : Bool), exec (.propose h p l) s = .next t ∧
      own = (!s.quarantinedFor p.tenant && u.verifyProp p l) ∧
      t.trs.fwd = s.trs.fwd ++ [(⟨p.pid, p.tenant, s.now, own, []⟩ : Fwd)] ∧ Frame [.trs, .out] s t) ∧
  (∀ (h : Hdr) (p : Proposal) (l : List Bytes) (s u : State), Heard h s u → s.role = 1 → s.trs.deciding = true →
    (∀ y ∈ s.trs.props, y.p.pid ≠ p.pid) → s.pylons ≠ [] →
    ∃ (t : State) (busy : Bool), exec (.propose h p l) s = .next t ∧
      busy = s.trs.props.any (fun y => y.p.tenant == p.tenant && y.p.keyId == p.keyId) ∧
      t.trs.props = s.trs.props ++ [(⟨p, s.now, !busy, false, !s.quarantinedFor p.tenant && u.verifyProp p l, []⟩ : Held)] ∧
      t.deck = s.deck ∧ Frame [.trs, .out] s t) ∧
  (∀ (h : Hdr) (p : Proposal) (l : List Bytes) (s u : State), Heard h s u → s.role = 1 → s.trs.deciding = false →
    exec (.propose h p l) s = .next u) ∧
  (∀ (h : Hdr) (pid : BitVec 64) (yes : Bool) (b : BitVec 128) (x y : Fwd) (s u : State), Heard h s u → s.role = 2 →
    s.trs.fwd = [x] → x.pid = pid → y = { x with answers := x.answers ++ [(h.src, yes)] } →
    (∀ n ∈ u.children, y.answers.any (fun a => a.1 == n) = true) →
    exec (.verdict h pid yes b) s = .next ({ u with trs.fwd := [] }.sendUp x.tenant (.verdict pid x.own (u.noSpans y)))) ∧
  (∀ (h : Hdr) (pid : BitVec 64) (yes : Bool) (b : BitVec 128) (x : Held) (s u : State), Heard h s u → s.role = 1 →
    s.trs.props = [x] → x.p.pid = pid → x.reserved = true → x.decided = false → s.pylons = [h.src] → x.answers = [] →
    ∃ v : State, exec (.verdict h pid yes b) s = .next (v.sendDecision x.p true
        ((if x.own then [] else [s.member]) ++ excludedBy (h.src, yes, b))) ∧
      v = { u with trs.props := [{ x with answers := [(h.src, yes, b)], decided := true }] }) ∧
  (∀ (pid : BitVec 64) (x : Fwd) (s : State), s.trs.fwd.find? (fun y => y.pid == pid) = some x → s.trsUp = true →
    ∃ t : State, exec (.verdictDeadline pid) s = .next t ∧ t.now = max s.now (x.at_ + 1000 * (s.clTimeout - 20)) ∧
      (∀ y ∈ t.trs.fwd, y.pid ≠ pid) ∧ Frame [.trs, .time, .out] s t ∧
      (∀ (a : Assoc) (p : Port), s.assocOf s.parentNo = some a → a.port = some p →
        .frame ⟨p, s.member, s.parentNo, a.sent + 1, a.got, s.term, x.tenant, !a.failed p⟩ (.verdict pid x.own
          ((s.advance (x.at_ + 1000 * (s.clTimeout - 20))).noSpans x)) ∈ t.out)) ∧
  (∀ (pid : BitVec 64) (flip : Bool) (x : Held) (s : State), s.trs.props.find? (fun y => y.p.pid == pid) = some x →
    s.trsUp = true → x.decided = false → s.trs.deciding = true → x.reserved = true →
    ∃ (v : State) (go : Bool), exec (.decisionDeadline pid flip) s = .next (v.sendDecision x.p go
        (if go then (if x.own then [] else [s.member]) ++ x.answers.flatMap excludedBy else [])) ∧
      go = (!flip && s.pylons.all (fun n => x.answers.any (fun a => a.1 == n))) ∧
      v.now = max s.now (x.at_ + 1000 * (s.clTimeout - 10)) ∧ (∀ y ∈ v.trs.props, y.p.pid = pid → y.decided = true) ∧
      Frame [.trs, .time] s v) ∧
  (∀ (pid : BitVec 64) (flip : Bool) (x : Held) (s : State), s.trs.props.find? (fun y => y.p.pid == pid) = some x →
    s.trsUp = true → x.decided = false → s.trs.deciding = true → x.reserved = false →
    ∃ v : State, exec (.decisionDeadline pid flip) s = .next (v.sendDecision x.p false []) ∧
      v.trs.props = s.trs.props.filter (fun y => y.p.pid != pid) ∧ Frame [.trs, .time] s v) ∧
  (∀ (h : Hdr) (pid : BitVec 64) (go : Bool) (l : List Nat) (d : Nat) (e : Entry) (s u : State), Heard h s u →
    pidOrigin pid = s.member → s.held.find? (fun x => x.2.pid == pid && x.2.confirm == some none) = some (d, e) →
    exec (.decision h pid go l) s = .next (u.setEnt d { e with
      confirm := some (some (if go then 0 else 0x6002)), excluded := l })) ∧
  (∀ (h : Hdr) (pid : BitVec 64) (go : Bool) (l : List Nat) (s u : State), Heard h s u → pidOrigin pid = s.member →
    (∀ x ∈ s.held, x.2.pid ≠ pid) → exec (.decision h pid go l) s = .next u) ∧
  (∀ (h : Hdr) (pid : BitVec 64) (go : Bool) (l : List Nat) (s u : State), Heard h s u → pidOrigin pid ≠ s.member → s.role = 2 →
    exec (.decision h pid go l) s = .next (u.send (pidOrigin pid) 0xFFFF (.decision pid go l))) ∧
  (∀ (d : Idx) (e : Entry) (s : State), s.entOf d = some e → e.st = .done → e.confirm = some none →
    exec (.clTimeoutExpiry d) s = .next (s.setEnt d { e with confirm := some (some 0x6002) })) ∧
  (∀ (d : Idx) (e : Entry) (s : State), s.entOf d = some e → (e.st ≠ .done ∨ e.confirm ≠ some none) →
    exec (.clTimeoutExpiry d) s = .next s) ∧
  (∀ (h : Hdr) (pid : BitVec 64) (x : Held) (s u : State), Heard h s u → s.role = 1 → s.trs.props = [x] → x.p.pid = pid →
    ∃ t : State, exec (.withdraw h pid) s = .next t ∧ t.trs.props = [] ∧ Frame [.trs, .out] s t) ∧
  (∀ (h : Hdr) (pid : BitVec 64) (s u : State), Heard h s u → s.role = 2 → s.nbrOf h.src ≠ s.parentNo →
    exec (.withdraw h pid) s = .next (u.sendUp 0xFFFF (.withdraw pid)))

/-- Derived from R427, R428 and R434 to R438. The abutment gives an APPLY the tenant's next CKSEQ. A member that it excludes begins the release that records its quarantine; its origin begins one that records the CKSEQ alone; any other takes one SEQ with a journal record, under admission. A replicated
record is applied when it is the next one, by a release whose last write is ANC_CL_REPL_SEQ, held when it is beyond that, and dropped when it is old; a child that lacks records is sent them. RESYNC_REQ is answered by the abutment alone; RESYNC_DATA whose staged keys verify takes one SEQ for each word that
differs and clears the tenant's bit last; the end of a rejoin lifts the quarantines that are not recorded. -/
def Obligations.ChangesRecordsAndResync : Prop :=
  (∀ (h : Hdr) (a : ApplyMsg) (s u : State), Heard h s u → s.role = 1 →
    ∃ t : State, exec (.apply h a) s = .next t ∧ tblGet 0 t.trs.ckseq a.tenant = tblGet 0 s.trs.ckseq a.tenant + 1) ∧
  (∀ (h : Hdr) (a : ApplyMsg) (s u : State), Heard h s u → s.role = 2 → s.nbrOf h.src ≠ s.parentNo →
    exec (.apply h a) s = .next (u.sendUp a.tenant (.apply a))) ∧
  (∀ (h : Hdr) (a : ApplyMsg) (ws : List AncW) (s u : State), Heard h s u → s.role = 3 → s.member ∈ a.excluded →
    ws = [(0x208 + a.tenant / 64, [s.quarWord a.tenant true])] → s.mssVerdict ws = 0 →
    ∃ t : State, exec (.apply h a) s = .next t ∧ ReleaseBegins ws none none (.quarantine a.tenant (some a.pid)) u t ∧
      Frame [.mss, .anc, .pwr] u t) ∧
  (∀ (h : Hdr) (a : ApplyMsg) (ws : List AncW) (s u : State), Heard h s u → s.role = 3 → s.member ∉ a.excluded →
    pidOrigin a.pid = s.member →
    ws = [(0x400 + a.tenant, [w64 (a.ckseq.toNat * 2 ^ 32 + (s.ancLatest (0x400 + a.tenant)).toNat % 2 ^ 32)])] →
    s.mssVerdict ws = 0 →
    ∃ t : State, exec (.apply h a) s = .next t ∧
      ReleaseBegins ws none none (.applyKey a.pid a.tenant a.keyId a.word false) u t ∧ Frame [.mss, .anc, .pwr] u t) ∧
  (∀ (h : Hdr) (a : ApplyMsg) (s u : State), Heard h s u → s.role = 3 → s.member ∉ a.excluded → pidOrigin a.pid ≠ s.member →
    s.pwr.quiesce = false → s.admits journalCost = true → s.journalWorn a.tenant = false →
    ∃ (t : State) (k : Bool), exec (.apply h a) s = .next t ∧ t.pwr.outstanding = s.pwr.outstanding + journalCost ∧
      t.mss.rels = s.mss.rels ++ [⟨s.mss.nextRel, none, none, .applyKey a.pid a.tenant a.keyId a.word k⟩] ∧
      tblGet 0 t.keys.seqs a.tenant = tblGet 0 s.keys.seqs a.tenant + 1 ∧ t.keys.taken.length = s.keys.taken.length + 1 ∧
      t.keys.ket = s.keys.ket ∧ Frame [.keys, .mss, .pwr] u t) ∧
  (∀ (h : Hdr) (pid : BitVec 64) (b : BitVec 128) (s u : State), Heard h s u →
    exec (.applied h pid b) s = .next (if s.role = 2 then u.sendUp 0xFFFF (.applied pid b) else u)) ∧
  (∀ (h : Hdr) (seq : Nat) (r : ReplRec) (s u : State), Heard h s u → seq ≤ (s.ancLatest 0x0F).toNat →
    exec (.repl h seq r) s = .next u) ∧
  (∀ (h : Hdr) (r : ReplRec) (ws : List AncW) (s u : State), Heard h s u → (replRecords r).1 = 0 →
    (s.ancLatest 0x0F).toNat + 1 < 2 ^ 64 → tblGet none s.trs.replHeld ((s.ancLatest 0x0F).toNat + 2) = none →
    ws = s.replWords r ++ [(0x0F, [w64 ((s.ancLatest 0x0F).toNat + 1)])] → s.mssVerdict ws = 0 →
    ∃ t : State, exec (.repl h ((s.ancLatest 0x0F).toNat + 1) r) s = .next t ∧
      ReleaseBegins ws none none (.repl ((s.ancLatest 0x0F).toNat + 1) r) u t ∧ Frame [.mss, .anc, .pwr] u t) ∧
  (∀ (h : Hdr) (n : Fn) (ws : List AncW) (s u : State), Heard h s u → (s.ancLatest 0x0F).toNat + 1 < 2 ^ 64 →
    tblGet none s.trs.replHeld ((s.ancLatest 0x0F).toNat + 2) = none →
    ws = s.replWords (.tenantRemove n) ++ [(0x0F, [w64 ((s.ancLatest 0x0F).toNat + 1)])] → s.mssVerdictJ 1 n ws = 0 →
    ∃ t : State, exec (.repl h ((s.ancLatest 0x0F).toNat + 1) (.tenantRemove n)) s = .next t ∧
      tblGet 0 t.keys.seqs n = tblGet 0 s.keys.seqs n + 1 ∧ t.keys.jFill = s.keys.jFill + 1 ∧ t.keys.ket = s.keys.ket ∧
      t.mss.rels = s.mss.rels ++ [⟨s.mss.nextRel, none, none, .repl ((s.ancLatest 0x0F).toNat + 1) (.tenantRemove n)⟩] ∧
      t.anc = { s.anc with queue := s.anc.queue ++ issuedWrites s.mss.nextRel ws } ∧ Frame [.keys, .mss, .anc, .cfg, .pwr] u t) ∧
  (∀ (h : Hdr) (seq : Nat) (r : ReplRec) (s u : State), Heard h s u → (s.ancLatest 0x0F).toNat + 1 < seq →
    exec (.repl h seq r) s = .next ({ u with trs.replHeld := tblSet none seq (some r) s.trs.replHeld }.sendUp 0xFFFF
      (.replAck (s.ancLatest 0x0F).toNat))) ∧
  (∀ (h : Hdr) (seq : Nat) (s u : State), Heard h s u → (s.ancGet 0x0F).toNat ≤ seq → exec (.replAck h seq) s = .next u) ∧
  (∀ (h : Hdr) (seq : Nat) (r : ReplRec) (a : Assoc) (s u : State), Heard h s u → seq < (s.ancGet 0x0F).toNat →
    s.trs.replLog = [(seq + 1, r)] → u.assocOf (s.nbrOf h.src) = some a → a.unacked = [] →
    exec (.replAck h seq) s = .next (u.send (s.nbrOf h.src) 0xFFFF (.repl (seq + 1) r))) ∧
  (∀ (h : Hdr) (seq : Nat) (a : Assoc) (s u : State), Heard h s u → seq < (s.ancGet 0x0F).toNat → s.trs.replLog = [] →
    u.assocOf (s.nbrOf h.src) = some a → a.unacked = [] → s.role ≠ 1 →
    exec (.replAck h seq) s = .next (u.sendUp 0xFFFF (.resyncReq h.src 0xFFFF))) ∧
  (∀ (h : Hdr) (n : Nat) (s u : State), Heard h s u → s.role ≠ 1 →
    exec (.resyncReq h n) s = .next (u.sendUp n (.resyncReq h.src n))) ∧
  (∀ (h : Hdr) (n : Nat) (s u : State), Heard h s u → s.role = 1 → n ≠ 0xFFFF →
    exec (.resyncReq h n) s = .next (u.send (u.hopTo h.src) n (.resyncData h.src (u.resyncOf n)))) ∧
  (∀ (h : Hdr) (m : ResyncMsg) (s u : State), Heard h s u → h.dst = s.member → m.tenant = 0xFFFF →
    exec (.resyncData h m) s = .next { u with trs.quarAll := false, trs.cstate := 3, trs.lostAt := none }) ∧
  (∀ (h : Hdr) (m : ResyncMsg) (s u : State), Heard h s u → h.dst = s.member → m.tenant ≠ 0xFFFF → m.stagedOk = false →
    ∃ t : State, exec (.resyncData h m) s = .next t ∧ t.keys = s.keys ∧ t.anc = s.anc ∧ Frame (reports [.free]) u t) ∧
  (∀ (h : Hdr) (m : ResyncMsg) (diff : List (BitVec 64 × DWord)) (ws : List AncW) (s u : State), Heard h s u →
    h.dst = s.member → m.tenant ≠ 0xFFFF → m.stagedOk = true → m.cfg = [] →
    diff = m.words.filter (fun x => s.keyWord m.tenant x.1.toNat != x.2) →
    ws = [(0x400 + m.tenant, [w64 ((tblGet 0 s.keys.seqs m.tenant + diff.length) % 2 ^ 32 + m.ckseq.toNat * 2 ^ 32)]),
      (0x208 + m.tenant / 64, [s.quarWord m.tenant false])] → s.mssVerdictJ diff.length m.tenant ws = 0 →
    ∃ t : State, exec (.resyncData h m) s = .next t ∧ tblGet 0 t.keys.seqs m.tenant = tblGet 0 s.keys.seqs m.tenant + diff.length ∧
      t.keys.ket = s.keys.ket ∧ t.anc = { s.anc with queue := s.anc.queue ++ issuedWrites s.mss.nextRel ws } ∧
      t.mss.rels = s.mss.rels ++ [⟨s.mss.nextRel, none, none, .resynced m.tenant m.words⟩] ∧
      Frame [.keys, .mss, .anc, .cfg, .pwr] u t) ∧
  (∀ s : State, s.pfBar = true → s.trsUp = true → s.enrolled = true → s.role ≠ 1 → s.trs.quarAll = true →
    exec .resync s = .next (s.sendUp 0xFFFF (.resyncReq s.member 0xFFFF))) ∧
  (∀ s : State, (s.pfBar = false ∨ s.trsUp = false ∨ s.enrolled = false ∨ s.role = 1) → exec .resync s = .next s)

/-- Derived from R439 to R444. After 2 s without the abutment the standby calls term + 1; a pylon that has lost it as long votes for a term above its own. With more than half of the pylons, itself among them, the standby begins the release of its role and, last, the new term. A pylon adopts a higher term from TAKEOVER, by a
release, and no other. CRK_PREPARE is answered yes only for the next epoch and with every ACTIVE tenant's entry-0 blob at the present one, and the prepared CRK is then kept; a no abandons the change at the abutment; CRK_COMMIT begins the member's release of the old blob, the new one and, last, the epoch. -/
def Obligations.TakeoverAndCrkChange : Prop :=
  (∀ (at_ : Nat) (s : State), s.trs.abutLostAt = some at_ → s.trsUp = true → s.role = 2 → s.isStandby = true → s.trs.call = none →
    s.pylons ≠ [] →
    ∃ t : State, exec .abutmentLossTimer s = .next t ∧ t.trs.call = some (s.term + 1, []) ∧ t.trs.cstate = 5 ∧
      t.now = max s.now (at_ + 2000000) ∧ t.anc = s.anc ∧ Frame [.trs, .time, .out] s t) ∧
  (∀ s : State, (s.trs.abutLostAt = none ∨ s.role ≠ 2 ∨ s.isStandby = false) → exec .abutmentLossTimer s = .next s) ∧
  (∀ (h : Hdr) (n at_ : Nat) (s u : State), Heard h s u → s.trs.abutLostAt = some at_ → s.role = 2 → s.term < n →
    at_ + 2000000 ≤ s.now →
    exec (.takeoverCall h n) s = .next (u.send h.src 0xFFFF (.vote n (s.ancGet 0x0F).toNat ((s.now - at_) / 1000)))) ∧
  (∀ (h : Hdr) (n : Nat) (s u : State), Heard h s u → (s.trs.abutLostAt = none ∨ s.role ≠ 2 ∨ n ≤ s.term) →
    exec (.takeoverCall h n) s = .next u) ∧
  (∀ (h : Hdr) (n q ms : Nat) (votes : List Nat) (s u : State), Heard h s u → s.trs.call = some (n, votes) → 2000 ≤ ms →
    h.src ∉ votes → q ≤ (s.ancGet 0x0F).toNat → 2 * (votes.length + 2) ≤ s.pylonCount →
    exec (.vote h n q ms) s = .next { u with trs.call := some (n, votes ++ [h.src]) }) ∧
  (∀ (h : Hdr) (n q ms : Nat) (votes : List Nat) (ws : List AncW) (s u : State), Heard h s u → s.trs.call = some (n, votes) →
    2000 ≤ ms → h.src ∉ votes → q ≤ (s.ancGet 0x0F).toNat → s.pylonCount < 2 * (votes.length + 2) →
    ws = [(0x0D, [memberWord s.member 1 0 false]), (0x0E, [w64 n])] → s.mssVerdict ws = 0 →
    ∃ t : State, exec (.vote h n q ms) s = .next t ∧ ReleaseBegins ws none none (.takeover n) u t ∧ t.trs.call = none ∧
      Frame [.trs, .mss, .anc, .pwr] u t) ∧
  (∀ (h : Hdr) (n q ms : Nat) (s u : State), Heard h s u → (s.trs.call = none ∨ ms < 2000) →
    exec (.vote h n q ms) s = .next u) ∧
  (∀ (h : Hdr) (n m : Nat) (s u : State), Heard h s u → n ≤ s.term → exec (.takeover h n m) s = .next u) ∧
  (∀ (h : Hdr) (n m : Nat) (ws : List AncW) (s u : State), Heard h s u → s.term < n →
    ws = (if s.role = 2 then [(0x0D, [memberWord s.member 2 m s.isStandby]), (0x0E, [w64 n])] else [(0x0E, [w64 n])]) →
    s.mssVerdict ws = 0 →
    ∃ t : State, exec (.takeover h n m) s = .next t ∧ ReleaseBegins ws none none (.newTerm n m) u t ∧ Frame [.mss, .anc, .pwr] u t) ∧
  (∀ (h : Hdr) (ep : BitVec 32) (crk : BitVec 256) (l : List (Fn × Bytes)) (yes : Bool) (s u : State), Heard h s u →
    s.role = 3 → yes = (ep.toNat == s.crkEpoch + 1 && s.blobsReady (l.map (fun x => (x.1.val, x.2)))) →
    exec (.crkPrepare h ep crk l) s = .next
      ((if yes then { u with trs.crkNext := some (ep, crk, l.map (fun x => (x.1.val, x.2))) } else u).sendUp 0xFFFF
        (.crkReady s.member yes))) ∧
  (∀ (h : Hdr) (m : Nat) (yes : Bool) (s u : State), Heard h s u → s.role ≠ 1 →
    exec (.crkReady h m yes) s = .next (u.sendUp 0xFFFF (.crkReady m yes))) ∧
  (∀ (h : Hdr) (m : Nat) (s u : State), Heard h s u → s.role = 1 → s.trs.crk.isSome = true →
    ∃ t : State, exec (.crkReady h m false) s = .next t ∧ t.trs.crk = none ∧ t.trs.crkNext = none ∧ t.anc = s.anc ∧
      t.keys = s.keys ∧ Frame (reports [.trs, .free]) s t) ∧
  (∀ (h : Hdr) (m : Nat) (ep : BitVec 32) (crk : BitVec 256) (got : List Nat) (s u : State), Heard h s u → s.role = 1 →
    s.trs.crk = some (ep, crk, got) → m ∉ got → s.member ∉ got → m ≠ s.member →
    exec (.crkReady h m true) s = .next { u with trs.crk := some (ep, crk, got ++ [m]) }) ∧
  (∀ (h : Hdr) (m : Nat) (ep : BitVec 32) (crk : BitVec 256) (got : List Nat) (l : List (Nat × Bytes)) (ws : List AncW)
      (s u : State), Heard h s u → s.role = 1 → s.trs.crk = some (ep, crk, got) → m ∉ got → s.member ∈ got →
    (∀ x ∈ s.trs.members, x.2.isSome = true → x.1 = m ∨ x.1 ∈ got) → s.trs.crkNext = some (ep, crk, l) →
    ws = [(0x1F4, blobWords (s.ancBlob 0x1E0)), (0x1E0, (s.crkWords ep.toNat (natBe 32 crk.toNat)).1), (0x0C, [w64 ep.toNat])] →
    (s.crkWords ep.toNat (natBe 32 crk.toNat)).2.mssVerdict ws = 0 →
    ∃ t : State, exec (.crkReady h m true) s = .next t ∧ t.trs.crk = none ∧
      ReleaseBegins ws none none (.crkCommitted crk) (u.crkWords ep.toNat (natBe 32 crk.toNat)).2 t ∧
      (∀ (c : Nat) (a : Assoc) (p : Port), s.children = [c] → u.assocOf c = some a → a.port = some p →
        .frame ⟨p, s.member, c, a.sent + 1, a.got, s.term, 0xFFFF, !a.failed p⟩ .crkCommit ∈ t.out)) ∧
  (∀ (h : Hdr) (s u : State), Heard h s u → s.role = 3 → s.trs.crkNext = none → exec (.crkCommit h) s = .next u) ∧
  (∀ (h : Hdr) (ep : BitVec 32) (crk : BitVec 256) (l : List (Nat × Bytes)) (ws : List AncW) (s u : State), Heard h s u →
    s.role = 3 → s.trs.crkNext = some (ep, crk, l) →
    ws = [(0x1F4, blobWords (s.ancBlob 0x1E0)), (0x1E0, (s.crkWords ep.toNat (natBe 32 crk.toNat)).1), (0x0C, [w64 ep.toNat])] →
    (s.crkWords ep.toNat (natBe 32 crk.toNat)).2.mssVerdict ws = 0 →
    ∃ t : State, exec (.crkCommit h) s = .next t ∧
      ReleaseBegins ws none none (.crkCommitted crk) (u.crkWords ep.toNat (natBe 32 crk.toNat)).2 t ∧
      Frame (reports [.keys, .mss, .anc]) u t)

/-- Derived from R454 to R458. Under the rule table an access passes only when one rule, the lowest-indexed that applies to its initiator and covers the granule, governs every granule it touches and permits its kind; a user's access to a granule of R457 faults whatever the rules hold; a user's access that no rule
governs faults, and a privileged one is decided by the default map. While EN is 0 the MSS, and in boot mode every privileged initiator, is decided by the default map alone. An access that passes to SRAM returns its bytes or stores exactly its own; every other byte reads as before. -/
def Obligations.TollgateDecisions : Prop :=
  (∀ (rules : Tbl TgRule) (a : Access), tblWf {} rules → 1 ≤ a.len → (ruleDecide rules a = .pass ↔
    (privileged a.init = true ∨ ∀ g ∈ granules a, excluded g = false) ∧
    ∃ k r, (∀ g ∈ granules a, governing a.init g rules = some (k, r)) ∧ r.attr.getLsbD (kindBit a.kind) = true)) ∧
  (∀ (rules : Tbl TgRule) (i g k : Nat) (r : TgRule), tblWf {} rules → (governing i g rules = some (k, r) ↔
    tblGet {} rules k = r ∧ r.isValid = true ∧ r.inert = false ∧ r.mask.getLsbD i = true ∧
    (r.attr.getLsbD 3 = true → i ≤ 9) ∧ r.base.toNat / 64 ≤ g ∧ g ≤ r.limit.toNat / 64 ∧
    ∀ j < k, ¬((tblGet {} rules j).applies i = true ∧ (tblGet {} rules j).covers g = true))) ∧
  (∀ (rules : Tbl TgRule) (a : Access), privileged a.init = false → (∃ g ∈ granules a, excluded g = true) →
    ruleDecide rules a = .fault .excluded 0) ∧
  (∀ (rules : Tbl TgRule) (a : Access), 1 ≤ a.len → (∀ g ∈ granules a, governing a.init g rules = none) →
    (privileged a.init = true ∨ ∀ g ∈ granules a, excluded g = false) →
    ruleDecide rules a = if privileged a.init then .default (defaultDecide a) else .fault .noMatch 0) ∧
  (∀ (a : Access) (s : State), (s.tg.boot = true ∨ (s.tg.en = false ∧ a.init = 0)) → s.accDecide a = s.accDefault a) ∧
  (∀ (a : Access) (s : State), accFormed a = true → s.accWaits a = false → s.tgHolds a = false → s.tg.boot = false → s.tg.en = true →
    a.parity = none → ruleDecide s.tg.rules a = .pass → regionOf a.addr = .pool → a.kind = .read → a.ecc = .clean →
    (∀ k ∈ wordsIn a.addr a.len, s.poisoned k = false) → s.mi.testEn = false →
    exec (.interconnectAccess a) s = .next { s with
      out := s.out ++ [.access a.init a.unit false (s.readMem a.addr a.len)] }) ∧
  (∀ (a : Access) (s : State), accFormed a = true → s.accWaits a = false → s.tgHolds a = false → s.tg.boot = false → s.tg.en = true →
    a.parity = none → ruleDecide s.tg.rules a = .pass → regionOf a.addr = .pool → a.kind = .write → a.ecc = .clean →
    (∀ k ∈ wordsIn a.addr a.len, s.poisoned k = false) → a.wdata.length = a.len → Memory.wf 0 s.mem →
    ∃ t : State, exec (.interconnectAccess a) s = .next t ∧ t.readMem a.addr a.len = a.wdata ∧
      (∀ x, x < a.addr ∨ a.addr + a.len ≤ x → byteAt 0 t.mem x = byteAt 0 s.mem x) ∧
      (∀ k ∈ wordsIn a.addr a.len, t.valid k = true ∧ t.poisoned k = false) ∧
      t.out = s.out ++ [.access a.init a.unit false []] ∧ Frame [.mem, .mi, .out] s t)

/-- Derived from R459, R462 to R465 and R467. An access that faults answers with an error and zeros, changes no byte, is counted, and is captured while VALID is 0, otherwise only OVERRUN is set; after a fault of a privileged block the module resets. A default-map decision whose two pairs both differ faults. A rule of which
both copies are lost opens a hold, in which the access waits with every other that is not the MSS's. An access before the zero-fill's end, or in a form that no initiator can make, does nothing. An uncorrectable word that is read answers with an error, counted. -/
def Obligations.TollgateFaults : Prop :=
  (∀ (a : Access) (s : State), (accFormed a = false ∨ s.accWaits a = true) → exec (.interconnectAccess a) s = .next s) ∧
  (∀ (a : Access) (s : State), accFormed a = true → s.accWaits a = false → s.tgHolds a = true →
    exec (.interconnectAccess a) s = .next { s with tg.held := s.tg.held ++ [a] }) ∧
  (∀ (a : Access) (k : TgKind) (r : Nat) (s : State), accFormed a = true → s.accWaits a = false → a.init = 0 → s.tg.boot = false →
    s.tg.en = true → a.parity = none → ruleDecide s.tg.rules a = .fault k r →
    ∃ t : State, exec (.interconnectAccess a) s = .next t ∧ t.tg.cntFault = s.tg.cntFault + 1 ∧
      (s.tg.faultInfo.getLsbD 31 = false → t.tg.faultInfo = w32 (tgInfo a k.code r) ∧
        t.tg.faultAddr = w64 (a.addr + (a.len - 1) * 2 ^ 40)) ∧
      (s.tg.faultInfo.getLsbD 31 = true → t.tg.faultInfo = s.tg.faultInfo ||| 0x40000000 ∧ t.tg.faultAddr = s.tg.faultAddr) ∧
      .access a.init a.unit true (if a.kind = .write then [] else zeros a.len) ∈ t.out ∧ Frame (reports [.tg]) s t) ∧
  (∀ (a : Access) (k : TgKind) (r : Nat) (s : State), accFormed a = true → s.accWaits a = false → s.tgHolds a = false →
    1 ≤ a.init.val → a.init.val ≤ 9 → s.tg.boot = false → s.tg.en = true → a.parity = none → ruleDecide s.tg.rules a = .fault k r →
    ∃ u : State, exec (.interconnectAccess a) s = .next (u.requestReset 1) ∧ u.tg.cntFault = s.tg.cntFault + 1 ∧
      .access a.init a.unit true (if a.kind = .write then [] else zeros a.len) ∈ u.out ∧ Frame (reports [.tg]) s u) ∧
  (∀ (a : Access) (s : State), accFormed a = true → s.accWaits a = false → a.init = 0 → s.tg.en = false → s.tg.boot = false →
    a.flip1 = true → a.flip2 = true →
    ∃ t : State, exec (.interconnectAccess a) s = .next t ∧ t.tg.cntMismatch = s.tg.cntMismatch + 2 ∧
      t.tg.cntFault = s.tg.cntFault + 1 ∧ t.tg.cntDefault = s.tg.cntDefault ∧ Frame (reports [.tg]) s t) ∧
  (∀ (a : Access) (i : Fin 4096) (s : State), accFormed a = true → s.accWaits a = false → s.tgHolds a = false → s.tg.boot = false →
    a.init ≠ 0 → a.parity = some (i, true) → tblWf {} s.tg.rules →
    ∃ t : State, exec (.interconnectAccess a) s = .next t ∧ t.tg.en = false ∧ t.tg.holding = true ∧ t.tg.held = s.tg.held ++ [a] ∧
      t.tg.err.getLsbD 2 = true ∧ tblGet {} t.tg.rules i = {} ∧ (∀ j, j ≠ i.val → tblGet {} t.tg.rules j = tblGet {} s.tg.rules j) ∧
      (∀ e b, .access a.init a.unit e b ∈ t.out → .access a.init a.unit e b ∈ s.out) ∧ Frame (reports [.tg]) s t) ∧
  (∀ (a : Access) (syn : BitVec 8) (k : Nat) (s : State), accFormed a = true → s.accWaits a = false → s.tgHolds a = false →
    s.tg.boot = false → s.tg.en = true → a.parity = none → ruleDecide s.tg.rules a = .pass → regionOf a.addr = .pool →
    a.addr ≤ 0x417FFFFF → a.kind = .read → a.ecc = .uncorrectable syn → k ∈ wordsIn a.addr a.len → s.valid k = true →
    (∀ k ∈ wordsIn a.addr a.len, s.poisoned k = false) → s.mi.testEn = false →
    ∃ t : State, exec (.interconnectAccess a) s = .next t ∧ t.mi.cntUeSram = s.mi.cntUeSram + 1 ∧
      .access a.init a.unit true (zeros a.len) ∈ t.out ∧
      t.keys.t1 = staleSlot s.keys.t1 (s.slotAt ((a.addr - 0x40000000) / 96)) ∧ Frame (reports [.keys, .mi]) s t)

/-- Derived from R466 to R473, R481 and R483. A write to the rule table while EN is 1 is ignored and flagged; while EN is 0 it stores one half of the rule, the others and every other rule unchanged. EN = 0 opens a hold, counted, and changes no rule; EN = 1 ends it, flags inert rules with the lowest one, and
decides the accesses held, in their order. A hold over 100 us with an access held is flagged once. Writing 1 to VALID clears VALID and OVERRUN. -/
def Obligations.TollgateHoldsAndRules : Prop :=
  (∀ s : State, s.tg.en = true →
    exec .tgHold s = .next { s with
      tg.en := false, tg.holding := true, tg.drained := false, tg.holdLong := false, tg.holdStart := s.now, tg.written := []
      tg.cntHold := s.tg.cntHold + 1 }) ∧
  (∀ s : State, s.tg.en = false → exec .tgHold s = .next s) ∧
  (∀ s : State, exec .tgDrained s = .next (if s.tg.holding then { s with tg.drained := true } else s)) ∧
  (∀ s : State, ∃ u : State, exec .tgEnable s = .next (s.tg.held.foldl (fun (x : State) a => x.accArrive a) u) ∧ u.tg.en = true ∧
    u.tg.boot = false ∧ u.tg.holding = false ∧ u.tg.held = [] ∧ u.tg.rules = s.tg.rules ∧
    (∀ i l, inertRules s.tg.rules = i :: l → u.tg.err.getLsbD 1 = true ∧ u.tg.badRule = BitVec.ofNat 12 i) ∧
    (inertRules s.tg.rules = [] → u.tg.err = s.tg.err ∧ u.tg.badRule = s.tg.badRule) ∧ Frame (reports [.tg]) s u) ∧
  (∀ (i : Fin 4096) (w : Fin 4) (v : DWord) (s : State), s.tg.en = true →
    exec (.tgRuleWrite i w v) s = .next { s with tg.err := s.tg.err ||| 1 }) ∧
  (∀ (i : Fin 4096) (w : Fin 4) (v : DWord) (r : TgRule) (s : State), s.tg.en = false → tblWf {} s.tg.rules →
    r = tblGet {} s.tg.rules i →
    ∃ t : State, exec (.tgRuleWrite i w v) s = .next t ∧
      tblGet {} t.tg.rules i = (if w = 0 then { r with base := v &&& 0xFFFFFFFFC0 }
        else if w = 1 then { r with limit := v &&& 0xFFFFFFFFC0 }
        else if w = 2 then { r with mask := v.setWidth 32 }
        else { r with attr := v.setWidth 32 &&& 0x800000FF }) ∧
      (∀ j, j ≠ i.val → tblGet {} t.tg.rules j = tblGet {} s.tg.rules j) ∧ tblWf {} t.tg.rules ∧
      i.val ∈ t.tg.written ∧ t.tg.en = false ∧ t.tg.err = s.tg.err ∧ Frame [.tg] s t) ∧
  (∀ s : State, s.tg.holding = true → s.tg.held ≠ [] → s.tg.holdLong = false →
    ∃ t : State, exec .holdLong s = .next t ∧ t.tg = { s.tg with holdLong := true } ∧ t.now = max s.now (s.tg.holdStart + 100) ∧
      Frame (reports [.tg, .time]) s t) ∧
  (∀ s : State, (s.tg.holding = false ∨ s.tg.held = [] ∨ s.tg.holdLong = true) → exec .holdLong s = .next s) ∧
  (∀ s : State, exec .tgFaultRearm s = .next { s with tg.faultInfo := s.tg.faultInfo &&& 0x3FFFFFFF })

/-- Derived from R490 to R492, R494, R495 to R497, R502 and R506. A clean word changes nothing; a correctable one is counted; an uncorrectable word of the key cache's tier one is poisoned, counted and captured, and its slot becomes STALE; one already poisoned, one in the test window, or one met while the scrubber is off
is left alone. An uncorrectable DRAM stripe is stored again with zeros and every line of it marked; a tier-two slot that it held is dropped. The last word and the last stripe end a pass. A third die is never marked.
The ECC test mode is entered only under the maintenance overlay with a window in MSS SRAM or in the MSS working area of DRAM; otherwise MEM_ERR says why. The DRAM key is stored; the end of the zero-fill grants DRAM accesses. -/
def Obligations.MemoryIntegrity : Prop :=
  (∀ (m : SramMem) (i : Fin 128) (a : Nat) (e : Ecc) (s : State), (s.mi.ctrl.getLsbD 0 = false ∨ s.inTestWindow a = true) →
    exec (.sramScrub m i a e) s = .next s) ∧
  (∀ (m : SramMem) (i : Fin 128) (a : Nat) (s : State), lastSram m a = false → exec (.sramScrub m i a .clean) s = .next s) ∧
  (∀ (m : SramMem) (i : Fin 128) (a : Nat) (y : BitVec 8) (s : State), s.mi.ctrl.getLsbD 0 = true → s.inTestWindow a = false →
    lastSram m a = false →
    ∃ t : State, exec (.sramScrub m i a (.correctable y)) s = .next t ∧ t.mi.cntCeSram = s.mi.cntCeSram + 1 ∧
      t.mi.words = s.mi.words ∧ t.mi.errInfo = s.mi.errInfo ∧ Frame (reports [.mi]) s t) ∧
  (∀ (i : Fin 128) (a : Nat) (y : BitVec 8) (s : State), s.mi.ctrl.getLsbD 0 = true → s.inTestWindow a = false →
    0x40000000 ≤ a → a ≤ 0x417FFFFF → s.poisoned (wordAt a) = false →
    ∃ t : State, exec (.sramScrub .pool i a (.uncorrectable y)) s = .next t ∧ t.poisoned (wordAt a) = true ∧
      (∀ k, k ≠ wordAt a → t.poisoned k = s.poisoned k) ∧ t.mi.cntUeSram = s.mi.cntUeSram + 1 ∧
      (s.mi.errInfo.getLsbD 31 = false → t.mi.errInfo = w32 (i.val * 2 ^ 4 + 2 ^ 11 + 2 ^ 31) ∧ t.mi.errAddr = w64 a) ∧
      (s.mi.errInfo.getLsbD 31 = true → t.mi.errInfo = s.mi.errInfo ||| 0x40000000 ∧ t.mi.errAddr = s.mi.errAddr) ∧
      t.keys.t1 = staleSlot s.keys.t1 (s.slotAt ((a - 0x40000000) / 96)) ∧ Frame (reports [.keys, .mi]) s t) ∧
  (∀ (m : SramMem) (i : Fin 128) (a : Nat) (y : BitVec 8) (s : State), s.poisoned (scrubKey m i a) = true → lastSram m a = false →
    exec (.sramScrub m i a (.uncorrectable y)) s = .next s) ∧
  (∀ (i : Fin 128) (s : State), s.mi.ctrl.getLsbD 0 = true → s.inTestWindow 262143 = false →
    ∃ t : State, exec (.sramScrub .evrStore i 262143 .clean) s = .next t ∧ t.mi = { s.mi with passSram := w64 s.now } ∧
      Frame (reports [.mi]) s t) ∧
  (∀ (n : Fin 67108864) (e : Ecc) (s : State), (s.mi.ctrl.getLsbD 1 = false ∨ s.mi.dramReady = false ∨ s.stripeInTest n = true) →
    exec (.dramScrub n e) s = .next s) ∧
  (∀ (n : Fin 67108864) (y : BitVec 8) (s : State), s.mi.ctrl.getLsbD 1 = true → s.mi.dramReady = true → s.stripeInTest n = false →
    s.pwr.state ≠ 2 → n.val ≠ 67108863 →
    ∃ t : State, exec (.dramScrub n (.correctable y)) s = .next t ∧ t.mi.cntCeDram = s.mi.cntCeDram + 1 ∧
      tblGet 0 t.mi.dieCe (y.toNat % 16) = tblGet 0 s.mi.dieCe (y.toNat % 16) + 1 ∧
      (tblGet 0 s.mi.dieCe (y.toNat % 16) + 1 < 1024 → t.mi.dieFailed = s.mi.dieFailed) ∧ Frame (reports [.mi]) s t) ∧
  (∀ (n : Fin 67108864) (y : BitVec 8) (s : State), s.mi.ctrl.getLsbD 1 = true → s.mi.dramReady = true → s.stripeInTest n = false →
    s.pwr.state ≠ 2 → 192 * n.val + 191 ≤ 0x7FFFFFFF → (∀ l < 3, s.linePoisoned n l = false) → s.mi.linePoison.length < 4096 →
    tblWf none s.keys.t2 →
    ∃ t : State, exec (.dramScrub n (.uncorrectable y)) s = .next t ∧ tblGet 0 t.mi.linePoison n = 7 ∧
      (∀ l < 3, t.linePoisoned n l = true ∧ tblGet none t.keys.t2 ((192 * n.val + 64 * l) / 128) = none) ∧
      (∀ x < 192, byteAt 0 t.mem (0x1000000000 + 192 * n.val + x) = 0) ∧
      (∀ x, x < 0x1000000000 + 192 * n.val ∨ 0x1000000000 + 192 * n.val + 192 ≤ x → byteAt 0 t.mem x = byteAt 0 s.mem x) ∧
      t.mi.cntUeDram = s.mi.cntUeDram + 1 ∧ Frame (reports [.keys, .mi, .mem]) s t) ∧
  (∀ (n : Fin 67108864) (y : BitVec 8) (l : Nat) (s : State), l < 3 → s.linePoisoned n l = true → n.val ≠ 67108863 →
    exec (.dramScrub n (.uncorrectable y)) s = .next s) ∧
  (∀ s : State, s.mi.ctrl.getLsbD 1 = true → s.mi.dramReady = true → s.stripeInTest 67108863 = false → s.pwr.state ≠ 2 →
    ∃ t : State, exec (.dramScrub 67108863 .clean) s = .next t ∧ t.mi = { s.mi with passDram := w64 s.now } ∧
      Frame (reports [.mi]) s t) ∧
  (∀ (d : Fin 16) (s : State), s.mi.dieFailed.getLsbD d = false →
    ((List.range 16).filter (fun i => s.mi.dieFailed.getLsbD i)).length < 2 →
    ∃ t : State, exec (.dieMarkFailed d) s = .next t ∧ t.mi = { s.mi with dieFailed := s.mi.dieFailed ||| BitVec.ofNat 16 (2 ^ d.val) } ∧
      t.mi.dieFailed.getLsbD d = true ∧ Frame (reports [.mi]) s t) ∧
  (∀ (d : Fin 16) (s : State), (s.mi.dieFailed.getLsbD d = true ∨
    2 ≤ ((List.range 16).filter (fun i => s.mi.dieFailed.getLsbD i)).length) → exec (.dieMarkFailed d) s = .next s) ∧
  (∀ s : State, s.mi.testEn = false → s.hiu.overlay ≠ 1 →
    ∃ t : State, exec (.eccTestMode true) s = .next t ∧ t.mi.testEn = false ∧ t.mi.err.getLsbD 0 = true ∧ Frame [.mi] s t) ∧
  (∀ s : State, s.mi.testEn = false → s.hiu.overlay = 1 →
    ¬(0x10000000 ≤ s.mi.testBase.toNat ∧ s.mi.testBase.toNat + 4096 ≤ 0x10400000) →
    ¬(0x1280000000 ≤ s.mi.testBase.toNat ∧ s.mi.testBase.toNat + 4096 ≤ 0x1300000000) →
    ∃ t : State, exec (.eccTestMode true) s = .next t ∧ t.mi.testEn = false ∧ t.mi.err.getLsbD 1 = true ∧ Frame [.mi] s t) ∧
  (∀ s : State, s.mi.testEn = false → s.hiu.overlay = 1 →
    ((0x10000000 ≤ s.mi.testBase.toNat ∧ s.mi.testBase.toNat + 4096 ≤ 0x10400000) ∨
      (0x1280000000 + 4096 ≤ s.mi.testBase.toNat ∧ s.mi.testBase.toNat + 8192 ≤ 0x1300000000)) →
    ∃ t : State, exec (.eccTestMode true) s = .next t ∧ t.mi = { s.mi with testEn := true } ∧ Frame (reports [.mi]) s t) ∧
  (∀ s : State, s.mi.testEn = true →
    ∃ t : State, exec (.eccTestMode false) s = .next t ∧ t.mi = { s.mi with testEn := false } ∧ Frame (reports [.mi]) s t) ∧
  (∀ s : State, s.mi.testEn = false → exec (.eccTestMode false) s = .next s) ∧
  (∀ s : State, s.mi.testEn = true → exec (.eccTestMode true) s = .next s) ∧
  (∀ (k : BitVec 512) (s : State), exec (.dramKeyWrite k) s = .next { s with mi.dramKey := k }) ∧
  (∀ s : State, s.mi.zeroFilling = true →
    exec .zeroFillEnd s = .next { s with mi.zeroFilling := false, mi.dramReady := true }) ∧
  (∀ s : State, s.mi.zeroFilling = false → exec .zeroFillEnd s = .next s)

/-- Derived from R510, R511, R517 to R522 and R525. A source that is not monitored does nothing; a monitored one latches with the time-stamp counter and begins a decision unless one is under way, and one already acted on or still to be acted on does not latch again. The end of a decision takes the stronger of its
two computations for every source then latched. LOG changes nothing but the records; RESET stops the data plane and asks for a module reset; ERASE clears the Keystone, the DRAM key, the tier-one cache, the SRAM pool and PKM_RAM and drops every release under way. On the backup supply alone an ERASE clears the Keystone and no more. -/
def Obligations.AlarmsAndResponses : Prop :=
  (∀ (n : Fin 13) (s : State), s.monitored n = false → exec (.alarmLatch n) s = .next s) ∧
  (∀ (n : Fin 13) (s : State), s.monitored n = true → (s.par.acted.getLsbD n = true ∨ s.par.todo.getLsbD n = true) →
    exec (.alarmLatch n) s = .next { s with par.cond := s.par.cond ||| srcBit n }) ∧
  (∀ (n : Fin 13) (s : State), s.monitored n = true → s.par.acted.getLsbD n = false → s.par.todo.getLsbD n = false →
    ∃ t : State, exec (.alarmLatch n) s = .next t ∧ t.par.latch = s.par.latch ||| srcBit n ∧ t.par.todo = s.par.todo ||| srcBit n ∧
      t.par.latch.getLsbD n = true ∧ t.par.latchTsc = tblSet 0 n s.tsc s.par.latchTsc ∧ t.par.deciding = true ∧
      (s.par.deciding = true → t.par.pol = s.par.pol ∧ t.par.first = s.par.first) ∧
      (s.par.deciding = false → t.par.pol = s.par.policyBk ∧
        t.par.first = BitVec.ofNat 2 (strongest s.par.policyBk (s.par.todo ||| srcBit n))) ∧ Frame [.par] s t) ∧
  (∀ (f : BitVec 5) (s : State), ∃ t : State, exec (.loopCheck f) s = .next t ∧ Frame [.par] s t ∧ ∀ i < 5,
      (s.monitored (3 + i) = false → t.par.cond.getLsbD (3 + i) = s.par.cond.getLsbD (3 + i) ∧
        t.par.latch.getLsbD (3 + i) = s.par.latch.getLsbD (3 + i)) ∧
      (s.monitored (3 + i) = true → t.par.cond.getLsbD (3 + i) = f.getLsbD i) ∧
      (s.monitored (3 + i) = true → f.getLsbD i = true → s.par.acted.getLsbD (3 + i) = false → s.par.todo.getLsbD (3 + i) = false →
        t.par.latch.getLsbD (3 + i) = true ∧ t.par.deciding = true)) ∧
  (∀ (d : Option (Fin 4)) (s : State), s.par.deciding = false → exec (.parapetDecisionEnd d) s = .next s) ∧
  (∀ (d : Option (Fin 4)) (second taken : Nat) (s : State), s.par.deciding = true →
    second = (match d with | some c => c.val | none => strongest s.par.pol s.par.todo) → taken = max s.par.first.toNat second →
    taken ≤ 1 →
    ∃ t : State, exec (.parapetDecisionEnd d) s = .next t ∧ t.par.deciding = false ∧ t.par.todo = 0 ∧
      t.par.acted = s.par.acted ||| s.par.todo ∧ t.par.latch = s.par.latch ∧ t.par.response = s.par.response ∧
      t.par.cntAlarm = s.par.cntAlarm + w64 (sourcesOf s.par.todo).length ∧
      t.par.last = w32 (s.par.first.toNat + second * 4 + taken * 16 + b2n (s.par.first.toNat != second) * 64 +
        b2n s.backupOnly * 128 + 2 ^ 31) ∧ Frame (reports [.par]) s t) ∧
  (∀ (d : Option (Fin 4)) (second : Nat) (s : State), s.par.deciding = true → s.backupOnly = false → s.par.response = 0 →
    second = (match d with | some c => c.val | none => strongest s.par.pol s.par.todo) → max s.par.first.toNat second = 2 →
    ∃ t : State, exec (.parapetDecisionEnd d) s = .next t ∧ t.boot.request = some 2 ∧ t.dsp.noGrant = true ∧
      t.deck.noRelease = true ∧ t.hiu.noFetch = true ∧ t.par.alarmOut = true ∧ t.par.response = 2 ∧ t.ks = s.ks ∧
      t.keys.t1 = s.keys.t1 ∧ t.keys.ket = s.keys.ket ∧ Frame (reports [.dsp, .deck, .keys, .mss, .par, .anc, .boot]) s t) ∧
  (∀ (d : Option (Fin 4)) (second : Nat) (s : State), s.par.deciding = true → s.backupOnly = false → s.par.response ≠ 3 →
    second = (match d with | some c => c.val | none => strongest s.par.pol s.par.todo) → max s.par.first.toNat second = 3 →
    ∃ t : State, exec (.parapetDecisionEnd d) s = .next t ∧ t.ks.drk = 0 ∧ t.ks.loaded = false ∧ t.ks.tamper = true ∧
      t.mi.dramKey = 0 ∧ t.keys.t1 = [] ∧ t.eng.pkmRam = [] ∧ t.deck.noRelease = true ∧ t.mss.rels = [] ∧ t.par.response = 3 ∧
      t.par.alarmOut = true ∧ t.boot.request = (if s.pwr.quiesce then none else some 3) ∧
      (∀ x, 0x40000000 ≤ x → x < 0x45000000 → byteAt 0 t.mem x = 0) ∧
      (∀ n, ((t.engOf n).ckey = none ∧ (t.engOf n).cdata = none) ∧ ∀ y ∈ (t.engOf n).q, y.key = none) ∧
      Frame (reports [.deck, .keys, .eng, .rng, .mss, .mi, .par, .ks, .boot, .mem]) s t) ∧
  (∀ (d : Option (Fin 4)) (second : Nat) (s : State), s.par.deciding = true → s.backupOnly = true →
    second = (match d with | some c => c.val | none => strongest s.par.pol s.par.todo) → max s.par.first.toNat second = 3 →
    ∃ t : State, exec (.parapetDecisionEnd d) s = .next t ∧ t.ks.drk = 0 ∧ t.ks.loaded = false ∧ t.ks.tamper = true ∧
      Frame [.par, .ks] s t) ∧
  (∀ (d : Option (Fin 4)) (second : Nat) (s : State), s.par.deciding = true → s.backupOnly = true →
    second = (match d with | some c => c.val | none => strongest s.par.pol s.par.todo) → max s.par.first.toNat second = 2 →
    ∃ t : State, exec (.parapetDecisionEnd d) s = .next t ∧ t.par.pendingReset = true ∧ Frame [.par] s t) ∧
  (∀ (n : Fin 13) (s : State), s.par.acted.getLsbD n = true →
    ∃ t : State, exec (.sourceRearm n) s = .next t ∧ t.par = { s.par with
        cond := s.par.cond &&& ~~~(srcBit n), acted := s.par.acted &&& ~~~(srcBit n) } ∧
      t.par.acted.getLsbD n = false ∧ Frame (reports [.par]) s t) ∧
  (∀ (n : Fin 13) (s : State), s.par.acted.getLsbD n = false →
    exec (.sourceRearm n) s = .next { s with par.cond := s.par.cond &&& ~~~(srcBit n) })

/-- Derived from R515, R526, R527 and R618. The window opens only for a verified ticket and closes with it. A write outside it, or of a class that R515 forbids, is refused and flagged; one that is admitted issues one anchor write and changes no policy yet. ALARM_OUT# is not cleared while the tamper mark stands; the
boot hold ends only when no acted-on RESET-class condition holds. -/
def Obligations.PolicyAndBootHold : Prop :=
  (∀ s : State, exec .policyOpen s = .next (if s.mss.mayPolicy.isSome then { s with par.policyOpen := true } else s)) ∧
  (∀ s : State, exec .policyWindowClose s = .next { s with par.policyOpen := false, mss.mayPolicy := none }) ∧
  (∀ (v : Word) (s : State), s.par.policyOpen = false →
    exec (.parPolicyWrite v) s = .next { s with par.err := s.par.err ||| 1 }) ∧
  (∀ (v : Word) (s : State), s.par.policyOpen = true →
    ((∃ i < 3, v.toNat / 4 ^ i % 4 ≠ 3) ∨ (∃ i < 5, v.toNat / 4 ^ (8 + i) % 4 = 0)) →
    exec (.parPolicyWrite v) s = .next { s with par.err := s.par.err ||| 2 }) ∧
  (∀ (v : Word) (s : State), s.par.policyOpen = true → (∀ i < 3, v.toNat / 4 ^ i % 4 = 3) →
    (∀ i < 5, v.toNat / 4 ^ (8 + i) % 4 ≠ 0) → s.admits 30 = true → s.ancWorn 0x0B 1 = false →
    exec (.parPolicyWrite v) s = .next { s with
      pwr.outstanding := s.pwr.outstanding + 30, pwr.cntAdmit := s.pwr.cntAdmit + 1
      anc.queue := s.anc.queue ++ [⟨0x0B, [(v.setWidth 26).setWidth 64], 30, .policy s.parPolicy⟩] }) ∧
  (∀ (v : Word) (s : State), s.par.policyOpen = true → policyBad v = false → s.admits 30 = false →
    ∃ t : State, exec (.parPolicyWrite v) s = .next t ∧ t.anc.queue = s.anc.queue ∧ t.anc.cntRefused = s.anc.cntRefused + 1 ∧
      t.pwr.cntRefused = s.pwr.cntRefused + 1 ∧ t.par = s.par ∧ Frame (reports [.anc]) s t) ∧
  (∀ s : State, s.ks.tamper = true → exec .alarmClr s = .next s) ∧
  (∀ s : State, s.ks.tamper = false → exec .alarmClr s = .next { s with par.alarmOut := false }) ∧
  (∀ s : State, s.par.held = true →
    (∀ i < 13, s.par.cond.getLsbD i = true → s.par.acted.getLsbD i = true → classOf s.par.policyBk i ≠ 2) →
    exec .bootHoldRelease s = .next { s with par.held := false }) ∧
  (∀ (i : Nat) (s : State), i < 13 → s.par.cond.getLsbD i = true → s.par.acted.getLsbD i = true → classOf s.par.policyBk i = 2 →
    exec .bootHoldRelease s = .next s)

/-- Derived from R539, R541, R542, R544, R545 and R547 to R551. An offered record joins the input queue; with 64 waiting it is dropped and counted; the 1,001st of a code in a second enters fall-back, when its class allows it and a slot is free, and a code in fall-back is summarised. Code 0 is never written. An accepted
record takes the next sequence number and the device time, its slot is written and no other, and the first 4,096 are kept for the flash. Nothing is accepted at the ceiling. The end of a second frees or clears the histograms and restarts the counts. -/
def Obligations.RecordsAccepted : Prop :=
  (∀ (src : Fin 65536) (p0 p1 p2 p3 : Word) (s : State), exec (.recordOffer src 0 p0 p1 p2 p3) s = .next s) ∧
  (∀ (src : Fin 65536) (c : BitVec 16) (p0 p1 p2 p3 : Word) (s : State), c ≠ 0 → histFind c s.evr.hist = none →
    (tblGet 0 s.evr.offered c.toNat < 1000 ∨ noFallback c = true) → s.evr.queue.length < 64 →
    exec (.recordOffer src c p0 p1 p2 p3) s = .next { s with
      evr.offered := tblSet 0 c.toNat (tblGet 0 s.evr.offered c.toNat + 1) s.evr.offered
      evr.queue := s.evr.queue ++ [⟨BitVec.ofNat 16 src.val, c, p0, p1, p2, p3⟩] }) ∧
  (∀ (src : Fin 65536) (c : BitVec 16) (p0 p1 p2 p3 : Word) (s : State), c ≠ 0 → histFind c s.evr.hist = none →
    (tblGet 0 s.evr.offered c.toNat < 1000 ∨ noFallback c = true) → 64 ≤ s.evr.queue.length →
    ∃ t : State, exec (.recordOffer src c p0 p1 p2 p3) s = .next t ∧ t.evr.queue = s.evr.queue ∧
      t.evr.dropped = s.evr.dropped + 1 ∧ t.evr.cntDropped = s.evr.cntDropped + 1 ∧ t.evr.evt.getLsbD 2 = true ∧
      Frame (reports []) s t) ∧
  (∀ (src : Fin 65536) (c : BitVec 16) (p0 p1 p2 p3 : Word) (i : Nat) (s : State), c ≠ 0 → histFind c s.evr.hist = none →
    1000 ≤ tblGet 0 s.evr.offered c.toNat → noFallback c = false → histFree s.evr.hist 32 0 = some i →
    ∃ (t : State) (h : Hist), exec (.recordOffer src c p0 p1 p2 p3) s = .next t ∧ tblGet none t.evr.hist i = some h ∧
      h.code = c ∧ h.n = 1 ∧ h.least = p0 ∧ h.greatest = p0 ∧ t.evr.queue = s.evr.queue ∧
      t.evr.cntFallback = s.evr.cntFallback + 1 ∧
      t.evr.own = s.evr.own ++ [(⟨1144, 0x0B06, c.setWidth 32, w32 i, 0, 0⟩ : Offer)] ∧ Frame (reports []) s t) ∧
  (∀ (src : Fin 65536) (c : BitVec 16) (p0 p1 p2 p3 : Word) (i : Nat) (h : Hist) (s : State), c ≠ 0 →
    histFind c s.evr.hist = some (i, h) →
    ∃ (t : State) (h' : Hist), exec (.recordOffer src c p0 p1 p2 p3) s = .next t ∧ tblGet none t.evr.hist i = some h' ∧
      h'.code = h.code ∧ h'.n = h.n + 1 ∧ t.evr.queue = s.evr.queue ∧ t.evr.cntFallback = s.evr.cntFallback + 1 ∧ Frame [.evr] s t) ∧
  (∀ (o : Offer) (l : List Offer) (slot : Nat) (r : Rec) (s : State), s.evr.clearing = false → s.evr.head + 32769 < s.evr.ceiling →
    s.evr.dropped = 0 → s.evr.own = [] → s.boot.log = [] → s.evr.queue = o :: l → slot = evrSlot s.evr.keptBase (w32 s.evr.head) →
    r = ⟨w32 s.evr.head, o.code, o.source, s.now, o.p0, o.p1, o.p2, o.p3⟩ →
    ∃ t : State, exec .recordAccept s = .next t ∧ t.evr.head = s.evr.head + 1 ∧ t.evr.queue = l ∧
      tblGet none t.evr.store slot = some r ∧ (∀ k, k ≠ slot → tblGet none t.evr.store k = tblGet none s.evr.store k) ∧
      t.evr.keptPending = (if slot < 4096 then s.evr.keptPending ++ [slot] else s.evr.keptPending) ∧ Frame (reports []) s t) ∧
  (∀ s : State, s.evr.clearing = false → 0 < s.evr.dropped → s.evr.head + 32769 < s.evr.ceiling →
    ∃ (t : State) (r : Rec), exec .recordAccept s = .next t ∧ t.evr.dropped = 0 ∧ t.evr.queue = s.evr.queue ∧
      tblGet none t.evr.store (evrSlot s.evr.keptBase (w32 s.evr.head)) = some r ∧ r.code = 0x0B05 ∧ r.p0 = w32 s.evr.dropped ∧
      Frame (reports []) s t) ∧
  (∀ s : State, s.evr.clearing = true → exec .recordAccept s = .next s) ∧
  (∀ s : State, s.evr.clearing = false → s.evr.ceiling ≤ s.evr.head → s.evr.raising = true → exec .recordAccept s = .next s) ∧
  (∀ (i : Nat) (l : List Nat) (r : Rec) (s : State), s.evr.keptPending = i :: l → tblGet none s.evr.store i = some r →
    exec .keptRecordFlashWriteDone s = .next { s with
      evr.keptPending := l, cfg.flash := setBytes 0xFF s.cfg.flash (evrFlash s.evrHalf i) r.bytes }) ∧
  (∀ s : State, s.evr.keptPending = [] → exec .keptRecordFlashWriteDone s = .next s) ∧
  (∀ s : State, ∃ t : State, exec .secondEnd s = .next t ∧ t.now = (s.now / 1000000 + 1) * 1000000 ∧ t.evr.offered = [] ∧
    t.evr.queue = s.evr.queue ∧ t.evr.store = s.evr.store ∧ t.evr.head = s.evr.head ∧
    t.evr.own = s.evr.own ++ s.histSecond s.evr.hist ∧
    (∀ (i : Nat) (h : Hist), tblGet none t.evr.hist i = some h → 1000 < tblGet 0 s.evr.offered h.code.toNat ∧ h.n = 0) ∧
    t.mi = { s.mi with dieCe := [] } ∧ Frame [.evr, .mi, .time] s t)

/-- Derived from R541, R546 and R554. A raise that is persistent lifts the ceiling to ANC_EVR_SEQ; a refused one is tried again. EVR_WR.GO offers the record of the write registers and stalls while the queue is full. A clear without a verified ticket changes nothing; with one it writes the clear record to the other flash
half and issues ANC_EVR_BASE, and a refused write leaves every record. -/
def Obligations.CeilingWritesAndClear : Prop :=
  (∀ s : State, s.evr.raising = true → s.evr.ceiling < (s.ancGet 8).toNat →
    exec .ceilingRaiseDone s = .next { s with evr.ceiling := (s.ancGet 8).toNat, evr.raising := false }) ∧
  (∀ s : State, s.evr.raising = false → exec .ceilingRaiseDone s = .next s) ∧
  (∀ s : State, s.evr.retry = true → s.evr.raising = false → s.evr.ceiling ≤ s.evr.head + 32768 → s.admits 30 = true →
    s.ancWorn 8 1 = false →
    exec .ceilingRetry s = .next { s with
      evr.retry := false, evr.raising := true, pwr.outstanding := s.pwr.outstanding + 30, pwr.cntAdmit := s.pwr.cntAdmit + 1
      anc.queue := s.anc.queue ++ [⟨8, [w64 (s.evr.ceiling + 65536)], 30, .ceiling⟩] }) ∧
  (∀ s : State, s.evr.retry = true → s.evr.raising = false → s.evr.ceiling ≤ s.evr.head + 32768 → s.admits 30 = false →
    ∃ t : State, exec .ceilingRetry s = .next t ∧ t.evr.retry = true ∧ t.evr.raising = false ∧ t.anc.queue = s.anc.queue ∧
      Frame (reports [.anc]) s t) ∧
  (∀ s : State, s.evr.retry = false → exec .ceilingRetry s = .next s) ∧
  (∀ s : State, s.evr.wrHdr.setWidth 16 ≠ (0 : BitVec 16) → s.evr.queue.length < 64 →
    histFind (s.evr.wrHdr.setWidth 16) s.evr.hist = none →
    tblGet 0 s.evr.offered (s.evr.wrHdr.setWidth 16 : BitVec 16).toNat < 1000 →
    ∃ t : State, exec .evrWrGo s = .next t ∧ t.evr.queue = s.evr.queue ++ [⟨(s.evr.wrHdr >>> 16).setWidth 16,
        s.evr.wrHdr.setWidth 16, tblGet 0 s.evr.wrP 0, tblGet 0 s.evr.wrP 1, tblGet 0 s.evr.wrP 2, tblGet 0 s.evr.wrP 3⟩] ∧
      t.evr.store = s.evr.store ∧ Frame [.evr] s t) ∧
  (∀ s : State, (s.evr.wrHdr.setWidth 16 = (0 : BitVec 16) ∨ 64 ≤ s.evr.queue.length) → exec .evrWrGo s = .next s) ∧
  (∀ s : State, s.mss.mayClearEvr = none → exec .evrClear s = .next s) ∧
  (∀ (sg tk : Word) (s : State), s.mss.mayClearEvr = some (sg, tk) → s.evr.clearing = false → s.evr.head < s.evr.ceiling →
    s.admits 30 = true → s.ancWorn 9 1 = false →
    ∃ (t : State) (r : Rec), exec .evrClear s = .next t ∧ t.evr.clearing = true ∧ t.evr.clearRec = some r ∧ r.code = 0x0B08 ∧
      r.seq = w32 s.evr.head ∧ r.p2 = sg ∧ r.p3 = tk ∧ t.evr.store = s.evr.store ∧ t.evr.keptBase = s.evr.keptBase ∧
      t.anc.queue = s.anc.queue ++ [⟨9, [w64 ((w32 s.evr.head).toNat + (if s.evrHalf then 0 else 2 ^ 32))], 30, .evrClear⟩] ∧
      t.cfg.flash = setBytes 0xFF s.cfg.flash (evrFlash (!s.evrHalf) 0) r.bytes ∧ Frame [.evr, .anc, .cfg, .pwr] s t) ∧
  (∀ (sg tk : Word) (s : State), s.mss.mayClearEvr = some (sg, tk) → s.evr.clearing = false → s.evr.head < s.evr.ceiling →
    s.admits 30 = false →
    ∃ t : State, exec .evrClear s = .next t ∧ t.evr.clearing = false ∧ t.evr.clearRefused = true ∧ t.evr.store = s.evr.store ∧
      t.cfg = s.cfg ∧ Frame (reports [.anc]) s t)

/-- Derived from R561, R563 to R565, R576, R591 and R674. Each sideband command returns its value while the target is powered, and only ALERT_CAUSE changes anything: it is cleared. A fragment is stored, the last one sends the message on whole, a repeated or ill-formed one is dropped, and an incomplete message is
discarded after 1 s. A nonce lapses 300 s after its issue, a ceremony at its window's end. The watchdog restarts the MSS alone: MSS SRAM is cleared, nonces and the ceremony go, every request loses its reply, and a release begun goes on. A temperature above 100 degrees raises the alert. -/
def Obligations.SidebandServiceAndTimers : Prop :=
  (∀ (b v i p : BitVec 16) (s : State), s.backupOnly = false →
    exec .smbStatus s = .next { s with out := s.out ++ [.smb (natLe 4 (s.hiu.idState.toNat + 8 * b2n s.hiu.dpUp + 16 * b2n s.par.alarmOut + 32 * b2n (!s.ks.checkOk)))] } ∧
    exec (.smbTemp b) s = .next { s with out := s.out ++ [.smb (natLe 2 b.toNat)] } ∧
    exec (.smbV12 v) s = .next { s with out := s.out ++ [.smb (natLe 2 v.toNat)] } ∧
    exec (.smbI12 i) s = .next { s with out := s.out ++ [.smb (natLe 2 i.toNat)] } ∧
    exec (.smbPower p) s = .next { s with out := s.out ++ [.smb (natLe 2 p.toNat)] } ∧
    exec .smbHoldup s = .next { s with out := s.out ++ [.smb (natLe 2 (s.pwr.charge / 1000))] } ∧
    exec .smbSerial s = .next { s with out := s.out ++ [.smb (natLe 8 s.hiu.serial.toNat)] } ∧
    exec .smbVersions s = .next { s with out := s.out ++ [.smb (natLe 4 s.hiu.verMss.toNat ++ natLe 4 s.hiu.verPier.toNat ++
      natLe 4 s.hiu.verPks.toNat ++ natLe 4 s.hiu.verCfg.toNat)] } ∧
    exec .smbAlertCause s = .next { s with out := s.out ++ [.smb [s.mss.alert.setWidth 8]], mss.alert := 0 } ∧
    exec .smbusAlertResponse s = .next (if s.mss.alert = 0 then s else { s with out := s.out ++ [.smb [0x74]] })) ∧
  (∀ (c : Instr) (b : BitVec 16) (s : State), s.backupOnly = true → c ∈ [Instr.smbStatus, .smbTemp b, .smbV12 b, .smbI12 b, .smbPower b,
    .smbHoldup, .smbSerial, .smbVersions, .smbAlertCause, .smbusAlertResponse] → exec c s = .next s) ∧
  (∀ (src : BitVec 48) (id : Word) (i n : Nat) (p : Bytes) (s : State), s.servicePort = true → i < n → n ≤ 45 → p ≠ [] →
    p.length ≤ 1492 → (∀ f ∈ s.mss.frags, f.src ≠ src ∨ f.msgId ≠ id) →
    exec (.serviceFrame src id i n p) s = .next (if n = 1 then { s with mss.inbox := s.mss.inbox ++ [(src, id, p)] }
      else { s with mss.frags := s.mss.frags ++ [(⟨src, id, n, s.now, [(i, p)]⟩ : Frag)] })) ∧
  (∀ (src : BitVec 48) (id : Word) (p q : Bytes) (at_ : Nat) (s : State), s.servicePort = true → p ≠ [] → p.length ≤ 1492 →
    s.mss.frags = [(⟨src, id, 2, at_, [(1, q)]⟩ : Frag)] →
    exec (.serviceFrame src id 0 2 p) s = .next { s with mss.frags := [], mss.inbox := s.mss.inbox ++ [(src, id, p ++ q)] }) ∧
  (∀ (src : BitVec 48) (id : Word) (i n : Nat) (p : Bytes) (f : Frag) (s : State),
    (s.servicePort = false ∨ n ≤ i ∨ 45 < n ∨ p = [] ∨ 1492 < p.length ∨
      (s.mss.frags.find? (fun g => g.src == src && g.msgId == id) = some f ∧ (f.count ≠ n ∨ f.got.any (fun x => x.1 == i) = true))) →
    exec (.serviceFrame src id i n p) s = .next s) ∧
  (∀ (id : Word) (f : Frag) (s : State), s.mss.frags.find? (fun g => g.msgId == id) = some f →
    ∃ t : State, exec (.fragmentTimeout id) s = .next t ∧ t.mss = { s.mss with frags := s.mss.frags.filter (fun g => g.msgId != id) } ∧
      t.now = max s.now (f.at_ + 1000000) ∧ Frame [.mss, .time] s t) ∧
  (∀ (id : Word) (s : State), (∀ f ∈ s.mss.frags, f.msgId ≠ id) → exec (.fragmentTimeout id) s = .next s) ∧
  (∀ (n : Bytes) (at_ : Nat) (l : List (Bytes × Nat)) (s : State), s.mss.nonces = (n, at_) :: l →
    ∃ t : State, exec .nonceLapse s = .next t ∧ t.mss = { s.mss with nonces := l } ∧ t.now = max s.now (at_ + 300000000) ∧
      Frame [.mss, .time] s t) ∧
  (∀ (c : Ceremony) (s : State), s.mss.cerem = some c →
    ∃ t : State, exec .ceremonyWindowEnd s = .next t ∧ t.mss = { s.mss with cerem := none } ∧ t.now = max s.now c.windowEnd ∧
      Frame (reports [.mss, .time]) s t) ∧
  (∀ s : State, s.mss.cerem = none → exec .ceremonyWindowEnd s = .next s) ∧
  (∀ s : State, s.pwr.halted = false → s.boot.warm = false → s.boot.booting = false → s.boot.romHalt = false →
    ∃ t : State, exec .mssWatchdogExpiry s = .next t ∧ t.boot.warm = true ∧ t.boot.cause = 6 ∧ t.boot.warmStart = s.now ∧
      t.mss.nonces = [] ∧ t.mss.cerem = none ∧ t.mss.mbxBusy = false ∧ t.mss.mbxRestarted = (s.mss.mbxRestarted || s.mss.mbxBusy) ∧
      t.mss.rels = s.mss.rels.map (fun r => { r with reply := none }) ∧
      (∀ x, 0x10000000 ≤ x → x < 0x10400000 → byteAt 0 t.mem x = 0) ∧
      (∀ x, x < 0x10000000 ∨ 0x10400000 ≤ x → byteAt 0 t.mem x = byteAt 0 s.mem x) ∧
      Frame (reports [.mss, .mi, .boot, .mem]) s t) ∧
  (∀ s : State, (s.pwr.halted = true ∨ s.boot.booting = true) → exec .mssWatchdogExpiry s = .next s) ∧
  (∀ s : State, s.boot.warm = true →
    ∃ t : State, exec (.warmRestartEnd true) s = .next t ∧ t.boot = { s.boot with warm := false } ∧ Frame (reports [.boot]) s t) ∧
  (∀ s : State, s.boot.warm = true → exec (.warmRestartEnd false) s = .next (s.requestReset 1)) ∧
  (∀ (b : Bool) (s : State), s.boot.warm = false → exec (.warmRestartEnd b) s = .next s) ∧
  (∀ (v : BitVec 16) (s : State), s.backupOnly = false →
    exec (.temperatureAlert v) s = .next { s with
      par.temp := v, mss.alert := if 1000 < v.toInt then s.mss.alert ||| 1 else s.mss.alert })

/-- Derived from R562, R567 to R572, R576, R590, R591 and R596. NONCE_REQ returns a drawn nonce with its issue time and holds it, the ninth in place of the oldest; ATTEST returns a report over the nonce, signed and counted, with the certificate; OFFICER_READ, SENSORS and TENANT_INFO return their bodies. A tenant's path carries
only ATTEST and TENANT_INFO. A request that the MSS cannot take, or whose draw stalls, changes nothing. A part that passes its checks is held until it is the last, which ends the ceremony; one that fails ends it. -/
def Obligations.ManagementRequests : Prop :=
  (∀ (p : Path) (tag : Word) (b : Bytes) (u s : State), s.reqTaken p = true → (p = .pf ∨ p = .service) → s.mssDraw 32 = .ok b u →
    ∃ t : State, exec (.nonceReq p tag) s = .next t ∧ Replied p 1 tag 0 (b ++ natLe 8 s.now) s t ∧
      t.mss.nonces = (if s.mss.nonces.length < 8 then s.mss.nonces ++ [(b, s.now)] else (s.mss.nonces ++ [(b, s.now)]).drop 1) ∧
      Frame [.hiu, .rng, .mss, .out] s t) ∧
  (∀ (p : Path) (tag : Word) (s : State), s.reqTaken p = true → (p = .pf ∨ p = .service) → s.mssDraw 32 = .stall →
    exec (.nonceReq p tag) s = .next s) ∧
  (∀ (p : Path) (tag : Word) (u s : State), s.reqTaken p = true → (p = .pf ∨ p = .service) → s.mssDraw 32 = .fail u →
    ∃ t : State, exec (.nonceReq p tag) s = .next t ∧ Replied p 1 tag 0x4101 [] s t ∧ t.mss.nonces = s.mss.nonces ∧
      Frame [.hiu, .rng, .mss, .out] s t) ∧
  (∀ (n : Fn) (tag : Word) (v w i q : BitVec 16) (s : State), s.reqTaken (.vf n) = true →
    ∃ t t' t'' : State, exec (.nonceReq (.vf n) tag) s = .next t ∧ Replied (.vf n) 1 tag 0x1001 [] s t ∧
      exec (.officerRead (.vf n) tag) s = .next t' ∧ Replied (.vf n) 4 tag 0x1001 [] s t' ∧
      exec (.sensors (.vf n) tag v w i q) s = .next t'' ∧ Replied (.vf n) 6 tag 0x1001 [] s t'' ∧ Frame [.mss, .out] s t ∧
      Frame [.mss, .out] s t' ∧ Frame [.mss, .out] s t'') ∧
  (∀ (p : Path) (tag : Word) (nonce b : Bytes) (u s : State), s.reqTaken p = true → (p = .pf ∨ p = .service) →
    s.boot.romHalt = false → nonce.length = 32 → s.mssDraw 56 = .ok b u →
    ∃ (t : State) (body : Bytes), exec (.attest p tag nonce) s = .next t ∧ body = u.reportBody 0 0xFFFF nonce (zeros 48) ∧
      Replied p 3 tag 0 (body ++ dikSign b body ++ fit 224 Config.dikCert) s t ∧ t.mss.reports = s.mss.reports + 1 ∧
      Frame [.hiu, .rng, .mss, .out] s t) ∧
  (∀ (n : Fn) (tag : Word) (nonce b : Bytes) (u s : State), s.reqTaken (.vf n) = true → s.boot.romHalt = false →
    nonce.length = 32 → s.mssDraw 56 = .ok b u →
    ∃ (t : State) (body : Bytes), exec (.attest (.vf n) tag nonce) s = .next t ∧
      body = u.reportBody 1 n nonce (sha384B (s.tenantInfoBody n)) ∧
      Replied (.vf n) 3 tag 0 (body ++ dikSign b body ++ fit 224 Config.dikCert) s t ∧ t.mss.reports = s.mss.reports + 1 ∧
      Frame [.rng, .mss, .out] s t) ∧
  (∀ (p : Path) (tag : Word) (nonce : Bytes) (s : State), s.reqTaken p = true → s.boot.romHalt = false → nonce.length ≠ 32 →
    ∃ t : State, exec (.attest p tag nonce) s = .next t ∧ Replied p 3 tag 0x1002 [] s t ∧ t.mss.reports = s.mss.reports ∧
      Frame [.hiu, .mss, .out] s t) ∧
  (∀ (p : Path) (tag : Word) (s : State), s.reqTaken p = true → (p = .pf ∨ p = .service) → s.boot.romHalt = false →
    ∃ t : State, exec (.officerRead p tag) s = .next t ∧ Replied p 4 tag 0 s.offRecords s t ∧ Frame [.hiu, .mss, .out] s t) ∧
  (∀ (p : Path) (tag : Word) (v w i q : BitVec 16) (s : State), s.reqTaken p = true → (p = .pf ∨ p = .service) →
    s.boot.romHalt = false →
    ∃ t : State, exec (.sensors p tag v w i q) s = .next t ∧ Replied p 6 tag 0 (s.smbStatusBytes ++ natLe 2 v.toNat ++ natLe 2 w.toNat ++
      natLe 2 i.toNat ++ natLe 2 q.toNat ++ natLe 2 (s.pwr.charge / 1000)) s t ∧ Frame [.hiu, .mss, .out] s t) ∧
  (∀ (n : Fn) (tag : Word) (s : State), s.reqTaken (.vf n) = true →
    ∃ t : State, exec (.tenantInfo n tag) s = .next t ∧ Replied (.vf n) 0x10 tag 0 (natLe 8 (s.ancGet (0x1101 + 3 * n.val)).toNat ++
      natLe 8 (s.ancGet (0x1102 + 3 * n.val)).toNat ++ natLe 4 (s.ketShare n)) s t ∧ Frame [.mss, .out] s t) ∧
  (∀ (n : Fn) (b : Bytes) (tag : Word) (s : State), s.reqTaken (.vf n) = true → b = (s.vfMbx n).bytes → tag = w32 (fld b 8 4) →
    ∃ t : State, exec (.vfMbxGo n) s = .next t ∧
      (fld b 0 2 ≠ 3 → fld b 0 2 ≠ 0x10 → Replied (.vf n) (fld b 0 2) tag 0x1001 [] s t) ∧
      (fld b 0 2 = 0x10 → fld b 4 4 = 0 → fld b 2 2 = 0 → fld b 12 4 = 0 → exec (.tenantInfo n tag) s = .next t) ∧
      (fld b 0 2 = 3 → fld b 4 4 = 32 → fld b 2 2 = 0 → fld b 12 4 = 0 → exec (.attest (.vf n) tag (sub b 16 32)) s = .next t) ∧
      (fld b 0 2 = 0x10 → fld b 4 4 ≠ 0 → Replied (.vf n) 0x10 tag 0x1002 [] s t)) ∧
  (∀ (c : Instr) (p : Path) (tag : Word) (v : BitVec 16) (nonce : Bytes) (s : State), s.reqTaken p = false →
    c ∈ [Instr.nonceReq p tag, .attest p tag nonce, .officerRead p tag, .sensors p tag v v v v] → exec c s = .next s) ∧
  (∀ (n : Fn) (tag : Word) (s : State), s.reqTaken (.vf n) = false →
    exec (.tenantInfo n tag) s = .next s ∧ exec (.vfMbxGo n) s = .next s) ∧
  (∀ (tag : Word) (body : Bytes) (pb : Option Bytes) (c : Ceremony) (s : State), s.reqTaken .service = true → s.boot.romHalt = false →
    body.length = 140 → s.mss.cerem = some c → fld body 0 4 = c.id → s.now < c.windowEnd →
    ∃ t : State, exec (.ccPart tag body pb) s = .next t ∧
      (s.partVerdict c body = 0 → c.got.length + 1 < c.parts →
        t.mss.cerem = some { c with got := c.got ++ [(fld body 4 1, fld body 43 1, sub body 8 32)] } ∧
        Replied .service 5 tag 0 [] s t ∧ Frame [.mss, .out] s t) ∧
      (s.partVerdict c body = 0 → c.parts ≤ c.got.length + 1 → t.mss.cerem = none ∧ ∃ st b, Replied .service 5 tag st b s t) ∧
      (s.partVerdict c body ≠ 0 → t.mss.cerem = none ∧ Replied .service 5 tag (s.partVerdict c body) [] s t ∧
        Frame (reports [.mss]) s t)) ∧
  (∀ (tag : Word) (body : Bytes) (pb : Option Bytes) (s : State), s.reqTaken .service = true → s.boot.romHalt = false →
    body.length = 140 → s.mss.cerem = none →
    ∃ t : State, exec (.ccPart tag body pb) s = .next t ∧ Replied .service 5 tag 0x3001 [] s t ∧ Frame [.mss, .out] s t) ∧
  (∀ (tag : Word) (body : Bytes) (pb : Option Bytes) (c : Ceremony) (s : State), s.reqTaken .service = true → s.boot.romHalt = false →
    body.length = 140 → s.mss.cerem = some c → fld body 0 4 = c.id → c.windowEnd ≤ s.now →
    ∃ t : State, exec (.ccPart tag body pb) s = .next t ∧ t.mss.cerem = none ∧ Replied .service 5 tag 0x3003 [] s t ∧
      Frame (reports [.mss]) s t)

/-- Derived from R572 to R576 and R579 to R589. A request that is not taken up changes nothing, and one on a tenant's path is refused. COMMISSION draws the DRK and begins its release, or leaves the Keystone as it was; DECOMMISSION, OFFICER_TABLE, TENANT_CREATE, TENANT_CONFIG and TENANT_REMOVE each begin one release with the words that
R583 to R588 give, or are refused with the status of the admission and write nothing; on an enrolled abutment a change of a tenant or an officer is originated as a replicated record. CC_IMPORT opens the one ceremony. Each runs on a ticket that passes, and not otherwise. -/
def Obligations.OfficerAndTenantActions : Prop :=
  (∀ (c : Instr) (r : ActionReq) (s : State), c ∈ [Instr.commission r, .decommission r, .officerTable r, .tenantCreate r,
      .tenantConfig r, .tenantRemove r, .ccImport r, .drkBackup r, .tamperPolicy r, .recorderClear r, .overlaySelect r] →
    (s.reqTaken r.path = false → exec c s = .next s) ∧
    (∀ n, r.path = .vf n → s.reqTaken r.path = true →
      ∃ t : State, exec c s = .next t ∧ Replied r.path 2 r.tag 0x1001 [] s t ∧ Frame [.mss, .out] s t)) ∧
  (∀ (r : ActionReq) (own : Bool) (s : State), TakenUp r s → own = (s.noOfficers && offCount r.body != 0) →
    ∃ t : State, exec (.commission r) s = .next t ∧ Judged r 1 (offLayout true r.body)
      (if own then withRecs (fun _ => none) (offRecs r.body) else s.offTab) (if own then bodyM r.body 1 else s.quorumM 1)
      (if s.ks.loaded || s.removing || s.noOfficers != (offCount r.body != 0) then 0x3001
        else if own && !tableSafe (withRecs (fun _ => none) (offRecs r.body)) (bodyM r.body) then 0x3001 else 0) s t (fun u =>
      DrawnFor r (if s.enrolled then 32 else 64) s u t (fun b _ =>
        (t.ks.drk = BitVec.ofNat 256 (beNat (sub b 0 32)) ∧ t.ks.loaded = true ∧ t.ks.tamper = false ∧ t.mss.mayGenerate = true ∧
          t.mss.rels = s.mss.rels ++ [⟨s.mss.nextRel, some (repOf r []), some (actOf 1 r.ticket 0xFFFF),
            .commission (recEvents (offRecs r.body))⟩]) ∨
        (t.ks = s.ks ∧ t.mss.rels = s.mss.rels ∧ ∃ st ∈ [0x5001, 0x5002, 0x5004], Replied r.path 2 r.tag st [] s t)))) ∧
  (∀ (r : ActionReq) (s : State), TakenUp r s →
    ∃ t : State, exec (.decommission r) s = .next t ∧ Judged r 2 (if r.body = [] then 0 else 0x1002) s.offTab (s.quorumM 2)
      (if s.actionPre 2 ≠ 0 then s.actionPre 2 else if s.enrolled then 0x3001 else 0) s t (fun u =>
      ReleaseOrRefusal r 2 0xFFFF s.decommissionWrites [] .decommission u t ∧ t.mss.mayClear = true ∧ t.ks = s.ks ∧
        Frame (reports [.mss, .anc]) s t)) ∧
  (∀ (r : ActionReq) (rs : List OffRec) (s : State), TakenUp r s → rs = offRecs r.body →
    ∃ t : State, exec (.officerTable r) s = .next t ∧ Judged r 3 (offLayout false r.body) s.offTab (s.quorumM 3)
      (if s.actionPre 3 ≠ 0 then s.actionPre 3 else if tableSafe (withRecs s.offTab rs) (bodyM r.body) then 0 else 0x3001) s t (fun u =>
      (s.enrolled = false →
        ReleaseOrRefusal r 3 0xFFFF (recWords rs ++ [(0x10, quorumWords r.body)]) [] (.officers (recEvents rs)) u t) ∧
      (s.enrolled = true → rs = [] → ReleaseOrRefusal r 3 0xFFFF
        [(0x10, quorumWords r.body), (0x0F, [w64 ((s.ancLatest 0x0F).toNat + 1)])] []
        (.repl ((s.ancLatest 0x0F).toNat + 1) (.quorum ((quorumWords r.body).getD 0 0) ((quorumWords r.body).getD 1 0))) u t) ∧
      Frame (reports [.mss, .anc]) s t)) ∧
  (∀ (r : ActionReq) (n share : Nat) (pol dec : DWord) (ws : List AncW) (s : State), TakenUp r s → n = fld r.body 0 2 →
    share = fld r.body 4 4 → pol = w64 (fld r.body 8 8) → dec = w64 (fld r.body 16 8) →
    ws = [(0x0C00 + n, [w64 (s.tdkEpoch n + 1)]), tnCfgWords n 1 share pol dec] →
    ∃ t : State, exec (.tenantCreate r) s = .next t ∧ Judged r 4 (tenantLayout true r.body) s.offTab (s.quorumM 4)
      (if s.actionPre 4 ≠ 0 then s.actionPre 4
        else if (s.tnOf n).state ≠ 0 ∨ 131072 < s.otherShares n + share then 0x3001 else 0) s t (fun u =>
      DrawnFor r 32 s u t (fun tdk w => match w.crkFor w.crkEpoch with
        | none => Replied r.path 2 r.tag stIntegrity [] s t ∧ t.anc.queue = s.anc.queue
        | some (crk, x) => ∃ (y : State) (blob : Bytes),
            (blob, y) = x.sealParts (tdkHdr n (s.tdkEpoch n + 1) x.crkEpoch tdk) crk 0 [tdk] ∧
            (s.enrolled = false → ReleaseOrRefusal r 4 n ws blob (.tenantSet n 1) y t) ∧
            (s.enrolled = true → ReleaseOrRefusal r 4 n (ws ++ [(0x0F, [w64 ((y.ancLatest 0x0F).toNat + 1)])]) blob
              (.repl ((y.ancLatest 0x0F).toNat + 1) (.tenantCreate (fnOf n) share pol dec (BitVec.ofNat 32 (s.tdkEpoch n + 1)))) y t)))) ∧
  (∀ (r : ActionReq) (n share : Nat) (su : Bool) (pol dec : DWord) (ws : List AncW) (s : State), TakenUp r s → n = fld r.body 0 2 →
    su = (fld r.body 2 1 == 1) → share = fld r.body 4 4 → pol = w64 (fld r.body 8 8) → dec = w64 (fld r.body 16 8) →
    ws = [tnCfgWords n (if su then 2 else 1) share pol dec] →
    ∃ t : State, exec (.tenantConfig r) s = .next t ∧ Judged r 5 (tenantLayout false r.body) s.offTab (s.quorumM 5)
      (if s.actionPre 5 ≠ 0 then s.actionPre 5
        else if (s.tnOf n).state = 0 ∨ share < s.ketUsed n ∨ 131072 < s.otherShares n + share then 0x3001 else 0) s t (fun u =>
      (s.enrolled = false → ReleaseOrRefusal r 5 n ws [] (.tenantSet n (if su then 2 else 1)) u t) ∧
      (s.enrolled = true → ReleaseOrRefusal r 5 n (ws ++ [(0x0F, [w64 ((s.ancLatest 0x0F).toNat + 1)])]) []
        (.repl ((s.ancLatest 0x0F).toNat + 1) (.tenantConfig (fnOf n) su share pol dec)) u t) ∧ Frame (reports [.mss, .anc]) s t)) ∧
  (∀ (r : ActionReq) (n : Nat) (ws : List AncW) (s : State), TakenUp r s → n = fld r.body 0 2 →
    ws = s.replWords (.tenantRemove (fnOf n)) ++ (if s.enrolled then [(0x0F, [w64 ((s.ancLatest 0x0F).toNat + 1)])] else []) →
    ∃ t : State, exec (.tenantRemove r) s = .next t ∧ Judged r 6
      (if r.body.length ≠ 2 then 0x1002 else if n = 0 ∨ 1024 < n then 0x1003 else 0) s.offTab (s.quorumM 6) (s.actionPre 6) s t (fun u =>
      (u.mssVerdictJ 1 n ws = 0 → t.anc = { s.anc with queue := s.anc.queue ++ issuedWrites s.mss.nextRel ws } ∧
        t.mss.rels = s.mss.rels ++ [⟨s.mss.nextRel, some (repOf r []), some (actOf 6 r.ticket n),
          if s.enrolled then .repl ((s.ancLatest 0x0F).toNat + 1) (.tenantRemove (fnOf n)) else .tenantGone n⟩] ∧
        tblGet 0 t.keys.seqs n = tblGet 0 s.keys.seqs n + 1 ∧ t.keys.jFill = s.keys.jFill + 1) ∧
      (u.mssVerdictJ 1 n ws ≠ 0 → Replied r.path 2 r.tag (u.mssVerdictJ 1 n ws) [] s t ∧ t.mss.rels = s.mss.rels ∧
        t.anc.queue = s.anc.queue ∧ t.keys = s.keys) ∧ t.keys.ket = s.keys.ket ∧ Frame (reports [.keys, .mss, .anc, .cfg]) s t)) ∧
  (∀ (r : ActionReq) (n : Nat) (s : State), TakenUp r s → n = fld r.body 0 2 →
    ∃ t : State, exec (.ccImport r) s = .next t ∧ Judged r 7
      (if r.body.length ≠ 36 then 0x1002
        else if 1024 < n ∨ fld r.body 2 1 < 0x80 ∨ 0x84 < fld r.body 2 1 ∨ 9 < fld r.body 3 1 ∨ (fld r.body 4 1 ≠ 2 ∧ fld r.body 4 1 ≠ 3) ∨
          1 < fld r.body 5 1 ∨ zeroIn r.body 6 2 = false ∨ fld r.body 35 1 ≠ 0 then 0x1003 else 0) s.offTab (s.quorumM 7)
      (if s.actionPre 7 ≠ 0 then s.actionPre 7 else if (s.tnOf n).state ≠ 1 ∨ s.mss.cerem.isSome = true then 0x3001 else 0) s t (fun _ =>
      ∃ c : Ceremony, t.mss.cerem = some c ∧ c.id = (s.mss.ceremId + 1) % 2 ^ 32 ∧ c.tenant = n ∧ c.alg = fld r.body 2 1 ∧
        c.parts = fld r.body 4 1 ∧ c.keyId = fld r.body 8 8 ∧ c.kcv = sub r.body 32 3 ∧ c.got = [] ∧ c.nonce = sub r.ticket 24 32 ∧
        Replied r.path 2 r.tag 0 (natLe 4 ((s.mss.ceremId + 1) % 2 ^ 32)) s t ∧ Frame (reports [.mss]) s t))

/-- Derived from R592, R594, R620 to R622, R625, R421, R426, R427 and R442. DRK_BACKUP replies with the CRK's package and changes no key; TAMPER_POLICY opens the window and issues the one write; RECORDER_CLEAR begins a clear or waits while one is under way; FIRMWARE_ACTIVATE programs the inactive bank, selects it or raises the minimums,
and with a precondition that fails changes no flash; OVERLAY_SELECT writes ANC_OVERLAY; CLUSTER_ENROL founds the cluster, awaits a joiner, removes a member, begins a CRK change or originates the parameters. A body of another MODE or KIND is another command. -/
def Obligations.OtherActions : Prop :=
  (∀ (r : ActionReq) (s : State), TakenUp r s →
    ∃ t : State, exec (.drkBackup r) s = .next t ∧ Judged r 8
      (if r.body.length ≠ 100 then 0x1002 else if zeroIn r.body 97 3 = false then 0x1003 else 0) s.offTab (s.quorumM 8)
      (if s.actionPre 8 ≠ 0 then s.actionPre 8
        else if ecB384.ckBound (sub r.body 0 97) ≠ 0 then ecB384.ckBound (sub r.body 0 97) else ecB384.ckCurve (sub r.body 0 97)) s t (fun u =>
      DrawnFor r 68 s u t (fun _ w => match w.loadCrk with
        | none => Replied r.path 2 r.tag stIntegrity [] s t
        | some _ => ∃ pkg : Bytes, Replied r.path 2 r.tag 0 pkg s t ∧ sub pkg 0 8 = [0x47, 0x58, 0x44, 0x42, 1, 0, 0, 0] ∧
            sub pkg 8 8 = natLe 8 s.hiu.serial.toNat ∧ sub pkg 16 4 = natLe 4 s.crkEpoch) ∧
      t.ks = s.ks ∧ t.anc = s.anc ∧ t.keys.ket = s.keys.ket)) ∧
  (∀ (r : ActionReq) (v : Word) (s : State), TakenUp r s → v = w32 (fld r.body 0 4) →
    ∃ t : State, exec (.tamperPolicy r) s = .next t ∧ Judged r 9 (if r.body.length ≠ 4 then 0x1002 else 0) s.offTab (s.quorumM 9)
      (s.actionPre 9) s t (fun u => t.par.policyOpen = true ∧ t.mss.mayPolicy = some v ∧ t.par.policyBk = s.par.policyBk ∧
      (policyBad v = true → Replied r.path 2 r.tag 0x3001 [] s t ∧ t.anc = s.anc ∧ t.mss.rels = s.mss.rels) ∧
      (policyBad v = false → u.mssVerdict [(0x0B, [0])] = 0 →
        t.anc.queue = s.anc.queue ++ [⟨0x0B, [(v.setWidth 26).setWidth 64], 30, .policy s.parPolicy⟩] ∧
        t.mss.rels = s.mss.rels ++ [⟨s.mss.nextRel, some (repOf r []), some (actOf 9 r.ticket 0xFFFF), .policy⟩]) ∧
      (policyBad v = false → u.mssVerdict [(0x0B, [0])] ≠ 0 →
        Replied r.path 2 r.tag (u.mssVerdict [(0x0B, [0])]) [] s t ∧ t.anc.queue = s.anc.queue ∧ t.mss.rels = s.mss.rels) ∧
      Frame (reports [.mss, .par, .anc]) s t)) ∧
  (∀ (r : ActionReq) (s : State), TakenUp r s →
    ∃ t : State, exec (.recorderClear r) s = .next t ∧ Judged r 0x0A (if r.body = [] then 0 else 0x1002) s.offTab (s.quorumM 0x0A)
      (s.actionPre 0x0A) s t (fun u => ((s.evr.clearing = true ∨ s.evr.ceiling ≤ s.evr.head) → t = s) ∧
      (s.evr.clearing = false → s.evr.head < s.evr.ceiling → u.mssVerdict [(9, [0])] = 0 →
        t.evr.clearing = true ∧ t.evr.store = s.evr.store ∧ t.anc.queue.length = s.anc.queue.length + 1 ∧
        t.mss.rels = s.mss.rels ++ [⟨s.mss.nextRel, some (repOf r []), some (actOf 0x0A r.ticket 0xFFFF), .recorder⟩]) ∧
      (s.evr.clearing = false → s.evr.head < s.evr.ceiling → u.mssVerdict [(9, [0])] ≠ 0 →
        Replied r.path 2 r.tag (u.mssVerdict [(9, [0])]) [] s t ∧ t.evr.clearing = false ∧ t.mss.rels = s.mss.rels ∧ t.cfg = s.cfg))) ∧
  (∀ (r : ActionReq) (img : HostRead) (src : ImgSrc) (s : State), TakenUp r s → fld r.body 0 1 ≠ 1 → fld r.body 0 1 ≠ 2 →
    src = (fun off n => sub (match img with | .data x => x | .error _ => []) off n) →
    ∃ t : State, exec (.firmwareStageActivate r img) s = .next t ∧ Judged r 0x0B (fwLayout r.body) s.offTab (s.quorumM 0x0B)
      (s.actionPre 0x0B) s t (fun u =>
      ((u.fwPre r img).1 ≠ 0 → Replied r.path 2 r.tag (u.fwPre r img).2 [] s t ∧ t.cfg = s.cfg ∧ t.anc = s.anc) ∧
      ((u.fwPre r img).1 = 0 → ∃ b : Bytes, img = .data b ∧ t.cfg = (u.programBank b).cfg ∧
        ReleaseOrRefusal r 0x0B 0xFFFF [(0, [w64 (b2n (!s.activeBank) + 2)])] [] (.bank (!s.activeBank)
          (w32 (hdrVersion (imgHdr src ⟨1, 0⟩))) (w32 (hdrVersion (imgHdr src ⟨2, 0⟩))) (fld r.body 1 1 == 1)) (u.programBank b) t) ∧
      Frame (reports [.mss, .anc, .cfg]) s t)) ∧
  (∀ (r : ActionReq) (s : State), TakenUp r s → fld r.body 0 1 ≠ 0 → fld r.body 0 1 ≠ 2 →
    ∃ t : State, exec (.firmwareActivateInactive r) s = .next t ∧ Judged r 0x0B (fwLayout r.body) s.offTab (s.quorumM 0x0B)
      (s.actionPre 0x0B) s t (fun u =>
      ((u.fwPre r (.data [])).1 ≠ 0 → Replied r.path 2 r.tag (u.fwPre r (.data [])).2 [] s t ∧ t.anc = s.anc) ∧
      ((u.fwPre r (.data [])).1 = 0 → ReleaseOrRefusal r 0x0B 0xFFFF [(0, [w64 (b2n (!s.activeBank) + 2)])] [] (.bank (!s.activeBank)
        (w32 (hdrVersion (imgHdr (s.bankSrc (!s.activeBank)) ⟨1, 0⟩))) (w32 (hdrVersion (imgHdr (s.bankSrc (!s.activeBank)) ⟨2, 0⟩)))
        (fld r.body 1 1 == 1)) u t) ∧ Frame (reports [.mss, .anc]) s t)) ∧
  (∀ (r : ActionReq) (s : State), TakenUp r s → 2 ≤ fld r.body 0 1 →
    ∃ t : State, exec (.firmwareRaiseMinimums r) s = .next t ∧ Judged r 0x0B (fwLayout r.body) s.offTab (s.quorumM 0x0B)
      (s.actionPre 0x0B) s t (fun u =>
      ((∃ k, 1 ≤ k ∧ k ≤ 5 ∧ (fwMin r.body k < s.minver k ∨ s.runningVer k < fwMin r.body k)) →
        Replied r.path 2 r.tag 0x3001 [] s t ∧ t.anc = s.anc) ∧
      ((∀ k, 1 ≤ k → k ≤ 5 → s.minver k ≤ fwMin r.body k ∧ fwMin r.body k ≤ s.runningVer k) →
        ReleaseOrRefusal r 0x0B 0xFFFF [(2, (List.range 5).map (fun k => w64 (fwMin r.body (k + 1))))] [] .minver u t) ∧
      Frame (reports [.mss, .anc]) s t)) ∧
  (∀ (r : ActionReq) (img : HostRead) (s : State), (1 ≤ fld r.body 0 1 → fld r.body 0 1 ≤ 2 →
      exec (.firmwareStageActivate r img) s = .next s) ∧
    (fld r.body 0 1 = 0 → exec (.firmwareActivateInactive r) s = .next s) ∧
    (fld r.body 0 1 ≤ 1 → exec (.firmwareRaiseMinimums r) s = .next s)) ∧
  (∀ (r : ActionReq) (c : Nat) (run : ImgSrc) (s : State), TakenUp r s → c = fld r.body 0 1 → run = s.bankSrc s.boot.runBank →
    ∃ t : State, exec (.overlaySelect r) s = .next t ∧ Judged r 0x0C (if r.body.length ≠ 4 then 0x1002
        else if c = 2 ∨ 3 < c ∨ 1 < fld r.body 1 1 ∨ zeroIn r.body 2 2 = false then 0x1003 else 0) s.offTab (s.quorumM 0x0C)
      (if s.actionPre 0x0C ≠ 0 then s.actionPre 0x0C
        else if (firstBadH [(1, imgHdr run ⟨1, 0⟩), (4, imgHdr run ⟨4, 0⟩), (5, imgHdr (s.bankSrc s.activeBank) ⟨5, c⟩)]).isNone then 0
        else 0x3001) s t (fun u =>
      ReleaseOrRefusal r 0x0C 0xFFFF [(1, [w64 c])] [] (.overlay ((s.ancGet 1).toNat % 4) c (fld r.body 1 1 == 1)) u t ∧
        t.hiu.overlay = s.hiu.overlay ∧ Frame (reports [.mss, .anc]) s t)) ∧
  (∀ (c : Instr) (k : Nat) (r : ActionReq) (s : State), (k, c) ∈ [(0, Instr.clusterEnrolJoin r), (1, .clusterRemove r), (2, .crkChange r),
      (3, .clusterParameters r)] → fld r.body 0 1 ≠ k → fld r.body 0 1 ≤ 3 → exec c s = .next s) ∧
  (∀ (r : ActionReq) (role m pa : Nat) (sb : Bool) (s : State), TakenUp r s → (fld r.body 0 1 = 0 ∨ 3 < fld r.body 0 1) → role = fld r.body 1 1 →
    m = fld r.body 12 2 → pa = fld r.body 14 2 → sb = (fld r.body 2 1 == 1) →
    ∃ t : State, exec (.clusterEnrolJoin r) s = .next t ∧ Judged r 0x0D (enrolLayout r.body) s.offTab (s.quorumM 0x0D)
      (if s.actionPre 0x0D ≠ 0 then s.actionPre 0x0D
        else if founding s r.body then (if s.enrolled || m != 1 || pa != 0 || sb then 0x3001 else 0)
        else if !s.enrolled || !joinNumbers role m (if pa = s.member then 1 else pa) sb || (s.memberOf m).isSome || s.trs.enrol.isSome ||
          (pa != s.member && (s.memberOf pa).isNone) then 0x3001 else 0) s t (fun u =>
      (founding s r.body = true →
        ReleaseOrRefusal r 0x0D 0xFFFF [(0x0D, [memberWord 1 1 0 false]), (0x0E, [1])] [] .founded u t) ∧
      (founding s r.body = false → Replied r.path 2 r.tag 0 [] s t ∧
        t.trs = { s.trs with enrol := some ⟨w64 (fld r.body 4 8), m, role, pa, sb, false, [], [], [], []⟩ }))) ∧
  (∀ (r : ActionReq) (m : Nat) (s : State), TakenUp r s → (fld r.body 0 1 = 1 ∨ 3 < fld r.body 0 1) → m = fld r.body 12 2 →
    ∃ t : State, exec (.clusterRemove r) s = .next t ∧ Judged r 0x0D (enrolLayout r.body) s.offTab (s.quorumM 0x0D)
      (if s.actionPre 0x0D ≠ 0 then s.actionPre 0x0D
        else if s.enrolled = false ∨ s.memberOf m = none ∨ m = s.member then 0x3001 else 0) s t (fun u =>
      (u.mssVerdict [(0x0F, [0])] = 0 →
        t.mss.rels = s.mss.rels ++ [⟨s.mss.nextRel, some (repOf r []), some (actOf 0x0D r.ticket 0xFFFF),
          .repl ((s.ancLatest 0x0F).toNat + 1) (.memberRemove m)⟩] ∧
        (∀ (a : Assoc) (p : Port), s.assocOf m = some a → a.port = some p →
          .frame ⟨p, s.member, m, a.sent + 1, a.got, s.term, 0xFFFF, !a.failed p⟩ (.remove m) ∈ t.out)) ∧
      (u.mssVerdict [(0x0F, [0])] ≠ 0 → Replied r.path 2 r.tag (u.mssVerdict [(0x0F, [0])]) [] s t ∧ t.trs = s.trs))) ∧
  (∀ (r : ActionReq) (s : State), TakenUp r s → (fld r.body 0 1 = 2 ∨ 3 < fld r.body 0 1) →
    ∃ t : State, exec (.crkChange r) s = .next t ∧ Judged r 0x0D (enrolLayout r.body) s.offTab (s.quorumM 0x0D)
      (if s.actionPre 0x0D ≠ 0 then s.actionPre 0x0D else if s.enrolled = false ∨ s.trs.crk.isSome = true then 0x3001 else 0) s t (fun u =>
      DrawnFor r 32 s u t (fun b _ => t.trs.crk = some (BitVec.ofNat 32 (s.crkEpoch + 1), BitVec.ofNat 256 (beNat b), []) ∧
        Replied r.path 2 r.tag 0 [] s t ∧ t.anc = s.anc ∧ t.keys = s.keys))) ∧
  (∀ (r : ActionReq) (ms sb : Nat) (s : State), TakenUp r s → (fld r.body 0 1 = 3 ∨ 3 < fld r.body 0 1) → ms = fld r.body 16 2 → sb = fld r.body 18 2 →
    ∃ t : State, exec (.clusterParameters r) s = .next t ∧ Judged r 0x0D (enrolLayout r.body) s.offTab (s.quorumM 0x0D)
      (if s.actionPre 0x0D ≠ 0 then s.actionPre 0x0D
        else if s.enrolled = false ∨ (sb ≠ 0 ∧ ∀ x, s.memberOf sb = some x → x.role ≠ 2) then 0x3001 else 0) s t (fun u =>
      (ms ≠ 0 → sb = 0 → ReleaseOrRefusal r 0x0D 0xFFFF [(0x0F, [w64 ((s.ancLatest 0x0F).toNat + 1)])] []
        (.repl ((s.ancLatest 0x0F).toNat + 1) (.clTimeout ms)) u t) ∧
      (ms = 0 → sb ≠ 0 → ReleaseOrRefusal r 0x0D 0xFFFF [(0x0F, [w64 ((s.ancLatest 0x0F).toNat + 1)])] []
        (.repl ((s.ancLatest 0x0F).toNat + 1) (.standby sb)) u t) ∧
      (ms ≠ 0 → sb ≠ 0 → u.mssVerdict [(0x0F, [0]), (0x0F, [0])] = 0 → ∃ l, t.mss.rels = s.mss.rels ++
        ⟨s.mss.nextRel, none, none, .repl ((s.ancLatest 0x0F).toNat + 1) (.clTimeout ms)⟩ :: l) ∧ t.trs.timeout = s.trs.timeout ∧
      Frame (reports [.mss, .anc]) s t))

/-- Derived from R615, R617, R650, R265, R515, R521, R554 and R562. The oldest issued write becomes persistent: its words hold its values, each with one more wear (a group also wears the shadow), no other word changes and its cost leaves O. Then its owner acts: the policy copy follows, the recorder is cleared, a key
change is applied and its completion written, an MSS release replies and takes effect; under an ERASE no release does. Derived from R629, R603 and R632: a worn mark needs GO and a word up to 8,192; a flash command is ignored while BUSY, refused where R603 or R632 forbids it, else started; when it ends BUSY clears and the
memory, the flash and the digest are as the operation says; a failed verify leaves free values (the model's choice, log 9) and ERROR. -/
def Obligations.AnchorsAndFlash : Prop :=
  (∀ s : State, s.anc.queue = [] → exec .anchorWriteComplete s = .next s) ∧
  (∀ (w c : Nat) (vals : List DWord) (e : Eff) (rest : List AncWrite) (s : State), s.anc.queue = ⟨w, vals, c, e⟩ :: rest →
    (e = .none ∨ e = .ceiling ∨ (e.ofRelease = true ∧ s.par.response = 3)) → s.trs.replHeld = [] → w + vals.length ≤ 8192 →
    tblWf 0 s.anc.words → tblWf false s.anc.lost →
    ∃ t : State, exec .anchorWriteComplete s = .next t ∧ t.anc.queue = rest ∧
      (∀ i, i < vals.length → t.ancGet (w + i) = vals.getD i 0 ∧ tblGet 0 t.anc.wear (w + i) = tblGet 0 s.anc.wear (w + i) + 1) ∧
      (∀ k, (k < w ∨ w + vals.length ≤ k) → t.ancGet k = s.ancGet k) ∧
      tblGet 0 t.anc.wear 8192 = tblGet 0 s.anc.wear 8192 + (if 1 < vals.length then 1 else 0) ∧
      t.anc.cntWrite = s.anc.cntWrite + BitVec.ofNat 64 vals.length ∧ t.pwr = { s.pwr with outstanding := s.pwr.outstanding - c } ∧
      Frame [.anc, .pwr] s t) ∧
  (∀ (v : DWord) (old : Word) (c : Nat) (rest : List AncWrite) (s : State), s.anc.queue = ⟨0x0B, [v], c, .policy old⟩ :: rest →
    s.mss.rels = [] → s.trs.replHeld = [] → tblWf 0 s.anc.words → tblWf false s.anc.lost →
    ∃ t : State, exec .anchorWriteComplete s = .next t ∧ t.ancGet 0x0B = v ∧ t.par = { s.par with policyBk := v.setWidth 26 } ∧
      t.mss.rels = [] ∧ Frame (reports [.par, .anc]) s t) ∧
  (∀ (v : DWord) (c : Nat) (r : Rec) (rest : List AncWrite) (s : State), s.anc.queue = ⟨9, [v], c, .evrClear⟩ :: rest →
    s.mss.rels = [] → s.trs.replHeld = [] → s.evr.clearRec = some r →
    ∃ t : State, exec .anchorWriteComplete s = .next t ∧ t.evr.store = [(0, some r)] ∧ t.evr.keptBase = r.seq ∧
      t.evr.head = s.evr.head + 1 ∧ t.evr.clearing = false ∧ t.evr.clearRec = none ∧ t.evr.keptPending = [] ∧
      t.evr.evt.getLsbD 3 = true ∧ t.mss = { s.mss with mayClearEvr := none } ∧ Frame (reports [.anc, .cfg, .mss]) s t) ∧
  (∀ (n q d c : Nat) (v : DWord) (x : Taken) (e : Entry) (k : JKind) (kid : BitVec 64) (w : DWord) (rest : List AncWrite)
    (s : State), s.anc.queue = ⟨0x400 + n, [v], c, .keySeq n q⟩ :: rest → s.par.response ≠ 3 → s.trs.replHeld = [] →
    s.keys.taken = [x] → x.tenant = n → x.seq ≤ q → x.owner = .deck d → s.entOf d = some e → e.st = .releasing → e.relStatus = 0 →
    e.post.intents = [.journal k n kid w, .keyState n kid w] → tblWf 0 s.keys.ket →
    ∃ (t : State) (e' : Entry), exec .anchorWriteComplete s = .next t ∧ t.keyWord n kid.toNat = w ∧ t.keys.taken = [] ∧
      t.entOf d = some e' ∧ e'.waiting = false ∧ e'.st = .releasing ∧
      (s.fenced e.fn = false → s.hiu.linkUp = true → .hostWrite e.fn ((s.qpOf e.fn e.q).cqBase.toNat +
        64 * ((s.qpOf e.fn e.q).cqTail.toNat % 2 ^ (s.qpOf e.fn e.q).cqLog))
        (completion e 0 e.post.result (s.qpOf e.fn e.q) e.relAt) false false ∈ t.out) ∧
      Frame [.hiu, .deck, .keys, .pay, .anc, .pwr, .irq, .out] s t) ∧
  (∀ (id w c : Nat) (vals : List DWord) (p : Path) (tag : Word) (typ : Nat) (body : Bytes) (rest : List AncWrite) (s : State),
    s.anc.queue = ⟨w, vals, c, .mss id⟩ :: rest → s.par.response ≠ 3 → s.trs.replHeld = [] → s.pwr.quiesce = false →
    s.mss.rels = [⟨id, some (p, tag, typ, body), none, .none⟩] →
    ∃ t : State, exec .anchorWriteComplete s = .next t ∧ t.anc.queue = rest ∧ t.mss.rels = [] ∧ Replied p typ tag 0 body s t ∧
      Frame [.hiu, .mss, .anc, .pwr, .irq, .out] s t) ∧
  (∀ (id w c n : Nat) (vals : List DWord) (b : BitVec 2) (rest : List AncWrite) (s : State),
    s.anc.queue = ⟨w, vals, c, .mss id⟩ :: rest → s.par.response ≠ 3 → s.trs.replHeld = [] → s.pwr.quiesce = false →
    s.mss.rels = [⟨id, none, none, .tenantSet n b⟩] → tblWf {} s.hiu.tn →
    ∃ t : State, exec .anchorWriteComplete s = .next t ∧ t.mss.rels = [] ∧ (t.tnOf n).state = b ∧
      (b = 0 → (s.tnOf n).state ≠ 0 → s.deck.ent = [] → (t.tnOf n).gen = (s.tnOf n).gen + 1) ∧
      Frame [.hiu, .dsp, .deck, .keys, .pay, .trs, .mss, .anc, .pwr, .out] s t) ∧
  (∀ (v : Word) (s : State), v.getLsbD 31 = true → (v.setWidth 14 : BitVec 14).toNat ≤ 8192 →
    exec (.ancMarkWorn v) s = .next { s with anc.worn := tblSet false (v.setWidth 14 : BitVec 14).toNat true s.anc.worn }) ∧
  (∀ (v : Word) (s : State), (v.getLsbD 31 = false ∨ 8192 < (v.setWidth 14 : BitVec 14).toNat) → exec (.ancMarkWorn v) s = .next s) ∧
  (∀ (op : CfgOp) (s v : State), v =
      (if s.cfg.cmd.isSome = true then s
      else if 0x4000000 < s.cfg.flashAddr.toNat + s.cfg.len.toNat ∨
          (0 < s.cfg.len.toNat ∧ flashRegion s.cfg.flashAddr.toNat ≠ flashRegion (s.cfg.flashAddr.toNat + s.cfg.len.toNat - 1)) ∨
          ((op = .program ∨ op = .erase) ∧ flashRegion s.cfg.flashAddr.toNat = (if s.activeBank then 1 else 0)) ∨
          (op = .erase ∧ ¬ (0x10000 ∣ s.cfg.flashAddr.toNat ∧ 0x10000 ∣ s.cfg.len.toNat)) then
        { s with cfg.refused := true }
      else { s with
        cfg.refused := false
        cfg.cmd := some (op, s.cfg.flashAddr.toNat, s.cfg.len.toNat, s.cfg.memAddr.toNat) }) →
    (op = .read → exec .cfgRead s = .next v) ∧ (op = .program → exec .cfgProgram s = .next v) ∧
      (op = .erase → exec .cfgErase s = .next v) ∧ (op = .hash → exec .cfgHash s = .next v)) ∧
  (∀ (ok : Bool) (s : State), s.cfg.cmd = none → exec (.cfgCmdDone ok) s = .next s) ∧
  (∀ (ok : Bool) (op : CfgOp) (a n m : Nat) (s : State), s.cfg.cmd = some (op, a, n, m) → a + n ≤ 0x4000000 →
    ∃ t : State, exec (.cfgCmdDone ok) s = .next t ∧ t.cfg.cmd = none ∧ t.cfg.refused = s.cfg.refused ∧
      t.cfg.error = (!ok && (op == .program || op == .erase)) ∧
      (∀ k, (k < a ∨ a + n ≤ k) → byteAt 0xFF t.cfg.flash k = byteAt 0xFF s.cfg.flash k) ∧
      ((op = .read ∨ op = .hash) → t.cfg.flash = s.cfg.flash ∧ t.cfg.digest = BitVec.ofNat 384 (leNat (sha384B (s.flashRead a n)))) ∧
      (op = .read → t.mem = (s.writeMem m (s.flashRead a n)).mem) ∧ (op ≠ .read → t.mem = s.mem ∧ t.mi = s.mi) ∧
      (op = .program → t.cfg.digest = BitVec.ofNat 384 (leNat (sha384B (s.readMem m n)))) ∧
      (op = .program → ok = true → t.cfg.flash = setBytes 0xFF s.cfg.flash a (s.readMem m n)) ∧
      (op = .erase → ok = true → t.cfg.flash = clearBytes s.cfg.flash a n ∧ t.cfg.cntErase = s.cfg.cntErase + w64 (n / 0x10000)) ∧
      (op = .erase → t.cfg.digest = s.cfg.digest) ∧
      (ok = false → (op = .program ∨ op = .erase) → t.free = s.free + n) ∧ Frame [.cfg, .mi, .mem, .free, .irq, .pwr] s t)

/-- Derived from R634 to R638 and R642 to R645. WAIT halts the core, and begins an entry unless PWR_MODE is 0; the idle time begins the entry of the deepest state whose conditions hold. Each step has its effect; the abort point after it ends the entry, undoing it, when a wake is latched (or, after step 1, a condition no longer
holds). Step 5 records 0x0501; DORMANT loses sessions, tier one, the pool, the rule table and the links and keeps the rest. Derived from R638 to R641: an enabled source is latched and wakes the module from DROWSE or DORMANT, TRESTLE not from DORMANT; a source that cannot be masked always does. The wake ends in RUN, with the rule
table loaded and the saved HIU state restored. A pad group is released only in RUN. -/
def Obligations.PowerStates : Prop :=
  (∀ s : State, s.coreRuns = true → exec .wait s = .next (if s.pwr.mode = 0 then
      { s with pwr.halted := true, pwr.aborted := false, pwr.forced := false }
    else { s with
      pwr.halted := true, pwr.aborted := false, pwr.forced := false, pwr.entry := some (s.pwr.mode, 0)
      pwr.saved := if s.pwr.mode = 2 then some s.savedNow else s.pwr.saved })) ∧
  (∀ s : State, s.coreRuns = false → exec .wait s = .next s ∧ exec .drowseIdleExpiry s = .next s) ∧
  (∀ (s : State) (quiet deep : Prop), s.coreRuns = true →
    quiet = ((s.pwr.policy.setWidth 16 : BitVec 16) ≠ 0 ∧ s.held = [] ∧ s.anc.queue = [] ∧ s.keys.taken = [] ∧ s.mss.rels = [] ∧
      s.tg.holding = false ∧ s.eng.ucBusy = false) →
    deep = (s.pwr.policy.getLsbD 16 = true ∧ (s.hiu.l12 = true ∨ s.hiu.d3hot = true) ∧ s.mi.testEn = false ∧ s.rng.rawEn = false) →
    ∃ t : State, exec .drowseIdleExpiry s = .next t ∧ Frame [.pwr] s t ∧
      (quiet → deep → t.pwr.entry = some (2, 0) ∧ t.pwr.saved = some s.savedNow ∧ t.pwr.halted = true) ∧
      (quiet → ¬ deep → t.pwr.entry = some (1, 0) ∧ t.pwr.halted = true) ∧ (¬ quiet → t = s)) ∧
  (∀ s : State, s.pwr.entry = none → exec .entryStepEnd s = .next s) ∧
  (∀ (m : BitVec 2) (k : Nat) (s : State), s.pwr.entry = some (m, k) → k < 4 → s.pwr.wakePend = 0 → s.pwr.forced = false →
    (k = 0 → s.stateOk m = true) →
    ∃ t : State, exec .entryStepEnd s = .next t ∧ t.pwr.entry = some (m, k + 1) ∧
      (k = 1 → t.hiu = { s.hiu with noFetch := true } ∧ t.dsp = { s.dsp with noGrant := true }) ∧ (k ≠ 1 → t.hiu = s.hiu ∧ t.dsp = s.dsp) ∧
      (k = 2 → t.clk.pllA.locked = false ∧ t.clk.pllB.locked = false ∧ t.clk.pllA.on = false ∧ t.clk.pllB.on = false ∧
        t.clk.mssLocked = false) ∧ (k ≠ 2 → t.clk = s.clk) ∧
      (k = 3 → m = 2 → t.pwr.pads = 7 ∧ t.pwr.padLed = s.led01) ∧ ((k ≠ 3 ∨ m ≠ 2) → t.pwr.pads = s.pwr.pads) ∧
      Frame [.clk, .hiu, .dsp, .pwr] s t) ∧
  (∀ (m : BitVec 2) (k : Nat) (s : State), s.pwr.entry = some (m, k) → k < 4 → s.pwr.entryPads = 0 → s.pwr.quiesce = false →
    s.boot.request = none → (s.pwr.wakePend ≠ 0 ∨ s.pwr.forced = true ∨ (k = 0 ∧ s.stateOk m = false)) →
    ∃ t : State, exec .entryStepEnd s = .next t ∧ t.pwr.entry = none ∧ t.pwr.halted = false ∧ t.pwr.aborted = true ∧
      t.pwr.lastAbort = BitVec.ofNat 2 k ∧ t.pwr.pads = s.pwr.pads ∧ t.pwr.state = s.pwr.state ∧ t.hiu.noFetch = false ∧
      t.dsp.noGrant = false ∧ (k < 2 → t.clk = s.clk) ∧
      (2 ≤ k → t.clk.pllA.on = true ∧ t.clk.pllB.on = true ∧ t.clk.pllA.locked = !s.clk.pllA.quarantined ∧
        t.clk.pllB.locked = !s.clk.pllB.quarantined ∧ t.clk.mssLocked = true) ∧
      Recorded ⟨1145, 0x0507, w32 m.toNat, w32 k, w32 s.pwr.wakePend.toNat, 0⟩ s t ∧ Frame (reports [.clk, .dsp]) s t) ∧
  (∀ (m : BitVec 2) (s : State), s.pwr.entry = some (m, 4) → s.pwr.state = 0 → s.pwr.waking = none → m ≠ 0 →
    ∃ t : State, exec .entryStepEnd s = .next t ∧ t.pwr.entry = none ∧ t.pwr.state = m ∧
      ((s.pwr.wakePend = 0 ∧ s.pwr.forced = false) → t.pwr.waking = none ∧ t.rng = s.rng) ∧
      ((s.pwr.wakePend ≠ 0 ∨ s.pwr.forced = true) →
        t.pwr.waking = some (m, s.pwr.wakePend.setWidth 32, s.now) ∧ t.pwr.halted = false) ∧
      Recorded ⟨1145, 0x0501, 0, w32 m.toNat, 0, 0⟩ s t ∧
      (m = 1 → Frame (reports [.rng]) s t) ∧
      (m = 2 → t.keys.t1 = [] ∧ t.keys.t2 = s.keys.t2 ∧ t.keys.ket = s.keys.ket ∧ t.pay.sess = [] ∧ t.hiu.dpUp = false ∧ t.hiu.qp = [] ∧
        t.tg.rules = [] ∧ t.tg.en = false ∧ t.trs.linkA = false ∧ t.trs.linkB = false ∧
        (s.enrolled = true → s.role ≠ 1 → t.trs.lostAt = some s.now ∧ t.trs.cstate = 4) ∧
        (∀ a, 0x45000000 ≤ a → byteAt 0 t.mem a = byteAt 0 s.mem a) ∧ (∀ a, a < 0x40000000 → byteAt 0 t.mem a = byteAt 0 s.mem a) ∧
        Frame (reports [.dsp, .deck, .keys, .pay, .eng, .rng, .trs, .tg, .mi, .mem]) s t)) ∧
  (∀ (w : WakeSrc) (b : BitVec 5) (s : State), s.boot.booting = false → s.backupOnly = false → s.pwr.quiesceStep ≠ 7 →
    wakeBit w = some b → s.pwr.wakeEn &&& b ≠ 0 → (w = .trestle → s.pwr.state ≠ 2) →
    ∃ t : State, exec (.wakeEvent w) s = .next t ∧ t.pwr.wakePend = s.pwr.wakePend ||| b ∧
      t.hiu = { s.hiu with l12 := s.hiu.l12 && w != .host } ∧ t.pwr.state = s.pwr.state ∧
      (s.pwr.state ≠ 0 → s.pwr.waking = none → t.pwr.waking = some (s.pwr.state, (s.pwr.wakePend ||| b).setWidth 32, s.now) ∧
        t.pwr.halted = false ∧ (s.pwr.state = 2 → s.rng.condFault = false → t.rng.st = 0)) ∧
      (s.pwr.state = 0 → t.pwr.waking = s.pwr.waking ∧ t.rng = s.rng) ∧ Frame [.hiu, .rng, .pwr] s t) ∧
  (∀ (w : WakeSrc) (b : BitVec 5) (s : State), wakeBit w = some b → (s.pwr.wakeEn &&& b = 0 ∨ (w = .trestle ∧ s.pwr.state = 2)) →
    ∃ t : State, exec (.wakeEvent w) s = .next t ∧ Frame [.hiu] s t) ∧
  (∀ (w : WakeSrc) (s : State), wakeBit w = none → s.boot.booting = false → s.backupOnly = false → s.pwr.quiesceStep ≠ 7 →
    ∃ t : State, exec (.wakeEvent w) s = .next t ∧ t.pwr.wakePend = s.pwr.wakePend ∧
      (s.pwr.entry.isSome = true → t = { s with pwr.forced := true }) ∧
      (s.pwr.entry = none → s.pwr.state ≠ 0 → s.pwr.waking = none →
        t.pwr.waking = some (s.pwr.state, s.pwr.wakePend.setWidth 32, s.now)) ∧ Frame [.rng, .pwr] s t) ∧
  (∀ s : State, s.boot.booting = false → s.backupOnly = false → s.now ≤ s.pwr.wakeTimer.toNat →
    ∃ t : State, exec .wakeTimer s = .next t ∧ t.now = s.pwr.wakeTimer.toNat ∧
      (s.pwr.wakeEn.getLsbD 3 = true → t.pwr.wakePend = s.pwr.wakePend ||| 8) ∧ (s.pwr.wakeEn.getLsbD 3 = false → t.pwr = s.pwr) ∧
      Frame [.rng, .pwr, .time] s t) ∧
  (∀ s : State, s.pwr.wakeTimer.toNat < s.now → exec .wakeTimer s = .next s) ∧
  (∀ (p : PllName) (bits : Word) (t0 : Nat) (s : State), s.pwr.waking = some (1, bits, t0) → (s.pll p).quarantined = false →
    ∃ t : State, exec (.drowseWakeDone p) s = .next t ∧ t.pwr.state = 0 ∧ t.pwr.waking = none ∧ t.clk.active = p ∧
      t.clk.mssLocked = true ∧ (t.pll p).on = true ∧ (t.pll p).locked = true ∧
      t.hiu.noFetch = (s.pwr.quiesce || s.boot.request.isSome) ∧ (∀ i, (tblGet {} t.rng.src i).run = (0, 0)) ∧
      Recorded ⟨1145, 0x0501, 1, 0, w32 bits.toNat, w32 (s.now - t0)⟩ s t ∧ Frame (reports [.clk, .dsp, .eng, .rng]) s t) ∧
  (∀ (p : PllName) (s : State), ((∀ bits t0, s.pwr.waking ≠ some (1, bits, t0)) ∨ (s.pll p).quarantined = true) →
    exec (.drowseWakeDone p) s = .next s) ∧
  (∀ (bits : Word) (t0 : Nat) (v : Saved) (s : State), s.pwr.waking = some (2, bits, t0) → s.tg.held = [] → s.pwr.saved = some v →
    ∃ t : State, exec .dormantWakeDone s = .next t ∧ t.pwr.state = 0 ∧ t.pwr.waking = none ∧ t.pwr.saved = none ∧
      t.clk.mssLocked = true ∧ t.tg.rules = s.cfgRules ∧ t.tg.en = true ∧ t.hiu.qp = v.hiu.qp ∧ t.hiu.tn = v.hiu.tn ∧
      t.hiu.dpUp = s.dpAllowed ∧ t.hiu.l12 = false ∧ t.dsp.ctrl = v.dspCtrl ∧ t.pay.inc = v.incarnations ∧
      t.trs.linkA = s.boot.enItem.getLsbD 1 ∧ t.trs.linkB = s.boot.enItem.getLsbD 1 ∧
      (s.enrolled = true → s.role ≠ 1 → t.trs.cstate = 2) ∧
      Frame (reports [.clk, .dsp, .keys, .pay, .eng, .trs, .tg]) s t) ∧
  (∀ s : State, (∀ bits t0, s.pwr.waking ≠ some (2, bits, t0)) → exec .dormantWakeDone s = .next s) ∧
  (∀ (g : BitVec 3) (s : State), exec (.padRelease g) s = .next (
    if s.pwr.state = 0 ∧ s.pwr.entry = none ∧ s.pwr.quiesceStep ≠ 7 ∧ s.backupOnly = false then
      { s with pwr.pads := s.pwr.pads &&& ~~~g }
    else s))

/-- Derived from R654 to R656. An envelope written is clamped to 20 to 60 W; a change in RUN allocates, and the units powered stay within it; the last unit to park sets ENVELOPE_MET. Derived from R652 and R653. Loss of main power takes the data plane down, HIU_ID_STATE to 4, and ends every item whose release has not begun
with DEVICE_QUIESCING; a release that has begun goes on; once nothing is left the 12 V domains are off. Derived from R646, R689 to R692, R698 and R710. The charge follows the measurement; a store at its cut-off, or a supply lost without a store, leaves the module OFF with its keystone, anchors and flash, and of an anchor write under way
either nothing or its commit mark, or a single word's value, remains (R616; which of them is a free value, log 58); a trip of the switch is a
loss of main power; loss of the backup supply loses the Keystone. -/
def Obligations.EnvelopeAndMainPower : Prop :=
  (∀ (v : Word) (s : State), (s.boot.booting = true ∨ s.pwr.quiesceStep = 7 ∨ s.backupOnly = true) →
    exec (.envelopeWrite v) s = .next s) ∧
  (∀ (v : Word) (e : Nat) (s : State), s.boot.booting = false → s.pwr.quiesceStep ≠ 7 → s.backupOnly = false →
    e = max 20 (min 60 (v.toNat % 64)) →
    ∃ t : State, exec (.envelopeWrite v) s = .next t ∧ t.pwr.envelope = e ∧
      ((e = s.pwr.envelope ∨ s.pwr.state ≠ 0) → t = { s with pwr.envelope := e }) ∧
      (e ≠ s.pwr.envelope → s.pwr.state = 0 → ∃ (g c p h used : Nat),
        used = 220 + 60 * (if s.boot.enItem.getLsbD 1 then 1 else 0) + 35 * g + 26 * c + 40 * p + 8 * h ∧ used ≤ 20 * e ∧
        g ≤ s.openGroups.length ∧ c ≤ (s.openBays 0 4).length ∧ p ≤ (s.openBays 6 6).length ∧ h ≤ (s.openBays 4 2).length ∧
        (g = 0 ↔ s.openGroups = []) ∧ t.pwr.alloc = w32 (g + 32 * c + 256 * h + 1024 * p + 65536 * (used / 5)) ∧
        Recorded ⟨1145, 0x0504, w32 e, t.pwr.alloc, 0, 0⟩ s t ∧ Frame (reports [.clk, .dsp, .eng]) s t)) ∧
  (∀ s : State, s.pwr.parking = false → ∃ t : State, exec .envelopeMet s = .next t ∧ Frame [.clk] s t) ∧
  (∀ s : State, s.pwr.parking = true → (∀ b, b < 12 → s.parkMarked b = true → s.bayOf b = .parked) → s.dsp.parkNext = [] →
    ∃ t : State, exec .envelopeMet s = .next t ∧ t.pwr.parking = false ∧ t.pwr.evt = s.pwr.evt ||| 1 ∧
      Frame [.clk, .hiu, .pwr, .irq, .out] s t) ∧
  (∀ s : State, (s.pwr.mainOk = false ∨ s.pwr.quiesce = true) → exec .mainPowerLoss s = .next { s with pwr.mainOk := false }) ∧
  (∀ s : State, s.pwr.mainOk = true → s.pwr.quiesce = false → s.pwr.entry = none → s.pwr.state = 0 → s.tg.en = true →
    (∀ d e, s.entOf d = some e → e.confirm = none) → tblWf none s.deck.ent →
    ∃ t : State, exec .mainPowerLoss s = .next t ∧ t.pwr.mainOk = false ∧ t.pwr.quiesce = true ∧ t.pwr.quiesceStep = 5 ∧
      t.hiu.idState = 4 ∧ t.hiu.dpUp = false ∧ t.hiu.noFetch = true ∧ t.dsp.noGrant = true ∧ t.boot.request = none ∧
      t.pwr.evt.getLsbD 1 = true ∧
      (∀ (d : Nat) (e : Entry), s.entOf d = some e → e.st = .releasing → t.entOf d = some e) ∧
      (∀ (d : Nat) (e : Entry), s.entOf d = some e → (e.st = .reserved ∨ e.st = .orphan) → t.entOf d = none) ∧
      (∀ (d : Nat) (e : Entry), s.entOf d = some e → e.st ≠ .releasing → e.st ≠ .reserved → e.st ≠ .orphan →
        ∃ e' : Entry, t.entOf d = some e' ∧ e'.st = .done ∧ e'.post = ⟨0x5001, [], [], []⟩ ∧ e'.pier = none) ∧
      Frame [.hiu, .dsp, .deck, .keys, .eng, .mss, .anc, .pwr, .boot, .irq, .out] s t) ∧
  (∀ s : State, (s.pwr.quiesce = false ∨ s.pwr.quiesceStep ≠ 5 ∨ s.anc.queue ≠ [] ∨ s.keys.taken ≠ [] ∨ s.evr.keptPending ≠ []) →
    exec .quiesceDone s = .next s) ∧
  (∀ s : State, s.pwr.quiesce = true → s.pwr.quiesceStep = 5 → s.anc.queue = [] → s.keys.taken = [] → s.evr.keptPending = [] →
    (∀ x ∈ s.entries, x.2.st ≠ .releasing) →
    ∃ t : State, exec .quiesceDone s = .next t ∧ t.pwr.quiesceStep = 7 ∧ t.hiu.linkUp = false ∧ t.trs.linkA = false ∧
      t.trs.linkB = false ∧ t.hw = { s.hw with softStart := false, charger := false, onStore := !s.hw.aux } ∧
      Recorded ⟨1145, 0x0502, w32 s.pwr.quiesced, w32 s.pwr.heldUp, w32 (s.pwr.charge / 1000), if s.hw.aux then 1 else 0⟩ s t ∧
      Frame (reports [.trs, .hw]) s t) ∧
  (∀ (m : Nat) (s : State), s.backupOnly = true → exec (.chargeUpdate m) s = .next s) ∧
  (∀ (m : Nat) (s : State), s.backupOnly = false → (m ≠ 0 ∨ s.hw.onStore = false) →
    exec (.chargeUpdate m) s = .next { s with pwr.charge := m - s.pwr.full * 2 / 100 }) ∧
  (∀ (s : State) (c : Instr), ((c = .chargeUpdate 0 ∧ s.hw.onStore = true) ∨
      (c = .auxPowerLoss ∧ s.hw.aux = true ∧ s.pwr.mainOk = false ∧ (s.pwr.quiesce = false ∨ s.pwr.charge = 0))) →
    ∃ t : State, exec c s = .next t ∧ t.hw = { s.hw with aux := false, onStore := false, softStart := false, charger := false } ∧
      t.ks = { s.ks with checkOk := false } ∧ t.anc.queue = [] ∧
      (s.anc.queue = [] → t.anc.words = s.anc.words ∧ t.anc.wear = s.anc.wear ∧ t.anc.shadow = s.anc.shadow) ∧
      (∀ (a : AncWrite) (l : List AncWrite), s.anc.queue = a :: l → (t.anc.words = s.anc.words ∧ t.anc.shadow = s.anc.shadow) ∨
        (if 1 < a.vals.length then t.anc.words = s.anc.words ∧ t.anc.shadow = some (a.word, a.vals)
          else t.anc.words = (ancPut s.anc a.word a.vals).words ∧ t.anc.shadow = s.anc.shadow)) ∧ t.cfg.flash = s.cfg.flash ∧
      t.par.blog = s.par.blog ∧ t.par.policyBk = s.par.policyBk ∧ t.par.latch = s.par.latch ∧ t.hiu.dpUp = false ∧ t.mem = [] ∧
      t.keys.t1 = [] ∧ t.pay.sess = [] ∧ t.deck.ent = [] ∧ t.boot.booting = true ∧ Frame [.clk, .hiu, .dsp, .deck, .keys, .pay, .eng, .rng,
        .trs, .mss, .tg, .mi, .par, .ks, .evr, .anc, .cfg, .pwr, .boot, .hw, .mem, .irq, .free] s t) ∧
  (∀ s : State, s.hw.aux = false → exec .auxPowerLoss s = .next s) ∧
  (∀ s : State, s.hw.aux = true → (s.pwr.mainOk = true ∨ (s.pwr.quiesce = true ∧ s.pwr.charge ≠ 0)) →
    ∃ t : State, exec .auxPowerLoss s = .next t ∧
      exec .mainPowerLoss { s with hw := { s.hw with aux := false, onStore := true, softStart := false, charger := false } } = .next t ∧
      t.hw = { s.hw with aux := false, onStore := true, softStart := false, charger := false } ∧ t.pwr.mainOk = false ∧
      t.pwr.quiesce = true) ∧
  (∀ s : State, exec .auxPowerReturn s = .next { s with hw := { s.hw with aux := true, onStore := false, vbk := true } }) ∧
  (∀ s : State, s.hw.softStart = true →
    ∃ t : State, exec .softStartTrip s = .next t ∧ exec .reverseCurrentTrip s = .next t ∧
      exec .mainPowerLoss { s with hw := { s.hw with softStart := false, charger := false } } = .next t ∧ t.hw.softStart = false ∧
      t.hw.charger = false ∧ t.pwr.mainOk = false) ∧
  (∀ s : State, s.hw.softStart = false → exec .softStartTrip s = .next s ∧ exec .reverseCurrentTrip s = .next s) ∧
  (∀ s : State, exec .softStartClose s = .next (if s.hw.aux = true then
    { s with hw := { s.hw with softStart := true, charger := true } } else s)) ∧
  (∀ s : State, exec .backupSupplyLoss s = .next (if s.backupOnly = true then
    { s with ks := {}, par := {}, backupUs := 0, hw := { s.hw with vbk := false } } else s))

/-- Derived from R663, R664, R671, R672 and R675. A power-on, a module reset and the return of main power begin a boot: the volatile state is lost, and the anchors, the Keystone and its check remain; a group whose commit mark is set is put in its place and recorded (R616); device time is taken from the backup counter (R529); a power-on resumes the record count at ANC_EVR_SEQ, a
module reset keeps the record store (R545). The key state words are rebuilt from the journal (R266, R267). Otherwise each changes nothing. Derived from R259, R266, R610, R666 and R669. Once its conditions hold the boot completes: IV_EPOCH is raised, the rules are loaded, and HIU_ID_STATE and DP_UP follow. A quarantine 24 hours old
leaves its count (R325). -/
def Obligations.BootAndReset : Prop :=
  (∀ (o : BootObs) (s : State), (s.boot.booting = false ∨ s.pwr.mainOk = true ∨ s.pwr.quiesce = true ∨ s.hw.aux = false ∨
    s.hw.softStart = false) → exec (.powerOn o) s = .next s) ∧
  (∀ (o : BootObs) (s : State), (s.boot.request = none ∨ s.pwr.quiesce = true) → exec (.moduleReset o) s = .next s) ∧
  (∀ (o : BootObs) (s : State), (s.pwr.quiesce = false ∨ s.pwr.quiesceStep ≠ 7 ∨ s.hw.aux = false) →
    exec (.mainPowerReturn o) s = .next s) ∧
  (∀ (o : BootObs) (c : Instr) (k : BitVec 4) (s : State),
    ((c = .powerOn o ∧ k = 0 ∧ s.boot.booting = true ∧ s.pwr.mainOk = false ∧ s.pwr.quiesce = false ∧ s.hw.aux = true ∧
        s.hw.softStart = true) ∨
      (c = .moduleReset o ∧ s.boot.request = some k ∧ s.pwr.quiesce = false ∧ s.anc.queue = []) ∨
      (c = .mainPowerReturn o ∧ k = 5 ∧ s.pwr.quiesce = true ∧ s.pwr.quiesceStep = 7 ∧ s.hw.aux = true)) →
    ∃ t : State, exec c s = .next t ∧ t.now = s.deviceTime ∧ t.backupUs = s.backupUs ∧ t.boot.cause = k ∧
      t.boot.booting = (!t.boot.romHalt) ∧ t.boot.request = none ∧ t.ks = { s.ks with checkOk := t.ks.checkOk } ∧
      (t.ks.checkOk = true → s.ks.loaded = true ∧ s.ks.integrity = drkWord (natBe 32 s.ks.drk.toNat)) ∧
      (t.boot.romHalt = false → s.ks.loaded = true → s.ks.integrity = drkWord (natBe 32 s.ks.drk.toNat) → t.ks.checkOk = true) ∧
      (s.anc.shadow = none → t.anc.words = s.anc.words ∧ t.anc.wear = s.anc.wear) ∧ t.anc.shadow = none ∧
      (∀ (w : Nat) (vs : List DWord), s.anc.shadow = some (w, vs) → t.anc.words = (ancPut s.anc w vs).words ∧
        (c = .powerOn o → ⟨1146, 0x0A09, w32 w, w32 vs.length, 0, 0⟩ ∈ t.evr.queue)) ∧ t.anc.queue = [] ∧ t.mem = [] ∧ t.keys.t1 = [] ∧ t.keys.t2 = [] ∧
      t.pay.sess = [] ∧ t.deck.ent = [] ∧ t.eng.eng = [] ∧ t.tg.rules = [] ∧ t.tg.en = false ∧ t.rng = {} ∧ t.hiu.dpUp = false ∧
      t.hiu.linkUp = (!s.hw.perst) ∧ t.hiu.serial = s.hiu.serial ∧ t.pwr.mainOk = true ∧ t.pwr.quiesce = false ∧
      t.pwr.full = o.fullCharge ∧ t.pwr.outstanding = 0 ∧ t.par.cond = o.cond ∧ (t.boot.romHalt = true → t.hiu.idState = 5) ∧
      t.hw = { s.hw with softStart := true, charger := true } ∧
      (k ≠ 0 → t.evr.store = s.evr.store ∧ t.evr.head = s.evr.head ∧ t.pwr.charge = s.pwr.charge) ∧
      (∀ a, a < 0x2000000 → byteAt 0xFF t.cfg.flash a = byteAt 0xFF s.cfg.flash a) ∧ t.free = s.free ∧ t.pending = s.pending) ∧
  (∀ (o : BootObs) (x : JRec) (s : State), s.boot.booting = true → s.pwr.mainOk = false → s.pwr.quiesce = false →
    s.hw.aux = true → s.hw.softStart = true → s.anc.lost = [] → s.anc.shadow = none → o.ancLost = [] →
    jRecOf (s.flashRead (jAddr false 0) 32) = some x → s.flashRead (jAddr false 0) 32 ≠ List.replicate 32 0xFF →
    s.flashRead (jAddr false 1) 32 = List.replicate 32 0xFF → s.flashRead (jAddr true 0) 32 = List.replicate 32 0xFF →
    1 ≤ x.kind → x.kind ≤ 4 → x.tenant ≤ 1024 → x.seq ≤ (s.ancGet (0x400 + x.tenant)).toNat % 2 ^ 32 →
    ∃ t : State, exec (.powerOn o) s = .next t ∧ t.evr.head = (s.ancGet 8).toNat ∧ t.evr.ceiling = (s.ancGet 8).toNat ∧
      (t.boot.romHalt = false → t.keyWord x.tenant x.keyId = x.state ∧ t.keys.jFill = 1 ∧ t.keys.jHalf = false ∧
        tblGet 0 t.keys.seqs x.tenant = (s.ancGet (0x400 + x.tenant)).toNat % 2 ^ 32 ∧ t.boot.voids = [] ∧
        t.par.policyBk = (s.ancGet 0x0B).setWidth 26 ∧
        (t.tnOf x.tenant).state = (s.ancGet (0x1100 + 3 * x.tenant)).setWidth 2)) ∧
  (∀ s : State, (s.boot.booting = false ∨ s.pwr.mainOk = false ∨ s.par.held = true ∨ s.mi.dramReady = false ∨ s.rng.st ≠ 1 ∨
    s.boot.request.isSome = true ∨ s.bootAdmitted = false) → exec .bootComplete s = .next s) ∧
  (∀ s : State, s.boot.booting = true → s.pwr.mainOk = true → s.par.held = false → s.mi.dramReady = true → s.rng.st = 1 →
    s.boot.request = none → s.boot.romHalt = false → s.pwr.quiesce = false → s.anc.queue = [] → s.keys.taken = [] →
    s.mss.rels = [] → s.trs.replHeld = [] → s.tg.held = [] → s.boot.writes = [] → s.boot.voids = [] → s.admits 30 = true →
    s.ancWorn 7 1 = false → tblWf 0 s.anc.words → tblWf false s.anc.lost → tblWf {} s.hiu.tn →
    ∃ t : State, exec .bootComplete s = .next t ∧ t.boot.booting = false ∧ t.boot.everReady = true ∧ t.ancGet 7 = s.ancGet 7 + 1 ∧
      (∀ w, w ≠ 7 → t.ancGet w = s.ancGet w) ∧ t.tg.rules = s.cfgRules ∧ t.tg.en = true ∧ t.tg.holding = false ∧
      t.hiu.idState = (if s.hiu.overlay = 2 then 5 else if s.ks.checkOk = false then 1 else if s.hiu.overlay = 1 then 2 else 3) ∧
      t.hiu.dpUp = (t.hiu.idState == 3 && (s.hiu.overlay == 0 || s.hiu.overlay == 3) && s.boot.enItem.getLsbD 0) ∧
      (t.hiu.dpUp = true → (t.tnOf 0).state = 1) ∧ t.boot.trialSeen = (s.boot.trialSeen && !t.hiu.dpUp && s.dpEnabled) ∧
      t.pwr.envelope = ((s.boot.envItem.map (fun v => v.toNat % 64)).getD 60) ∧
      t.trs.linkA = s.boot.enItem.getLsbD 1 ∧ t.trs.linkB = s.boot.enItem.getLsbD 1 ∧
      (s.boot.answering = false → .drs ∈ t.out) ∧ t.ks = s.ks ∧ t.mem = s.mem ∧ t.cfg = s.cfg ∧ t.rng = s.rng ∧ t.pending = s.pending) ∧
  (∀ (u : QUnit) (s : State), exec (.quarantineCountAgeOut u) s = .next (match u with
    | .pier p => { s with dsp.quar := tblMod 0 p (· - 1) s.dsp.quar }
    | .engine e => s.modEng e (fun x => { x with quar := x.quar - 1 })
    | .pks e => s.modEng (48 + e) (fun x => { x with quar := x.quar - 1 })
    | .source n => { s with rng.src := tblMod {} n (fun (x : Src) => { x with quar := x.quar - 1 }) s.rng.src }))
end

