-- ==== Sys2Proof/Laws/State.lean ====
section
/-! SUPPORT. What the plain updates of the state leave alone: one lemma for each field and each update, true by computation. -/

namespace Sys2Proof.Machine

/-! ## `State.emit` -/

@[simp] theorem State.emit_clk (o : Out) (s : State) : (s.emit o).clk = s.clk := rfl
@[simp] theorem State.emit_hiu (o : Out) (s : State) : (s.emit o).hiu = s.hiu := rfl
@[simp] theorem State.emit_dsp (o : Out) (s : State) : (s.emit o).dsp = s.dsp := rfl
@[simp] theorem State.emit_deck (o : Out) (s : State) : (s.emit o).deck = s.deck := rfl
@[simp] theorem State.emit_keys (o : Out) (s : State) : (s.emit o).keys = s.keys := rfl
@[simp] theorem State.emit_pay (o : Out) (s : State) : (s.emit o).pay = s.pay := rfl
@[simp] theorem State.emit_eng (o : Out) (s : State) : (s.emit o).eng = s.eng := rfl
@[simp] theorem State.emit_rng (o : Out) (s : State) : (s.emit o).rng = s.rng := rfl
@[simp] theorem State.emit_trs (o : Out) (s : State) : (s.emit o).trs = s.trs := rfl
@[simp] theorem State.emit_mss (o : Out) (s : State) : (s.emit o).mss = s.mss := rfl
@[simp] theorem State.emit_tg (o : Out) (s : State) : (s.emit o).tg = s.tg := rfl
@[simp] theorem State.emit_mi (o : Out) (s : State) : (s.emit o).mi = s.mi := rfl
@[simp] theorem State.emit_par (o : Out) (s : State) : (s.emit o).par = s.par := rfl
@[simp] theorem State.emit_ks (o : Out) (s : State) : (s.emit o).ks = s.ks := rfl
@[simp] theorem State.emit_evr (o : Out) (s : State) : (s.emit o).evr = s.evr := rfl
@[simp] theorem State.emit_anc (o : Out) (s : State) : (s.emit o).anc = s.anc := rfl
@[simp] theorem State.emit_cfg (o : Out) (s : State) : (s.emit o).cfg = s.cfg := rfl
@[simp] theorem State.emit_pwr (o : Out) (s : State) : (s.emit o).pwr = s.pwr := rfl
@[simp] theorem State.emit_boot (o : Out) (s : State) : (s.emit o).boot = s.boot := rfl
@[simp] theorem State.emit_hw (o : Out) (s : State) : (s.emit o).hw = s.hw := rfl
@[simp] theorem State.emit_mem (o : Out) (s : State) : (s.emit o).mem = s.mem := rfl
@[simp] theorem State.emit_now (o : Out) (s : State) : (s.emit o).now = s.now := rfl
@[simp] theorem State.emit_backupUs (o : Out) (s : State) : (s.emit o).backupUs = s.backupUs := rfl
@[simp] theorem State.emit_irq (o : Out) (s : State) : (s.emit o).irq = s.irq := rfl
@[simp] theorem State.emit_free (o : Out) (s : State) : (s.emit o).free = s.free := rfl
@[simp] theorem State.emit_pending (o : Out) (s : State) : (s.emit o).pending = s.pending := rfl
@[simp] theorem State.emit_out (o : Out) (s : State) : (s.emit o).out = s.out ++ [o] := rfl

/-! ## `State.signal` -/

@[simp] theorem State.signal_clk (src : Nat) (s : State) : (s.signal src).clk = s.clk := rfl
@[simp] theorem State.signal_hiu (src : Nat) (s : State) : (s.signal src).hiu = s.hiu := rfl
@[simp] theorem State.signal_dsp (src : Nat) (s : State) : (s.signal src).dsp = s.dsp := rfl
@[simp] theorem State.signal_deck (src : Nat) (s : State) : (s.signal src).deck = s.deck := rfl
@[simp] theorem State.signal_keys (src : Nat) (s : State) : (s.signal src).keys = s.keys := rfl
@[simp] theorem State.signal_pay (src : Nat) (s : State) : (s.signal src).pay = s.pay := rfl
@[simp] theorem State.signal_eng (src : Nat) (s : State) : (s.signal src).eng = s.eng := rfl
@[simp] theorem State.signal_rng (src : Nat) (s : State) : (s.signal src).rng = s.rng := rfl
@[simp] theorem State.signal_trs (src : Nat) (s : State) : (s.signal src).trs = s.trs := rfl
@[simp] theorem State.signal_mss (src : Nat) (s : State) : (s.signal src).mss = s.mss := rfl
@[simp] theorem State.signal_tg (src : Nat) (s : State) : (s.signal src).tg = s.tg := rfl
@[simp] theorem State.signal_mi (src : Nat) (s : State) : (s.signal src).mi = s.mi := rfl
@[simp] theorem State.signal_par (src : Nat) (s : State) : (s.signal src).par = s.par := rfl
@[simp] theorem State.signal_ks (src : Nat) (s : State) : (s.signal src).ks = s.ks := rfl
@[simp] theorem State.signal_evr (src : Nat) (s : State) : (s.signal src).evr = s.evr := rfl
@[simp] theorem State.signal_anc (src : Nat) (s : State) : (s.signal src).anc = s.anc := rfl
@[simp] theorem State.signal_cfg (src : Nat) (s : State) : (s.signal src).cfg = s.cfg := rfl
@[simp] theorem State.signal_boot (src : Nat) (s : State) : (s.signal src).boot = s.boot := rfl
@[simp] theorem State.signal_hw (src : Nat) (s : State) : (s.signal src).hw = s.hw := rfl
@[simp] theorem State.signal_mem (src : Nat) (s : State) : (s.signal src).mem = s.mem := rfl
@[simp] theorem State.signal_now (src : Nat) (s : State) : (s.signal src).now = s.now := rfl
@[simp] theorem State.signal_backupUs (src : Nat) (s : State) : (s.signal src).backupUs = s.backupUs := rfl
@[simp] theorem State.signal_free (src : Nat) (s : State) : (s.signal src).free = s.free := rfl
@[simp] theorem State.signal_out (src : Nat) (s : State) : (s.signal src).out = s.out := rfl
@[simp] theorem State.signal_pending (src : Nat) (s : State) : (s.signal src).pending = s.pending := rfl
@[simp] theorem State.signal_irq (src : Nat) (s : State) : (s.signal src).irq = tblSet false src true s.irq := rfl

/-! ## `State.modTn` -/

@[simp] theorem State.modTn_clk (t : Nat) (f : Tn → Tn) (s : State) : (s.modTn t f).clk = s.clk := rfl
@[simp] theorem State.modTn_dsp (t : Nat) (f : Tn → Tn) (s : State) : (s.modTn t f).dsp = s.dsp := rfl
@[simp] theorem State.modTn_deck (t : Nat) (f : Tn → Tn) (s : State) : (s.modTn t f).deck = s.deck := rfl
@[simp] theorem State.modTn_keys (t : Nat) (f : Tn → Tn) (s : State) : (s.modTn t f).keys = s.keys := rfl
@[simp] theorem State.modTn_pay (t : Nat) (f : Tn → Tn) (s : State) : (s.modTn t f).pay = s.pay := rfl
@[simp] theorem State.modTn_eng (t : Nat) (f : Tn → Tn) (s : State) : (s.modTn t f).eng = s.eng := rfl
@[simp] theorem State.modTn_rng (t : Nat) (f : Tn → Tn) (s : State) : (s.modTn t f).rng = s.rng := rfl
@[simp] theorem State.modTn_trs (t : Nat) (f : Tn → Tn) (s : State) : (s.modTn t f).trs = s.trs := rfl
@[simp] theorem State.modTn_mss (t : Nat) (f : Tn → Tn) (s : State) : (s.modTn t f).mss = s.mss := rfl
@[simp] theorem State.modTn_tg (t : Nat) (f : Tn → Tn) (s : State) : (s.modTn t f).tg = s.tg := rfl
@[simp] theorem State.modTn_mi (t : Nat) (f : Tn → Tn) (s : State) : (s.modTn t f).mi = s.mi := rfl
@[simp] theorem State.modTn_par (t : Nat) (f : Tn → Tn) (s : State) : (s.modTn t f).par = s.par := rfl
@[simp] theorem State.modTn_ks (t : Nat) (f : Tn → Tn) (s : State) : (s.modTn t f).ks = s.ks := rfl
@[simp] theorem State.modTn_evr (t : Nat) (f : Tn → Tn) (s : State) : (s.modTn t f).evr = s.evr := rfl
@[simp] theorem State.modTn_anc (t : Nat) (f : Tn → Tn) (s : State) : (s.modTn t f).anc = s.anc := rfl
@[simp] theorem State.modTn_cfg (t : Nat) (f : Tn → Tn) (s : State) : (s.modTn t f).cfg = s.cfg := rfl
@[simp] theorem State.modTn_pwr (t : Nat) (f : Tn → Tn) (s : State) : (s.modTn t f).pwr = s.pwr := rfl
@[simp] theorem State.modTn_boot (t : Nat) (f : Tn → Tn) (s : State) : (s.modTn t f).boot = s.boot := rfl
@[simp] theorem State.modTn_hw (t : Nat) (f : Tn → Tn) (s : State) : (s.modTn t f).hw = s.hw := rfl
@[simp] theorem State.modTn_mem (t : Nat) (f : Tn → Tn) (s : State) : (s.modTn t f).mem = s.mem := rfl
@[simp] theorem State.modTn_now (t : Nat) (f : Tn → Tn) (s : State) : (s.modTn t f).now = s.now := rfl
@[simp] theorem State.modTn_backupUs (t : Nat) (f : Tn → Tn) (s : State) : (s.modTn t f).backupUs = s.backupUs := rfl
@[simp] theorem State.modTn_irq (t : Nat) (f : Tn → Tn) (s : State) : (s.modTn t f).irq = s.irq := rfl
@[simp] theorem State.modTn_free (t : Nat) (f : Tn → Tn) (s : State) : (s.modTn t f).free = s.free := rfl
@[simp] theorem State.modTn_out (t : Nat) (f : Tn → Tn) (s : State) : (s.modTn t f).out = s.out := rfl
@[simp] theorem State.modTn_pending (t : Nat) (f : Tn → Tn) (s : State) : (s.modTn t f).pending = s.pending := rfl
@[simp] theorem State.modTn_hiu (t : Nat) (f : Tn → Tn) (s : State) : (s.modTn t f).hiu = { s.hiu with tn := tblMod {} t f s.hiu.tn } := rfl

/-! ## `State.admitCost` -/

@[simp] theorem State.admitCost_clk (c : Nat) (s : State) : (s.admitCost c).clk = s.clk := rfl
@[simp] theorem State.admitCost_hiu (c : Nat) (s : State) : (s.admitCost c).hiu = s.hiu := rfl
@[simp] theorem State.admitCost_dsp (c : Nat) (s : State) : (s.admitCost c).dsp = s.dsp := rfl
@[simp] theorem State.admitCost_deck (c : Nat) (s : State) : (s.admitCost c).deck = s.deck := rfl
@[simp] theorem State.admitCost_keys (c : Nat) (s : State) : (s.admitCost c).keys = s.keys := rfl
@[simp] theorem State.admitCost_pay (c : Nat) (s : State) : (s.admitCost c).pay = s.pay := rfl
@[simp] theorem State.admitCost_eng (c : Nat) (s : State) : (s.admitCost c).eng = s.eng := rfl
@[simp] theorem State.admitCost_rng (c : Nat) (s : State) : (s.admitCost c).rng = s.rng := rfl
@[simp] theorem State.admitCost_trs (c : Nat) (s : State) : (s.admitCost c).trs = s.trs := rfl
@[simp] theorem State.admitCost_mss (c : Nat) (s : State) : (s.admitCost c).mss = s.mss := rfl
@[simp] theorem State.admitCost_tg (c : Nat) (s : State) : (s.admitCost c).tg = s.tg := rfl
@[simp] theorem State.admitCost_mi (c : Nat) (s : State) : (s.admitCost c).mi = s.mi := rfl
@[simp] theorem State.admitCost_par (c : Nat) (s : State) : (s.admitCost c).par = s.par := rfl
@[simp] theorem State.admitCost_ks (c : Nat) (s : State) : (s.admitCost c).ks = s.ks := rfl
@[simp] theorem State.admitCost_evr (c : Nat) (s : State) : (s.admitCost c).evr = s.evr := rfl
@[simp] theorem State.admitCost_anc (c : Nat) (s : State) : (s.admitCost c).anc = s.anc := rfl
@[simp] theorem State.admitCost_cfg (c : Nat) (s : State) : (s.admitCost c).cfg = s.cfg := rfl
@[simp] theorem State.admitCost_boot (c : Nat) (s : State) : (s.admitCost c).boot = s.boot := rfl
@[simp] theorem State.admitCost_hw (c : Nat) (s : State) : (s.admitCost c).hw = s.hw := rfl
@[simp] theorem State.admitCost_mem (c : Nat) (s : State) : (s.admitCost c).mem = s.mem := rfl
@[simp] theorem State.admitCost_now (c : Nat) (s : State) : (s.admitCost c).now = s.now := rfl
@[simp] theorem State.admitCost_backupUs (c : Nat) (s : State) : (s.admitCost c).backupUs = s.backupUs := rfl
@[simp] theorem State.admitCost_irq (c : Nat) (s : State) : (s.admitCost c).irq = s.irq := rfl
@[simp] theorem State.admitCost_free (c : Nat) (s : State) : (s.admitCost c).free = s.free := rfl
@[simp] theorem State.admitCost_out (c : Nat) (s : State) : (s.admitCost c).out = s.out := rfl
@[simp] theorem State.admitCost_pending (c : Nat) (s : State) : (s.admitCost c).pending = s.pending := rfl
@[simp] theorem State.admitCost_pwr (c : Nat) (s : State) : (s.admitCost c).pwr = { s.pwr with outstanding := s.pwr.outstanding + c, cntAdmit := s.pwr.cntAdmit + 1 } := rfl

/-! ## `State.repay` -/

@[simp] theorem State.repay_clk (c : Nat) (s : State) : (s.repay c).clk = s.clk := rfl
@[simp] theorem State.repay_hiu (c : Nat) (s : State) : (s.repay c).hiu = s.hiu := rfl
@[simp] theorem State.repay_dsp (c : Nat) (s : State) : (s.repay c).dsp = s.dsp := rfl
@[simp] theorem State.repay_deck (c : Nat) (s : State) : (s.repay c).deck = s.deck := rfl
@[simp] theorem State.repay_keys (c : Nat) (s : State) : (s.repay c).keys = s.keys := rfl
@[simp] theorem State.repay_pay (c : Nat) (s : State) : (s.repay c).pay = s.pay := rfl
@[simp] theorem State.repay_eng (c : Nat) (s : State) : (s.repay c).eng = s.eng := rfl
@[simp] theorem State.repay_rng (c : Nat) (s : State) : (s.repay c).rng = s.rng := rfl
@[simp] theorem State.repay_trs (c : Nat) (s : State) : (s.repay c).trs = s.trs := rfl
@[simp] theorem State.repay_mss (c : Nat) (s : State) : (s.repay c).mss = s.mss := rfl
@[simp] theorem State.repay_tg (c : Nat) (s : State) : (s.repay c).tg = s.tg := rfl
@[simp] theorem State.repay_mi (c : Nat) (s : State) : (s.repay c).mi = s.mi := rfl
@[simp] theorem State.repay_par (c : Nat) (s : State) : (s.repay c).par = s.par := rfl
@[simp] theorem State.repay_ks (c : Nat) (s : State) : (s.repay c).ks = s.ks := rfl
@[simp] theorem State.repay_evr (c : Nat) (s : State) : (s.repay c).evr = s.evr := rfl
@[simp] theorem State.repay_anc (c : Nat) (s : State) : (s.repay c).anc = s.anc := rfl
@[simp] theorem State.repay_cfg (c : Nat) (s : State) : (s.repay c).cfg = s.cfg := rfl
@[simp] theorem State.repay_boot (c : Nat) (s : State) : (s.repay c).boot = s.boot := rfl
@[simp] theorem State.repay_hw (c : Nat) (s : State) : (s.repay c).hw = s.hw := rfl
@[simp] theorem State.repay_mem (c : Nat) (s : State) : (s.repay c).mem = s.mem := rfl
@[simp] theorem State.repay_now (c : Nat) (s : State) : (s.repay c).now = s.now := rfl
@[simp] theorem State.repay_backupUs (c : Nat) (s : State) : (s.repay c).backupUs = s.backupUs := rfl
@[simp] theorem State.repay_irq (c : Nat) (s : State) : (s.repay c).irq = s.irq := rfl
@[simp] theorem State.repay_free (c : Nat) (s : State) : (s.repay c).free = s.free := rfl
@[simp] theorem State.repay_out (c : Nat) (s : State) : (s.repay c).out = s.out := rfl
@[simp] theorem State.repay_pending (c : Nat) (s : State) : (s.repay c).pending = s.pending := rfl
@[simp] theorem State.repay_pwr (c : Nat) (s : State) : (s.repay c).pwr = { s.pwr with outstanding := s.pwr.outstanding - c } := rfl

/-! ## `State.ancIssue` -/

@[simp] theorem State.ancIssue_clk (w : Nat) (vals : List DWord) (cost : Nat) (e : Eff) (s : State) : (s.ancIssue w vals cost e).clk = s.clk := rfl
@[simp] theorem State.ancIssue_hiu (w : Nat) (vals : List DWord) (cost : Nat) (e : Eff) (s : State) : (s.ancIssue w vals cost e).hiu = s.hiu := rfl
@[simp] theorem State.ancIssue_dsp (w : Nat) (vals : List DWord) (cost : Nat) (e : Eff) (s : State) : (s.ancIssue w vals cost e).dsp = s.dsp := rfl
@[simp] theorem State.ancIssue_deck (w : Nat) (vals : List DWord) (cost : Nat) (e : Eff) (s : State) : (s.ancIssue w vals cost e).deck = s.deck := rfl
@[simp] theorem State.ancIssue_keys (w : Nat) (vals : List DWord) (cost : Nat) (e : Eff) (s : State) : (s.ancIssue w vals cost e).keys = s.keys := rfl
@[simp] theorem State.ancIssue_pay (w : Nat) (vals : List DWord) (cost : Nat) (e : Eff) (s : State) : (s.ancIssue w vals cost e).pay = s.pay := rfl
@[simp] theorem State.ancIssue_eng (w : Nat) (vals : List DWord) (cost : Nat) (e : Eff) (s : State) : (s.ancIssue w vals cost e).eng = s.eng := rfl
@[simp] theorem State.ancIssue_rng (w : Nat) (vals : List DWord) (cost : Nat) (e : Eff) (s : State) : (s.ancIssue w vals cost e).rng = s.rng := rfl
@[simp] theorem State.ancIssue_trs (w : Nat) (vals : List DWord) (cost : Nat) (e : Eff) (s : State) : (s.ancIssue w vals cost e).trs = s.trs := rfl
@[simp] theorem State.ancIssue_mss (w : Nat) (vals : List DWord) (cost : Nat) (e : Eff) (s : State) : (s.ancIssue w vals cost e).mss = s.mss := rfl
@[simp] theorem State.ancIssue_tg (w : Nat) (vals : List DWord) (cost : Nat) (e : Eff) (s : State) : (s.ancIssue w vals cost e).tg = s.tg := rfl
@[simp] theorem State.ancIssue_mi (w : Nat) (vals : List DWord) (cost : Nat) (e : Eff) (s : State) : (s.ancIssue w vals cost e).mi = s.mi := rfl
@[simp] theorem State.ancIssue_par (w : Nat) (vals : List DWord) (cost : Nat) (e : Eff) (s : State) : (s.ancIssue w vals cost e).par = s.par := rfl
@[simp] theorem State.ancIssue_ks (w : Nat) (vals : List DWord) (cost : Nat) (e : Eff) (s : State) : (s.ancIssue w vals cost e).ks = s.ks := rfl
@[simp] theorem State.ancIssue_evr (w : Nat) (vals : List DWord) (cost : Nat) (e : Eff) (s : State) : (s.ancIssue w vals cost e).evr = s.evr := rfl
@[simp] theorem State.ancIssue_cfg (w : Nat) (vals : List DWord) (cost : Nat) (e : Eff) (s : State) : (s.ancIssue w vals cost e).cfg = s.cfg := rfl
@[simp] theorem State.ancIssue_pwr (w : Nat) (vals : List DWord) (cost : Nat) (e : Eff) (s : State) : (s.ancIssue w vals cost e).pwr = s.pwr := rfl
@[simp] theorem State.ancIssue_boot (w : Nat) (vals : List DWord) (cost : Nat) (e : Eff) (s : State) : (s.ancIssue w vals cost e).boot = s.boot := rfl
@[simp] theorem State.ancIssue_hw (w : Nat) (vals : List DWord) (cost : Nat) (e : Eff) (s : State) : (s.ancIssue w vals cost e).hw = s.hw := rfl
@[simp] theorem State.ancIssue_mem (w : Nat) (vals : List DWord) (cost : Nat) (e : Eff) (s : State) : (s.ancIssue w vals cost e).mem = s.mem := rfl
@[simp] theorem State.ancIssue_now (w : Nat) (vals : List DWord) (cost : Nat) (e : Eff) (s : State) : (s.ancIssue w vals cost e).now = s.now := rfl
@[simp] theorem State.ancIssue_backupUs (w : Nat) (vals : List DWord) (cost : Nat) (e : Eff) (s : State) : (s.ancIssue w vals cost e).backupUs = s.backupUs := rfl
@[simp] theorem State.ancIssue_irq (w : Nat) (vals : List DWord) (cost : Nat) (e : Eff) (s : State) : (s.ancIssue w vals cost e).irq = s.irq := rfl
@[simp] theorem State.ancIssue_free (w : Nat) (vals : List DWord) (cost : Nat) (e : Eff) (s : State) : (s.ancIssue w vals cost e).free = s.free := rfl
@[simp] theorem State.ancIssue_out (w : Nat) (vals : List DWord) (cost : Nat) (e : Eff) (s : State) : (s.ancIssue w vals cost e).out = s.out := rfl
@[simp] theorem State.ancIssue_pending (w : Nat) (vals : List DWord) (cost : Nat) (e : Eff) (s : State) : (s.ancIssue w vals cost e).pending = s.pending := rfl
@[simp] theorem State.ancIssue_anc (w : Nat) (vals : List DWord) (cost : Nat) (e : Eff) (s : State) : (s.ancIssue w vals cost e).anc = { s.anc with queue := s.anc.queue ++ [⟨w, vals, cost, e⟩] } := rfl

/-! ## `State.ancPersist` -/

@[simp] theorem State.ancPersist_clk (a : AncWrite) (rest : List AncWrite) (s : State) : (s.ancPersist a rest).clk = s.clk := rfl
@[simp] theorem State.ancPersist_hiu (a : AncWrite) (rest : List AncWrite) (s : State) : (s.ancPersist a rest).hiu = s.hiu := rfl
@[simp] theorem State.ancPersist_dsp (a : AncWrite) (rest : List AncWrite) (s : State) : (s.ancPersist a rest).dsp = s.dsp := rfl
@[simp] theorem State.ancPersist_deck (a : AncWrite) (rest : List AncWrite) (s : State) : (s.ancPersist a rest).deck = s.deck := rfl
@[simp] theorem State.ancPersist_keys (a : AncWrite) (rest : List AncWrite) (s : State) : (s.ancPersist a rest).keys = s.keys := rfl
@[simp] theorem State.ancPersist_pay (a : AncWrite) (rest : List AncWrite) (s : State) : (s.ancPersist a rest).pay = s.pay := rfl
@[simp] theorem State.ancPersist_eng (a : AncWrite) (rest : List AncWrite) (s : State) : (s.ancPersist a rest).eng = s.eng := rfl
@[simp] theorem State.ancPersist_rng (a : AncWrite) (rest : List AncWrite) (s : State) : (s.ancPersist a rest).rng = s.rng := rfl
@[simp] theorem State.ancPersist_trs (a : AncWrite) (rest : List AncWrite) (s : State) : (s.ancPersist a rest).trs = s.trs := rfl
@[simp] theorem State.ancPersist_mss (a : AncWrite) (rest : List AncWrite) (s : State) : (s.ancPersist a rest).mss = s.mss := rfl
@[simp] theorem State.ancPersist_tg (a : AncWrite) (rest : List AncWrite) (s : State) : (s.ancPersist a rest).tg = s.tg := rfl
@[simp] theorem State.ancPersist_mi (a : AncWrite) (rest : List AncWrite) (s : State) : (s.ancPersist a rest).mi = s.mi := rfl
@[simp] theorem State.ancPersist_par (a : AncWrite) (rest : List AncWrite) (s : State) : (s.ancPersist a rest).par = s.par := rfl
@[simp] theorem State.ancPersist_ks (a : AncWrite) (rest : List AncWrite) (s : State) : (s.ancPersist a rest).ks = s.ks := rfl
@[simp] theorem State.ancPersist_evr (a : AncWrite) (rest : List AncWrite) (s : State) : (s.ancPersist a rest).evr = s.evr := rfl
@[simp] theorem State.ancPersist_cfg (a : AncWrite) (rest : List AncWrite) (s : State) : (s.ancPersist a rest).cfg = s.cfg := rfl
@[simp] theorem State.ancPersist_boot (a : AncWrite) (rest : List AncWrite) (s : State) : (s.ancPersist a rest).boot = s.boot := rfl
@[simp] theorem State.ancPersist_hw (a : AncWrite) (rest : List AncWrite) (s : State) : (s.ancPersist a rest).hw = s.hw := rfl
@[simp] theorem State.ancPersist_mem (a : AncWrite) (rest : List AncWrite) (s : State) : (s.ancPersist a rest).mem = s.mem := rfl
@[simp] theorem State.ancPersist_now (a : AncWrite) (rest : List AncWrite) (s : State) : (s.ancPersist a rest).now = s.now := rfl
@[simp] theorem State.ancPersist_backupUs (a : AncWrite) (rest : List AncWrite) (s : State) : (s.ancPersist a rest).backupUs = s.backupUs := rfl
@[simp] theorem State.ancPersist_irq (a : AncWrite) (rest : List AncWrite) (s : State) : (s.ancPersist a rest).irq = s.irq := rfl
@[simp] theorem State.ancPersist_free (a : AncWrite) (rest : List AncWrite) (s : State) : (s.ancPersist a rest).free = s.free := rfl
@[simp] theorem State.ancPersist_out (a : AncWrite) (rest : List AncWrite) (s : State) : (s.ancPersist a rest).out = s.out := rfl
@[simp] theorem State.ancPersist_pending (a : AncWrite) (rest : List AncWrite) (s : State) : (s.ancPersist a rest).pending = s.pending := rfl

/-! ## `State.setEng` -/

@[simp] theorem State.setEng_clk (e : Nat) (x1 : Eng) (s : State) : (s.setEng e x1).clk = s.clk := rfl
@[simp] theorem State.setEng_hiu (e : Nat) (x1 : Eng) (s : State) : (s.setEng e x1).hiu = s.hiu := rfl
@[simp] theorem State.setEng_dsp (e : Nat) (x1 : Eng) (s : State) : (s.setEng e x1).dsp = s.dsp := rfl
@[simp] theorem State.setEng_deck (e : Nat) (x1 : Eng) (s : State) : (s.setEng e x1).deck = s.deck := rfl
@[simp] theorem State.setEng_keys (e : Nat) (x1 : Eng) (s : State) : (s.setEng e x1).keys = s.keys := rfl
@[simp] theorem State.setEng_pay (e : Nat) (x1 : Eng) (s : State) : (s.setEng e x1).pay = s.pay := rfl
@[simp] theorem State.setEng_rng (e : Nat) (x1 : Eng) (s : State) : (s.setEng e x1).rng = s.rng := rfl
@[simp] theorem State.setEng_trs (e : Nat) (x1 : Eng) (s : State) : (s.setEng e x1).trs = s.trs := rfl
@[simp] theorem State.setEng_mss (e : Nat) (x1 : Eng) (s : State) : (s.setEng e x1).mss = s.mss := rfl
@[simp] theorem State.setEng_tg (e : Nat) (x1 : Eng) (s : State) : (s.setEng e x1).tg = s.tg := rfl
@[simp] theorem State.setEng_mi (e : Nat) (x1 : Eng) (s : State) : (s.setEng e x1).mi = s.mi := rfl
@[simp] theorem State.setEng_par (e : Nat) (x1 : Eng) (s : State) : (s.setEng e x1).par = s.par := rfl
@[simp] theorem State.setEng_ks (e : Nat) (x1 : Eng) (s : State) : (s.setEng e x1).ks = s.ks := rfl
@[simp] theorem State.setEng_evr (e : Nat) (x1 : Eng) (s : State) : (s.setEng e x1).evr = s.evr := rfl
@[simp] theorem State.setEng_anc (e : Nat) (x1 : Eng) (s : State) : (s.setEng e x1).anc = s.anc := rfl
@[simp] theorem State.setEng_cfg (e : Nat) (x1 : Eng) (s : State) : (s.setEng e x1).cfg = s.cfg := rfl
@[simp] theorem State.setEng_pwr (e : Nat) (x1 : Eng) (s : State) : (s.setEng e x1).pwr = s.pwr := rfl
@[simp] theorem State.setEng_boot (e : Nat) (x1 : Eng) (s : State) : (s.setEng e x1).boot = s.boot := rfl
@[simp] theorem State.setEng_hw (e : Nat) (x1 : Eng) (s : State) : (s.setEng e x1).hw = s.hw := rfl
@[simp] theorem State.setEng_mem (e : Nat) (x1 : Eng) (s : State) : (s.setEng e x1).mem = s.mem := rfl
@[simp] theorem State.setEng_now (e : Nat) (x1 : Eng) (s : State) : (s.setEng e x1).now = s.now := rfl
@[simp] theorem State.setEng_backupUs (e : Nat) (x1 : Eng) (s : State) : (s.setEng e x1).backupUs = s.backupUs := rfl
@[simp] theorem State.setEng_irq (e : Nat) (x1 : Eng) (s : State) : (s.setEng e x1).irq = s.irq := rfl
@[simp] theorem State.setEng_free (e : Nat) (x1 : Eng) (s : State) : (s.setEng e x1).free = s.free := rfl
@[simp] theorem State.setEng_out (e : Nat) (x1 : Eng) (s : State) : (s.setEng e x1).out = s.out := rfl
@[simp] theorem State.setEng_pending (e : Nat) (x1 : Eng) (s : State) : (s.setEng e x1).pending = s.pending := rfl
@[simp] theorem State.setEng_eng (e : Nat) (x : Eng) (s : State) : (s.setEng e x).eng = { s.eng with eng := tblSet {} e x s.eng.eng } := rfl

/-! ## `State.setBay` -/

@[simp] theorem State.setBay_hiu (b : Nat) (x1 : BaySt) (s : State) : (s.setBay b x1).hiu = s.hiu := rfl
@[simp] theorem State.setBay_dsp (b : Nat) (x1 : BaySt) (s : State) : (s.setBay b x1).dsp = s.dsp := rfl
@[simp] theorem State.setBay_deck (b : Nat) (x1 : BaySt) (s : State) : (s.setBay b x1).deck = s.deck := rfl
@[simp] theorem State.setBay_keys (b : Nat) (x1 : BaySt) (s : State) : (s.setBay b x1).keys = s.keys := rfl
@[simp] theorem State.setBay_pay (b : Nat) (x1 : BaySt) (s : State) : (s.setBay b x1).pay = s.pay := rfl
@[simp] theorem State.setBay_eng (b : Nat) (x1 : BaySt) (s : State) : (s.setBay b x1).eng = s.eng := rfl
@[simp] theorem State.setBay_rng (b : Nat) (x1 : BaySt) (s : State) : (s.setBay b x1).rng = s.rng := rfl
@[simp] theorem State.setBay_trs (b : Nat) (x1 : BaySt) (s : State) : (s.setBay b x1).trs = s.trs := rfl
@[simp] theorem State.setBay_mss (b : Nat) (x1 : BaySt) (s : State) : (s.setBay b x1).mss = s.mss := rfl
@[simp] theorem State.setBay_tg (b : Nat) (x1 : BaySt) (s : State) : (s.setBay b x1).tg = s.tg := rfl
@[simp] theorem State.setBay_mi (b : Nat) (x1 : BaySt) (s : State) : (s.setBay b x1).mi = s.mi := rfl
@[simp] theorem State.setBay_par (b : Nat) (x1 : BaySt) (s : State) : (s.setBay b x1).par = s.par := rfl
@[simp] theorem State.setBay_ks (b : Nat) (x1 : BaySt) (s : State) : (s.setBay b x1).ks = s.ks := rfl
@[simp] theorem State.setBay_evr (b : Nat) (x1 : BaySt) (s : State) : (s.setBay b x1).evr = s.evr := rfl
@[simp] theorem State.setBay_anc (b : Nat) (x1 : BaySt) (s : State) : (s.setBay b x1).anc = s.anc := rfl
@[simp] theorem State.setBay_cfg (b : Nat) (x1 : BaySt) (s : State) : (s.setBay b x1).cfg = s.cfg := rfl
@[simp] theorem State.setBay_pwr (b : Nat) (x1 : BaySt) (s : State) : (s.setBay b x1).pwr = s.pwr := rfl
@[simp] theorem State.setBay_boot (b : Nat) (x1 : BaySt) (s : State) : (s.setBay b x1).boot = s.boot := rfl
@[simp] theorem State.setBay_hw (b : Nat) (x1 : BaySt) (s : State) : (s.setBay b x1).hw = s.hw := rfl
@[simp] theorem State.setBay_mem (b : Nat) (x1 : BaySt) (s : State) : (s.setBay b x1).mem = s.mem := rfl
@[simp] theorem State.setBay_now (b : Nat) (x1 : BaySt) (s : State) : (s.setBay b x1).now = s.now := rfl
@[simp] theorem State.setBay_backupUs (b : Nat) (x1 : BaySt) (s : State) : (s.setBay b x1).backupUs = s.backupUs := rfl
@[simp] theorem State.setBay_irq (b : Nat) (x1 : BaySt) (s : State) : (s.setBay b x1).irq = s.irq := rfl
@[simp] theorem State.setBay_free (b : Nat) (x1 : BaySt) (s : State) : (s.setBay b x1).free = s.free := rfl
@[simp] theorem State.setBay_out (b : Nat) (x1 : BaySt) (s : State) : (s.setBay b x1).out = s.out := rfl
@[simp] theorem State.setBay_pending (b : Nat) (x1 : BaySt) (s : State) : (s.setBay b x1).pending = s.pending := rfl
@[simp] theorem State.setBay_clk (b : Nat) (x : BaySt) (s : State) : (s.setBay b x).clk = { s.clk with bays := tblSet .powered b x s.clk.bays } := rfl

/-! ## `State.setEnt` -/

@[simp] theorem State.setEnt_clk (d : Nat) (e : Entry) (s : State) : (s.setEnt d e).clk = s.clk := rfl
@[simp] theorem State.setEnt_hiu (d : Nat) (e : Entry) (s : State) : (s.setEnt d e).hiu = s.hiu := rfl
@[simp] theorem State.setEnt_dsp (d : Nat) (e : Entry) (s : State) : (s.setEnt d e).dsp = s.dsp := rfl
@[simp] theorem State.setEnt_keys (d : Nat) (e : Entry) (s : State) : (s.setEnt d e).keys = s.keys := rfl
@[simp] theorem State.setEnt_pay (d : Nat) (e : Entry) (s : State) : (s.setEnt d e).pay = s.pay := rfl
@[simp] theorem State.setEnt_eng (d : Nat) (e : Entry) (s : State) : (s.setEnt d e).eng = s.eng := rfl
@[simp] theorem State.setEnt_rng (d : Nat) (e : Entry) (s : State) : (s.setEnt d e).rng = s.rng := rfl
@[simp] theorem State.setEnt_trs (d : Nat) (e : Entry) (s : State) : (s.setEnt d e).trs = s.trs := rfl
@[simp] theorem State.setEnt_mss (d : Nat) (e : Entry) (s : State) : (s.setEnt d e).mss = s.mss := rfl
@[simp] theorem State.setEnt_tg (d : Nat) (e : Entry) (s : State) : (s.setEnt d e).tg = s.tg := rfl
@[simp] theorem State.setEnt_mi (d : Nat) (e : Entry) (s : State) : (s.setEnt d e).mi = s.mi := rfl
@[simp] theorem State.setEnt_par (d : Nat) (e : Entry) (s : State) : (s.setEnt d e).par = s.par := rfl
@[simp] theorem State.setEnt_ks (d : Nat) (e : Entry) (s : State) : (s.setEnt d e).ks = s.ks := rfl
@[simp] theorem State.setEnt_evr (d : Nat) (e : Entry) (s : State) : (s.setEnt d e).evr = s.evr := rfl
@[simp] theorem State.setEnt_anc (d : Nat) (e : Entry) (s : State) : (s.setEnt d e).anc = s.anc := rfl
@[simp] theorem State.setEnt_cfg (d : Nat) (e : Entry) (s : State) : (s.setEnt d e).cfg = s.cfg := rfl
@[simp] theorem State.setEnt_pwr (d : Nat) (e : Entry) (s : State) : (s.setEnt d e).pwr = s.pwr := rfl
@[simp] theorem State.setEnt_boot (d : Nat) (e : Entry) (s : State) : (s.setEnt d e).boot = s.boot := rfl
@[simp] theorem State.setEnt_hw (d : Nat) (e : Entry) (s : State) : (s.setEnt d e).hw = s.hw := rfl
@[simp] theorem State.setEnt_mem (d : Nat) (e : Entry) (s : State) : (s.setEnt d e).mem = s.mem := rfl
@[simp] theorem State.setEnt_now (d : Nat) (e : Entry) (s : State) : (s.setEnt d e).now = s.now := rfl
@[simp] theorem State.setEnt_backupUs (d : Nat) (e : Entry) (s : State) : (s.setEnt d e).backupUs = s.backupUs := rfl
@[simp] theorem State.setEnt_irq (d : Nat) (e : Entry) (s : State) : (s.setEnt d e).irq = s.irq := rfl
@[simp] theorem State.setEnt_free (d : Nat) (e : Entry) (s : State) : (s.setEnt d e).free = s.free := rfl
@[simp] theorem State.setEnt_out (d : Nat) (e : Entry) (s : State) : (s.setEnt d e).out = s.out := rfl
@[simp] theorem State.setEnt_pending (d : Nat) (e : Entry) (s : State) : (s.setEnt d e).pending = s.pending := rfl
@[simp] theorem State.setEnt_deck (d : Nat) (e : Entry) (s : State) : (s.setEnt d e).deck = { s.deck with ent := tblSet none d (some e) s.deck.ent } := rfl

/-! ## `State.setPier` -/

@[simp] theorem State.setPier_clk (p : Nat) (x1 : PierSt) (s : State) : (s.setPier p x1).clk = s.clk := rfl
@[simp] theorem State.setPier_hiu (p : Nat) (x1 : PierSt) (s : State) : (s.setPier p x1).hiu = s.hiu := rfl
@[simp] theorem State.setPier_deck (p : Nat) (x1 : PierSt) (s : State) : (s.setPier p x1).deck = s.deck := rfl
@[simp] theorem State.setPier_keys (p : Nat) (x1 : PierSt) (s : State) : (s.setPier p x1).keys = s.keys := rfl
@[simp] theorem State.setPier_pay (p : Nat) (x1 : PierSt) (s : State) : (s.setPier p x1).pay = s.pay := rfl
@[simp] theorem State.setPier_eng (p : Nat) (x1 : PierSt) (s : State) : (s.setPier p x1).eng = s.eng := rfl
@[simp] theorem State.setPier_rng (p : Nat) (x1 : PierSt) (s : State) : (s.setPier p x1).rng = s.rng := rfl
@[simp] theorem State.setPier_trs (p : Nat) (x1 : PierSt) (s : State) : (s.setPier p x1).trs = s.trs := rfl
@[simp] theorem State.setPier_mss (p : Nat) (x1 : PierSt) (s : State) : (s.setPier p x1).mss = s.mss := rfl
@[simp] theorem State.setPier_tg (p : Nat) (x1 : PierSt) (s : State) : (s.setPier p x1).tg = s.tg := rfl
@[simp] theorem State.setPier_mi (p : Nat) (x1 : PierSt) (s : State) : (s.setPier p x1).mi = s.mi := rfl
@[simp] theorem State.setPier_par (p : Nat) (x1 : PierSt) (s : State) : (s.setPier p x1).par = s.par := rfl
@[simp] theorem State.setPier_ks (p : Nat) (x1 : PierSt) (s : State) : (s.setPier p x1).ks = s.ks := rfl
@[simp] theorem State.setPier_evr (p : Nat) (x1 : PierSt) (s : State) : (s.setPier p x1).evr = s.evr := rfl
@[simp] theorem State.setPier_anc (p : Nat) (x1 : PierSt) (s : State) : (s.setPier p x1).anc = s.anc := rfl
@[simp] theorem State.setPier_cfg (p : Nat) (x1 : PierSt) (s : State) : (s.setPier p x1).cfg = s.cfg := rfl
@[simp] theorem State.setPier_pwr (p : Nat) (x1 : PierSt) (s : State) : (s.setPier p x1).pwr = s.pwr := rfl
@[simp] theorem State.setPier_boot (p : Nat) (x1 : PierSt) (s : State) : (s.setPier p x1).boot = s.boot := rfl
@[simp] theorem State.setPier_hw (p : Nat) (x1 : PierSt) (s : State) : (s.setPier p x1).hw = s.hw := rfl
@[simp] theorem State.setPier_mem (p : Nat) (x1 : PierSt) (s : State) : (s.setPier p x1).mem = s.mem := rfl
@[simp] theorem State.setPier_now (p : Nat) (x1 : PierSt) (s : State) : (s.setPier p x1).now = s.now := rfl
@[simp] theorem State.setPier_backupUs (p : Nat) (x1 : PierSt) (s : State) : (s.setPier p x1).backupUs = s.backupUs := rfl
@[simp] theorem State.setPier_irq (p : Nat) (x1 : PierSt) (s : State) : (s.setPier p x1).irq = s.irq := rfl
@[simp] theorem State.setPier_free (p : Nat) (x1 : PierSt) (s : State) : (s.setPier p x1).free = s.free := rfl
@[simp] theorem State.setPier_out (p : Nat) (x1 : PierSt) (s : State) : (s.setPier p x1).out = s.out := rfl
@[simp] theorem State.setPier_pending (p : Nat) (x1 : PierSt) (s : State) : (s.setPier p x1).pending = s.pending := rfl
@[simp] theorem State.setPier_dsp (p : Nat) (x : PierSt) (s : State) : (s.setPier p x).dsp = { s.dsp with piers := tblSet .idle p x s.dsp.piers } := rfl

/-! ## `State.setGroup` -/

@[simp] theorem State.setGroup_hiu (g : Nat) (x1 : GroupSt) (s : State) : (s.setGroup g x1).hiu = s.hiu := rfl
@[simp] theorem State.setGroup_dsp (g : Nat) (x1 : GroupSt) (s : State) : (s.setGroup g x1).dsp = s.dsp := rfl
@[simp] theorem State.setGroup_deck (g : Nat) (x1 : GroupSt) (s : State) : (s.setGroup g x1).deck = s.deck := rfl
@[simp] theorem State.setGroup_keys (g : Nat) (x1 : GroupSt) (s : State) : (s.setGroup g x1).keys = s.keys := rfl
@[simp] theorem State.setGroup_pay (g : Nat) (x1 : GroupSt) (s : State) : (s.setGroup g x1).pay = s.pay := rfl
@[simp] theorem State.setGroup_eng (g : Nat) (x1 : GroupSt) (s : State) : (s.setGroup g x1).eng = s.eng := rfl
@[simp] theorem State.setGroup_rng (g : Nat) (x1 : GroupSt) (s : State) : (s.setGroup g x1).rng = s.rng := rfl
@[simp] theorem State.setGroup_trs (g : Nat) (x1 : GroupSt) (s : State) : (s.setGroup g x1).trs = s.trs := rfl
@[simp] theorem State.setGroup_mss (g : Nat) (x1 : GroupSt) (s : State) : (s.setGroup g x1).mss = s.mss := rfl
@[simp] theorem State.setGroup_tg (g : Nat) (x1 : GroupSt) (s : State) : (s.setGroup g x1).tg = s.tg := rfl
@[simp] theorem State.setGroup_mi (g : Nat) (x1 : GroupSt) (s : State) : (s.setGroup g x1).mi = s.mi := rfl
@[simp] theorem State.setGroup_par (g : Nat) (x1 : GroupSt) (s : State) : (s.setGroup g x1).par = s.par := rfl
@[simp] theorem State.setGroup_ks (g : Nat) (x1 : GroupSt) (s : State) : (s.setGroup g x1).ks = s.ks := rfl
@[simp] theorem State.setGroup_evr (g : Nat) (x1 : GroupSt) (s : State) : (s.setGroup g x1).evr = s.evr := rfl
@[simp] theorem State.setGroup_anc (g : Nat) (x1 : GroupSt) (s : State) : (s.setGroup g x1).anc = s.anc := rfl
@[simp] theorem State.setGroup_cfg (g : Nat) (x1 : GroupSt) (s : State) : (s.setGroup g x1).cfg = s.cfg := rfl
@[simp] theorem State.setGroup_pwr (g : Nat) (x1 : GroupSt) (s : State) : (s.setGroup g x1).pwr = s.pwr := rfl
@[simp] theorem State.setGroup_boot (g : Nat) (x1 : GroupSt) (s : State) : (s.setGroup g x1).boot = s.boot := rfl
@[simp] theorem State.setGroup_hw (g : Nat) (x1 : GroupSt) (s : State) : (s.setGroup g x1).hw = s.hw := rfl
@[simp] theorem State.setGroup_mem (g : Nat) (x1 : GroupSt) (s : State) : (s.setGroup g x1).mem = s.mem := rfl
@[simp] theorem State.setGroup_now (g : Nat) (x1 : GroupSt) (s : State) : (s.setGroup g x1).now = s.now := rfl
@[simp] theorem State.setGroup_backupUs (g : Nat) (x1 : GroupSt) (s : State) : (s.setGroup g x1).backupUs = s.backupUs := rfl
@[simp] theorem State.setGroup_irq (g : Nat) (x1 : GroupSt) (s : State) : (s.setGroup g x1).irq = s.irq := rfl
@[simp] theorem State.setGroup_free (g : Nat) (x1 : GroupSt) (s : State) : (s.setGroup g x1).free = s.free := rfl
@[simp] theorem State.setGroup_out (g : Nat) (x1 : GroupSt) (s : State) : (s.setGroup g x1).out = s.out := rfl
@[simp] theorem State.setGroup_pending (g : Nat) (x1 : GroupSt) (s : State) : (s.setGroup g x1).pending = s.pending := rfl
@[simp] theorem State.setGroup_clk (g : Nat) (x : GroupSt) (s : State) : (s.setGroup g x).clk = { s.clk with groups := tblSet .powered g x s.clk.groups } := rfl

/-! ## `State.setFence` -/

@[simp] theorem State.setFence_clk (f : Nat) (b : Bool) (s : State) : (s.setFence f b).clk = s.clk := rfl
@[simp] theorem State.setFence_dsp (f : Nat) (b : Bool) (s : State) : (s.setFence f b).dsp = s.dsp := rfl
@[simp] theorem State.setFence_deck (f : Nat) (b : Bool) (s : State) : (s.setFence f b).deck = s.deck := rfl
@[simp] theorem State.setFence_keys (f : Nat) (b : Bool) (s : State) : (s.setFence f b).keys = s.keys := rfl
@[simp] theorem State.setFence_pay (f : Nat) (b : Bool) (s : State) : (s.setFence f b).pay = s.pay := rfl
@[simp] theorem State.setFence_eng (f : Nat) (b : Bool) (s : State) : (s.setFence f b).eng = s.eng := rfl
@[simp] theorem State.setFence_rng (f : Nat) (b : Bool) (s : State) : (s.setFence f b).rng = s.rng := rfl
@[simp] theorem State.setFence_trs (f : Nat) (b : Bool) (s : State) : (s.setFence f b).trs = s.trs := rfl
@[simp] theorem State.setFence_mss (f : Nat) (b : Bool) (s : State) : (s.setFence f b).mss = s.mss := rfl
@[simp] theorem State.setFence_tg (f : Nat) (b : Bool) (s : State) : (s.setFence f b).tg = s.tg := rfl
@[simp] theorem State.setFence_mi (f : Nat) (b : Bool) (s : State) : (s.setFence f b).mi = s.mi := rfl
@[simp] theorem State.setFence_par (f : Nat) (b : Bool) (s : State) : (s.setFence f b).par = s.par := rfl
@[simp] theorem State.setFence_ks (f : Nat) (b : Bool) (s : State) : (s.setFence f b).ks = s.ks := rfl
@[simp] theorem State.setFence_evr (f : Nat) (b : Bool) (s : State) : (s.setFence f b).evr = s.evr := rfl
@[simp] theorem State.setFence_anc (f : Nat) (b : Bool) (s : State) : (s.setFence f b).anc = s.anc := rfl
@[simp] theorem State.setFence_cfg (f : Nat) (b : Bool) (s : State) : (s.setFence f b).cfg = s.cfg := rfl
@[simp] theorem State.setFence_pwr (f : Nat) (b : Bool) (s : State) : (s.setFence f b).pwr = s.pwr := rfl
@[simp] theorem State.setFence_boot (f : Nat) (b : Bool) (s : State) : (s.setFence f b).boot = s.boot := rfl
@[simp] theorem State.setFence_hw (f : Nat) (b : Bool) (s : State) : (s.setFence f b).hw = s.hw := rfl
@[simp] theorem State.setFence_mem (f : Nat) (b : Bool) (s : State) : (s.setFence f b).mem = s.mem := rfl
@[simp] theorem State.setFence_now (f : Nat) (b : Bool) (s : State) : (s.setFence f b).now = s.now := rfl
@[simp] theorem State.setFence_backupUs (f : Nat) (b : Bool) (s : State) : (s.setFence f b).backupUs = s.backupUs := rfl
@[simp] theorem State.setFence_irq (f : Nat) (b : Bool) (s : State) : (s.setFence f b).irq = s.irq := rfl
@[simp] theorem State.setFence_free (f : Nat) (b : Bool) (s : State) : (s.setFence f b).free = s.free := rfl
@[simp] theorem State.setFence_out (f : Nat) (b : Bool) (s : State) : (s.setFence f b).out = s.out := rfl
@[simp] theorem State.setFence_pending (f : Nat) (b : Bool) (s : State) : (s.setFence f b).pending = s.pending := rfl
@[simp] theorem State.setFence_hiu (f : Nat) (b : Bool) (s : State) : (s.setFence f b).hiu = { s.hiu with fence := tblSet false f b s.hiu.fence } := rfl

/-! ## `State.setReady` -/

@[simp] theorem State.setReady_clk (f : Nat) (b : Bool) (s : State) : (s.setReady f b).clk = s.clk := rfl
@[simp] theorem State.setReady_dsp (f : Nat) (b : Bool) (s : State) : (s.setReady f b).dsp = s.dsp := rfl
@[simp] theorem State.setReady_deck (f : Nat) (b : Bool) (s : State) : (s.setReady f b).deck = s.deck := rfl
@[simp] theorem State.setReady_keys (f : Nat) (b : Bool) (s : State) : (s.setReady f b).keys = s.keys := rfl
@[simp] theorem State.setReady_pay (f : Nat) (b : Bool) (s : State) : (s.setReady f b).pay = s.pay := rfl
@[simp] theorem State.setReady_eng (f : Nat) (b : Bool) (s : State) : (s.setReady f b).eng = s.eng := rfl
@[simp] theorem State.setReady_rng (f : Nat) (b : Bool) (s : State) : (s.setReady f b).rng = s.rng := rfl
@[simp] theorem State.setReady_trs (f : Nat) (b : Bool) (s : State) : (s.setReady f b).trs = s.trs := rfl
@[simp] theorem State.setReady_mss (f : Nat) (b : Bool) (s : State) : (s.setReady f b).mss = s.mss := rfl
@[simp] theorem State.setReady_tg (f : Nat) (b : Bool) (s : State) : (s.setReady f b).tg = s.tg := rfl
@[simp] theorem State.setReady_mi (f : Nat) (b : Bool) (s : State) : (s.setReady f b).mi = s.mi := rfl
@[simp] theorem State.setReady_par (f : Nat) (b : Bool) (s : State) : (s.setReady f b).par = s.par := rfl
@[simp] theorem State.setReady_ks (f : Nat) (b : Bool) (s : State) : (s.setReady f b).ks = s.ks := rfl
@[simp] theorem State.setReady_evr (f : Nat) (b : Bool) (s : State) : (s.setReady f b).evr = s.evr := rfl
@[simp] theorem State.setReady_anc (f : Nat) (b : Bool) (s : State) : (s.setReady f b).anc = s.anc := rfl
@[simp] theorem State.setReady_cfg (f : Nat) (b : Bool) (s : State) : (s.setReady f b).cfg = s.cfg := rfl
@[simp] theorem State.setReady_pwr (f : Nat) (b : Bool) (s : State) : (s.setReady f b).pwr = s.pwr := rfl
@[simp] theorem State.setReady_boot (f : Nat) (b : Bool) (s : State) : (s.setReady f b).boot = s.boot := rfl
@[simp] theorem State.setReady_hw (f : Nat) (b : Bool) (s : State) : (s.setReady f b).hw = s.hw := rfl
@[simp] theorem State.setReady_mem (f : Nat) (b : Bool) (s : State) : (s.setReady f b).mem = s.mem := rfl
@[simp] theorem State.setReady_now (f : Nat) (b : Bool) (s : State) : (s.setReady f b).now = s.now := rfl
@[simp] theorem State.setReady_backupUs (f : Nat) (b : Bool) (s : State) : (s.setReady f b).backupUs = s.backupUs := rfl
@[simp] theorem State.setReady_irq (f : Nat) (b : Bool) (s : State) : (s.setReady f b).irq = s.irq := rfl
@[simp] theorem State.setReady_free (f : Nat) (b : Bool) (s : State) : (s.setReady f b).free = s.free := rfl
@[simp] theorem State.setReady_out (f : Nat) (b : Bool) (s : State) : (s.setReady f b).out = s.out := rfl
@[simp] theorem State.setReady_pending (f : Nat) (b : Bool) (s : State) : (s.setReady f b).pending = s.pending := rfl
@[simp] theorem State.setReady_hiu (f : Nat) (b : Bool) (s : State) : (s.setReady f b).hiu = { s.hiu with ready := tblSet false f b s.hiu.ready } := rfl

/-! ## `State.modVfMbx` -/

@[simp] theorem State.modVfMbx_clk (t : Nat) (f : VfMbx → VfMbx) (s : State) : (s.modVfMbx t f).clk = s.clk := rfl
@[simp] theorem State.modVfMbx_hiu (t : Nat) (f : VfMbx → VfMbx) (s : State) : (s.modVfMbx t f).hiu = s.hiu := rfl
@[simp] theorem State.modVfMbx_dsp (t : Nat) (f : VfMbx → VfMbx) (s : State) : (s.modVfMbx t f).dsp = s.dsp := rfl
@[simp] theorem State.modVfMbx_deck (t : Nat) (f : VfMbx → VfMbx) (s : State) : (s.modVfMbx t f).deck = s.deck := rfl
@[simp] theorem State.modVfMbx_keys (t : Nat) (f : VfMbx → VfMbx) (s : State) : (s.modVfMbx t f).keys = s.keys := rfl
@[simp] theorem State.modVfMbx_pay (t : Nat) (f : VfMbx → VfMbx) (s : State) : (s.modVfMbx t f).pay = s.pay := rfl
@[simp] theorem State.modVfMbx_eng (t : Nat) (f : VfMbx → VfMbx) (s : State) : (s.modVfMbx t f).eng = s.eng := rfl
@[simp] theorem State.modVfMbx_rng (t : Nat) (f : VfMbx → VfMbx) (s : State) : (s.modVfMbx t f).rng = s.rng := rfl
@[simp] theorem State.modVfMbx_trs (t : Nat) (f : VfMbx → VfMbx) (s : State) : (s.modVfMbx t f).trs = s.trs := rfl
@[simp] theorem State.modVfMbx_tg (t : Nat) (f : VfMbx → VfMbx) (s : State) : (s.modVfMbx t f).tg = s.tg := rfl
@[simp] theorem State.modVfMbx_mi (t : Nat) (f : VfMbx → VfMbx) (s : State) : (s.modVfMbx t f).mi = s.mi := rfl
@[simp] theorem State.modVfMbx_par (t : Nat) (f : VfMbx → VfMbx) (s : State) : (s.modVfMbx t f).par = s.par := rfl
@[simp] theorem State.modVfMbx_ks (t : Nat) (f : VfMbx → VfMbx) (s : State) : (s.modVfMbx t f).ks = s.ks := rfl
@[simp] theorem State.modVfMbx_evr (t : Nat) (f : VfMbx → VfMbx) (s : State) : (s.modVfMbx t f).evr = s.evr := rfl
@[simp] theorem State.modVfMbx_anc (t : Nat) (f : VfMbx → VfMbx) (s : State) : (s.modVfMbx t f).anc = s.anc := rfl
@[simp] theorem State.modVfMbx_cfg (t : Nat) (f : VfMbx → VfMbx) (s : State) : (s.modVfMbx t f).cfg = s.cfg := rfl
@[simp] theorem State.modVfMbx_pwr (t : Nat) (f : VfMbx → VfMbx) (s : State) : (s.modVfMbx t f).pwr = s.pwr := rfl
@[simp] theorem State.modVfMbx_boot (t : Nat) (f : VfMbx → VfMbx) (s : State) : (s.modVfMbx t f).boot = s.boot := rfl
@[simp] theorem State.modVfMbx_hw (t : Nat) (f : VfMbx → VfMbx) (s : State) : (s.modVfMbx t f).hw = s.hw := rfl
@[simp] theorem State.modVfMbx_mem (t : Nat) (f : VfMbx → VfMbx) (s : State) : (s.modVfMbx t f).mem = s.mem := rfl
@[simp] theorem State.modVfMbx_now (t : Nat) (f : VfMbx → VfMbx) (s : State) : (s.modVfMbx t f).now = s.now := rfl
@[simp] theorem State.modVfMbx_backupUs (t : Nat) (f : VfMbx → VfMbx) (s : State) : (s.modVfMbx t f).backupUs = s.backupUs := rfl
@[simp] theorem State.modVfMbx_irq (t : Nat) (f : VfMbx → VfMbx) (s : State) : (s.modVfMbx t f).irq = s.irq := rfl
@[simp] theorem State.modVfMbx_free (t : Nat) (f : VfMbx → VfMbx) (s : State) : (s.modVfMbx t f).free = s.free := rfl
@[simp] theorem State.modVfMbx_out (t : Nat) (f : VfMbx → VfMbx) (s : State) : (s.modVfMbx t f).out = s.out := rfl
@[simp] theorem State.modVfMbx_pending (t : Nat) (f : VfMbx → VfMbx) (s : State) : (s.modVfMbx t f).pending = s.pending := rfl
@[simp] theorem State.modVfMbx_mss (t : Nat) (f : VfMbx → VfMbx) (s : State) : (s.modVfMbx t f).mss = { s.mss with vf := tblMod {} t f s.mss.vf } := rfl

/-! ## `State.setKeyWord` -/

@[simp] theorem State.setKeyWord_clk (t kid : Nat) (w : DWord) (s : State) : (s.setKeyWord t kid w).clk = s.clk := rfl
@[simp] theorem State.setKeyWord_hiu (t kid : Nat) (w : DWord) (s : State) : (s.setKeyWord t kid w).hiu = s.hiu := rfl
@[simp] theorem State.setKeyWord_dsp (t kid : Nat) (w : DWord) (s : State) : (s.setKeyWord t kid w).dsp = s.dsp := rfl
@[simp] theorem State.setKeyWord_deck (t kid : Nat) (w : DWord) (s : State) : (s.setKeyWord t kid w).deck = s.deck := rfl
@[simp] theorem State.setKeyWord_pay (t kid : Nat) (w : DWord) (s : State) : (s.setKeyWord t kid w).pay = s.pay := rfl
@[simp] theorem State.setKeyWord_eng (t kid : Nat) (w : DWord) (s : State) : (s.setKeyWord t kid w).eng = s.eng := rfl
@[simp] theorem State.setKeyWord_rng (t kid : Nat) (w : DWord) (s : State) : (s.setKeyWord t kid w).rng = s.rng := rfl
@[simp] theorem State.setKeyWord_trs (t kid : Nat) (w : DWord) (s : State) : (s.setKeyWord t kid w).trs = s.trs := rfl
@[simp] theorem State.setKeyWord_mss (t kid : Nat) (w : DWord) (s : State) : (s.setKeyWord t kid w).mss = s.mss := rfl
@[simp] theorem State.setKeyWord_tg (t kid : Nat) (w : DWord) (s : State) : (s.setKeyWord t kid w).tg = s.tg := rfl
@[simp] theorem State.setKeyWord_mi (t kid : Nat) (w : DWord) (s : State) : (s.setKeyWord t kid w).mi = s.mi := rfl
@[simp] theorem State.setKeyWord_par (t kid : Nat) (w : DWord) (s : State) : (s.setKeyWord t kid w).par = s.par := rfl
@[simp] theorem State.setKeyWord_ks (t kid : Nat) (w : DWord) (s : State) : (s.setKeyWord t kid w).ks = s.ks := rfl
@[simp] theorem State.setKeyWord_evr (t kid : Nat) (w : DWord) (s : State) : (s.setKeyWord t kid w).evr = s.evr := rfl
@[simp] theorem State.setKeyWord_anc (t kid : Nat) (w : DWord) (s : State) : (s.setKeyWord t kid w).anc = s.anc := rfl
@[simp] theorem State.setKeyWord_cfg (t kid : Nat) (w : DWord) (s : State) : (s.setKeyWord t kid w).cfg = s.cfg := rfl
@[simp] theorem State.setKeyWord_pwr (t kid : Nat) (w : DWord) (s : State) : (s.setKeyWord t kid w).pwr = s.pwr := rfl
@[simp] theorem State.setKeyWord_boot (t kid : Nat) (w : DWord) (s : State) : (s.setKeyWord t kid w).boot = s.boot := rfl
@[simp] theorem State.setKeyWord_hw (t kid : Nat) (w : DWord) (s : State) : (s.setKeyWord t kid w).hw = s.hw := rfl
@[simp] theorem State.setKeyWord_mem (t kid : Nat) (w : DWord) (s : State) : (s.setKeyWord t kid w).mem = s.mem := rfl
@[simp] theorem State.setKeyWord_now (t kid : Nat) (w : DWord) (s : State) : (s.setKeyWord t kid w).now = s.now := rfl
@[simp] theorem State.setKeyWord_backupUs (t kid : Nat) (w : DWord) (s : State) : (s.setKeyWord t kid w).backupUs = s.backupUs := rfl
@[simp] theorem State.setKeyWord_irq (t kid : Nat) (w : DWord) (s : State) : (s.setKeyWord t kid w).irq = s.irq := rfl
@[simp] theorem State.setKeyWord_free (t kid : Nat) (w : DWord) (s : State) : (s.setKeyWord t kid w).free = s.free := rfl
@[simp] theorem State.setKeyWord_out (t kid : Nat) (w : DWord) (s : State) : (s.setKeyWord t kid w).out = s.out := rfl
@[simp] theorem State.setKeyWord_pending (t kid : Nat) (w : DWord) (s : State) : (s.setKeyWord t kid w).pending = s.pending := rfl
@[simp] theorem State.setKeyWord_keys (t kid : Nat) (w : DWord) (s : State) : (s.setKeyWord t kid w).keys = { s.keys with ket := tblSet 0 (ketKey t kid) w s.keys.ket } := rfl

/-! ## `State.closeSess` -/

@[simp] theorem State.closeSess_clk (k : Nat) (s : State) : (s.closeSess k).clk = s.clk := rfl
@[simp] theorem State.closeSess_hiu (k : Nat) (s : State) : (s.closeSess k).hiu = s.hiu := rfl
@[simp] theorem State.closeSess_dsp (k : Nat) (s : State) : (s.closeSess k).dsp = s.dsp := rfl
@[simp] theorem State.closeSess_deck (k : Nat) (s : State) : (s.closeSess k).deck = s.deck := rfl
@[simp] theorem State.closeSess_keys (k : Nat) (s : State) : (s.closeSess k).keys = s.keys := rfl
@[simp] theorem State.closeSess_eng (k : Nat) (s : State) : (s.closeSess k).eng = s.eng := rfl
@[simp] theorem State.closeSess_rng (k : Nat) (s : State) : (s.closeSess k).rng = s.rng := rfl
@[simp] theorem State.closeSess_trs (k : Nat) (s : State) : (s.closeSess k).trs = s.trs := rfl
@[simp] theorem State.closeSess_mss (k : Nat) (s : State) : (s.closeSess k).mss = s.mss := rfl
@[simp] theorem State.closeSess_tg (k : Nat) (s : State) : (s.closeSess k).tg = s.tg := rfl
@[simp] theorem State.closeSess_mi (k : Nat) (s : State) : (s.closeSess k).mi = s.mi := rfl
@[simp] theorem State.closeSess_par (k : Nat) (s : State) : (s.closeSess k).par = s.par := rfl
@[simp] theorem State.closeSess_ks (k : Nat) (s : State) : (s.closeSess k).ks = s.ks := rfl
@[simp] theorem State.closeSess_evr (k : Nat) (s : State) : (s.closeSess k).evr = s.evr := rfl
@[simp] theorem State.closeSess_anc (k : Nat) (s : State) : (s.closeSess k).anc = s.anc := rfl
@[simp] theorem State.closeSess_cfg (k : Nat) (s : State) : (s.closeSess k).cfg = s.cfg := rfl
@[simp] theorem State.closeSess_pwr (k : Nat) (s : State) : (s.closeSess k).pwr = s.pwr := rfl
@[simp] theorem State.closeSess_boot (k : Nat) (s : State) : (s.closeSess k).boot = s.boot := rfl
@[simp] theorem State.closeSess_hw (k : Nat) (s : State) : (s.closeSess k).hw = s.hw := rfl
@[simp] theorem State.closeSess_mem (k : Nat) (s : State) : (s.closeSess k).mem = s.mem := rfl
@[simp] theorem State.closeSess_now (k : Nat) (s : State) : (s.closeSess k).now = s.now := rfl
@[simp] theorem State.closeSess_backupUs (k : Nat) (s : State) : (s.closeSess k).backupUs = s.backupUs := rfl
@[simp] theorem State.closeSess_irq (k : Nat) (s : State) : (s.closeSess k).irq = s.irq := rfl
@[simp] theorem State.closeSess_free (k : Nat) (s : State) : (s.closeSess k).free = s.free := rfl
@[simp] theorem State.closeSess_out (k : Nat) (s : State) : (s.closeSess k).out = s.out := rfl
@[simp] theorem State.closeSess_pending (k : Nat) (s : State) : (s.closeSess k).pending = s.pending := rfl
@[simp] theorem State.closeSess_pay (k : Nat) (s : State) : (s.closeSess k).pay = { s.pay with sess := tblSet none k none s.pay.sess } := rfl

/-! ## `State.setTestBits` -/

@[simp] theorem State.setTestBits_clk (a : Access) (k : Nat) (s : State) : (s.setTestBits a k).clk = s.clk := rfl
@[simp] theorem State.setTestBits_hiu (a : Access) (k : Nat) (s : State) : (s.setTestBits a k).hiu = s.hiu := rfl
@[simp] theorem State.setTestBits_dsp (a : Access) (k : Nat) (s : State) : (s.setTestBits a k).dsp = s.dsp := rfl
@[simp] theorem State.setTestBits_deck (a : Access) (k : Nat) (s : State) : (s.setTestBits a k).deck = s.deck := rfl
@[simp] theorem State.setTestBits_keys (a : Access) (k : Nat) (s : State) : (s.setTestBits a k).keys = s.keys := rfl
@[simp] theorem State.setTestBits_pay (a : Access) (k : Nat) (s : State) : (s.setTestBits a k).pay = s.pay := rfl
@[simp] theorem State.setTestBits_eng (a : Access) (k : Nat) (s : State) : (s.setTestBits a k).eng = s.eng := rfl
@[simp] theorem State.setTestBits_rng (a : Access) (k : Nat) (s : State) : (s.setTestBits a k).rng = s.rng := rfl
@[simp] theorem State.setTestBits_trs (a : Access) (k : Nat) (s : State) : (s.setTestBits a k).trs = s.trs := rfl
@[simp] theorem State.setTestBits_mss (a : Access) (k : Nat) (s : State) : (s.setTestBits a k).mss = s.mss := rfl
@[simp] theorem State.setTestBits_tg (a : Access) (k : Nat) (s : State) : (s.setTestBits a k).tg = s.tg := rfl
@[simp] theorem State.setTestBits_par (a : Access) (k : Nat) (s : State) : (s.setTestBits a k).par = s.par := rfl
@[simp] theorem State.setTestBits_ks (a : Access) (k : Nat) (s : State) : (s.setTestBits a k).ks = s.ks := rfl
@[simp] theorem State.setTestBits_evr (a : Access) (k : Nat) (s : State) : (s.setTestBits a k).evr = s.evr := rfl
@[simp] theorem State.setTestBits_anc (a : Access) (k : Nat) (s : State) : (s.setTestBits a k).anc = s.anc := rfl
@[simp] theorem State.setTestBits_cfg (a : Access) (k : Nat) (s : State) : (s.setTestBits a k).cfg = s.cfg := rfl
@[simp] theorem State.setTestBits_pwr (a : Access) (k : Nat) (s : State) : (s.setTestBits a k).pwr = s.pwr := rfl
@[simp] theorem State.setTestBits_boot (a : Access) (k : Nat) (s : State) : (s.setTestBits a k).boot = s.boot := rfl
@[simp] theorem State.setTestBits_hw (a : Access) (k : Nat) (s : State) : (s.setTestBits a k).hw = s.hw := rfl
@[simp] theorem State.setTestBits_mem (a : Access) (k : Nat) (s : State) : (s.setTestBits a k).mem = s.mem := rfl
@[simp] theorem State.setTestBits_now (a : Access) (k : Nat) (s : State) : (s.setTestBits a k).now = s.now := rfl
@[simp] theorem State.setTestBits_backupUs (a : Access) (k : Nat) (s : State) : (s.setTestBits a k).backupUs = s.backupUs := rfl
@[simp] theorem State.setTestBits_irq (a : Access) (k : Nat) (s : State) : (s.setTestBits a k).irq = s.irq := rfl
@[simp] theorem State.setTestBits_free (a : Access) (k : Nat) (s : State) : (s.setTestBits a k).free = s.free := rfl
@[simp] theorem State.setTestBits_out (a : Access) (k : Nat) (s : State) : (s.setTestBits a k).out = s.out := rfl
@[simp] theorem State.setTestBits_pending (a : Access) (k : Nat) (s : State) : (s.setTestBits a k).pending = s.pending := rfl

/-! ## `State.dropSlots` -/

@[simp] theorem State.dropSlots_clk (ks : List Nat) (s : State) : (s.dropSlots ks).clk = s.clk := rfl
@[simp] theorem State.dropSlots_hiu (ks : List Nat) (s : State) : (s.dropSlots ks).hiu = s.hiu := rfl
@[simp] theorem State.dropSlots_dsp (ks : List Nat) (s : State) : (s.dropSlots ks).dsp = s.dsp := rfl
@[simp] theorem State.dropSlots_deck (ks : List Nat) (s : State) : (s.dropSlots ks).deck = s.deck := rfl
@[simp] theorem State.dropSlots_pay (ks : List Nat) (s : State) : (s.dropSlots ks).pay = s.pay := rfl
@[simp] theorem State.dropSlots_eng (ks : List Nat) (s : State) : (s.dropSlots ks).eng = s.eng := rfl
@[simp] theorem State.dropSlots_rng (ks : List Nat) (s : State) : (s.dropSlots ks).rng = s.rng := rfl
@[simp] theorem State.dropSlots_trs (ks : List Nat) (s : State) : (s.dropSlots ks).trs = s.trs := rfl
@[simp] theorem State.dropSlots_mss (ks : List Nat) (s : State) : (s.dropSlots ks).mss = s.mss := rfl
@[simp] theorem State.dropSlots_tg (ks : List Nat) (s : State) : (s.dropSlots ks).tg = s.tg := rfl
@[simp] theorem State.dropSlots_mi (ks : List Nat) (s : State) : (s.dropSlots ks).mi = s.mi := rfl
@[simp] theorem State.dropSlots_par (ks : List Nat) (s : State) : (s.dropSlots ks).par = s.par := rfl
@[simp] theorem State.dropSlots_ks (ks : List Nat) (s : State) : (s.dropSlots ks).ks = s.ks := rfl
@[simp] theorem State.dropSlots_evr (ks : List Nat) (s : State) : (s.dropSlots ks).evr = s.evr := rfl
@[simp] theorem State.dropSlots_anc (ks : List Nat) (s : State) : (s.dropSlots ks).anc = s.anc := rfl
@[simp] theorem State.dropSlots_cfg (ks : List Nat) (s : State) : (s.dropSlots ks).cfg = s.cfg := rfl
@[simp] theorem State.dropSlots_pwr (ks : List Nat) (s : State) : (s.dropSlots ks).pwr = s.pwr := rfl
@[simp] theorem State.dropSlots_boot (ks : List Nat) (s : State) : (s.dropSlots ks).boot = s.boot := rfl
@[simp] theorem State.dropSlots_hw (ks : List Nat) (s : State) : (s.dropSlots ks).hw = s.hw := rfl
@[simp] theorem State.dropSlots_mem (ks : List Nat) (s : State) : (s.dropSlots ks).mem = s.mem := rfl
@[simp] theorem State.dropSlots_now (ks : List Nat) (s : State) : (s.dropSlots ks).now = s.now := rfl
@[simp] theorem State.dropSlots_backupUs (ks : List Nat) (s : State) : (s.dropSlots ks).backupUs = s.backupUs := rfl
@[simp] theorem State.dropSlots_irq (ks : List Nat) (s : State) : (s.dropSlots ks).irq = s.irq := rfl
@[simp] theorem State.dropSlots_free (ks : List Nat) (s : State) : (s.dropSlots ks).free = s.free := rfl
@[simp] theorem State.dropSlots_out (ks : List Nat) (s : State) : (s.dropSlots ks).out = s.out := rfl
@[simp] theorem State.dropSlots_pending (ks : List Nat) (s : State) : (s.dropSlots ks).pending = s.pending := rfl
@[simp] theorem State.dropSlots_keys (ks : List Nat) (s : State) : (s.dropSlots ks).keys = { s.keys with t1 := ks.foldl unpinSlot s.keys.t1 } := rfl

/-! ## `State.unpin` -/

@[simp] theorem State.unpin_clk (bs : List Bind) (s : State) : (s.unpin bs).clk = s.clk := rfl
@[simp] theorem State.unpin_hiu (bs : List Bind) (s : State) : (s.unpin bs).hiu = s.hiu := rfl
@[simp] theorem State.unpin_dsp (bs : List Bind) (s : State) : (s.unpin bs).dsp = s.dsp := rfl
@[simp] theorem State.unpin_deck (bs : List Bind) (s : State) : (s.unpin bs).deck = s.deck := rfl
@[simp] theorem State.unpin_pay (bs : List Bind) (s : State) : (s.unpin bs).pay = s.pay := rfl
@[simp] theorem State.unpin_eng (bs : List Bind) (s : State) : (s.unpin bs).eng = s.eng := rfl
@[simp] theorem State.unpin_rng (bs : List Bind) (s : State) : (s.unpin bs).rng = s.rng := rfl
@[simp] theorem State.unpin_trs (bs : List Bind) (s : State) : (s.unpin bs).trs = s.trs := rfl
@[simp] theorem State.unpin_mss (bs : List Bind) (s : State) : (s.unpin bs).mss = s.mss := rfl
@[simp] theorem State.unpin_tg (bs : List Bind) (s : State) : (s.unpin bs).tg = s.tg := rfl
@[simp] theorem State.unpin_mi (bs : List Bind) (s : State) : (s.unpin bs).mi = s.mi := rfl
@[simp] theorem State.unpin_par (bs : List Bind) (s : State) : (s.unpin bs).par = s.par := rfl
@[simp] theorem State.unpin_ks (bs : List Bind) (s : State) : (s.unpin bs).ks = s.ks := rfl
@[simp] theorem State.unpin_evr (bs : List Bind) (s : State) : (s.unpin bs).evr = s.evr := rfl
@[simp] theorem State.unpin_anc (bs : List Bind) (s : State) : (s.unpin bs).anc = s.anc := rfl
@[simp] theorem State.unpin_cfg (bs : List Bind) (s : State) : (s.unpin bs).cfg = s.cfg := rfl
@[simp] theorem State.unpin_pwr (bs : List Bind) (s : State) : (s.unpin bs).pwr = s.pwr := rfl
@[simp] theorem State.unpin_boot (bs : List Bind) (s : State) : (s.unpin bs).boot = s.boot := rfl
@[simp] theorem State.unpin_hw (bs : List Bind) (s : State) : (s.unpin bs).hw = s.hw := rfl
@[simp] theorem State.unpin_mem (bs : List Bind) (s : State) : (s.unpin bs).mem = s.mem := rfl
@[simp] theorem State.unpin_now (bs : List Bind) (s : State) : (s.unpin bs).now = s.now := rfl
@[simp] theorem State.unpin_backupUs (bs : List Bind) (s : State) : (s.unpin bs).backupUs = s.backupUs := rfl
@[simp] theorem State.unpin_irq (bs : List Bind) (s : State) : (s.unpin bs).irq = s.irq := rfl
@[simp] theorem State.unpin_free (bs : List Bind) (s : State) : (s.unpin bs).free = s.free := rfl
@[simp] theorem State.unpin_out (bs : List Bind) (s : State) : (s.unpin bs).out = s.out := rfl
@[simp] theorem State.unpin_pending (bs : List Bind) (s : State) : (s.unpin bs).pending = s.pending := rfl

/-! ## `State.ksClear` -/

@[simp] theorem State.ksClear_clk (s : State) : (s.ksClear).clk = s.clk := rfl
@[simp] theorem State.ksClear_hiu (s : State) : (s.ksClear).hiu = s.hiu := rfl
@[simp] theorem State.ksClear_dsp (s : State) : (s.ksClear).dsp = s.dsp := rfl
@[simp] theorem State.ksClear_deck (s : State) : (s.ksClear).deck = s.deck := rfl
@[simp] theorem State.ksClear_keys (s : State) : (s.ksClear).keys = s.keys := rfl
@[simp] theorem State.ksClear_pay (s : State) : (s.ksClear).pay = s.pay := rfl
@[simp] theorem State.ksClear_eng (s : State) : (s.ksClear).eng = s.eng := rfl
@[simp] theorem State.ksClear_rng (s : State) : (s.ksClear).rng = s.rng := rfl
@[simp] theorem State.ksClear_trs (s : State) : (s.ksClear).trs = s.trs := rfl
@[simp] theorem State.ksClear_mss (s : State) : (s.ksClear).mss = s.mss := rfl
@[simp] theorem State.ksClear_tg (s : State) : (s.ksClear).tg = s.tg := rfl
@[simp] theorem State.ksClear_mi (s : State) : (s.ksClear).mi = s.mi := rfl
@[simp] theorem State.ksClear_par (s : State) : (s.ksClear).par = s.par := rfl
@[simp] theorem State.ksClear_evr (s : State) : (s.ksClear).evr = s.evr := rfl
@[simp] theorem State.ksClear_anc (s : State) : (s.ksClear).anc = s.anc := rfl
@[simp] theorem State.ksClear_cfg (s : State) : (s.ksClear).cfg = s.cfg := rfl
@[simp] theorem State.ksClear_pwr (s : State) : (s.ksClear).pwr = s.pwr := rfl
@[simp] theorem State.ksClear_boot (s : State) : (s.ksClear).boot = s.boot := rfl
@[simp] theorem State.ksClear_hw (s : State) : (s.ksClear).hw = s.hw := rfl
@[simp] theorem State.ksClear_mem (s : State) : (s.ksClear).mem = s.mem := rfl
@[simp] theorem State.ksClear_now (s : State) : (s.ksClear).now = s.now := rfl
@[simp] theorem State.ksClear_backupUs (s : State) : (s.ksClear).backupUs = s.backupUs := rfl
@[simp] theorem State.ksClear_irq (s : State) : (s.ksClear).irq = s.irq := rfl
@[simp] theorem State.ksClear_free (s : State) : (s.ksClear).free = s.free := rfl
@[simp] theorem State.ksClear_out (s : State) : (s.ksClear).out = s.out := rfl
@[simp] theorem State.ksClear_pending (s : State) : (s.ksClear).pending = s.pending := rfl
@[simp] theorem State.ksClear_ks (s : State) : s.ksClear.ks = { s.ks with drk := 0, integrity := 0, loaded := false } := rfl

/-! ## `State.takeInbox` -/

@[simp] theorem State.takeInbox_clk (typ : Nat) (tag : Word) (s : State) : (s.takeInbox typ tag).clk = s.clk := rfl
@[simp] theorem State.takeInbox_hiu (typ : Nat) (tag : Word) (s : State) : (s.takeInbox typ tag).hiu = s.hiu := rfl
@[simp] theorem State.takeInbox_dsp (typ : Nat) (tag : Word) (s : State) : (s.takeInbox typ tag).dsp = s.dsp := rfl
@[simp] theorem State.takeInbox_deck (typ : Nat) (tag : Word) (s : State) : (s.takeInbox typ tag).deck = s.deck := rfl
@[simp] theorem State.takeInbox_keys (typ : Nat) (tag : Word) (s : State) : (s.takeInbox typ tag).keys = s.keys := rfl
@[simp] theorem State.takeInbox_pay (typ : Nat) (tag : Word) (s : State) : (s.takeInbox typ tag).pay = s.pay := rfl
@[simp] theorem State.takeInbox_eng (typ : Nat) (tag : Word) (s : State) : (s.takeInbox typ tag).eng = s.eng := rfl
@[simp] theorem State.takeInbox_rng (typ : Nat) (tag : Word) (s : State) : (s.takeInbox typ tag).rng = s.rng := rfl
@[simp] theorem State.takeInbox_trs (typ : Nat) (tag : Word) (s : State) : (s.takeInbox typ tag).trs = s.trs := rfl
@[simp] theorem State.takeInbox_tg (typ : Nat) (tag : Word) (s : State) : (s.takeInbox typ tag).tg = s.tg := rfl
@[simp] theorem State.takeInbox_mi (typ : Nat) (tag : Word) (s : State) : (s.takeInbox typ tag).mi = s.mi := rfl
@[simp] theorem State.takeInbox_par (typ : Nat) (tag : Word) (s : State) : (s.takeInbox typ tag).par = s.par := rfl
@[simp] theorem State.takeInbox_ks (typ : Nat) (tag : Word) (s : State) : (s.takeInbox typ tag).ks = s.ks := rfl
@[simp] theorem State.takeInbox_evr (typ : Nat) (tag : Word) (s : State) : (s.takeInbox typ tag).evr = s.evr := rfl
@[simp] theorem State.takeInbox_anc (typ : Nat) (tag : Word) (s : State) : (s.takeInbox typ tag).anc = s.anc := rfl
@[simp] theorem State.takeInbox_cfg (typ : Nat) (tag : Word) (s : State) : (s.takeInbox typ tag).cfg = s.cfg := rfl
@[simp] theorem State.takeInbox_pwr (typ : Nat) (tag : Word) (s : State) : (s.takeInbox typ tag).pwr = s.pwr := rfl
@[simp] theorem State.takeInbox_boot (typ : Nat) (tag : Word) (s : State) : (s.takeInbox typ tag).boot = s.boot := rfl
@[simp] theorem State.takeInbox_hw (typ : Nat) (tag : Word) (s : State) : (s.takeInbox typ tag).hw = s.hw := rfl
@[simp] theorem State.takeInbox_mem (typ : Nat) (tag : Word) (s : State) : (s.takeInbox typ tag).mem = s.mem := rfl
@[simp] theorem State.takeInbox_now (typ : Nat) (tag : Word) (s : State) : (s.takeInbox typ tag).now = s.now := rfl
@[simp] theorem State.takeInbox_backupUs (typ : Nat) (tag : Word) (s : State) : (s.takeInbox typ tag).backupUs = s.backupUs := rfl
@[simp] theorem State.takeInbox_irq (typ : Nat) (tag : Word) (s : State) : (s.takeInbox typ tag).irq = s.irq := rfl
@[simp] theorem State.takeInbox_free (typ : Nat) (tag : Word) (s : State) : (s.takeInbox typ tag).free = s.free := rfl
@[simp] theorem State.takeInbox_out (typ : Nat) (tag : Word) (s : State) : (s.takeInbox typ tag).out = s.out := rfl
@[simp] theorem State.takeInbox_pending (typ : Nat) (tag : Word) (s : State) : (s.takeInbox typ tag).pending = s.pending := rfl

/-! ## `State.cfgDigest` -/

@[simp] theorem State.cfgDigest_clk (b : Bytes) (s : State) : (s.cfgDigest b).clk = s.clk := rfl
@[simp] theorem State.cfgDigest_hiu (b : Bytes) (s : State) : (s.cfgDigest b).hiu = s.hiu := rfl
@[simp] theorem State.cfgDigest_dsp (b : Bytes) (s : State) : (s.cfgDigest b).dsp = s.dsp := rfl
@[simp] theorem State.cfgDigest_deck (b : Bytes) (s : State) : (s.cfgDigest b).deck = s.deck := rfl
@[simp] theorem State.cfgDigest_keys (b : Bytes) (s : State) : (s.cfgDigest b).keys = s.keys := rfl
@[simp] theorem State.cfgDigest_pay (b : Bytes) (s : State) : (s.cfgDigest b).pay = s.pay := rfl
@[simp] theorem State.cfgDigest_eng (b : Bytes) (s : State) : (s.cfgDigest b).eng = s.eng := rfl
@[simp] theorem State.cfgDigest_rng (b : Bytes) (s : State) : (s.cfgDigest b).rng = s.rng := rfl
@[simp] theorem State.cfgDigest_trs (b : Bytes) (s : State) : (s.cfgDigest b).trs = s.trs := rfl
@[simp] theorem State.cfgDigest_mss (b : Bytes) (s : State) : (s.cfgDigest b).mss = s.mss := rfl
@[simp] theorem State.cfgDigest_tg (b : Bytes) (s : State) : (s.cfgDigest b).tg = s.tg := rfl
@[simp] theorem State.cfgDigest_mi (b : Bytes) (s : State) : (s.cfgDigest b).mi = s.mi := rfl
@[simp] theorem State.cfgDigest_par (b : Bytes) (s : State) : (s.cfgDigest b).par = s.par := rfl
@[simp] theorem State.cfgDigest_ks (b : Bytes) (s : State) : (s.cfgDigest b).ks = s.ks := rfl
@[simp] theorem State.cfgDigest_evr (b : Bytes) (s : State) : (s.cfgDigest b).evr = s.evr := rfl
@[simp] theorem State.cfgDigest_anc (b : Bytes) (s : State) : (s.cfgDigest b).anc = s.anc := rfl
@[simp] theorem State.cfgDigest_pwr (b : Bytes) (s : State) : (s.cfgDigest b).pwr = s.pwr := rfl
@[simp] theorem State.cfgDigest_boot (b : Bytes) (s : State) : (s.cfgDigest b).boot = s.boot := rfl
@[simp] theorem State.cfgDigest_hw (b : Bytes) (s : State) : (s.cfgDigest b).hw = s.hw := rfl
@[simp] theorem State.cfgDigest_mem (b : Bytes) (s : State) : (s.cfgDigest b).mem = s.mem := rfl
@[simp] theorem State.cfgDigest_now (b : Bytes) (s : State) : (s.cfgDigest b).now = s.now := rfl
@[simp] theorem State.cfgDigest_backupUs (b : Bytes) (s : State) : (s.cfgDigest b).backupUs = s.backupUs := rfl
@[simp] theorem State.cfgDigest_irq (b : Bytes) (s : State) : (s.cfgDigest b).irq = s.irq := rfl
@[simp] theorem State.cfgDigest_free (b : Bytes) (s : State) : (s.cfgDigest b).free = s.free := rfl
@[simp] theorem State.cfgDigest_out (b : Bytes) (s : State) : (s.cfgDigest b).out = s.out := rfl
@[simp] theorem State.cfgDigest_pending (b : Bytes) (s : State) : (s.cfgDigest b).pending = s.pending := rfl

/-! ## A fold of updates -/

/-- What every update of a fold leaves alone, the fold leaves alone. -/
theorem foldl_keep {α β : Type} (g : State → β) (f : State → α → State) (l : List α) (s : State) (h : ∀ s a, g (f s a) = g s) :
    g (l.foldl f s) = g s := by
  induction l generalizing s with
  | nil => rfl
  | cons a l ih => rw [List.foldl_cons, ih, h]

@[simp] theorem foldl_clk {α : Type} (f : State → α → State) (l : List α) (s : State) (h : ∀ s a, (f s a).clk = s.clk) :
    (l.foldl f s).clk = s.clk := foldl_keep State.clk f l s h
@[simp] theorem foldl_hiu {α : Type} (f : State → α → State) (l : List α) (s : State) (h : ∀ s a, (f s a).hiu = s.hiu) :
    (l.foldl f s).hiu = s.hiu := foldl_keep State.hiu f l s h
@[simp] theorem foldl_dsp {α : Type} (f : State → α → State) (l : List α) (s : State) (h : ∀ s a, (f s a).dsp = s.dsp) :
    (l.foldl f s).dsp = s.dsp := foldl_keep State.dsp f l s h
@[simp] theorem foldl_deck {α : Type} (f : State → α → State) (l : List α) (s : State) (h : ∀ s a, (f s a).deck = s.deck) :
    (l.foldl f s).deck = s.deck := foldl_keep State.deck f l s h
@[simp] theorem foldl_keys {α : Type} (f : State → α → State) (l : List α) (s : State) (h : ∀ s a, (f s a).keys = s.keys) :
    (l.foldl f s).keys = s.keys := foldl_keep State.keys f l s h
@[simp] theorem foldl_pay {α : Type} (f : State → α → State) (l : List α) (s : State) (h : ∀ s a, (f s a).pay = s.pay) :
    (l.foldl f s).pay = s.pay := foldl_keep State.pay f l s h
@[simp] theorem foldl_eng {α : Type} (f : State → α → State) (l : List α) (s : State) (h : ∀ s a, (f s a).eng = s.eng) :
    (l.foldl f s).eng = s.eng := foldl_keep State.eng f l s h
@[simp] theorem foldl_rng {α : Type} (f : State → α → State) (l : List α) (s : State) (h : ∀ s a, (f s a).rng = s.rng) :
    (l.foldl f s).rng = s.rng := foldl_keep State.rng f l s h
@[simp] theorem foldl_trs {α : Type} (f : State → α → State) (l : List α) (s : State) (h : ∀ s a, (f s a).trs = s.trs) :
    (l.foldl f s).trs = s.trs := foldl_keep State.trs f l s h
@[simp] theorem foldl_mss {α : Type} (f : State → α → State) (l : List α) (s : State) (h : ∀ s a, (f s a).mss = s.mss) :
    (l.foldl f s).mss = s.mss := foldl_keep State.mss f l s h
@[simp] theorem foldl_tg {α : Type} (f : State → α → State) (l : List α) (s : State) (h : ∀ s a, (f s a).tg = s.tg) :
    (l.foldl f s).tg = s.tg := foldl_keep State.tg f l s h
@[simp] theorem foldl_mi {α : Type} (f : State → α → State) (l : List α) (s : State) (h : ∀ s a, (f s a).mi = s.mi) :
    (l.foldl f s).mi = s.mi := foldl_keep State.mi f l s h
@[simp] theorem foldl_par {α : Type} (f : State → α → State) (l : List α) (s : State) (h : ∀ s a, (f s a).par = s.par) :
    (l.foldl f s).par = s.par := foldl_keep State.par f l s h
@[simp] theorem foldl_ks {α : Type} (f : State → α → State) (l : List α) (s : State) (h : ∀ s a, (f s a).ks = s.ks) :
    (l.foldl f s).ks = s.ks := foldl_keep State.ks f l s h
@[simp] theorem foldl_evr {α : Type} (f : State → α → State) (l : List α) (s : State) (h : ∀ s a, (f s a).evr = s.evr) :
    (l.foldl f s).evr = s.evr := foldl_keep State.evr f l s h
@[simp] theorem foldl_anc {α : Type} (f : State → α → State) (l : List α) (s : State) (h : ∀ s a, (f s a).anc = s.anc) :
    (l.foldl f s).anc = s.anc := foldl_keep State.anc f l s h
@[simp] theorem foldl_cfg {α : Type} (f : State → α → State) (l : List α) (s : State) (h : ∀ s a, (f s a).cfg = s.cfg) :
    (l.foldl f s).cfg = s.cfg := foldl_keep State.cfg f l s h
@[simp] theorem foldl_pwr {α : Type} (f : State → α → State) (l : List α) (s : State) (h : ∀ s a, (f s a).pwr = s.pwr) :
    (l.foldl f s).pwr = s.pwr := foldl_keep State.pwr f l s h
@[simp] theorem foldl_boot {α : Type} (f : State → α → State) (l : List α) (s : State) (h : ∀ s a, (f s a).boot = s.boot) :
    (l.foldl f s).boot = s.boot := foldl_keep State.boot f l s h
@[simp] theorem foldl_hw {α : Type} (f : State → α → State) (l : List α) (s : State) (h : ∀ s a, (f s a).hw = s.hw) :
    (l.foldl f s).hw = s.hw := foldl_keep State.hw f l s h
@[simp] theorem foldl_mem {α : Type} (f : State → α → State) (l : List α) (s : State) (h : ∀ s a, (f s a).mem = s.mem) :
    (l.foldl f s).mem = s.mem := foldl_keep State.mem f l s h
@[simp] theorem foldl_now {α : Type} (f : State → α → State) (l : List α) (s : State) (h : ∀ s a, (f s a).now = s.now) :
    (l.foldl f s).now = s.now := foldl_keep State.now f l s h
@[simp] theorem foldl_backupUs {α : Type} (f : State → α → State) (l : List α) (s : State) (h : ∀ s a, (f s a).backupUs = s.backupUs) :
    (l.foldl f s).backupUs = s.backupUs := foldl_keep State.backupUs f l s h
@[simp] theorem foldl_irq {α : Type} (f : State → α → State) (l : List α) (s : State) (h : ∀ s a, (f s a).irq = s.irq) :
    (l.foldl f s).irq = s.irq := foldl_keep State.irq f l s h
@[simp] theorem foldl_free {α : Type} (f : State → α → State) (l : List α) (s : State) (h : ∀ s a, (f s a).free = s.free) :
    (l.foldl f s).free = s.free := foldl_keep State.free f l s h
@[simp] theorem foldl_out {α : Type} (f : State → α → State) (l : List α) (s : State) (h : ∀ s a, (f s a).out = s.out) :
    (l.foldl f s).out = s.out := foldl_keep State.out f l s h
@[simp] theorem foldl_pending {α : Type} (f : State → α → State) (l : List α) (s : State) (h : ∀ s a, (f s a).pending = s.pending) :
    (l.foldl f s).pending = s.pending := foldl_keep State.pending f l s h

end Sys2Proof.Machine
end

