-- ==== Sys2Proof/Laws/Ops.lean ====
section
/-! SUPPORT. What the operations that several units share leave alone: one lemma for each, a conjunction over the fields of the state
that it never changes, each of which is a rewriting rule. -/

namespace Sys2Proof.Machine

set_option Elab.async false
set_option linter.unusedTactic false
set_option linter.unnecessarySeqFocus false
set_option linter.unreachableTactic false

@[simp] theorem State.msix_keeps (fn vec : Nat) (s : State) :
    (s.msix fn vec).clk = s.clk ∧ (s.msix fn vec).dsp = s.dsp ∧ (s.msix fn vec).deck = s.deck ∧ (s.msix fn vec).keys = s.keys ∧
    (s.msix fn vec).pay = s.pay ∧ (s.msix fn vec).eng = s.eng ∧ (s.msix fn vec).rng = s.rng ∧ (s.msix fn vec).trs = s.trs ∧
    (s.msix fn vec).mss = s.mss ∧ (s.msix fn vec).tg = s.tg ∧ (s.msix fn vec).mi = s.mi ∧ (s.msix fn vec).par = s.par ∧
    (s.msix fn vec).ks = s.ks ∧ (s.msix fn vec).evr = s.evr ∧ (s.msix fn vec).anc = s.anc ∧ (s.msix fn vec).cfg = s.cfg ∧
    (s.msix fn vec).pwr = s.pwr ∧ (s.msix fn vec).boot = s.boot ∧ (s.msix fn vec).hw = s.hw ∧ (s.msix fn vec).mem = s.mem ∧
    (s.msix fn vec).now = s.now ∧ (s.msix fn vec).backupUs = s.backupUs ∧ (s.msix fn vec).irq = s.irq ∧ (s.msix fn vec).free = s.free ∧
    (s.msix fn vec).pending = s.pending := by
  simp only [State.msix]
  (repeat' split) <;> simp

@[simp] theorem State.tnEvent_keeps (t : Nat) (bits : BitVec 3) (s : State) :
    (s.tnEvent t bits).clk = s.clk ∧ (s.tnEvent t bits).dsp = s.dsp ∧ (s.tnEvent t bits).deck = s.deck ∧ (s.tnEvent t bits).keys = s.keys ∧
    (s.tnEvent t bits).pay = s.pay ∧ (s.tnEvent t bits).eng = s.eng ∧ (s.tnEvent t bits).rng = s.rng ∧ (s.tnEvent t bits).trs = s.trs ∧
    (s.tnEvent t bits).mss = s.mss ∧ (s.tnEvent t bits).tg = s.tg ∧ (s.tnEvent t bits).mi = s.mi ∧ (s.tnEvent t bits).par = s.par ∧
    (s.tnEvent t bits).ks = s.ks ∧ (s.tnEvent t bits).evr = s.evr ∧ (s.tnEvent t bits).anc = s.anc ∧ (s.tnEvent t bits).cfg = s.cfg ∧
    (s.tnEvent t bits).pwr = s.pwr ∧ (s.tnEvent t bits).boot = s.boot ∧ (s.tnEvent t bits).hw = s.hw ∧ (s.tnEvent t bits).mem = s.mem ∧
    (s.tnEvent t bits).now = s.now ∧ (s.tnEvent t bits).backupUs = s.backupUs ∧ (s.tnEvent t bits).irq = s.irq ∧ (s.tnEvent t bits).free = s.free ∧
    (s.tnEvent t bits).pending = s.pending := by
  simp only [State.tnEvent]
  (repeat' split) <;> simp

@[simp] theorem State.ancError_keeps (bits : BitVec 3) (w : Nat) (s : State) :
    (s.ancError bits w).clk = s.clk ∧ (s.ancError bits w).hiu = s.hiu ∧ (s.ancError bits w).dsp = s.dsp ∧ (s.ancError bits w).deck = s.deck ∧
    (s.ancError bits w).keys = s.keys ∧ (s.ancError bits w).pay = s.pay ∧ (s.ancError bits w).eng = s.eng ∧ (s.ancError bits w).rng = s.rng ∧
    (s.ancError bits w).trs = s.trs ∧ (s.ancError bits w).mss = s.mss ∧ (s.ancError bits w).tg = s.tg ∧ (s.ancError bits w).mi = s.mi ∧
    (s.ancError bits w).par = s.par ∧ (s.ancError bits w).ks = s.ks ∧ (s.ancError bits w).evr = s.evr ∧ (s.ancError bits w).cfg = s.cfg ∧
    (s.ancError bits w).boot = s.boot ∧ (s.ancError bits w).hw = s.hw ∧ (s.ancError bits w).mem = s.mem ∧ (s.ancError bits w).now = s.now ∧
    (s.ancError bits w).backupUs = s.backupUs ∧ (s.ancError bits w).free = s.free ∧ (s.ancError bits w).out = s.out ∧ (s.ancError bits w).pending = s.pending := by
  simp only [State.ancError]
  (repeat' split) <;> simp

@[simp] theorem State.nrgEvent_keeps (bits : BitVec 4) (s : State) :
    (s.nrgEvent bits).clk = s.clk ∧ (s.nrgEvent bits).dsp = s.dsp ∧ (s.nrgEvent bits).deck = s.deck ∧ (s.nrgEvent bits).keys = s.keys ∧
    (s.nrgEvent bits).pay = s.pay ∧ (s.nrgEvent bits).eng = s.eng ∧ (s.nrgEvent bits).rng = s.rng ∧ (s.nrgEvent bits).trs = s.trs ∧
    (s.nrgEvent bits).mss = s.mss ∧ (s.nrgEvent bits).tg = s.tg ∧ (s.nrgEvent bits).mi = s.mi ∧ (s.nrgEvent bits).par = s.par ∧
    (s.nrgEvent bits).ks = s.ks ∧ (s.nrgEvent bits).evr = s.evr ∧ (s.nrgEvent bits).anc = s.anc ∧ (s.nrgEvent bits).cfg = s.cfg ∧
    (s.nrgEvent bits).boot = s.boot ∧ (s.nrgEvent bits).hw = s.hw ∧ (s.nrgEvent bits).mem = s.mem ∧ (s.nrgEvent bits).now = s.now ∧
    (s.nrgEvent bits).backupUs = s.backupUs ∧ (s.nrgEvent bits).free = s.free ∧ (s.nrgEvent bits).pending = s.pending := by
  simp only [State.nrgEvent]
  (repeat' split) <;> simp

@[simp] theorem State.evrEvent_keeps (bits : BitVec 5) (s : State) :
    (s.evrEvent bits).clk = s.clk ∧ (s.evrEvent bits).dsp = s.dsp ∧ (s.evrEvent bits).deck = s.deck ∧ (s.evrEvent bits).keys = s.keys ∧
    (s.evrEvent bits).pay = s.pay ∧ (s.evrEvent bits).eng = s.eng ∧ (s.evrEvent bits).rng = s.rng ∧ (s.evrEvent bits).trs = s.trs ∧
    (s.evrEvent bits).mss = s.mss ∧ (s.evrEvent bits).tg = s.tg ∧ (s.evrEvent bits).mi = s.mi ∧ (s.evrEvent bits).par = s.par ∧
    (s.evrEvent bits).ks = s.ks ∧ (s.evrEvent bits).anc = s.anc ∧ (s.evrEvent bits).cfg = s.cfg ∧ (s.evrEvent bits).boot = s.boot ∧
    (s.evrEvent bits).hw = s.hw ∧ (s.evrEvent bits).mem = s.mem ∧ (s.evrEvent bits).now = s.now ∧ (s.evrEvent bits).backupUs = s.backupUs ∧
    (s.evrEvent bits).free = s.free ∧ (s.evrEvent bits).pending = s.pending := by
  simp only [State.evrEvent]
  (repeat' split) <;> simp

@[simp] theorem State.evrDrop_keeps (s : State) :
    (s.evrDrop).clk = s.clk ∧ (s.evrDrop).dsp = s.dsp ∧ (s.evrDrop).deck = s.deck ∧ (s.evrDrop).keys = s.keys ∧
    (s.evrDrop).pay = s.pay ∧ (s.evrDrop).eng = s.eng ∧ (s.evrDrop).rng = s.rng ∧ (s.evrDrop).trs = s.trs ∧
    (s.evrDrop).mss = s.mss ∧ (s.evrDrop).tg = s.tg ∧ (s.evrDrop).mi = s.mi ∧ (s.evrDrop).par = s.par ∧
    (s.evrDrop).ks = s.ks ∧ (s.evrDrop).anc = s.anc ∧ (s.evrDrop).cfg = s.cfg ∧ (s.evrDrop).boot = s.boot ∧
    (s.evrDrop).hw = s.hw ∧ (s.evrDrop).mem = s.mem ∧ (s.evrDrop).now = s.now ∧ (s.evrDrop).backupUs = s.backupUs ∧
    (s.evrDrop).free = s.free ∧ (s.evrDrop).pending = s.pending := by
  simp only [State.evrDrop]
  (repeat' split) <;> simp

@[simp] theorem State.offer_keeps (o : Offer) (s : State) :
    (s.offer o).clk = s.clk ∧ (s.offer o).dsp = s.dsp ∧ (s.offer o).deck = s.deck ∧ (s.offer o).keys = s.keys ∧
    (s.offer o).pay = s.pay ∧ (s.offer o).eng = s.eng ∧ (s.offer o).rng = s.rng ∧ (s.offer o).trs = s.trs ∧
    (s.offer o).mss = s.mss ∧ (s.offer o).tg = s.tg ∧ (s.offer o).mi = s.mi ∧ (s.offer o).par = s.par ∧
    (s.offer o).ks = s.ks ∧ (s.offer o).anc = s.anc ∧ (s.offer o).cfg = s.cfg ∧ (s.offer o).boot = s.boot ∧
    (s.offer o).hw = s.hw ∧ (s.offer o).mem = s.mem ∧ (s.offer o).now = s.now ∧ (s.offer o).backupUs = s.backupUs ∧
    (s.offer o).free = s.free ∧ (s.offer o).pending = s.pending := by
  simp only [State.offer]
  (repeat' split) <;> simp

@[simp] theorem State.event_keeps (src code p0 p1 p2 p3 : Nat) (s : State) :
    (s.event src code p0 p1 p2 p3).clk = s.clk ∧ (s.event src code p0 p1 p2 p3).dsp = s.dsp ∧ (s.event src code p0 p1 p2 p3).deck = s.deck ∧ (s.event src code p0 p1 p2 p3).keys = s.keys ∧
    (s.event src code p0 p1 p2 p3).pay = s.pay ∧ (s.event src code p0 p1 p2 p3).eng = s.eng ∧ (s.event src code p0 p1 p2 p3).rng = s.rng ∧ (s.event src code p0 p1 p2 p3).trs = s.trs ∧
    (s.event src code p0 p1 p2 p3).mss = s.mss ∧ (s.event src code p0 p1 p2 p3).tg = s.tg ∧ (s.event src code p0 p1 p2 p3).mi = s.mi ∧ (s.event src code p0 p1 p2 p3).par = s.par ∧
    (s.event src code p0 p1 p2 p3).ks = s.ks ∧ (s.event src code p0 p1 p2 p3).anc = s.anc ∧ (s.event src code p0 p1 p2 p3).cfg = s.cfg ∧ (s.event src code p0 p1 p2 p3).boot = s.boot ∧
    (s.event src code p0 p1 p2 p3).hw = s.hw ∧ (s.event src code p0 p1 p2 p3).mem = s.mem ∧ (s.event src code p0 p1 p2 p3).now = s.now ∧ (s.event src code p0 p1 p2 p3).backupUs = s.backupUs ∧
    (s.event src code p0 p1 p2 p3).free = s.free ∧ (s.event src code p0 p1 p2 p3).pending = s.pending := by
  simp only [State.event]
  (repeat' split) <;> simp

@[simp] theorem State.advance_keeps (t : Nat) (s : State) :
    (s.advance t).clk = s.clk ∧ (s.advance t).hiu = s.hiu ∧ (s.advance t).dsp = s.dsp ∧ (s.advance t).deck = s.deck ∧
    (s.advance t).keys = s.keys ∧ (s.advance t).pay = s.pay ∧ (s.advance t).eng = s.eng ∧ (s.advance t).rng = s.rng ∧
    (s.advance t).trs = s.trs ∧ (s.advance t).mss = s.mss ∧ (s.advance t).tg = s.tg ∧ (s.advance t).mi = s.mi ∧
    (s.advance t).par = s.par ∧ (s.advance t).ks = s.ks ∧ (s.advance t).evr = s.evr ∧ (s.advance t).anc = s.anc ∧
    (s.advance t).cfg = s.cfg ∧ (s.advance t).pwr = s.pwr ∧ (s.advance t).boot = s.boot ∧ (s.advance t).hw = s.hw ∧
    (s.advance t).mem = s.mem ∧ (s.advance t).irq = s.irq ∧ (s.advance t).free = s.free ∧ (s.advance t).out = s.out ∧
    (s.advance t).pending = s.pending := by
  simp only [State.advance]
  (repeat' split) <;> simp

@[simp] theorem State.refuse_keeps (c : Nat) (s : State) :
    (s.refuse c).clk = s.clk ∧ (s.refuse c).dsp = s.dsp ∧ (s.refuse c).deck = s.deck ∧ (s.refuse c).keys = s.keys ∧
    (s.refuse c).pay = s.pay ∧ (s.refuse c).eng = s.eng ∧ (s.refuse c).rng = s.rng ∧ (s.refuse c).trs = s.trs ∧
    (s.refuse c).mss = s.mss ∧ (s.refuse c).tg = s.tg ∧ (s.refuse c).mi = s.mi ∧ (s.refuse c).par = s.par ∧
    (s.refuse c).ks = s.ks ∧ (s.refuse c).anc = s.anc ∧ (s.refuse c).cfg = s.cfg ∧ (s.refuse c).boot = s.boot ∧
    (s.refuse c).hw = s.hw ∧ (s.refuse c).mem = s.mem ∧ (s.refuse c).now = s.now ∧ (s.refuse c).backupUs = s.backupUs ∧
    (s.refuse c).free = s.free ∧ (s.refuse c).pending = s.pending := by
  simp only [State.refuse]
  (repeat' split) <;> simp

@[simp] theorem State.ancRefuse_keeps (w cause : Nat) (s : State) :
    (s.ancRefuse w cause).clk = s.clk ∧ (s.ancRefuse w cause).dsp = s.dsp ∧ (s.ancRefuse w cause).deck = s.deck ∧ (s.ancRefuse w cause).keys = s.keys ∧
    (s.ancRefuse w cause).pay = s.pay ∧ (s.ancRefuse w cause).eng = s.eng ∧ (s.ancRefuse w cause).rng = s.rng ∧ (s.ancRefuse w cause).trs = s.trs ∧
    (s.ancRefuse w cause).mss = s.mss ∧ (s.ancRefuse w cause).tg = s.tg ∧ (s.ancRefuse w cause).mi = s.mi ∧ (s.ancRefuse w cause).par = s.par ∧
    (s.ancRefuse w cause).ks = s.ks ∧ (s.ancRefuse w cause).cfg = s.cfg ∧ (s.ancRefuse w cause).boot = s.boot ∧ (s.ancRefuse w cause).hw = s.hw ∧
    (s.ancRefuse w cause).mem = s.mem ∧ (s.ancRefuse w cause).now = s.now ∧ (s.ancRefuse w cause).backupUs = s.backupUs ∧ (s.ancRefuse w cause).free = s.free ∧
    (s.ancRefuse w cause).pending = s.pending := by
  simp only [State.ancRefuse]
  (repeat' split) <;> simp

@[simp] theorem State.eventSig_keeps (src code p0 p1 p2 p3 : Nat) (s : State) :
    (s.eventSig src code p0 p1 p2 p3).clk = s.clk ∧ (s.eventSig src code p0 p1 p2 p3).dsp = s.dsp ∧ (s.eventSig src code p0 p1 p2 p3).deck = s.deck ∧ (s.eventSig src code p0 p1 p2 p3).keys = s.keys ∧
    (s.eventSig src code p0 p1 p2 p3).pay = s.pay ∧ (s.eventSig src code p0 p1 p2 p3).eng = s.eng ∧ (s.eventSig src code p0 p1 p2 p3).rng = s.rng ∧ (s.eventSig src code p0 p1 p2 p3).trs = s.trs ∧
    (s.eventSig src code p0 p1 p2 p3).mss = s.mss ∧ (s.eventSig src code p0 p1 p2 p3).tg = s.tg ∧ (s.eventSig src code p0 p1 p2 p3).mi = s.mi ∧ (s.eventSig src code p0 p1 p2 p3).par = s.par ∧
    (s.eventSig src code p0 p1 p2 p3).ks = s.ks ∧ (s.eventSig src code p0 p1 p2 p3).anc = s.anc ∧ (s.eventSig src code p0 p1 p2 p3).cfg = s.cfg ∧ (s.eventSig src code p0 p1 p2 p3).boot = s.boot ∧
    (s.eventSig src code p0 p1 p2 p3).hw = s.hw ∧ (s.eventSig src code p0 p1 p2 p3).mem = s.mem ∧ (s.eventSig src code p0 p1 p2 p3).now = s.now ∧ (s.eventSig src code p0 p1 p2 p3).backupUs = s.backupUs ∧
    (s.eventSig src code p0 p1 p2 p3).free = s.free ∧ (s.eventSig src code p0 p1 p2 p3).pending = s.pending := by
  simp only [State.eventSig]
  (repeat' split) <;> simp

@[simp] theorem State.draw_keeps (n : Nat) (s : State) :
    ((s.draw n).2).clk = s.clk ∧ ((s.draw n).2).hiu = s.hiu ∧ ((s.draw n).2).dsp = s.dsp ∧ ((s.draw n).2).deck = s.deck ∧
    ((s.draw n).2).keys = s.keys ∧ ((s.draw n).2).pay = s.pay ∧ ((s.draw n).2).eng = s.eng ∧ ((s.draw n).2).rng = s.rng ∧
    ((s.draw n).2).trs = s.trs ∧ ((s.draw n).2).mss = s.mss ∧ ((s.draw n).2).tg = s.tg ∧ ((s.draw n).2).mi = s.mi ∧
    ((s.draw n).2).par = s.par ∧ ((s.draw n).2).ks = s.ks ∧ ((s.draw n).2).evr = s.evr ∧ ((s.draw n).2).anc = s.anc ∧
    ((s.draw n).2).cfg = s.cfg ∧ ((s.draw n).2).pwr = s.pwr ∧ ((s.draw n).2).boot = s.boot ∧ ((s.draw n).2).hw = s.hw ∧
    ((s.draw n).2).mem = s.mem ∧ ((s.draw n).2).now = s.now ∧ ((s.draw n).2).backupUs = s.backupUs ∧ ((s.draw n).2).irq = s.irq ∧
    ((s.draw n).2).out = s.out ∧ ((s.draw n).2).pending = s.pending := by
  simp only [State.draw]
  (repeat' split) <;> simp

@[simp] theorem State.ancWrite_keeps (w : Nat) (vals : List DWord) (e : Eff) (s : State) :
    ((s.ancWrite w vals e).1).clk = s.clk ∧ ((s.ancWrite w vals e).1).dsp = s.dsp ∧ ((s.ancWrite w vals e).1).deck = s.deck ∧ ((s.ancWrite w vals e).1).keys = s.keys ∧
    ((s.ancWrite w vals e).1).pay = s.pay ∧ ((s.ancWrite w vals e).1).eng = s.eng ∧ ((s.ancWrite w vals e).1).rng = s.rng ∧ ((s.ancWrite w vals e).1).trs = s.trs ∧
    ((s.ancWrite w vals e).1).mss = s.mss ∧ ((s.ancWrite w vals e).1).tg = s.tg ∧ ((s.ancWrite w vals e).1).mi = s.mi ∧ ((s.ancWrite w vals e).1).par = s.par ∧
    ((s.ancWrite w vals e).1).ks = s.ks ∧ ((s.ancWrite w vals e).1).cfg = s.cfg ∧ ((s.ancWrite w vals e).1).boot = s.boot ∧ ((s.ancWrite w vals e).1).hw = s.hw ∧
    ((s.ancWrite w vals e).1).mem = s.mem ∧ ((s.ancWrite w vals e).1).now = s.now ∧ ((s.ancWrite w vals e).1).backupUs = s.backupUs ∧ ((s.ancWrite w vals e).1).free = s.free ∧
    ((s.ancWrite w vals e).1).pending = s.pending := by
  simp only [State.ancWrite]
  (repeat' split) <;> simp

@[simp] theorem State.freeEnt_keeps (d : Nat) (s : State) :
    (s.freeEnt d).clk = s.clk ∧ (s.freeEnt d).hiu = s.hiu ∧ (s.freeEnt d).keys = s.keys ∧ (s.freeEnt d).pay = s.pay ∧
    (s.freeEnt d).eng = s.eng ∧ (s.freeEnt d).rng = s.rng ∧ (s.freeEnt d).trs = s.trs ∧ (s.freeEnt d).mss = s.mss ∧
    (s.freeEnt d).tg = s.tg ∧ (s.freeEnt d).mi = s.mi ∧ (s.freeEnt d).par = s.par ∧ (s.freeEnt d).ks = s.ks ∧
    (s.freeEnt d).evr = s.evr ∧ (s.freeEnt d).anc = s.anc ∧ (s.freeEnt d).cfg = s.cfg ∧ (s.freeEnt d).pwr = s.pwr ∧
    (s.freeEnt d).boot = s.boot ∧ (s.freeEnt d).hw = s.hw ∧ (s.freeEnt d).mem = s.mem ∧ (s.freeEnt d).now = s.now ∧
    (s.freeEnt d).backupUs = s.backupUs ∧ (s.freeEnt d).irq = s.irq ∧ (s.freeEnt d).free = s.free ∧ (s.freeEnt d).out = s.out ∧
    (s.freeEnt d).pending = s.pending := by
  simp only [State.freeEnt]
  (repeat' split) <;> simp

@[simp] theorem State.leave_keeps (d : Nat) (s : State) :
    (s.leave d).clk = s.clk ∧ (s.leave d).hiu = s.hiu ∧ (s.leave d).pay = s.pay ∧ (s.leave d).eng = s.eng ∧
    (s.leave d).rng = s.rng ∧ (s.leave d).trs = s.trs ∧ (s.leave d).mss = s.mss ∧ (s.leave d).tg = s.tg ∧
    (s.leave d).mi = s.mi ∧ (s.leave d).par = s.par ∧ (s.leave d).ks = s.ks ∧ (s.leave d).evr = s.evr ∧
    (s.leave d).anc = s.anc ∧ (s.leave d).cfg = s.cfg ∧ (s.leave d).pwr = s.pwr ∧ (s.leave d).boot = s.boot ∧
    (s.leave d).hw = s.hw ∧ (s.leave d).mem = s.mem ∧ (s.leave d).now = s.now ∧ (s.leave d).backupUs = s.backupUs ∧
    (s.leave d).irq = s.irq ∧ (s.leave d).free = s.free ∧ (s.leave d).out = s.out ∧ (s.leave d).pending = s.pending := by
  simp only [State.leave]
  (repeat' split) <;> simp

@[simp] theorem State.endPins_keeps (d : Nat) (s : State) :
    (s.endPins d).clk = s.clk ∧ (s.endPins d).hiu = s.hiu ∧ (s.endPins d).dsp = s.dsp ∧ (s.endPins d).pay = s.pay ∧
    (s.endPins d).eng = s.eng ∧ (s.endPins d).rng = s.rng ∧ (s.endPins d).trs = s.trs ∧ (s.endPins d).mss = s.mss ∧
    (s.endPins d).tg = s.tg ∧ (s.endPins d).mi = s.mi ∧ (s.endPins d).par = s.par ∧ (s.endPins d).ks = s.ks ∧
    (s.endPins d).evr = s.evr ∧ (s.endPins d).anc = s.anc ∧ (s.endPins d).cfg = s.cfg ∧ (s.endPins d).pwr = s.pwr ∧
    (s.endPins d).boot = s.boot ∧ (s.endPins d).hw = s.hw ∧ (s.endPins d).mem = s.mem ∧ (s.endPins d).now = s.now ∧
    (s.endPins d).backupUs = s.backupUs ∧ (s.endPins d).irq = s.irq ∧ (s.endPins d).free = s.free ∧ (s.endPins d).out = s.out ∧
    (s.endPins d).pending = s.pending := by
  simp only [State.endPins]
  (repeat' split) <;> simp

@[simp] theorem State.discard_keeps (d : Nat) (s : State) :
    (s.discard d).clk = s.clk ∧ (s.discard d).hiu = s.hiu ∧ (s.discard d).pay = s.pay ∧ (s.discard d).eng = s.eng ∧
    (s.discard d).rng = s.rng ∧ (s.discard d).trs = s.trs ∧ (s.discard d).mss = s.mss ∧ (s.discard d).tg = s.tg ∧
    (s.discard d).mi = s.mi ∧ (s.discard d).par = s.par ∧ (s.discard d).ks = s.ks ∧ (s.discard d).evr = s.evr ∧
    (s.discard d).anc = s.anc ∧ (s.discard d).cfg = s.cfg ∧ (s.discard d).pwr = s.pwr ∧ (s.discard d).boot = s.boot ∧
    (s.discard d).hw = s.hw ∧ (s.discard d).mem = s.mem ∧ (s.discard d).now = s.now ∧ (s.discard d).backupUs = s.backupUs ∧
    (s.discard d).irq = s.irq ∧ (s.discard d).free = s.free ∧ (s.discard d).out = s.out ∧ (s.discard d).pending = s.pending := by
  unfold State.discard
  (repeat' split) <;> simp

@[simp] theorem State.moveGen_keeps (fn : Nat) (s : State) :
    (s.moveGen fn).clk = s.clk ∧ (s.moveGen fn).pay = s.pay ∧ (s.moveGen fn).eng = s.eng ∧ (s.moveGen fn).rng = s.rng ∧
    (s.moveGen fn).trs = s.trs ∧ (s.moveGen fn).mss = s.mss ∧ (s.moveGen fn).tg = s.tg ∧ (s.moveGen fn).mi = s.mi ∧
    (s.moveGen fn).par = s.par ∧ (s.moveGen fn).ks = s.ks ∧ (s.moveGen fn).evr = s.evr ∧ (s.moveGen fn).anc = s.anc ∧
    (s.moveGen fn).cfg = s.cfg ∧ (s.moveGen fn).pwr = s.pwr ∧ (s.moveGen fn).boot = s.boot ∧ (s.moveGen fn).hw = s.hw ∧
    (s.moveGen fn).mem = s.mem ∧ (s.moveGen fn).now = s.now ∧ (s.moveGen fn).backupUs = s.backupUs ∧ (s.moveGen fn).irq = s.irq ∧
    (s.moveGen fn).free = s.free ∧ (s.moveGen fn).out = s.out ∧ (s.moveGen fn).pending = s.pending := by
  unfold State.moveGen
  (repeat' split) <;> simp

@[simp] theorem State.releasePier_keeps (p : Option Nat) (s : State) :
    (s.releasePier p).clk = s.clk ∧ (s.releasePier p).hiu = s.hiu ∧ (s.releasePier p).deck = s.deck ∧ (s.releasePier p).keys = s.keys ∧
    (s.releasePier p).pay = s.pay ∧ (s.releasePier p).eng = s.eng ∧ (s.releasePier p).rng = s.rng ∧ (s.releasePier p).trs = s.trs ∧
    (s.releasePier p).mss = s.mss ∧ (s.releasePier p).tg = s.tg ∧ (s.releasePier p).mi = s.mi ∧ (s.releasePier p).par = s.par ∧
    (s.releasePier p).ks = s.ks ∧ (s.releasePier p).evr = s.evr ∧ (s.releasePier p).anc = s.anc ∧ (s.releasePier p).cfg = s.cfg ∧
    (s.releasePier p).pwr = s.pwr ∧ (s.releasePier p).boot = s.boot ∧ (s.releasePier p).hw = s.hw ∧ (s.releasePier p).mem = s.mem ∧
    (s.releasePier p).now = s.now ∧ (s.releasePier p).backupUs = s.backupUs ∧ (s.releasePier p).irq = s.irq ∧ (s.releasePier p).free = s.free ∧
    (s.releasePier p).out = s.out ∧ (s.releasePier p).pending = s.pending := by
  simp only [State.releasePier]
  (repeat' split) <;> simp

@[simp] theorem State.modEnt_keeps (d : Nat) (f : Entry → Entry) (s : State) :
    (s.modEnt d f).clk = s.clk ∧ (s.modEnt d f).hiu = s.hiu ∧ (s.modEnt d f).dsp = s.dsp ∧ (s.modEnt d f).keys = s.keys ∧
    (s.modEnt d f).pay = s.pay ∧ (s.modEnt d f).eng = s.eng ∧ (s.modEnt d f).rng = s.rng ∧ (s.modEnt d f).trs = s.trs ∧
    (s.modEnt d f).mss = s.mss ∧ (s.modEnt d f).tg = s.tg ∧ (s.modEnt d f).mi = s.mi ∧ (s.modEnt d f).par = s.par ∧
    (s.modEnt d f).ks = s.ks ∧ (s.modEnt d f).evr = s.evr ∧ (s.modEnt d f).anc = s.anc ∧ (s.modEnt d f).cfg = s.cfg ∧
    (s.modEnt d f).pwr = s.pwr ∧ (s.modEnt d f).boot = s.boot ∧ (s.modEnt d f).hw = s.hw ∧ (s.modEnt d f).mem = s.mem ∧
    (s.modEnt d f).now = s.now ∧ (s.modEnt d f).backupUs = s.backupUs ∧ (s.modEnt d f).irq = s.irq ∧ (s.modEnt d f).free = s.free ∧
    (s.modEnt d f).out = s.out ∧ (s.modEnt d f).pending = s.pending := by
  simp only [State.modEnt]
  (repeat' split) <;> simp

@[simp] theorem State.evict_keeps (k : Nat) (s : State) :
    (s.evict k).clk = s.clk ∧ (s.evict k).hiu = s.hiu ∧ (s.evict k).dsp = s.dsp ∧ (s.evict k).deck = s.deck ∧
    (s.evict k).pay = s.pay ∧ (s.evict k).eng = s.eng ∧ (s.evict k).rng = s.rng ∧ (s.evict k).trs = s.trs ∧
    (s.evict k).mss = s.mss ∧ (s.evict k).tg = s.tg ∧ (s.evict k).mi = s.mi ∧ (s.evict k).par = s.par ∧
    (s.evict k).ks = s.ks ∧ (s.evict k).evr = s.evr ∧ (s.evict k).anc = s.anc ∧ (s.evict k).cfg = s.cfg ∧
    (s.evict k).pwr = s.pwr ∧ (s.evict k).boot = s.boot ∧ (s.evict k).hw = s.hw ∧ (s.evict k).mem = s.mem ∧
    (s.evict k).now = s.now ∧ (s.evict k).backupUs = s.backupUs ∧ (s.evict k).irq = s.irq ∧ (s.evict k).free = s.free ∧
    (s.evict k).out = s.out ∧ (s.evict k).pending = s.pending := by
  simp only [State.evict]
  (repeat' split) <;> simp

@[simp] theorem State.issueKeySeq_keeps (t : Nat) (s : State) :
    (s.issueKeySeq t).clk = s.clk ∧ (s.issueKeySeq t).hiu = s.hiu ∧ (s.issueKeySeq t).dsp = s.dsp ∧ (s.issueKeySeq t).deck = s.deck ∧
    (s.issueKeySeq t).pay = s.pay ∧ (s.issueKeySeq t).eng = s.eng ∧ (s.issueKeySeq t).rng = s.rng ∧ (s.issueKeySeq t).trs = s.trs ∧
    (s.issueKeySeq t).mss = s.mss ∧ (s.issueKeySeq t).tg = s.tg ∧ (s.issueKeySeq t).mi = s.mi ∧ (s.issueKeySeq t).par = s.par ∧
    (s.issueKeySeq t).ks = s.ks ∧ (s.issueKeySeq t).evr = s.evr ∧ (s.issueKeySeq t).cfg = s.cfg ∧ (s.issueKeySeq t).pwr = s.pwr ∧
    (s.issueKeySeq t).boot = s.boot ∧ (s.issueKeySeq t).hw = s.hw ∧ (s.issueKeySeq t).mem = s.mem ∧ (s.issueKeySeq t).now = s.now ∧
    (s.issueKeySeq t).backupUs = s.backupUs ∧ (s.issueKeySeq t).irq = s.irq ∧ (s.issueKeySeq t).free = s.free ∧ (s.issueKeySeq t).out = s.out ∧
    (s.issueKeySeq t).pending = s.pending := by
  simp only [State.issueKeySeq]
  (repeat' split) <;> simp

@[simp] theorem State.putSlot_keeps (k : Nat) (hdr mat : Bytes) (parent : Nat) (s : State) :
    (s.putSlot k hdr mat parent).clk = s.clk ∧ (s.putSlot k hdr mat parent).hiu = s.hiu ∧ (s.putSlot k hdr mat parent).dsp = s.dsp ∧ (s.putSlot k hdr mat parent).deck = s.deck ∧
    (s.putSlot k hdr mat parent).pay = s.pay ∧ (s.putSlot k hdr mat parent).eng = s.eng ∧ (s.putSlot k hdr mat parent).rng = s.rng ∧ (s.putSlot k hdr mat parent).trs = s.trs ∧
    (s.putSlot k hdr mat parent).mss = s.mss ∧ (s.putSlot k hdr mat parent).tg = s.tg ∧ (s.putSlot k hdr mat parent).par = s.par ∧ (s.putSlot k hdr mat parent).ks = s.ks ∧
    (s.putSlot k hdr mat parent).evr = s.evr ∧ (s.putSlot k hdr mat parent).anc = s.anc ∧ (s.putSlot k hdr mat parent).cfg = s.cfg ∧ (s.putSlot k hdr mat parent).pwr = s.pwr ∧
    (s.putSlot k hdr mat parent).boot = s.boot ∧ (s.putSlot k hdr mat parent).hw = s.hw ∧ (s.putSlot k hdr mat parent).mem = s.mem ∧ (s.putSlot k hdr mat parent).now = s.now ∧
    (s.putSlot k hdr mat parent).backupUs = s.backupUs ∧ (s.putSlot k hdr mat parent).irq = s.irq ∧ (s.putSlot k hdr mat parent).free = s.free ∧ (s.putSlot k hdr mat parent).out = s.out ∧
    (s.putSlot k hdr mat parent).pending = s.pending := by
  simp only [State.putSlot]
  (repeat' split) <;> simp

@[simp] theorem State.staleWhere_keeps (p : Slot → Bool) (s : State) :
    (s.staleWhere p).clk = s.clk ∧ (s.staleWhere p).hiu = s.hiu ∧ (s.staleWhere p).dsp = s.dsp ∧ (s.staleWhere p).deck = s.deck ∧
    (s.staleWhere p).pay = s.pay ∧ (s.staleWhere p).eng = s.eng ∧ (s.staleWhere p).rng = s.rng ∧ (s.staleWhere p).trs = s.trs ∧
    (s.staleWhere p).mss = s.mss ∧ (s.staleWhere p).tg = s.tg ∧ (s.staleWhere p).mi = s.mi ∧ (s.staleWhere p).par = s.par ∧
    (s.staleWhere p).ks = s.ks ∧ (s.staleWhere p).evr = s.evr ∧ (s.staleWhere p).anc = s.anc ∧ (s.staleWhere p).cfg = s.cfg ∧
    (s.staleWhere p).pwr = s.pwr ∧ (s.staleWhere p).boot = s.boot ∧ (s.staleWhere p).hw = s.hw ∧ (s.staleWhere p).mem = s.mem ∧
    (s.staleWhere p).now = s.now ∧ (s.staleWhere p).backupUs = s.backupUs ∧ (s.staleWhere p).irq = s.irq ∧ (s.staleWhere p).free = s.free ∧
    (s.staleWhere p).out = s.out ∧ (s.staleWhere p).pending = s.pending := by
  simp only [State.staleWhere]
  (repeat' split) <;> simp

@[simp] theorem State.flushTenant_keeps (t : Nat) (s : State) :
    (s.flushTenant t).clk = s.clk ∧ (s.flushTenant t).hiu = s.hiu ∧ (s.flushTenant t).dsp = s.dsp ∧ (s.flushTenant t).deck = s.deck ∧
    (s.flushTenant t).pay = s.pay ∧ (s.flushTenant t).eng = s.eng ∧ (s.flushTenant t).rng = s.rng ∧ (s.flushTenant t).trs = s.trs ∧
    (s.flushTenant t).mss = s.mss ∧ (s.flushTenant t).tg = s.tg ∧ (s.flushTenant t).mi = s.mi ∧ (s.flushTenant t).par = s.par ∧
    (s.flushTenant t).ks = s.ks ∧ (s.flushTenant t).evr = s.evr ∧ (s.flushTenant t).anc = s.anc ∧ (s.flushTenant t).cfg = s.cfg ∧
    (s.flushTenant t).pwr = s.pwr ∧ (s.flushTenant t).boot = s.boot ∧ (s.flushTenant t).hw = s.hw ∧ (s.flushTenant t).mem = s.mem ∧
    (s.flushTenant t).now = s.now ∧ (s.flushTenant t).backupUs = s.backupUs ∧ (s.flushTenant t).irq = s.irq ∧ (s.flushTenant t).free = s.free ∧
    (s.flushTenant t).out = s.out ∧ (s.flushTenant t).pending = s.pending := by
  simp only [State.flushTenant]
  (repeat' split) <;> simp

@[simp] theorem State.tryKeySeq_keeps (t : Nat) (s : State) :
    (s.tryKeySeq t).clk = s.clk ∧ (s.tryKeySeq t).hiu = s.hiu ∧ (s.tryKeySeq t).dsp = s.dsp ∧ (s.tryKeySeq t).deck = s.deck ∧
    (s.tryKeySeq t).pay = s.pay ∧ (s.tryKeySeq t).eng = s.eng ∧ (s.tryKeySeq t).rng = s.rng ∧ (s.tryKeySeq t).trs = s.trs ∧
    (s.tryKeySeq t).mss = s.mss ∧ (s.tryKeySeq t).tg = s.tg ∧ (s.tryKeySeq t).mi = s.mi ∧ (s.tryKeySeq t).par = s.par ∧
    (s.tryKeySeq t).ks = s.ks ∧ (s.tryKeySeq t).evr = s.evr ∧ (s.tryKeySeq t).cfg = s.cfg ∧ (s.tryKeySeq t).pwr = s.pwr ∧
    (s.tryKeySeq t).boot = s.boot ∧ (s.tryKeySeq t).hw = s.hw ∧ (s.tryKeySeq t).mem = s.mem ∧ (s.tryKeySeq t).now = s.now ∧
    (s.tryKeySeq t).backupUs = s.backupUs ∧ (s.tryKeySeq t).irq = s.irq ∧ (s.tryKeySeq t).free = s.free ∧ (s.tryKeySeq t).out = s.out ∧
    (s.tryKeySeq t).pending = s.pending := by
  simp only [State.tryKeySeq]
  (repeat' split) <;> simp

@[simp] theorem State.flushKeySeq_keeps (s : State) :
    (s.flushKeySeq).clk = s.clk ∧ (s.flushKeySeq).hiu = s.hiu ∧ (s.flushKeySeq).dsp = s.dsp ∧ (s.flushKeySeq).deck = s.deck ∧
    (s.flushKeySeq).pay = s.pay ∧ (s.flushKeySeq).eng = s.eng ∧ (s.flushKeySeq).rng = s.rng ∧ (s.flushKeySeq).trs = s.trs ∧
    (s.flushKeySeq).mss = s.mss ∧ (s.flushKeySeq).tg = s.tg ∧ (s.flushKeySeq).mi = s.mi ∧ (s.flushKeySeq).par = s.par ∧
    (s.flushKeySeq).ks = s.ks ∧ (s.flushKeySeq).evr = s.evr ∧ (s.flushKeySeq).cfg = s.cfg ∧ (s.flushKeySeq).pwr = s.pwr ∧
    (s.flushKeySeq).boot = s.boot ∧ (s.flushKeySeq).hw = s.hw ∧ (s.flushKeySeq).mem = s.mem ∧ (s.flushKeySeq).now = s.now ∧
    (s.flushKeySeq).backupUs = s.backupUs ∧ (s.flushKeySeq).irq = s.irq ∧ (s.flushKeySeq).free = s.free ∧ (s.flushKeySeq).out = s.out ∧
    (s.flushKeySeq).pending = s.pending := by
  unfold State.flushKeySeq
  (repeat' split) <;> simp

@[simp] theorem State.pinSlot_keeps (k : Nat) (s : State) :
    (s.pinSlot k).clk = s.clk ∧ (s.pinSlot k).hiu = s.hiu ∧ (s.pinSlot k).dsp = s.dsp ∧ (s.pinSlot k).deck = s.deck ∧
    (s.pinSlot k).pay = s.pay ∧ (s.pinSlot k).eng = s.eng ∧ (s.pinSlot k).rng = s.rng ∧ (s.pinSlot k).trs = s.trs ∧
    (s.pinSlot k).mss = s.mss ∧ (s.pinSlot k).tg = s.tg ∧ (s.pinSlot k).mi = s.mi ∧ (s.pinSlot k).par = s.par ∧
    (s.pinSlot k).ks = s.ks ∧ (s.pinSlot k).evr = s.evr ∧ (s.pinSlot k).anc = s.anc ∧ (s.pinSlot k).cfg = s.cfg ∧
    (s.pinSlot k).pwr = s.pwr ∧ (s.pinSlot k).boot = s.boot ∧ (s.pinSlot k).hw = s.hw ∧ (s.pinSlot k).mem = s.mem ∧
    (s.pinSlot k).now = s.now ∧ (s.pinSlot k).backupUs = s.backupUs ∧ (s.pinSlot k).irq = s.irq ∧ (s.pinSlot k).free = s.free ∧
    (s.pinSlot k).out = s.out ∧ (s.pinSlot k).pending = s.pending := by
  simp only [State.pinSlot]
  (repeat' split) <;> simp

@[simp] theorem State.takeSeq_keeps (o : Owner) (kind : JKind) (t kid : Nat) (w : DWord) (ck : Option Nat) (s : State) :
    (s.takeSeq o kind t kid w ck).clk = s.clk ∧ (s.takeSeq o kind t kid w ck).hiu = s.hiu ∧ (s.takeSeq o kind t kid w ck).dsp = s.dsp ∧ (s.takeSeq o kind t kid w ck).deck = s.deck ∧
    (s.takeSeq o kind t kid w ck).pay = s.pay ∧ (s.takeSeq o kind t kid w ck).eng = s.eng ∧ (s.takeSeq o kind t kid w ck).rng = s.rng ∧ (s.takeSeq o kind t kid w ck).trs = s.trs ∧
    (s.takeSeq o kind t kid w ck).mss = s.mss ∧ (s.takeSeq o kind t kid w ck).tg = s.tg ∧ (s.takeSeq o kind t kid w ck).mi = s.mi ∧ (s.takeSeq o kind t kid w ck).par = s.par ∧
    (s.takeSeq o kind t kid w ck).ks = s.ks ∧ (s.takeSeq o kind t kid w ck).evr = s.evr ∧ (s.takeSeq o kind t kid w ck).anc = s.anc ∧ (s.takeSeq o kind t kid w ck).cfg = s.cfg ∧
    (s.takeSeq o kind t kid w ck).pwr = s.pwr ∧ (s.takeSeq o kind t kid w ck).boot = s.boot ∧ (s.takeSeq o kind t kid w ck).hw = s.hw ∧ (s.takeSeq o kind t kid w ck).mem = s.mem ∧
    (s.takeSeq o kind t kid w ck).now = s.now ∧ (s.takeSeq o kind t kid w ck).backupUs = s.backupUs ∧ (s.takeSeq o kind t kid w ck).irq = s.irq ∧ (s.takeSeq o kind t kid w ck).free = s.free ∧
    (s.takeSeq o kind t kid w ck).out = s.out ∧ (s.takeSeq o kind t kid w ck).pending = s.pending := by
  simp only [State.takeSeq]
  (repeat' split) <;> simp

@[simp] theorem State.staleKey_keeps (t kid : Nat) (s : State) :
    (s.staleKey t kid).clk = s.clk ∧ (s.staleKey t kid).hiu = s.hiu ∧ (s.staleKey t kid).dsp = s.dsp ∧ (s.staleKey t kid).deck = s.deck ∧
    (s.staleKey t kid).pay = s.pay ∧ (s.staleKey t kid).eng = s.eng ∧ (s.staleKey t kid).rng = s.rng ∧ (s.staleKey t kid).trs = s.trs ∧
    (s.staleKey t kid).mss = s.mss ∧ (s.staleKey t kid).tg = s.tg ∧ (s.staleKey t kid).mi = s.mi ∧ (s.staleKey t kid).par = s.par ∧
    (s.staleKey t kid).ks = s.ks ∧ (s.staleKey t kid).evr = s.evr ∧ (s.staleKey t kid).anc = s.anc ∧ (s.staleKey t kid).cfg = s.cfg ∧
    (s.staleKey t kid).pwr = s.pwr ∧ (s.staleKey t kid).boot = s.boot ∧ (s.staleKey t kid).hw = s.hw ∧ (s.staleKey t kid).mem = s.mem ∧
    (s.staleKey t kid).now = s.now ∧ (s.staleKey t kid).backupUs = s.backupUs ∧ (s.staleKey t kid).irq = s.irq ∧ (s.staleKey t kid).free = s.free ∧
    (s.staleKey t kid).out = s.out ∧ (s.staleKey t kid).pending = s.pending := by
  simp only [State.staleKey]
  (repeat' split) <;> simp

@[simp] theorem State.fail_keeps (d status : Nat) (s : State) :
    (s.fail d status).clk = s.clk ∧ (s.fail d status).hiu = s.hiu ∧ (s.fail d status).dsp = s.dsp ∧ (s.fail d status).keys = s.keys ∧
    (s.fail d status).pay = s.pay ∧ (s.fail d status).eng = s.eng ∧ (s.fail d status).rng = s.rng ∧ (s.fail d status).trs = s.trs ∧
    (s.fail d status).mss = s.mss ∧ (s.fail d status).tg = s.tg ∧ (s.fail d status).mi = s.mi ∧ (s.fail d status).par = s.par ∧
    (s.fail d status).ks = s.ks ∧ (s.fail d status).evr = s.evr ∧ (s.fail d status).anc = s.anc ∧ (s.fail d status).cfg = s.cfg ∧
    (s.fail d status).pwr = s.pwr ∧ (s.fail d status).boot = s.boot ∧ (s.fail d status).hw = s.hw ∧ (s.fail d status).mem = s.mem ∧
    (s.fail d status).now = s.now ∧ (s.fail d status).backupUs = s.backupUs ∧ (s.fail d status).irq = s.irq ∧ (s.fail d status).free = s.free ∧
    (s.fail d status).out = s.out ∧ (s.fail d status).pending = s.pending := by
  simp only [State.fail]
  (repeat' split) <;> simp

@[simp] theorem State.startInput_keeps (d : Nat) (reads : List (Nat × Nat)) (s : State) :
    (s.startInput d reads).clk = s.clk ∧ (s.startInput d reads).hiu = s.hiu ∧ (s.startInput d reads).dsp = s.dsp ∧ (s.startInput d reads).keys = s.keys ∧
    (s.startInput d reads).pay = s.pay ∧ (s.startInput d reads).eng = s.eng ∧ (s.startInput d reads).rng = s.rng ∧ (s.startInput d reads).trs = s.trs ∧
    (s.startInput d reads).mss = s.mss ∧ (s.startInput d reads).tg = s.tg ∧ (s.startInput d reads).mi = s.mi ∧ (s.startInput d reads).par = s.par ∧
    (s.startInput d reads).ks = s.ks ∧ (s.startInput d reads).evr = s.evr ∧ (s.startInput d reads).anc = s.anc ∧ (s.startInput d reads).cfg = s.cfg ∧
    (s.startInput d reads).pwr = s.pwr ∧ (s.startInput d reads).boot = s.boot ∧ (s.startInput d reads).hw = s.hw ∧ (s.startInput d reads).mem = s.mem ∧
    (s.startInput d reads).now = s.now ∧ (s.startInput d reads).backupUs = s.backupUs ∧ (s.startInput d reads).irq = s.irq ∧ (s.startInput d reads).free = s.free ∧
    (s.startInput d reads).pending = s.pending := by
  simp only [State.startInput]
  (repeat' split) <;> simp

@[simp] theorem State.readFailed_keeps (d what : Nat) (r : ReadErr) (s : State) :
    (s.readFailed d what r).clk = s.clk ∧ (s.readFailed d what r).dsp = s.dsp ∧ (s.readFailed d what r).keys = s.keys ∧ (s.readFailed d what r).pay = s.pay ∧
    (s.readFailed d what r).eng = s.eng ∧ (s.readFailed d what r).rng = s.rng ∧ (s.readFailed d what r).trs = s.trs ∧ (s.readFailed d what r).mss = s.mss ∧
    (s.readFailed d what r).tg = s.tg ∧ (s.readFailed d what r).mi = s.mi ∧ (s.readFailed d what r).par = s.par ∧ (s.readFailed d what r).ks = s.ks ∧
    (s.readFailed d what r).anc = s.anc ∧ (s.readFailed d what r).cfg = s.cfg ∧ (s.readFailed d what r).boot = s.boot ∧ (s.readFailed d what r).hw = s.hw ∧
    (s.readFailed d what r).mem = s.mem ∧ (s.readFailed d what r).now = s.now ∧ (s.readFailed d what r).backupUs = s.backupUs ∧ (s.readFailed d what r).free = s.free ∧
    (s.readFailed d what r).pending = s.pending := by
  simp only [State.readFailed]
  (repeat' split) <;> simp

@[simp] theorem State.clearInst_keeps (m : SramMem) (inst : Nat) (s : State) :
    (s.clearInst m inst).clk = s.clk ∧ (s.clearInst m inst).hiu = s.hiu ∧ (s.clearInst m inst).dsp = s.dsp ∧ (s.clearInst m inst).deck = s.deck ∧
    (s.clearInst m inst).keys = s.keys ∧ (s.clearInst m inst).pay = s.pay ∧ (s.clearInst m inst).eng = s.eng ∧ (s.clearInst m inst).rng = s.rng ∧
    (s.clearInst m inst).trs = s.trs ∧ (s.clearInst m inst).mss = s.mss ∧ (s.clearInst m inst).tg = s.tg ∧ (s.clearInst m inst).par = s.par ∧
    (s.clearInst m inst).ks = s.ks ∧ (s.clearInst m inst).evr = s.evr ∧ (s.clearInst m inst).anc = s.anc ∧ (s.clearInst m inst).cfg = s.cfg ∧
    (s.clearInst m inst).pwr = s.pwr ∧ (s.clearInst m inst).boot = s.boot ∧ (s.clearInst m inst).hw = s.hw ∧ (s.clearInst m inst).mem = s.mem ∧
    (s.clearInst m inst).now = s.now ∧ (s.clearInst m inst).backupUs = s.backupUs ∧ (s.clearInst m inst).irq = s.irq ∧ (s.clearInst m inst).free = s.free ∧
    (s.clearInst m inst).out = s.out ∧ (s.clearInst m inst).pending = s.pending := by
  simp only [State.clearInst]
  (repeat' split) <;> simp

@[simp] theorem State.markValid_keeps (k : Nat) (s : State) :
    (s.markValid k).clk = s.clk ∧ (s.markValid k).hiu = s.hiu ∧ (s.markValid k).dsp = s.dsp ∧ (s.markValid k).deck = s.deck ∧
    (s.markValid k).keys = s.keys ∧ (s.markValid k).pay = s.pay ∧ (s.markValid k).eng = s.eng ∧ (s.markValid k).rng = s.rng ∧
    (s.markValid k).trs = s.trs ∧ (s.markValid k).mss = s.mss ∧ (s.markValid k).tg = s.tg ∧ (s.markValid k).par = s.par ∧
    (s.markValid k).ks = s.ks ∧ (s.markValid k).evr = s.evr ∧ (s.markValid k).anc = s.anc ∧ (s.markValid k).cfg = s.cfg ∧
    (s.markValid k).pwr = s.pwr ∧ (s.markValid k).boot = s.boot ∧ (s.markValid k).hw = s.hw ∧ (s.markValid k).mem = s.mem ∧
    (s.markValid k).now = s.now ∧ (s.markValid k).backupUs = s.backupUs ∧ (s.markValid k).irq = s.irq ∧ (s.markValid k).free = s.free ∧
    (s.markValid k).out = s.out ∧ (s.markValid k).pending = s.pending := by
  unfold State.markValid
  (repeat' split) <;> simp

@[simp] theorem State.writeMem_keeps (a : Nat) (b : Bytes) (s : State) :
    (s.writeMem a b).clk = s.clk ∧ (s.writeMem a b).hiu = s.hiu ∧ (s.writeMem a b).dsp = s.dsp ∧ (s.writeMem a b).deck = s.deck ∧
    (s.writeMem a b).keys = s.keys ∧ (s.writeMem a b).pay = s.pay ∧ (s.writeMem a b).eng = s.eng ∧ (s.writeMem a b).rng = s.rng ∧
    (s.writeMem a b).trs = s.trs ∧ (s.writeMem a b).mss = s.mss ∧ (s.writeMem a b).tg = s.tg ∧ (s.writeMem a b).par = s.par ∧
    (s.writeMem a b).ks = s.ks ∧ (s.writeMem a b).evr = s.evr ∧ (s.writeMem a b).anc = s.anc ∧ (s.writeMem a b).cfg = s.cfg ∧
    (s.writeMem a b).pwr = s.pwr ∧ (s.writeMem a b).boot = s.boot ∧ (s.writeMem a b).hw = s.hw ∧ (s.writeMem a b).now = s.now ∧
    (s.writeMem a b).backupUs = s.backupUs ∧ (s.writeMem a b).irq = s.irq ∧ (s.writeMem a b).free = s.free ∧ (s.writeMem a b).out = s.out ∧
    (s.writeMem a b).pending = s.pending := by
  unfold State.writeMem
  (repeat' split) <;> simp

@[simp] theorem State.modEng_keeps (e : Nat) (f : Eng → Eng) (s : State) :
    (s.modEng e f).clk = s.clk ∧ (s.modEng e f).hiu = s.hiu ∧ (s.modEng e f).dsp = s.dsp ∧ (s.modEng e f).deck = s.deck ∧
    (s.modEng e f).keys = s.keys ∧ (s.modEng e f).pay = s.pay ∧ (s.modEng e f).rng = s.rng ∧ (s.modEng e f).trs = s.trs ∧
    (s.modEng e f).mss = s.mss ∧ (s.modEng e f).tg = s.tg ∧ (s.modEng e f).mi = s.mi ∧ (s.modEng e f).par = s.par ∧
    (s.modEng e f).ks = s.ks ∧ (s.modEng e f).evr = s.evr ∧ (s.modEng e f).anc = s.anc ∧ (s.modEng e f).cfg = s.cfg ∧
    (s.modEng e f).pwr = s.pwr ∧ (s.modEng e f).boot = s.boot ∧ (s.modEng e f).hw = s.hw ∧ (s.modEng e f).mem = s.mem ∧
    (s.modEng e f).now = s.now ∧ (s.modEng e f).backupUs = s.backupUs ∧ (s.modEng e f).irq = s.irq ∧ (s.modEng e f).free = s.free ∧
    (s.modEng e f).out = s.out ∧ (s.modEng e f).pending = s.pending := by
  simp only [State.modEng]
  (repeat' split) <;> simp

@[simp] theorem State.respond_keeps (pier : Nat) (r : Resp) (s : State) :
    (s.respond pier r).clk = s.clk ∧ (s.respond pier r).hiu = s.hiu ∧ (s.respond pier r).dsp = s.dsp ∧ (s.respond pier r).deck = s.deck ∧
    (s.respond pier r).keys = s.keys ∧ (s.respond pier r).pay = s.pay ∧ (s.respond pier r).rng = s.rng ∧ (s.respond pier r).trs = s.trs ∧
    (s.respond pier r).mss = s.mss ∧ (s.respond pier r).tg = s.tg ∧ (s.respond pier r).mi = s.mi ∧ (s.respond pier r).par = s.par ∧
    (s.respond pier r).ks = s.ks ∧ (s.respond pier r).evr = s.evr ∧ (s.respond pier r).anc = s.anc ∧ (s.respond pier r).cfg = s.cfg ∧
    (s.respond pier r).pwr = s.pwr ∧ (s.respond pier r).boot = s.boot ∧ (s.respond pier r).hw = s.hw ∧ (s.respond pier r).mem = s.mem ∧
    (s.respond pier r).now = s.now ∧ (s.respond pier r).backupUs = s.backupUs ∧ (s.respond pier r).irq = s.irq ∧ (s.respond pier r).free = s.free ∧
    (s.respond pier r).pending = s.pending := by
  simp only [State.respond]
  (repeat' split) <;> simp

@[simp] theorem State.cancelIn_keeps (d e : Nat) (s : State) :
    (s.cancelIn d e).clk = s.clk ∧ (s.cancelIn d e).hiu = s.hiu ∧ (s.cancelIn d e).dsp = s.dsp ∧ (s.cancelIn d e).deck = s.deck ∧
    (s.cancelIn d e).pay = s.pay ∧ (s.cancelIn d e).rng = s.rng ∧ (s.cancelIn d e).trs = s.trs ∧ (s.cancelIn d e).mss = s.mss ∧
    (s.cancelIn d e).tg = s.tg ∧ (s.cancelIn d e).mi = s.mi ∧ (s.cancelIn d e).par = s.par ∧ (s.cancelIn d e).ks = s.ks ∧
    (s.cancelIn d e).evr = s.evr ∧ (s.cancelIn d e).anc = s.anc ∧ (s.cancelIn d e).cfg = s.cfg ∧ (s.cancelIn d e).pwr = s.pwr ∧
    (s.cancelIn d e).boot = s.boot ∧ (s.cancelIn d e).hw = s.hw ∧ (s.cancelIn d e).mem = s.mem ∧ (s.cancelIn d e).now = s.now ∧
    (s.cancelIn d e).backupUs = s.backupUs ∧ (s.cancelIn d e).irq = s.irq ∧ (s.cancelIn d e).free = s.free ∧ (s.cancelIn d e).pending = s.pending := by
  unfold State.cancelIn
  dsimp only
  (repeat' split) <;> simp

@[simp] theorem State.bayOff_keeps (b : Nat) (s : State) :
    (s.bayOff b).clk = s.clk ∧ (s.bayOff b).hiu = s.hiu ∧ (s.bayOff b).dsp = s.dsp ∧ (s.bayOff b).deck = s.deck ∧
    (s.bayOff b).keys = s.keys ∧ (s.bayOff b).pay = s.pay ∧ (s.bayOff b).rng = s.rng ∧ (s.bayOff b).trs = s.trs ∧
    (s.bayOff b).mss = s.mss ∧ (s.bayOff b).tg = s.tg ∧ (s.bayOff b).mi = s.mi ∧ (s.bayOff b).par = s.par ∧
    (s.bayOff b).ks = s.ks ∧ (s.bayOff b).evr = s.evr ∧ (s.bayOff b).anc = s.anc ∧ (s.bayOff b).cfg = s.cfg ∧
    (s.bayOff b).pwr = s.pwr ∧ (s.bayOff b).boot = s.boot ∧ (s.bayOff b).hw = s.hw ∧ (s.bayOff b).mem = s.mem ∧
    (s.bayOff b).now = s.now ∧ (s.bayOff b).backupUs = s.backupUs ∧ (s.bayOff b).irq = s.irq ∧ (s.bayOff b).free = s.free ∧
    (s.bayOff b).out = s.out ∧ (s.bayOff b).pending = s.pending := by
  unfold State.bayOff
  (repeat' split) <;> simp

@[simp] theorem State.scrub_keeps (e : Nat) (s : State) :
    (s.scrub e).clk = s.clk ∧ (s.scrub e).hiu = s.hiu ∧ (s.scrub e).dsp = s.dsp ∧ (s.scrub e).deck = s.deck ∧
    (s.scrub e).keys = s.keys ∧ (s.scrub e).pay = s.pay ∧ (s.scrub e).rng = s.rng ∧ (s.scrub e).trs = s.trs ∧
    (s.scrub e).mss = s.mss ∧ (s.scrub e).tg = s.tg ∧ (s.scrub e).mi = s.mi ∧ (s.scrub e).par = s.par ∧
    (s.scrub e).ks = s.ks ∧ (s.scrub e).evr = s.evr ∧ (s.scrub e).anc = s.anc ∧ (s.scrub e).cfg = s.cfg ∧
    (s.scrub e).pwr = s.pwr ∧ (s.scrub e).boot = s.boot ∧ (s.scrub e).hw = s.hw ∧ (s.scrub e).mem = s.mem ∧
    (s.scrub e).now = s.now ∧ (s.scrub e).backupUs = s.backupUs ∧ (s.scrub e).irq = s.irq ∧ (s.scrub e).free = s.free ∧
    (s.scrub e).out = s.out ∧ (s.scrub e).pending = s.pending := by
  simp only [State.scrub]
  (repeat' split) <;> simp

@[simp] theorem State.toReplay_keeps (d : Nat) (s : State) :
    (s.toReplay d).clk = s.clk ∧ (s.toReplay d).hiu = s.hiu ∧ (s.toReplay d).deck = s.deck ∧ (s.toReplay d).keys = s.keys ∧
    (s.toReplay d).pay = s.pay ∧ (s.toReplay d).eng = s.eng ∧ (s.toReplay d).rng = s.rng ∧ (s.toReplay d).trs = s.trs ∧
    (s.toReplay d).mss = s.mss ∧ (s.toReplay d).tg = s.tg ∧ (s.toReplay d).mi = s.mi ∧ (s.toReplay d).par = s.par ∧
    (s.toReplay d).ks = s.ks ∧ (s.toReplay d).evr = s.evr ∧ (s.toReplay d).anc = s.anc ∧ (s.toReplay d).cfg = s.cfg ∧
    (s.toReplay d).pwr = s.pwr ∧ (s.toReplay d).boot = s.boot ∧ (s.toReplay d).hw = s.hw ∧ (s.toReplay d).mem = s.mem ∧
    (s.toReplay d).now = s.now ∧ (s.toReplay d).backupUs = s.backupUs ∧ (s.toReplay d).irq = s.irq ∧ (s.toReplay d).free = s.free ∧
    (s.toReplay d).out = s.out ∧ (s.toReplay d).pending = s.pending := by
  simp only [State.toReplay]
  (repeat' split) <;> simp

@[simp] theorem State.requestReset_keeps (cause : BitVec 4) (s : State) :
    (s.requestReset cause).clk = s.clk ∧ (s.requestReset cause).pay = s.pay ∧ (s.requestReset cause).eng = s.eng ∧ (s.requestReset cause).rng = s.rng ∧
    (s.requestReset cause).trs = s.trs ∧ (s.requestReset cause).mss = s.mss ∧ (s.requestReset cause).tg = s.tg ∧ (s.requestReset cause).mi = s.mi ∧
    (s.requestReset cause).par = s.par ∧ (s.requestReset cause).ks = s.ks ∧ (s.requestReset cause).evr = s.evr ∧ (s.requestReset cause).cfg = s.cfg ∧
    (s.requestReset cause).pwr = s.pwr ∧ (s.requestReset cause).hw = s.hw ∧ (s.requestReset cause).mem = s.mem ∧ (s.requestReset cause).now = s.now ∧
    (s.requestReset cause).backupUs = s.backupUs ∧ (s.requestReset cause).irq = s.irq ∧ (s.requestReset cause).free = s.free ∧ (s.requestReset cause).out = s.out ∧
    (s.requestReset cause).pending = s.pending := by
  unfold State.requestReset
  dsimp only
  (repeat' split) <;> simp

@[simp] theorem State.keepOutPier_keeps (p cause : Nat) (s : State) :
    (s.keepOutPier p cause).clk = s.clk ∧ (s.keepOutPier p cause).pay = s.pay ∧ (s.keepOutPier p cause).eng = s.eng ∧ (s.keepOutPier p cause).rng = s.rng ∧
    (s.keepOutPier p cause).trs = s.trs ∧ (s.keepOutPier p cause).mss = s.mss ∧ (s.keepOutPier p cause).tg = s.tg ∧ (s.keepOutPier p cause).mi = s.mi ∧
    (s.keepOutPier p cause).par = s.par ∧ (s.keepOutPier p cause).ks = s.ks ∧ (s.keepOutPier p cause).cfg = s.cfg ∧ (s.keepOutPier p cause).hw = s.hw ∧
    (s.keepOutPier p cause).mem = s.mem ∧ (s.keepOutPier p cause).now = s.now ∧ (s.keepOutPier p cause).backupUs = s.backupUs ∧ (s.keepOutPier p cause).free = s.free ∧
    (s.keepOutPier p cause).pending = s.pending := by
  unfold State.keepOutPier
  dsimp only
  (repeat' split) <;> simp

@[simp] theorem State.setSrc_keeps (n : Nat) (x1 : Src) (s : State) :
    (s.setSrc n x1).clk = s.clk ∧ (s.setSrc n x1).hiu = s.hiu ∧ (s.setSrc n x1).dsp = s.dsp ∧ (s.setSrc n x1).deck = s.deck ∧
    (s.setSrc n x1).keys = s.keys ∧ (s.setSrc n x1).pay = s.pay ∧ (s.setSrc n x1).eng = s.eng ∧ (s.setSrc n x1).trs = s.trs ∧
    (s.setSrc n x1).mss = s.mss ∧ (s.setSrc n x1).tg = s.tg ∧ (s.setSrc n x1).mi = s.mi ∧ (s.setSrc n x1).par = s.par ∧
    (s.setSrc n x1).ks = s.ks ∧ (s.setSrc n x1).evr = s.evr ∧ (s.setSrc n x1).anc = s.anc ∧ (s.setSrc n x1).cfg = s.cfg ∧
    (s.setSrc n x1).pwr = s.pwr ∧ (s.setSrc n x1).boot = s.boot ∧ (s.setSrc n x1).hw = s.hw ∧ (s.setSrc n x1).mem = s.mem ∧
    (s.setSrc n x1).now = s.now ∧ (s.setSrc n x1).backupUs = s.backupUs ∧ (s.setSrc n x1).irq = s.irq ∧ (s.setSrc n x1).free = s.free ∧
    (s.setSrc n x1).out = s.out ∧ (s.setSrc n x1).pending = s.pending := by
  simp only [State.setSrc]
  (repeat' split) <;> simp

@[simp] theorem State.setExp_keeps (i : Nat) (x1 : Exp) (s : State) :
    (s.setExp i x1).clk = s.clk ∧ (s.setExp i x1).hiu = s.hiu ∧ (s.setExp i x1).dsp = s.dsp ∧ (s.setExp i x1).deck = s.deck ∧
    (s.setExp i x1).keys = s.keys ∧ (s.setExp i x1).pay = s.pay ∧ (s.setExp i x1).eng = s.eng ∧ (s.setExp i x1).trs = s.trs ∧
    (s.setExp i x1).mss = s.mss ∧ (s.setExp i x1).tg = s.tg ∧ (s.setExp i x1).mi = s.mi ∧ (s.setExp i x1).par = s.par ∧
    (s.setExp i x1).ks = s.ks ∧ (s.setExp i x1).evr = s.evr ∧ (s.setExp i x1).anc = s.anc ∧ (s.setExp i x1).cfg = s.cfg ∧
    (s.setExp i x1).pwr = s.pwr ∧ (s.setExp i x1).boot = s.boot ∧ (s.setExp i x1).hw = s.hw ∧ (s.setExp i x1).mem = s.mem ∧
    (s.setExp i x1).now = s.now ∧ (s.setExp i x1).backupUs = s.backupUs ∧ (s.setExp i x1).irq = s.irq ∧ (s.setExp i x1).free = s.free ∧
    (s.setExp i x1).out = s.out ∧ (s.setExp i x1).pending = s.pending := by
  simp only [State.setExp]
  (repeat' split) <;> simp

@[simp] theorem State.pierDrawFail_keeps (port : Nat) (s : State) :
    (s.pierDrawFail port).clk = s.clk ∧ (s.pierDrawFail port).hiu = s.hiu ∧ (s.pierDrawFail port).dsp = s.dsp ∧ (s.pierDrawFail port).keys = s.keys ∧
    (s.pierDrawFail port).pay = s.pay ∧ (s.pierDrawFail port).eng = s.eng ∧ (s.pierDrawFail port).rng = s.rng ∧ (s.pierDrawFail port).trs = s.trs ∧
    (s.pierDrawFail port).mss = s.mss ∧ (s.pierDrawFail port).tg = s.tg ∧ (s.pierDrawFail port).mi = s.mi ∧ (s.pierDrawFail port).par = s.par ∧
    (s.pierDrawFail port).ks = s.ks ∧ (s.pierDrawFail port).evr = s.evr ∧ (s.pierDrawFail port).anc = s.anc ∧ (s.pierDrawFail port).cfg = s.cfg ∧
    (s.pierDrawFail port).pwr = s.pwr ∧ (s.pierDrawFail port).boot = s.boot ∧ (s.pierDrawFail port).hw = s.hw ∧ (s.pierDrawFail port).mem = s.mem ∧
    (s.pierDrawFail port).now = s.now ∧ (s.pierDrawFail port).backupUs = s.backupUs ∧ (s.pierDrawFail port).irq = s.irq ∧ (s.pierDrawFail port).free = s.free ∧
    (s.pierDrawFail port).out = s.out ∧ (s.pierDrawFail port).pending = s.pending := by
  unfold State.pierDrawFail
  (repeat' split) <;> simp

@[simp] theorem State.drawError_keeps (port : Nat) (s : State) :
    (s.drawError port).clk = s.clk ∧ (s.drawError port).hiu = s.hiu ∧ (s.drawError port).dsp = s.dsp ∧ (s.drawError port).keys = s.keys ∧
    (s.drawError port).pay = s.pay ∧ (s.drawError port).eng = s.eng ∧ (s.drawError port).trs = s.trs ∧ (s.drawError port).mss = s.mss ∧
    (s.drawError port).tg = s.tg ∧ (s.drawError port).mi = s.mi ∧ (s.drawError port).par = s.par ∧ (s.drawError port).ks = s.ks ∧
    (s.drawError port).evr = s.evr ∧ (s.drawError port).anc = s.anc ∧ (s.drawError port).cfg = s.cfg ∧ (s.drawError port).pwr = s.pwr ∧
    (s.drawError port).boot = s.boot ∧ (s.drawError port).hw = s.hw ∧ (s.drawError port).mem = s.mem ∧ (s.drawError port).now = s.now ∧
    (s.drawError port).backupUs = s.backupUs ∧ (s.drawError port).irq = s.irq ∧ (s.drawError port).free = s.free ∧ (s.drawError port).pending = s.pending := by
  unfold State.drawError
  (repeat' split) <;> simp

@[simp] theorem State.rngEvent_keeps (bits : BitVec 6) (s : State) :
    (s.rngEvent bits).clk = s.clk ∧ (s.rngEvent bits).hiu = s.hiu ∧ (s.rngEvent bits).dsp = s.dsp ∧ (s.rngEvent bits).deck = s.deck ∧
    (s.rngEvent bits).keys = s.keys ∧ (s.rngEvent bits).pay = s.pay ∧ (s.rngEvent bits).eng = s.eng ∧ (s.rngEvent bits).trs = s.trs ∧
    (s.rngEvent bits).mss = s.mss ∧ (s.rngEvent bits).tg = s.tg ∧ (s.rngEvent bits).mi = s.mi ∧ (s.rngEvent bits).par = s.par ∧
    (s.rngEvent bits).ks = s.ks ∧ (s.rngEvent bits).evr = s.evr ∧ (s.rngEvent bits).anc = s.anc ∧ (s.rngEvent bits).cfg = s.cfg ∧
    (s.rngEvent bits).boot = s.boot ∧ (s.rngEvent bits).hw = s.hw ∧ (s.rngEvent bits).mem = s.mem ∧ (s.rngEvent bits).now = s.now ∧
    (s.rngEvent bits).backupUs = s.backupUs ∧ (s.rngEvent bits).free = s.free ∧ (s.rngEvent bits).out = s.out ∧ (s.rngEvent bits).pending = s.pending := by
  simp only [State.rngEvent]
  (repeat' split) <;> simp

@[simp] theorem State.rngSettle_keeps (s : State) :
    (s.rngSettle).clk = s.clk ∧ (s.rngSettle).dsp = s.dsp ∧ (s.rngSettle).keys = s.keys ∧ (s.rngSettle).pay = s.pay ∧
    (s.rngSettle).eng = s.eng ∧ (s.rngSettle).trs = s.trs ∧ (s.rngSettle).mss = s.mss ∧ (s.rngSettle).tg = s.tg ∧
    (s.rngSettle).mi = s.mi ∧ (s.rngSettle).par = s.par ∧ (s.rngSettle).ks = s.ks ∧ (s.rngSettle).anc = s.anc ∧
    (s.rngSettle).cfg = s.cfg ∧ (s.rngSettle).boot = s.boot ∧ (s.rngSettle).hw = s.hw ∧ (s.rngSettle).mem = s.mem ∧
    (s.rngSettle).now = s.now ∧ (s.rngSettle).backupUs = s.backupUs ∧ (s.rngSettle).free = s.free ∧ (s.rngSettle).pending = s.pending := by
  unfold State.rngSettle
  dsimp only
  (repeat' split) <;> simp

@[simp] theorem State.done_keeps (d status : Nat) (result : Bytes) (s : State) :
    (s.done d status result).clk = s.clk ∧ (s.done d status result).hiu = s.hiu ∧ (s.done d status result).dsp = s.dsp ∧ (s.done d status result).keys = s.keys ∧
    (s.done d status result).pay = s.pay ∧ (s.done d status result).eng = s.eng ∧ (s.done d status result).rng = s.rng ∧ (s.done d status result).trs = s.trs ∧
    (s.done d status result).mss = s.mss ∧ (s.done d status result).tg = s.tg ∧ (s.done d status result).mi = s.mi ∧ (s.done d status result).par = s.par ∧
    (s.done d status result).ks = s.ks ∧ (s.done d status result).evr = s.evr ∧ (s.done d status result).anc = s.anc ∧ (s.done d status result).cfg = s.cfg ∧
    (s.done d status result).pwr = s.pwr ∧ (s.done d status result).boot = s.boot ∧ (s.done d status result).hw = s.hw ∧ (s.done d status result).mem = s.mem ∧
    (s.done d status result).now = s.now ∧ (s.done d status result).backupUs = s.backupUs ∧ (s.done d status result).irq = s.irq ∧ (s.done d status result).free = s.free ∧
    (s.done d status result).out = s.out ∧ (s.done d status result).pending = s.pending := by
  simp only [State.done]
  (repeat' split) <;> simp

@[simp] theorem State.answer_keeps (d : Nat) (yes : Bool) (s : State) :
    (s.answer d yes).clk = s.clk ∧ (s.answer d yes).hiu = s.hiu ∧ (s.answer d yes).dsp = s.dsp ∧ (s.answer d yes).keys = s.keys ∧
    (s.answer d yes).pay = s.pay ∧ (s.answer d yes).eng = s.eng ∧ (s.answer d yes).rng = s.rng ∧ (s.answer d yes).trs = s.trs ∧
    (s.answer d yes).mss = s.mss ∧ (s.answer d yes).tg = s.tg ∧ (s.answer d yes).mi = s.mi ∧ (s.answer d yes).par = s.par ∧
    (s.answer d yes).ks = s.ks ∧ (s.answer d yes).evr = s.evr ∧ (s.answer d yes).anc = s.anc ∧ (s.answer d yes).cfg = s.cfg ∧
    (s.answer d yes).pwr = s.pwr ∧ (s.answer d yes).boot = s.boot ∧ (s.answer d yes).hw = s.hw ∧ (s.answer d yes).mem = s.mem ∧
    (s.answer d yes).now = s.now ∧ (s.answer d yes).backupUs = s.backupUs ∧ (s.answer d yes).irq = s.irq ∧ (s.answer d yes).free = s.free ∧
    (s.answer d yes).out = s.out ∧ (s.answer d yes).pending = s.pending := by
  simp only [State.answer]
  (repeat' split) <;> simp

@[simp] theorem State.doneWith_keeps (d status : Nat) (result : Bytes) (intents : List Intent) (s : State) :
    (s.doneWith d status result intents).clk = s.clk ∧ (s.doneWith d status result intents).hiu = s.hiu ∧ (s.doneWith d status result intents).dsp = s.dsp ∧ (s.doneWith d status result intents).keys = s.keys ∧
    (s.doneWith d status result intents).pay = s.pay ∧ (s.doneWith d status result intents).eng = s.eng ∧ (s.doneWith d status result intents).rng = s.rng ∧ (s.doneWith d status result intents).trs = s.trs ∧
    (s.doneWith d status result intents).mss = s.mss ∧ (s.doneWith d status result intents).tg = s.tg ∧ (s.doneWith d status result intents).mi = s.mi ∧ (s.doneWith d status result intents).par = s.par ∧
    (s.doneWith d status result intents).ks = s.ks ∧ (s.doneWith d status result intents).evr = s.evr ∧ (s.doneWith d status result intents).anc = s.anc ∧ (s.doneWith d status result intents).cfg = s.cfg ∧
    (s.doneWith d status result intents).pwr = s.pwr ∧ (s.doneWith d status result intents).boot = s.boot ∧ (s.doneWith d status result intents).hw = s.hw ∧ (s.doneWith d status result intents).mem = s.mem ∧
    (s.doneWith d status result intents).now = s.now ∧ (s.doneWith d status result intents).backupUs = s.backupUs ∧ (s.doneWith d status result intents).irq = s.irq ∧ (s.doneWith d status result intents).free = s.free ∧
    (s.doneWith d status result intents).out = s.out ∧ (s.doneWith d status result intents).pending = s.pending := by
  simp only [State.doneWith]
  (repeat' split) <;> simp

@[simp] theorem State.mssRefuse_keeps (st : Nat) (ws : List AncW) (s : State) :
    (s.mssRefuse st ws).clk = s.clk ∧ (s.mssRefuse st ws).dsp = s.dsp ∧ (s.mssRefuse st ws).deck = s.deck ∧ (s.mssRefuse st ws).keys = s.keys ∧
    (s.mssRefuse st ws).pay = s.pay ∧ (s.mssRefuse st ws).eng = s.eng ∧ (s.mssRefuse st ws).rng = s.rng ∧ (s.mssRefuse st ws).trs = s.trs ∧
    (s.mssRefuse st ws).mss = s.mss ∧ (s.mssRefuse st ws).tg = s.tg ∧ (s.mssRefuse st ws).mi = s.mi ∧ (s.mssRefuse st ws).par = s.par ∧
    (s.mssRefuse st ws).ks = s.ks ∧ (s.mssRefuse st ws).cfg = s.cfg ∧ (s.mssRefuse st ws).boot = s.boot ∧ (s.mssRefuse st ws).hw = s.hw ∧
    (s.mssRefuse st ws).mem = s.mem ∧ (s.mssRefuse st ws).now = s.now ∧ (s.mssRefuse st ws).backupUs = s.backupUs ∧ (s.mssRefuse st ws).free = s.free ∧
    (s.mssRefuse st ws).pending = s.pending := by
  simp only [State.mssRefuse]
  (repeat' split) <;> simp

@[simp] theorem State.newRel_keeps (reply : Option (Path × Word × Nat × Bytes)) (act : Option (Nat × BitVec 64 × Word × Nat)) (eff : MssEff) (s : State) :
    (s.newRel reply act eff).clk = s.clk ∧ (s.newRel reply act eff).hiu = s.hiu ∧ (s.newRel reply act eff).dsp = s.dsp ∧ (s.newRel reply act eff).deck = s.deck ∧
    (s.newRel reply act eff).keys = s.keys ∧ (s.newRel reply act eff).pay = s.pay ∧ (s.newRel reply act eff).eng = s.eng ∧ (s.newRel reply act eff).rng = s.rng ∧
    (s.newRel reply act eff).trs = s.trs ∧ (s.newRel reply act eff).tg = s.tg ∧ (s.newRel reply act eff).mi = s.mi ∧ (s.newRel reply act eff).par = s.par ∧
    (s.newRel reply act eff).ks = s.ks ∧ (s.newRel reply act eff).evr = s.evr ∧ (s.newRel reply act eff).anc = s.anc ∧ (s.newRel reply act eff).cfg = s.cfg ∧
    (s.newRel reply act eff).pwr = s.pwr ∧ (s.newRel reply act eff).boot = s.boot ∧ (s.newRel reply act eff).hw = s.hw ∧ (s.newRel reply act eff).mem = s.mem ∧
    (s.newRel reply act eff).now = s.now ∧ (s.newRel reply act eff).backupUs = s.backupUs ∧ (s.newRel reply act eff).irq = s.irq ∧ (s.newRel reply act eff).free = s.free ∧
    (s.newRel reply act eff).out = s.out ∧ (s.newRel reply act eff).pending = s.pending := by
  unfold State.newRel
  (repeat' split) <;> simp

@[simp] theorem State.takeRel_keeps (id : Nat) (s : State) :
    ((s.takeRel id).2).clk = s.clk ∧ ((s.takeRel id).2).hiu = s.hiu ∧ ((s.takeRel id).2).dsp = s.dsp ∧ ((s.takeRel id).2).deck = s.deck ∧
    ((s.takeRel id).2).keys = s.keys ∧ ((s.takeRel id).2).pay = s.pay ∧ ((s.takeRel id).2).eng = s.eng ∧ ((s.takeRel id).2).rng = s.rng ∧
    ((s.takeRel id).2).trs = s.trs ∧ ((s.takeRel id).2).tg = s.tg ∧ ((s.takeRel id).2).mi = s.mi ∧ ((s.takeRel id).2).par = s.par ∧
    ((s.takeRel id).2).ks = s.ks ∧ ((s.takeRel id).2).evr = s.evr ∧ ((s.takeRel id).2).anc = s.anc ∧ ((s.takeRel id).2).cfg = s.cfg ∧
    ((s.takeRel id).2).pwr = s.pwr ∧ ((s.takeRel id).2).boot = s.boot ∧ ((s.takeRel id).2).hw = s.hw ∧ ((s.takeRel id).2).mem = s.mem ∧
    ((s.takeRel id).2).now = s.now ∧ ((s.takeRel id).2).backupUs = s.backupUs ∧ ((s.takeRel id).2).irq = s.irq ∧ ((s.takeRel id).2).free = s.free ∧
    ((s.takeRel id).2).out = s.out ∧ ((s.takeRel id).2).pending = s.pending := by
  unfold State.takeRel
  (repeat' split) <;> simp

@[simp] theorem State.transmit_keeps (n : Nat) (x1 : Nat × Nat × Msg) (s : State) :
    (s.transmit n x1).clk = s.clk ∧ (s.transmit n x1).hiu = s.hiu ∧ (s.transmit n x1).dsp = s.dsp ∧ (s.transmit n x1).deck = s.deck ∧
    (s.transmit n x1).keys = s.keys ∧ (s.transmit n x1).pay = s.pay ∧ (s.transmit n x1).eng = s.eng ∧ (s.transmit n x1).rng = s.rng ∧
    (s.transmit n x1).trs = s.trs ∧ (s.transmit n x1).mss = s.mss ∧ (s.transmit n x1).tg = s.tg ∧ (s.transmit n x1).mi = s.mi ∧
    (s.transmit n x1).par = s.par ∧ (s.transmit n x1).ks = s.ks ∧ (s.transmit n x1).evr = s.evr ∧ (s.transmit n x1).anc = s.anc ∧
    (s.transmit n x1).cfg = s.cfg ∧ (s.transmit n x1).pwr = s.pwr ∧ (s.transmit n x1).boot = s.boot ∧ (s.transmit n x1).hw = s.hw ∧
    (s.transmit n x1).mem = s.mem ∧ (s.transmit n x1).now = s.now ∧ (s.transmit n x1).backupUs = s.backupUs ∧ (s.transmit n x1).irq = s.irq ∧
    (s.transmit n x1).free = s.free ∧ (s.transmit n x1).pending = s.pending := by
  unfold State.transmit
  (repeat' split) <;> simp

@[simp] theorem State.setAssoc_keeps (n : Nat) (a : Assoc) (s : State) :
    (s.setAssoc n a).clk = s.clk ∧ (s.setAssoc n a).hiu = s.hiu ∧ (s.setAssoc n a).dsp = s.dsp ∧ (s.setAssoc n a).deck = s.deck ∧
    (s.setAssoc n a).keys = s.keys ∧ (s.setAssoc n a).pay = s.pay ∧ (s.setAssoc n a).eng = s.eng ∧ (s.setAssoc n a).rng = s.rng ∧
    (s.setAssoc n a).mss = s.mss ∧ (s.setAssoc n a).tg = s.tg ∧ (s.setAssoc n a).mi = s.mi ∧ (s.setAssoc n a).par = s.par ∧
    (s.setAssoc n a).ks = s.ks ∧ (s.setAssoc n a).evr = s.evr ∧ (s.setAssoc n a).anc = s.anc ∧ (s.setAssoc n a).cfg = s.cfg ∧
    (s.setAssoc n a).pwr = s.pwr ∧ (s.setAssoc n a).boot = s.boot ∧ (s.setAssoc n a).hw = s.hw ∧ (s.setAssoc n a).mem = s.mem ∧
    (s.setAssoc n a).now = s.now ∧ (s.setAssoc n a).backupUs = s.backupUs ∧ (s.setAssoc n a).irq = s.irq ∧ (s.setAssoc n a).free = s.free ∧
    (s.setAssoc n a).out = s.out ∧ (s.setAssoc n a).pending = s.pending := by
  unfold State.setAssoc
  (repeat' split) <;> simp

@[simp] theorem State.send_keeps (n tenant : Nat) (m : Msg) (s : State) :
    (s.send n tenant m).clk = s.clk ∧ (s.send n tenant m).hiu = s.hiu ∧ (s.send n tenant m).dsp = s.dsp ∧ (s.send n tenant m).deck = s.deck ∧
    (s.send n tenant m).keys = s.keys ∧ (s.send n tenant m).pay = s.pay ∧ (s.send n tenant m).eng = s.eng ∧ (s.send n tenant m).rng = s.rng ∧
    (s.send n tenant m).mss = s.mss ∧ (s.send n tenant m).tg = s.tg ∧ (s.send n tenant m).mi = s.mi ∧ (s.send n tenant m).par = s.par ∧
    (s.send n tenant m).ks = s.ks ∧ (s.send n tenant m).evr = s.evr ∧ (s.send n tenant m).anc = s.anc ∧ (s.send n tenant m).cfg = s.cfg ∧
    (s.send n tenant m).pwr = s.pwr ∧ (s.send n tenant m).boot = s.boot ∧ (s.send n tenant m).hw = s.hw ∧ (s.send n tenant m).mem = s.mem ∧
    (s.send n tenant m).now = s.now ∧ (s.send n tenant m).backupUs = s.backupUs ∧ (s.send n tenant m).irq = s.irq ∧ (s.send n tenant m).free = s.free ∧
    (s.send n tenant m).pending = s.pending := by
  unfold State.send
  (repeat' split) <;> simp

@[simp] theorem State.sendDown_keeps (tenant : Nat) (m : Msg) (s : State) :
    (s.sendDown tenant m).clk = s.clk ∧ (s.sendDown tenant m).hiu = s.hiu ∧ (s.sendDown tenant m).dsp = s.dsp ∧ (s.sendDown tenant m).deck = s.deck ∧
    (s.sendDown tenant m).keys = s.keys ∧ (s.sendDown tenant m).pay = s.pay ∧ (s.sendDown tenant m).eng = s.eng ∧ (s.sendDown tenant m).rng = s.rng ∧
    (s.sendDown tenant m).mss = s.mss ∧ (s.sendDown tenant m).tg = s.tg ∧ (s.sendDown tenant m).mi = s.mi ∧ (s.sendDown tenant m).par = s.par ∧
    (s.sendDown tenant m).ks = s.ks ∧ (s.sendDown tenant m).evr = s.evr ∧ (s.sendDown tenant m).anc = s.anc ∧ (s.sendDown tenant m).cfg = s.cfg ∧
    (s.sendDown tenant m).pwr = s.pwr ∧ (s.sendDown tenant m).boot = s.boot ∧ (s.sendDown tenant m).hw = s.hw ∧ (s.sendDown tenant m).mem = s.mem ∧
    (s.sendDown tenant m).now = s.now ∧ (s.sendDown tenant m).backupUs = s.backupUs ∧ (s.sendDown tenant m).irq = s.irq ∧ (s.sendDown tenant m).free = s.free ∧
    (s.sendDown tenant m).pending = s.pending := by
  unfold State.sendDown
  (repeat' split) <;> simp

@[simp] theorem State.gotDecision_keeps (pid : BitVec 64) (go : Bool) (excluded : List Nat) (s : State) :
    (s.gotDecision pid go excluded).clk = s.clk ∧ (s.gotDecision pid go excluded).hiu = s.hiu ∧ (s.gotDecision pid go excluded).dsp = s.dsp ∧ (s.gotDecision pid go excluded).keys = s.keys ∧
    (s.gotDecision pid go excluded).pay = s.pay ∧ (s.gotDecision pid go excluded).eng = s.eng ∧ (s.gotDecision pid go excluded).rng = s.rng ∧ (s.gotDecision pid go excluded).trs = s.trs ∧
    (s.gotDecision pid go excluded).mss = s.mss ∧ (s.gotDecision pid go excluded).tg = s.tg ∧ (s.gotDecision pid go excluded).mi = s.mi ∧ (s.gotDecision pid go excluded).par = s.par ∧
    (s.gotDecision pid go excluded).ks = s.ks ∧ (s.gotDecision pid go excluded).evr = s.evr ∧ (s.gotDecision pid go excluded).anc = s.anc ∧ (s.gotDecision pid go excluded).cfg = s.cfg ∧
    (s.gotDecision pid go excluded).pwr = s.pwr ∧ (s.gotDecision pid go excluded).boot = s.boot ∧ (s.gotDecision pid go excluded).hw = s.hw ∧ (s.gotDecision pid go excluded).mem = s.mem ∧
    (s.gotDecision pid go excluded).now = s.now ∧ (s.gotDecision pid go excluded).backupUs = s.backupUs ∧ (s.gotDecision pid go excluded).irq = s.irq ∧ (s.gotDecision pid go excluded).free = s.free ∧
    (s.gotDecision pid go excluded).out = s.out ∧ (s.gotDecision pid go excluded).pending = s.pending := by
  unfold State.gotDecision
  (repeat' split) <;> simp

@[simp] theorem State.sendDecision_keeps (p : Proposal) (go : Bool) (excluded : List Nat) (s : State) :
    (s.sendDecision p go excluded).clk = s.clk ∧ (s.sendDecision p go excluded).hiu = s.hiu ∧ (s.sendDecision p go excluded).dsp = s.dsp ∧ (s.sendDecision p go excluded).keys = s.keys ∧
    (s.sendDecision p go excluded).pay = s.pay ∧ (s.sendDecision p go excluded).eng = s.eng ∧ (s.sendDecision p go excluded).rng = s.rng ∧ (s.sendDecision p go excluded).mss = s.mss ∧
    (s.sendDecision p go excluded).tg = s.tg ∧ (s.sendDecision p go excluded).mi = s.mi ∧ (s.sendDecision p go excluded).par = s.par ∧ (s.sendDecision p go excluded).ks = s.ks ∧
    (s.sendDecision p go excluded).evr = s.evr ∧ (s.sendDecision p go excluded).anc = s.anc ∧ (s.sendDecision p go excluded).cfg = s.cfg ∧ (s.sendDecision p go excluded).pwr = s.pwr ∧
    (s.sendDecision p go excluded).boot = s.boot ∧ (s.sendDecision p go excluded).hw = s.hw ∧ (s.sendDecision p go excluded).mem = s.mem ∧ (s.sendDecision p go excluded).now = s.now ∧
    (s.sendDecision p go excluded).backupUs = s.backupUs ∧ (s.sendDecision p go excluded).irq = s.irq ∧ (s.sendDecision p go excluded).free = s.free ∧ (s.sendDecision p go excluded).pending = s.pending := by
  unfold State.sendDecision
  (repeat' split) <;> simp

@[simp] theorem State.sendUp_keeps (tenant : Nat) (m : Msg) (s : State) :
    (s.sendUp tenant m).clk = s.clk ∧ (s.sendUp tenant m).hiu = s.hiu ∧ (s.sendUp tenant m).dsp = s.dsp ∧ (s.sendUp tenant m).deck = s.deck ∧
    (s.sendUp tenant m).keys = s.keys ∧ (s.sendUp tenant m).pay = s.pay ∧ (s.sendUp tenant m).eng = s.eng ∧ (s.sendUp tenant m).rng = s.rng ∧
    (s.sendUp tenant m).mss = s.mss ∧ (s.sendUp tenant m).tg = s.tg ∧ (s.sendUp tenant m).mi = s.mi ∧ (s.sendUp tenant m).par = s.par ∧
    (s.sendUp tenant m).ks = s.ks ∧ (s.sendUp tenant m).evr = s.evr ∧ (s.sendUp tenant m).anc = s.anc ∧ (s.sendUp tenant m).cfg = s.cfg ∧
    (s.sendUp tenant m).pwr = s.pwr ∧ (s.sendUp tenant m).boot = s.boot ∧ (s.sendUp tenant m).hw = s.hw ∧ (s.sendUp tenant m).mem = s.mem ∧
    (s.sendUp tenant m).now = s.now ∧ (s.sendUp tenant m).backupUs = s.backupUs ∧ (s.sendUp tenant m).irq = s.irq ∧ (s.sendUp tenant m).free = s.free ∧
    (s.sendUp tenant m).pending = s.pending := by
  simp only [State.sendUp]
  (repeat' split) <;> simp

@[simp] theorem State.trsEvent_keeps (bits : BitVec 7) (s : State) :
    (s.trsEvent bits).clk = s.clk ∧ (s.trsEvent bits).dsp = s.dsp ∧ (s.trsEvent bits).deck = s.deck ∧ (s.trsEvent bits).keys = s.keys ∧
    (s.trsEvent bits).pay = s.pay ∧ (s.trsEvent bits).eng = s.eng ∧ (s.trsEvent bits).rng = s.rng ∧ (s.trsEvent bits).mss = s.mss ∧
    (s.trsEvent bits).tg = s.tg ∧ (s.trsEvent bits).mi = s.mi ∧ (s.trsEvent bits).par = s.par ∧ (s.trsEvent bits).ks = s.ks ∧
    (s.trsEvent bits).evr = s.evr ∧ (s.trsEvent bits).anc = s.anc ∧ (s.trsEvent bits).cfg = s.cfg ∧ (s.trsEvent bits).pwr = s.pwr ∧
    (s.trsEvent bits).boot = s.boot ∧ (s.trsEvent bits).hw = s.hw ∧ (s.trsEvent bits).mem = s.mem ∧ (s.trsEvent bits).now = s.now ∧
    (s.trsEvent bits).backupUs = s.backupUs ∧ (s.trsEvent bits).irq = s.irq ∧ (s.trsEvent bits).free = s.free ∧ (s.trsEvent bits).pending = s.pending := by
  simp only [State.trsEvent]
  (repeat' split) <;> simp

@[simp] theorem State.event06_keeps (s : State) :
    (s.event06).clk = s.clk ∧ (s.event06).dsp = s.dsp ∧ (s.event06).deck = s.deck ∧ (s.event06).keys = s.keys ∧
    (s.event06).pay = s.pay ∧ (s.event06).eng = s.eng ∧ (s.event06).rng = s.rng ∧ (s.event06).trs = s.trs ∧
    (s.event06).mss = s.mss ∧ (s.event06).tg = s.tg ∧ (s.event06).mi = s.mi ∧ (s.event06).par = s.par ∧
    (s.event06).ks = s.ks ∧ (s.event06).anc = s.anc ∧ (s.event06).cfg = s.cfg ∧ (s.event06).boot = s.boot ∧
    (s.event06).hw = s.hw ∧ (s.event06).mem = s.mem ∧ (s.event06).now = s.now ∧ (s.event06).backupUs = s.backupUs ∧
    (s.event06).pending = s.pending := by
  simp only [State.event06]
  (repeat' split) <;> simp

@[simp] theorem State.sendEnrol_keeps (dst : Nat) (m : Msg) (s : State) :
    (s.sendEnrol dst m).clk = s.clk ∧ (s.sendEnrol dst m).hiu = s.hiu ∧ (s.sendEnrol dst m).dsp = s.dsp ∧ (s.sendEnrol dst m).deck = s.deck ∧
    (s.sendEnrol dst m).keys = s.keys ∧ (s.sendEnrol dst m).pay = s.pay ∧ (s.sendEnrol dst m).eng = s.eng ∧ (s.sendEnrol dst m).rng = s.rng ∧
    (s.sendEnrol dst m).trs = s.trs ∧ (s.sendEnrol dst m).mss = s.mss ∧ (s.sendEnrol dst m).tg = s.tg ∧ (s.sendEnrol dst m).mi = s.mi ∧
    (s.sendEnrol dst m).par = s.par ∧ (s.sendEnrol dst m).ks = s.ks ∧ (s.sendEnrol dst m).evr = s.evr ∧ (s.sendEnrol dst m).anc = s.anc ∧
    (s.sendEnrol dst m).cfg = s.cfg ∧ (s.sendEnrol dst m).pwr = s.pwr ∧ (s.sendEnrol dst m).boot = s.boot ∧ (s.sendEnrol dst m).hw = s.hw ∧
    (s.sendEnrol dst m).mem = s.mem ∧ (s.sendEnrol dst m).now = s.now ∧ (s.sendEnrol dst m).backupUs = s.backupUs ∧ (s.sendEnrol dst m).irq = s.irq ∧
    (s.sendEnrol dst m).free = s.free ∧ (s.sendEnrol dst m).pending = s.pending := by
  simp only [State.sendEnrol]
  (repeat' split) <;> simp

@[simp] theorem State.sendOn_keeps (n : Nat) (p : Port) (m : Msg) (s : State) :
    (s.sendOn n p m).clk = s.clk ∧ (s.sendOn n p m).hiu = s.hiu ∧ (s.sendOn n p m).dsp = s.dsp ∧ (s.sendOn n p m).deck = s.deck ∧
    (s.sendOn n p m).keys = s.keys ∧ (s.sendOn n p m).pay = s.pay ∧ (s.sendOn n p m).eng = s.eng ∧ (s.sendOn n p m).rng = s.rng ∧
    (s.sendOn n p m).trs = s.trs ∧ (s.sendOn n p m).mss = s.mss ∧ (s.sendOn n p m).tg = s.tg ∧ (s.sendOn n p m).mi = s.mi ∧
    (s.sendOn n p m).par = s.par ∧ (s.sendOn n p m).ks = s.ks ∧ (s.sendOn n p m).evr = s.evr ∧ (s.sendOn n p m).anc = s.anc ∧
    (s.sendOn n p m).cfg = s.cfg ∧ (s.sendOn n p m).pwr = s.pwr ∧ (s.sendOn n p m).boot = s.boot ∧ (s.sendOn n p m).hw = s.hw ∧
    (s.sendOn n p m).mem = s.mem ∧ (s.sendOn n p m).now = s.now ∧ (s.sendOn n p m).backupUs = s.backupUs ∧ (s.sendOn n p m).irq = s.irq ∧
    (s.sendOn n p m).free = s.free ∧ (s.sendOn n p m).pending = s.pending := by
  simp only [State.sendOn]
  (repeat' split) <;> simp

@[simp] theorem State.setQp_keeps (fn q : Nat) (x2 : QP) (s : State) :
    (s.setQp fn q x2).clk = s.clk ∧ (s.setQp fn q x2).dsp = s.dsp ∧ (s.setQp fn q x2).deck = s.deck ∧ (s.setQp fn q x2).keys = s.keys ∧
    (s.setQp fn q x2).pay = s.pay ∧ (s.setQp fn q x2).eng = s.eng ∧ (s.setQp fn q x2).rng = s.rng ∧ (s.setQp fn q x2).trs = s.trs ∧
    (s.setQp fn q x2).mss = s.mss ∧ (s.setQp fn q x2).tg = s.tg ∧ (s.setQp fn q x2).mi = s.mi ∧ (s.setQp fn q x2).par = s.par ∧
    (s.setQp fn q x2).ks = s.ks ∧ (s.setQp fn q x2).evr = s.evr ∧ (s.setQp fn q x2).anc = s.anc ∧ (s.setQp fn q x2).cfg = s.cfg ∧
    (s.setQp fn q x2).pwr = s.pwr ∧ (s.setQp fn q x2).boot = s.boot ∧ (s.setQp fn q x2).hw = s.hw ∧ (s.setQp fn q x2).mem = s.mem ∧
    (s.setQp fn q x2).now = s.now ∧ (s.setQp fn q x2).backupUs = s.backupUs ∧ (s.setQp fn q x2).irq = s.irq ∧ (s.setQp fn q x2).free = s.free ∧
    (s.setQp fn q x2).out = s.out ∧ (s.setQp fn q x2).pending = s.pending := by
  unfold State.setQp
  (repeat' split) <;> simp

@[simp] theorem State.resetFn_keeps (f : Nat) (s : State) :
    (s.resetFn f).clk = s.clk ∧ (s.resetFn f).dsp = s.dsp ∧ (s.resetFn f).deck = s.deck ∧ (s.resetFn f).keys = s.keys ∧
    (s.resetFn f).pay = s.pay ∧ (s.resetFn f).eng = s.eng ∧ (s.resetFn f).rng = s.rng ∧ (s.resetFn f).trs = s.trs ∧
    (s.resetFn f).tg = s.tg ∧ (s.resetFn f).mi = s.mi ∧ (s.resetFn f).par = s.par ∧ (s.resetFn f).ks = s.ks ∧
    (s.resetFn f).evr = s.evr ∧ (s.resetFn f).anc = s.anc ∧ (s.resetFn f).cfg = s.cfg ∧ (s.resetFn f).pwr = s.pwr ∧
    (s.resetFn f).boot = s.boot ∧ (s.resetFn f).hw = s.hw ∧ (s.resetFn f).mem = s.mem ∧ (s.resetFn f).now = s.now ∧
    (s.resetFn f).backupUs = s.backupUs ∧ (s.resetFn f).irq = s.irq ∧ (s.resetFn f).free = s.free ∧ (s.resetFn f).out = s.out ∧
    (s.resetFn f).pending = s.pending := by
  simp only [State.resetFn]
  (repeat' split) <;> simp

@[simp] theorem State.modQp_keeps (f q : Nat) (g : QP → QP) (s : State) :
    (s.modQp f q g).clk = s.clk ∧ (s.modQp f q g).dsp = s.dsp ∧ (s.modQp f q g).deck = s.deck ∧ (s.modQp f q g).keys = s.keys ∧
    (s.modQp f q g).pay = s.pay ∧ (s.modQp f q g).eng = s.eng ∧ (s.modQp f q g).rng = s.rng ∧ (s.modQp f q g).trs = s.trs ∧
    (s.modQp f q g).mss = s.mss ∧ (s.modQp f q g).tg = s.tg ∧ (s.modQp f q g).mi = s.mi ∧ (s.modQp f q g).par = s.par ∧
    (s.modQp f q g).ks = s.ks ∧ (s.modQp f q g).evr = s.evr ∧ (s.modQp f q g).anc = s.anc ∧ (s.modQp f q g).cfg = s.cfg ∧
    (s.modQp f q g).pwr = s.pwr ∧ (s.modQp f q g).boot = s.boot ∧ (s.modQp f q g).hw = s.hw ∧ (s.modQp f q g).mem = s.mem ∧
    (s.modQp f q g).now = s.now ∧ (s.modQp f q g).backupUs = s.backupUs ∧ (s.modQp f q g).irq = s.irq ∧ (s.modQp f q g).free = s.free ∧
    (s.modQp f q g).out = s.out ∧ (s.modQp f q g).pending = s.pending := by
  unfold State.modQp
  (repeat' split) <;> simp

@[simp] theorem State.qpError_keeps (f q : Nat) (bit : BitVec 3) (stop : Bool) (s : State) :
    (s.qpError f q bit stop).clk = s.clk ∧ (s.qpError f q bit stop).dsp = s.dsp ∧ (s.qpError f q bit stop).deck = s.deck ∧ (s.qpError f q bit stop).keys = s.keys ∧
    (s.qpError f q bit stop).pay = s.pay ∧ (s.qpError f q bit stop).eng = s.eng ∧ (s.qpError f q bit stop).rng = s.rng ∧ (s.qpError f q bit stop).trs = s.trs ∧
    (s.qpError f q bit stop).mss = s.mss ∧ (s.qpError f q bit stop).tg = s.tg ∧ (s.qpError f q bit stop).mi = s.mi ∧ (s.qpError f q bit stop).par = s.par ∧
    (s.qpError f q bit stop).ks = s.ks ∧ (s.qpError f q bit stop).evr = s.evr ∧ (s.qpError f q bit stop).anc = s.anc ∧ (s.qpError f q bit stop).cfg = s.cfg ∧
    (s.qpError f q bit stop).pwr = s.pwr ∧ (s.qpError f q bit stop).boot = s.boot ∧ (s.qpError f q bit stop).hw = s.hw ∧ (s.qpError f q bit stop).mem = s.mem ∧
    (s.qpError f q bit stop).now = s.now ∧ (s.qpError f q bit stop).backupUs = s.backupUs ∧ (s.qpError f q bit stop).irq = s.irq ∧ (s.qpError f q bit stop).free = s.free ∧
    (s.qpError f q bit stop).pending = s.pending := by
  unfold State.qpError
  (repeat' split) <;> simp

@[simp] theorem State.dropGrant_keeps (g : Grant) (s : State) :
    (s.dropGrant g).clk = s.clk ∧ (s.dropGrant g).dsp = s.dsp ∧ (s.dropGrant g).keys = s.keys ∧ (s.dropGrant g).pay = s.pay ∧
    (s.dropGrant g).eng = s.eng ∧ (s.dropGrant g).rng = s.rng ∧ (s.dropGrant g).trs = s.trs ∧ (s.dropGrant g).mss = s.mss ∧
    (s.dropGrant g).tg = s.tg ∧ (s.dropGrant g).mi = s.mi ∧ (s.dropGrant g).par = s.par ∧ (s.dropGrant g).ks = s.ks ∧
    (s.dropGrant g).evr = s.evr ∧ (s.dropGrant g).anc = s.anc ∧ (s.dropGrant g).cfg = s.cfg ∧ (s.dropGrant g).pwr = s.pwr ∧
    (s.dropGrant g).boot = s.boot ∧ (s.dropGrant g).hw = s.hw ∧ (s.dropGrant g).mem = s.mem ∧ (s.dropGrant g).now = s.now ∧
    (s.dropGrant g).backupUs = s.backupUs ∧ (s.dropGrant g).irq = s.irq ∧ (s.dropGrant g).free = s.free ∧ (s.dropGrant g).out = s.out ∧
    (s.dropGrant g).pending = s.pending := by
  unfold State.dropGrant
  (repeat' split) <;> simp

@[simp] theorem State.present_keeps (idx fn q : Nat) (d : Bytes) (s : State) :
    (s.present idx fn q d).clk = s.clk ∧ (s.present idx fn q d).hiu = s.hiu ∧ (s.present idx fn q d).keys = s.keys ∧ (s.present idx fn q d).pay = s.pay ∧
    (s.present idx fn q d).eng = s.eng ∧ (s.present idx fn q d).rng = s.rng ∧ (s.present idx fn q d).trs = s.trs ∧ (s.present idx fn q d).mss = s.mss ∧
    (s.present idx fn q d).tg = s.tg ∧ (s.present idx fn q d).mi = s.mi ∧ (s.present idx fn q d).par = s.par ∧ (s.present idx fn q d).ks = s.ks ∧
    (s.present idx fn q d).evr = s.evr ∧ (s.present idx fn q d).anc = s.anc ∧ (s.present idx fn q d).cfg = s.cfg ∧ (s.present idx fn q d).pwr = s.pwr ∧
    (s.present idx fn q d).boot = s.boot ∧ (s.present idx fn q d).hw = s.hw ∧ (s.present idx fn q d).mem = s.mem ∧ (s.present idx fn q d).now = s.now ∧
    (s.present idx fn q d).backupUs = s.backupUs ∧ (s.present idx fn q d).irq = s.irq ∧ (s.present idx fn q d).free = s.free ∧ (s.present idx fn q d).out = s.out ∧
    (s.present idx fn q d).pending = s.pending := by
  simp only [State.present]
  (repeat' split) <;> simp

@[simp] theorem State.setIdState_keeps (x0 : BitVec 3) (s : State) :
    (s.setIdState x0).clk = s.clk ∧ (s.setIdState x0).dsp = s.dsp ∧ (s.setIdState x0).deck = s.deck ∧ (s.setIdState x0).keys = s.keys ∧
    (s.setIdState x0).pay = s.pay ∧ (s.setIdState x0).eng = s.eng ∧ (s.setIdState x0).rng = s.rng ∧ (s.setIdState x0).trs = s.trs ∧
    (s.setIdState x0).tg = s.tg ∧ (s.setIdState x0).mi = s.mi ∧ (s.setIdState x0).par = s.par ∧ (s.setIdState x0).ks = s.ks ∧
    (s.setIdState x0).evr = s.evr ∧ (s.setIdState x0).anc = s.anc ∧ (s.setIdState x0).cfg = s.cfg ∧ (s.setIdState x0).pwr = s.pwr ∧
    (s.setIdState x0).boot = s.boot ∧ (s.setIdState x0).hw = s.hw ∧ (s.setIdState x0).mem = s.mem ∧ (s.setIdState x0).now = s.now ∧
    (s.setIdState x0).backupUs = s.backupUs ∧ (s.setIdState x0).irq = s.irq ∧ (s.setIdState x0).free = s.free ∧ (s.setIdState x0).pending = s.pending := by
  simp only [State.setIdState]
  (repeat' split) <;> simp

@[simp] theorem State.closeFnSess_keeps (f : Nat) (s : State) :
    (s.closeFnSess f).clk = s.clk ∧ (s.closeFnSess f).hiu = s.hiu ∧ (s.closeFnSess f).dsp = s.dsp ∧ (s.closeFnSess f).deck = s.deck ∧
    (s.closeFnSess f).keys = s.keys ∧ (s.closeFnSess f).eng = s.eng ∧ (s.closeFnSess f).rng = s.rng ∧ (s.closeFnSess f).trs = s.trs ∧
    (s.closeFnSess f).mss = s.mss ∧ (s.closeFnSess f).tg = s.tg ∧ (s.closeFnSess f).mi = s.mi ∧ (s.closeFnSess f).par = s.par ∧
    (s.closeFnSess f).ks = s.ks ∧ (s.closeFnSess f).evr = s.evr ∧ (s.closeFnSess f).anc = s.anc ∧ (s.closeFnSess f).cfg = s.cfg ∧
    (s.closeFnSess f).pwr = s.pwr ∧ (s.closeFnSess f).boot = s.boot ∧ (s.closeFnSess f).hw = s.hw ∧ (s.closeFnSess f).mem = s.mem ∧
    (s.closeFnSess f).now = s.now ∧ (s.closeFnSess f).backupUs = s.backupUs ∧ (s.closeFnSess f).irq = s.irq ∧ (s.closeFnSess f).free = s.free ∧
    (s.closeFnSess f).out = s.out ∧ (s.closeFnSess f).pending = s.pending := by
  simp only [State.closeFnSess]
  (repeat' split) <;> simp

@[simp] theorem State.keepOutEng_keeps (e cause : Nat) (s : State) :
    (s.keepOutEng e cause).clk = s.clk ∧ (s.keepOutEng e cause).pay = s.pay ∧ (s.keepOutEng e cause).rng = s.rng ∧ (s.keepOutEng e cause).trs = s.trs ∧
    (s.keepOutEng e cause).mss = s.mss ∧ (s.keepOutEng e cause).tg = s.tg ∧ (s.keepOutEng e cause).mi = s.mi ∧ (s.keepOutEng e cause).par = s.par ∧
    (s.keepOutEng e cause).ks = s.ks ∧ (s.keepOutEng e cause).cfg = s.cfg ∧ (s.keepOutEng e cause).hw = s.hw ∧ (s.keepOutEng e cause).mem = s.mem ∧
    (s.keepOutEng e cause).now = s.now ∧ (s.keepOutEng e cause).backupUs = s.backupUs ∧ (s.keepOutEng e cause).free = s.free ∧ (s.keepOutEng e cause).pending = s.pending := by
  unfold State.keepOutEng
  dsimp only
  (repeat' split) <;> simp

@[simp] theorem State.faultLast_keeps (e kind : Nat) (out : Bool) (s : State) :
    (s.faultLast e kind out).clk = s.clk ∧ (s.faultLast e kind out).hiu = s.hiu ∧ (s.faultLast e kind out).dsp = s.dsp ∧ (s.faultLast e kind out).deck = s.deck ∧
    (s.faultLast e kind out).keys = s.keys ∧ (s.faultLast e kind out).pay = s.pay ∧ (s.faultLast e kind out).rng = s.rng ∧ (s.faultLast e kind out).trs = s.trs ∧
    (s.faultLast e kind out).mss = s.mss ∧ (s.faultLast e kind out).tg = s.tg ∧ (s.faultLast e kind out).mi = s.mi ∧ (s.faultLast e kind out).par = s.par ∧
    (s.faultLast e kind out).ks = s.ks ∧ (s.faultLast e kind out).evr = s.evr ∧ (s.faultLast e kind out).anc = s.anc ∧ (s.faultLast e kind out).cfg = s.cfg ∧
    (s.faultLast e kind out).pwr = s.pwr ∧ (s.faultLast e kind out).boot = s.boot ∧ (s.faultLast e kind out).hw = s.hw ∧ (s.faultLast e kind out).mem = s.mem ∧
    (s.faultLast e kind out).now = s.now ∧ (s.faultLast e kind out).backupUs = s.backupUs ∧ (s.faultLast e kind out).irq = s.irq ∧ (s.faultLast e kind out).free = s.free ∧
    (s.faultLast e kind out).out = s.out ∧ (s.faultLast e kind out).pending = s.pending := by
  simp only [State.faultLast]
  (repeat' split) <;> simp

@[simp] theorem State.setOut_keeps (e i : Nat) (r : Resp) (data : Bytes) (s : State) :
    (s.setOut e i r data).clk = s.clk ∧ (s.setOut e i r data).hiu = s.hiu ∧ (s.setOut e i r data).dsp = s.dsp ∧ (s.setOut e i r data).deck = s.deck ∧
    (s.setOut e i r data).keys = s.keys ∧ (s.setOut e i r data).pay = s.pay ∧ (s.setOut e i r data).rng = s.rng ∧ (s.setOut e i r data).trs = s.trs ∧
    (s.setOut e i r data).mss = s.mss ∧ (s.setOut e i r data).tg = s.tg ∧ (s.setOut e i r data).mi = s.mi ∧ (s.setOut e i r data).par = s.par ∧
    (s.setOut e i r data).ks = s.ks ∧ (s.setOut e i r data).evr = s.evr ∧ (s.setOut e i r data).anc = s.anc ∧ (s.setOut e i r data).cfg = s.cfg ∧
    (s.setOut e i r data).pwr = s.pwr ∧ (s.setOut e i r data).boot = s.boot ∧ (s.setOut e i r data).hw = s.hw ∧ (s.setOut e i r data).mem = s.mem ∧
    (s.setOut e i r data).now = s.now ∧ (s.setOut e i r data).backupUs = s.backupUs ∧ (s.setOut e i r data).irq = s.irq ∧ (s.setOut e i r data).free = s.free ∧
    (s.setOut e i r data).out = s.out ∧ (s.setOut e i r data).pending = s.pending := by
  simp only [State.setOut]
  (repeat' split) <;> simp

@[simp] theorem State.refuseEntry_keeps (e i : Nat) (q : Req) (s : State) :
    (s.refuseEntry e i q).clk = s.clk ∧ (s.refuseEntry e i q).hiu = s.hiu ∧ (s.refuseEntry e i q).dsp = s.dsp ∧ (s.refuseEntry e i q).deck = s.deck ∧
    (s.refuseEntry e i q).keys = s.keys ∧ (s.refuseEntry e i q).pay = s.pay ∧ (s.refuseEntry e i q).rng = s.rng ∧ (s.refuseEntry e i q).trs = s.trs ∧
    (s.refuseEntry e i q).mss = s.mss ∧ (s.refuseEntry e i q).tg = s.tg ∧ (s.refuseEntry e i q).mi = s.mi ∧ (s.refuseEntry e i q).par = s.par ∧
    (s.refuseEntry e i q).ks = s.ks ∧ (s.refuseEntry e i q).evr = s.evr ∧ (s.refuseEntry e i q).anc = s.anc ∧ (s.refuseEntry e i q).cfg = s.cfg ∧
    (s.refuseEntry e i q).pwr = s.pwr ∧ (s.refuseEntry e i q).boot = s.boot ∧ (s.refuseEntry e i q).hw = s.hw ∧ (s.refuseEntry e i q).mem = s.mem ∧
    (s.refuseEntry e i q).now = s.now ∧ (s.refuseEntry e i q).backupUs = s.backupUs ∧ (s.refuseEntry e i q).irq = s.irq ∧ (s.refuseEntry e i q).free = s.free ∧
    (s.refuseEntry e i q).out = s.out ∧ (s.refuseEntry e i q).pending = s.pending := by
  simp only [State.refuseEntry]
  (repeat' split) <;> simp

@[simp] theorem State.countResp_keeps (e st : Nat) (s : State) :
    (s.countResp e st).clk = s.clk ∧ (s.countResp e st).hiu = s.hiu ∧ (s.countResp e st).dsp = s.dsp ∧ (s.countResp e st).deck = s.deck ∧
    (s.countResp e st).keys = s.keys ∧ (s.countResp e st).pay = s.pay ∧ (s.countResp e st).rng = s.rng ∧ (s.countResp e st).trs = s.trs ∧
    (s.countResp e st).mss = s.mss ∧ (s.countResp e st).tg = s.tg ∧ (s.countResp e st).mi = s.mi ∧ (s.countResp e st).par = s.par ∧
    (s.countResp e st).ks = s.ks ∧ (s.countResp e st).evr = s.evr ∧ (s.countResp e st).anc = s.anc ∧ (s.countResp e st).cfg = s.cfg ∧
    (s.countResp e st).pwr = s.pwr ∧ (s.countResp e st).boot = s.boot ∧ (s.countResp e st).hw = s.hw ∧ (s.countResp e st).mem = s.mem ∧
    (s.countResp e st).now = s.now ∧ (s.countResp e st).backupUs = s.backupUs ∧ (s.countResp e st).irq = s.irq ∧ (s.countResp e st).free = s.free ∧
    (s.countResp e st).out = s.out ∧ (s.countResp e st).pending = s.pending := by
  simp only [State.countResp]
  (repeat' split) <;> simp

@[simp] theorem State.reply_keeps (p : Path) (typ : Nat) (tag : Word) (status : Nat) (body : Bytes) (s : State) :
    (s.reply p typ tag status body).clk = s.clk ∧ (s.reply p typ tag status body).dsp = s.dsp ∧ (s.reply p typ tag status body).deck = s.deck ∧ (s.reply p typ tag status body).keys = s.keys ∧
    (s.reply p typ tag status body).pay = s.pay ∧ (s.reply p typ tag status body).eng = s.eng ∧ (s.reply p typ tag status body).rng = s.rng ∧ (s.reply p typ tag status body).trs = s.trs ∧
    (s.reply p typ tag status body).tg = s.tg ∧ (s.reply p typ tag status body).mi = s.mi ∧ (s.reply p typ tag status body).par = s.par ∧ (s.reply p typ tag status body).ks = s.ks ∧
    (s.reply p typ tag status body).evr = s.evr ∧ (s.reply p typ tag status body).anc = s.anc ∧ (s.reply p typ tag status body).cfg = s.cfg ∧ (s.reply p typ tag status body).pwr = s.pwr ∧
    (s.reply p typ tag status body).boot = s.boot ∧ (s.reply p typ tag status body).hw = s.hw ∧ (s.reply p typ tag status body).mem = s.mem ∧ (s.reply p typ tag status body).now = s.now ∧
    (s.reply p typ tag status body).backupUs = s.backupUs ∧ (s.reply p typ tag status body).irq = s.irq ∧ (s.reply p typ tag status body).free = s.free ∧ (s.reply p typ tag status body).pending = s.pending := by
  simp only [State.reply]
  (repeat' split) <;> simp

@[simp] theorem State.takeReq_keeps (p : Path) (typ : Nat) (tag : Word) (s : State) :
    (s.takeReq p typ tag).clk = s.clk ∧ (s.takeReq p typ tag).hiu = s.hiu ∧ (s.takeReq p typ tag).dsp = s.dsp ∧ (s.takeReq p typ tag).deck = s.deck ∧
    (s.takeReq p typ tag).keys = s.keys ∧ (s.takeReq p typ tag).pay = s.pay ∧ (s.takeReq p typ tag).eng = s.eng ∧ (s.takeReq p typ tag).rng = s.rng ∧
    (s.takeReq p typ tag).trs = s.trs ∧ (s.takeReq p typ tag).tg = s.tg ∧ (s.takeReq p typ tag).mi = s.mi ∧ (s.takeReq p typ tag).par = s.par ∧
    (s.takeReq p typ tag).ks = s.ks ∧ (s.takeReq p typ tag).evr = s.evr ∧ (s.takeReq p typ tag).anc = s.anc ∧ (s.takeReq p typ tag).cfg = s.cfg ∧
    (s.takeReq p typ tag).pwr = s.pwr ∧ (s.takeReq p typ tag).boot = s.boot ∧ (s.takeReq p typ tag).hw = s.hw ∧ (s.takeReq p typ tag).mem = s.mem ∧
    (s.takeReq p typ tag).now = s.now ∧ (s.takeReq p typ tag).backupUs = s.backupUs ∧ (s.takeReq p typ tag).irq = s.irq ∧ (s.takeReq p typ tag).free = s.free ∧
    (s.takeReq p typ tag).out = s.out ∧ (s.takeReq p typ tag).pending = s.pending := by
  simp only [State.takeReq]
  (repeat' split) <;> simp

@[simp] theorem State.dropKet_keeps (t : Nat) (s : State) :
    (s.dropKet t).clk = s.clk ∧ (s.dropKet t).hiu = s.hiu ∧ (s.dropKet t).dsp = s.dsp ∧ (s.dropKet t).deck = s.deck ∧
    (s.dropKet t).pay = s.pay ∧ (s.dropKet t).eng = s.eng ∧ (s.dropKet t).rng = s.rng ∧ (s.dropKet t).trs = s.trs ∧
    (s.dropKet t).mss = s.mss ∧ (s.dropKet t).tg = s.tg ∧ (s.dropKet t).mi = s.mi ∧ (s.dropKet t).par = s.par ∧
    (s.dropKet t).ks = s.ks ∧ (s.dropKet t).evr = s.evr ∧ (s.dropKet t).anc = s.anc ∧ (s.dropKet t).cfg = s.cfg ∧
    (s.dropKet t).pwr = s.pwr ∧ (s.dropKet t).boot = s.boot ∧ (s.dropKet t).hw = s.hw ∧ (s.dropKet t).mem = s.mem ∧
    (s.dropKet t).now = s.now ∧ (s.dropKet t).backupUs = s.backupUs ∧ (s.dropKet t).irq = s.irq ∧ (s.dropKet t).free = s.free ∧
    (s.dropKet t).out = s.out ∧ (s.dropKet t).pending = s.pending := by
  simp only [State.dropKet]
  (repeat' split) <;> simp

@[simp] theorem State.jAppend_keeps (t kind kid : Nat) (w : DWord) (s : State) :
    (s.jAppend t kind kid w).clk = s.clk ∧ (s.jAppend t kind kid w).hiu = s.hiu ∧ (s.jAppend t kind kid w).dsp = s.dsp ∧ (s.jAppend t kind kid w).deck = s.deck ∧
    (s.jAppend t kind kid w).pay = s.pay ∧ (s.jAppend t kind kid w).eng = s.eng ∧ (s.jAppend t kind kid w).rng = s.rng ∧ (s.jAppend t kind kid w).trs = s.trs ∧
    (s.jAppend t kind kid w).mss = s.mss ∧ (s.jAppend t kind kid w).tg = s.tg ∧ (s.jAppend t kind kid w).mi = s.mi ∧ (s.jAppend t kind kid w).par = s.par ∧
    (s.jAppend t kind kid w).ks = s.ks ∧ (s.jAppend t kind kid w).evr = s.evr ∧ (s.jAppend t kind kid w).anc = s.anc ∧ (s.jAppend t kind kid w).pwr = s.pwr ∧
    (s.jAppend t kind kid w).boot = s.boot ∧ (s.jAppend t kind kid w).hw = s.hw ∧ (s.jAppend t kind kid w).mem = s.mem ∧ (s.jAppend t kind kid w).now = s.now ∧
    (s.jAppend t kind kid w).backupUs = s.backupUs ∧ (s.jAppend t kind kid w).irq = s.irq ∧ (s.jAppend t kind kid w).free = s.free ∧ (s.jAppend t kind kid w).out = s.out ∧
    (s.jAppend t kind kid w).pending = s.pending := by
  simp only [State.jAppend]
  (repeat' split) <;> simp

@[simp] theorem State.evrRaise_keeps (s : State) :
    (s.evrRaise).clk = s.clk ∧ (s.evrRaise).dsp = s.dsp ∧ (s.evrRaise).deck = s.deck ∧ (s.evrRaise).keys = s.keys ∧
    (s.evrRaise).pay = s.pay ∧ (s.evrRaise).eng = s.eng ∧ (s.evrRaise).rng = s.rng ∧ (s.evrRaise).trs = s.trs ∧
    (s.evrRaise).mss = s.mss ∧ (s.evrRaise).tg = s.tg ∧ (s.evrRaise).mi = s.mi ∧ (s.evrRaise).par = s.par ∧
    (s.evrRaise).ks = s.ks ∧ (s.evrRaise).cfg = s.cfg ∧ (s.evrRaise).boot = s.boot ∧ (s.evrRaise).hw = s.hw ∧
    (s.evrRaise).mem = s.mem ∧ (s.evrRaise).now = s.now ∧ (s.evrRaise).backupUs = s.backupUs ∧ (s.evrRaise).free = s.free ∧
    (s.evrRaise).pending = s.pending := by
  simp only [State.evrRaise]
  (repeat' split) <;> simp

@[simp] theorem State.evrClear_keeps (signers ticket : Word) (s : State) :
    (s.evrClear signers ticket).clk = s.clk ∧ (s.evrClear signers ticket).dsp = s.dsp ∧ (s.evrClear signers ticket).deck = s.deck ∧ (s.evrClear signers ticket).keys = s.keys ∧
    (s.evrClear signers ticket).pay = s.pay ∧ (s.evrClear signers ticket).eng = s.eng ∧ (s.evrClear signers ticket).rng = s.rng ∧ (s.evrClear signers ticket).trs = s.trs ∧
    (s.evrClear signers ticket).mss = s.mss ∧ (s.evrClear signers ticket).tg = s.tg ∧ (s.evrClear signers ticket).mi = s.mi ∧ (s.evrClear signers ticket).par = s.par ∧
    (s.evrClear signers ticket).ks = s.ks ∧ (s.evrClear signers ticket).boot = s.boot ∧ (s.evrClear signers ticket).hw = s.hw ∧ (s.evrClear signers ticket).mem = s.mem ∧
    (s.evrClear signers ticket).now = s.now ∧ (s.evrClear signers ticket).backupUs = s.backupUs ∧ (s.evrClear signers ticket).free = s.free ∧ (s.evrClear signers ticket).pending = s.pending := by
  simp only [State.evrClear]
  (repeat' split) <;> simp

@[simp] theorem State.memCapture_keeps (info addr : Nat) (s : State) :
    (s.memCapture info addr).clk = s.clk ∧ (s.memCapture info addr).hiu = s.hiu ∧ (s.memCapture info addr).dsp = s.dsp ∧ (s.memCapture info addr).deck = s.deck ∧
    (s.memCapture info addr).keys = s.keys ∧ (s.memCapture info addr).pay = s.pay ∧ (s.memCapture info addr).eng = s.eng ∧ (s.memCapture info addr).rng = s.rng ∧
    (s.memCapture info addr).trs = s.trs ∧ (s.memCapture info addr).mss = s.mss ∧ (s.memCapture info addr).tg = s.tg ∧ (s.memCapture info addr).par = s.par ∧
    (s.memCapture info addr).ks = s.ks ∧ (s.memCapture info addr).evr = s.evr ∧ (s.memCapture info addr).anc = s.anc ∧ (s.memCapture info addr).cfg = s.cfg ∧
    (s.memCapture info addr).pwr = s.pwr ∧ (s.memCapture info addr).boot = s.boot ∧ (s.memCapture info addr).hw = s.hw ∧ (s.memCapture info addr).mem = s.mem ∧
    (s.memCapture info addr).now = s.now ∧ (s.memCapture info addr).backupUs = s.backupUs ∧ (s.memCapture info addr).irq = s.irq ∧ (s.memCapture info addr).free = s.free ∧
    (s.memCapture info addr).out = s.out ∧ (s.memCapture info addr).pending = s.pending := by
  simp only [State.memCapture]
  (repeat' split) <;> simp

@[simp] theorem State.memEvent_keeps (code info addr p3 : Nat) (s : State) :
    (s.memEvent code info addr p3).clk = s.clk ∧ (s.memEvent code info addr p3).dsp = s.dsp ∧ (s.memEvent code info addr p3).deck = s.deck ∧ (s.memEvent code info addr p3).keys = s.keys ∧
    (s.memEvent code info addr p3).pay = s.pay ∧ (s.memEvent code info addr p3).eng = s.eng ∧ (s.memEvent code info addr p3).rng = s.rng ∧ (s.memEvent code info addr p3).trs = s.trs ∧
    (s.memEvent code info addr p3).mss = s.mss ∧ (s.memEvent code info addr p3).tg = s.tg ∧ (s.memEvent code info addr p3).mi = s.mi ∧ (s.memEvent code info addr p3).par = s.par ∧
    (s.memEvent code info addr p3).ks = s.ks ∧ (s.memEvent code info addr p3).anc = s.anc ∧ (s.memEvent code info addr p3).cfg = s.cfg ∧ (s.memEvent code info addr p3).boot = s.boot ∧
    (s.memEvent code info addr p3).hw = s.hw ∧ (s.memEvent code info addr p3).mem = s.mem ∧ (s.memEvent code info addr p3).now = s.now ∧ (s.memEvent code info addr p3).backupUs = s.backupUs ∧
    (s.memEvent code info addr p3).free = s.free ∧ (s.memEvent code info addr p3).pending = s.pending := by
  simp only [State.memEvent]
  (repeat' split) <;> simp

@[simp] theorem State.setBlog_keeps (n : Nat) (v : DWord) (s : State) :
    (s.setBlog n v).clk = s.clk ∧ (s.setBlog n v).hiu = s.hiu ∧ (s.setBlog n v).dsp = s.dsp ∧ (s.setBlog n v).deck = s.deck ∧
    (s.setBlog n v).keys = s.keys ∧ (s.setBlog n v).pay = s.pay ∧ (s.setBlog n v).eng = s.eng ∧ (s.setBlog n v).rng = s.rng ∧
    (s.setBlog n v).trs = s.trs ∧ (s.setBlog n v).mss = s.mss ∧ (s.setBlog n v).tg = s.tg ∧ (s.setBlog n v).mi = s.mi ∧
    (s.setBlog n v).ks = s.ks ∧ (s.setBlog n v).evr = s.evr ∧ (s.setBlog n v).anc = s.anc ∧ (s.setBlog n v).cfg = s.cfg ∧
    (s.setBlog n v).pwr = s.pwr ∧ (s.setBlog n v).boot = s.boot ∧ (s.setBlog n v).hw = s.hw ∧ (s.setBlog n v).mem = s.mem ∧
    (s.setBlog n v).now = s.now ∧ (s.setBlog n v).backupUs = s.backupUs ∧ (s.setBlog n v).irq = s.irq ∧ (s.setBlog n v).free = s.free ∧
    (s.setBlog n v).out = s.out ∧ (s.setBlog n v).pending = s.pending := by
  simp only [State.setBlog]
  (repeat' split) <;> simp

@[simp] theorem State.accAnswer_keeps (a : Access) (error : Bool) (data : Bytes) (s : State) :
    (s.accAnswer a error data).clk = s.clk ∧ (s.accAnswer a error data).hiu = s.hiu ∧ (s.accAnswer a error data).dsp = s.dsp ∧ (s.accAnswer a error data).deck = s.deck ∧
    (s.accAnswer a error data).keys = s.keys ∧ (s.accAnswer a error data).pay = s.pay ∧ (s.accAnswer a error data).eng = s.eng ∧ (s.accAnswer a error data).rng = s.rng ∧
    (s.accAnswer a error data).trs = s.trs ∧ (s.accAnswer a error data).mss = s.mss ∧ (s.accAnswer a error data).tg = s.tg ∧ (s.accAnswer a error data).mi = s.mi ∧
    (s.accAnswer a error data).par = s.par ∧ (s.accAnswer a error data).ks = s.ks ∧ (s.accAnswer a error data).evr = s.evr ∧ (s.accAnswer a error data).anc = s.anc ∧
    (s.accAnswer a error data).cfg = s.cfg ∧ (s.accAnswer a error data).pwr = s.pwr ∧ (s.accAnswer a error data).boot = s.boot ∧ (s.accAnswer a error data).hw = s.hw ∧
    (s.accAnswer a error data).mem = s.mem ∧ (s.accAnswer a error data).now = s.now ∧ (s.accAnswer a error data).backupUs = s.backupUs ∧ (s.accAnswer a error data).irq = s.irq ∧
    (s.accAnswer a error data).free = s.free ∧ (s.accAnswer a error data).pending = s.pending := by
  simp only [State.accAnswer]
  (repeat' split) <;> simp

@[simp] theorem State.setTestBits_keeps (a : Access) (k : Nat) (s : State) :
    (s.setTestBits a k).clk = s.clk ∧ (s.setTestBits a k).hiu = s.hiu ∧ (s.setTestBits a k).dsp = s.dsp ∧ (s.setTestBits a k).deck = s.deck ∧
    (s.setTestBits a k).keys = s.keys ∧ (s.setTestBits a k).pay = s.pay ∧ (s.setTestBits a k).eng = s.eng ∧ (s.setTestBits a k).rng = s.rng ∧
    (s.setTestBits a k).trs = s.trs ∧ (s.setTestBits a k).mss = s.mss ∧ (s.setTestBits a k).tg = s.tg ∧ (s.setTestBits a k).par = s.par ∧
    (s.setTestBits a k).ks = s.ks ∧ (s.setTestBits a k).evr = s.evr ∧ (s.setTestBits a k).anc = s.anc ∧ (s.setTestBits a k).cfg = s.cfg ∧
    (s.setTestBits a k).pwr = s.pwr ∧ (s.setTestBits a k).boot = s.boot ∧ (s.setTestBits a k).hw = s.hw ∧ (s.setTestBits a k).mem = s.mem ∧
    (s.setTestBits a k).now = s.now ∧ (s.setTestBits a k).backupUs = s.backupUs ∧ (s.setTestBits a k).irq = s.irq ∧ (s.setTestBits a k).free = s.free ∧
    (s.setTestBits a k).out = s.out ∧ (s.setTestBits a k).pending = s.pending := by
  simp only [State.setTestBits]
  (repeat' split) <;> simp

@[simp] theorem State.dramStore_keeps (a : Access) (i : Nat) (s : State) :
    (s.dramStore a i).clk = s.clk ∧ (s.dramStore a i).hiu = s.hiu ∧ (s.dramStore a i).dsp = s.dsp ∧ (s.dramStore a i).deck = s.deck ∧
    (s.dramStore a i).keys = s.keys ∧ (s.dramStore a i).pay = s.pay ∧ (s.dramStore a i).eng = s.eng ∧ (s.dramStore a i).rng = s.rng ∧
    (s.dramStore a i).trs = s.trs ∧ (s.dramStore a i).mss = s.mss ∧ (s.dramStore a i).tg = s.tg ∧ (s.dramStore a i).par = s.par ∧
    (s.dramStore a i).ks = s.ks ∧ (s.dramStore a i).evr = s.evr ∧ (s.dramStore a i).anc = s.anc ∧ (s.dramStore a i).cfg = s.cfg ∧
    (s.dramStore a i).pwr = s.pwr ∧ (s.dramStore a i).boot = s.boot ∧ (s.dramStore a i).hw = s.hw ∧ (s.dramStore a i).now = s.now ∧
    (s.dramStore a i).backupUs = s.backupUs ∧ (s.dramStore a i).irq = s.irq ∧ (s.dramStore a i).free = s.free ∧ (s.dramStore a i).out = s.out ∧
    (s.dramStore a i).pending = s.pending := by
  simp only [State.dramStore]
  (repeat' split) <;> simp

@[simp] theorem State.wait_keeps (s : State) :
    (s.wait).clk = s.clk ∧ (s.wait).hiu = s.hiu ∧ (s.wait).dsp = s.dsp ∧ (s.wait).deck = s.deck ∧
    (s.wait).keys = s.keys ∧ (s.wait).pay = s.pay ∧ (s.wait).eng = s.eng ∧ (s.wait).rng = s.rng ∧
    (s.wait).trs = s.trs ∧ (s.wait).mss = s.mss ∧ (s.wait).tg = s.tg ∧ (s.wait).mi = s.mi ∧
    (s.wait).par = s.par ∧ (s.wait).ks = s.ks ∧ (s.wait).evr = s.evr ∧ (s.wait).anc = s.anc ∧
    (s.wait).cfg = s.cfg ∧ (s.wait).boot = s.boot ∧ (s.wait).hw = s.hw ∧ (s.wait).mem = s.mem ∧
    (s.wait).now = s.now ∧ (s.wait).backupUs = s.backupUs ∧ (s.wait).irq = s.irq ∧ (s.wait).free = s.free ∧
    (s.wait).out = s.out ∧ (s.wait).pending = s.pending := by
  simp only [State.wait]
  (repeat' split) <;> simp

end Sys2Proof.Machine
end

