-- ==== Sys2Proof/Laws/Frame.lean ====
section
/-! SUPPORT. Frames: their calculus, and the frame of each operation through which a unit reports, promises energy, writes anchors
or answers. -/

namespace Sys2Proof.Machine

/-- One part of the state is the same in both states. -/
def Part.Same (s t : State) : Part → Prop
  | .clk => t.clk = s.clk
  | .hiu => t.hiu = s.hiu
  | .dsp => t.dsp = s.dsp
  | .deck => t.deck = s.deck
  | .keys => t.keys = s.keys
  | .pay => t.pay = s.pay
  | .eng => t.eng = s.eng
  | .rng => t.rng = s.rng
  | .trs => t.trs = s.trs
  | .mss => t.mss = s.mss
  | .tg => t.tg = s.tg
  | .mi => t.mi = s.mi
  | .par => t.par = s.par
  | .ks => t.ks = s.ks
  | .evr => t.evr = s.evr
  | .anc => t.anc = s.anc
  | .cfg => t.cfg = s.cfg
  | .pwr => t.pwr = s.pwr
  | .boot => t.boot = s.boot
  | .hw => t.hw = s.hw
  | .mem => t.mem = s.mem
  | .time => t.now = s.now ∧ t.backupUs = s.backupUs
  | .irq => t.irq = s.irq
  | .free => t.free = s.free
  | .out => t.out = s.out
  | .pending => t.pending = s.pending

theorem Part.Same.refl (p : Part) (s : State) : p.Same s s := by cases p <;> simp [Part.Same]

theorem Part.Same.trans {p : Part} {s t u : State} (h : p.Same s t) (k : p.Same t u) : p.Same s u := by
  cases p <;> simp only [Part.Same] at h k ⊢ <;> first | exact k.trans h | exact ⟨k.1.trans h.1, k.2.trans h.2⟩

/-- A frame, part by part. -/
theorem Frame.iff (l : List Part) (s t : State) : Frame l s t ↔ ∀ p : Part, p ∈ l ∨ p.Same s t := by
  constructor
  · intro h p
    unfold Frame at h
    cases p <;> simp only [Part.Same] <;> simp only [h]
  · intro h
    unfold Frame
    exact ⟨h .clk, h .hiu, h .dsp, h .deck, h .keys, h .pay, h .eng, h .rng, h .trs, h .mss, h .tg, h .mi, h .par, h .ks, h .evr,
      h .anc, h .cfg, h .pwr, h .boot, h .hw, h .mem, h .time, h .irq, h .free, h .out, h .pending⟩

/-- Nothing changes when nothing happens. -/
theorem Frame.refl (l : List Part) (s : State) : Frame l s s := (Frame.iff l s s).2 (fun p => .inr (.refl p s))

/-- A frame that names more parts follows from one that names fewer. -/
theorem Frame.mono {l l' : List Part} {s t : State} (h : Frame l s t) (hl : ∀ p ∈ l, p ∈ l') : Frame l' s t :=
  (Frame.iff l' s t).2 (fun p => ((Frame.iff l s t).1 h p).imp (hl p) id)

/-- **Frames compose.** -/
theorem Frame.trans {l : List Part} {s t u : State} (h : Frame l s t) (k : Frame l t u) : Frame l s u :=
  (Frame.iff l s u).2 (fun p => ((Frame.iff l s t).1 h p).elim .inl
    (fun a => ((Frame.iff l t u).1 k p).imp id a.trans))

/-- The part that a frame does not name is the same. -/
theorem Frame.same {l : List Part} {s t : State} (h : Frame l s t) (p : Part) (hp : p ∉ l) : p.Same s t :=
  ((Frame.iff l s t).1 h p).resolve_left hp

/-- A fold of updates has the frame of each. -/
theorem Frame.foldl {α : Type} {l : List Part} (f : State → α → State) (h : ∀ (s : State) (a : α), Frame l s (f s a)) (xs : List α)
    (s : State) : Frame l s (xs.foldl f s) := by
  induction xs generalizing s with
  | nil => exact .refl l s
  | cons x xs ih => exact (h s x).trans (ih (f s x))

/-! ## Frames of the shared operations -/

theorem State.emit_frame (o : Out) (s : State) : Frame [.out] s (s.emit o) := by simp [Frame]

theorem State.signal_frame (src : Nat) (s : State) : Frame [.irq, .pwr] s (s.signal src) := by simp [Frame]

theorem State.advance_frame (n : Nat) (s : State) : Frame [.time] s (s.advance n) := by simp [Frame]

theorem State.msix_frame (fn vec : Nat) (s : State) : Frame [.hiu, .out] s (s.msix fn vec) := by simp [Frame]

theorem State.tnEvent_frame (t : Nat) (bits : BitVec 3) (s : State) : Frame [.hiu, .out] s (s.tnEvent t bits) := by simp [Frame]

theorem State.event_frame (src code p0 p1 p2 p3 : Nat) (s : State) : Frame (reports []) s (s.event src code p0 p1 p2 p3) := by
  simp [Frame, reports]

theorem State.eventSig_frame (src code p0 p1 p2 p3 : Nat) (s : State) :
    Frame (reports []) s (s.eventSig src code p0 p1 p2 p3) := by simp [Frame, reports]

theorem State.nrgEvent_frame (bits : BitVec 4) (s : State) : Frame [.hiu, .irq, .pwr, .out] s (s.nrgEvent bits) := by simp [Frame]

theorem State.admitCost_frame (c : Nat) (s : State) : Frame [.pwr] s (s.admitCost c) := by simp [Frame]

theorem State.repay_frame (c : Nat) (s : State) : Frame [.pwr] s (s.repay c) := by simp [Frame]

theorem State.refuse_frame (c : Nat) (s : State) : Frame (reports []) s (s.refuse c) := by simp [Frame, reports]

theorem State.ancRefuse_frame (w cause : Nat) (s : State) : Frame (reports [.anc]) s (s.ancRefuse w cause) := by simp [Frame, reports]

theorem State.ancWrite_frame (w : Nat) (vals : List DWord) (e : Eff) (s : State) :
    Frame (reports [.anc]) s (s.ancWrite w vals e).1 := by simp [Frame, reports]

theorem State.ancPersist_frame (a : AncWrite) (rest : List AncWrite) (s : State) : Frame [.anc, .pwr] s (s.ancPersist a rest) := by
  simp [Frame]

theorem State.setEnt_frame (d : Nat) (e : Entry) (s : State) : Frame [.deck] s (s.setEnt d e) := by simp [Frame]

theorem State.modEnt_frame (d : Nat) (f : Entry → Entry) (s : State) : Frame [.deck] s (s.modEnt d f) := by simp [Frame]

theorem State.setEng_frame (e : Nat) (x : Eng) (s : State) : Frame [.eng] s (s.setEng e x) := by simp [Frame]

theorem State.setPier_frame (p : Nat) (x : PierSt) (s : State) : Frame [.dsp] s (s.setPier p x) := by simp [Frame]

theorem State.respond_frame (p : Nat) (r : Resp) (s : State) : Frame [.eng, .out] s (s.respond p r) := by simp [Frame]

theorem State.writeMem_frame (a : Nat) (b : Bytes) (s : State) : Frame [.mem, .mi] s (s.writeMem a b) := by simp [Frame]

theorem State.memEvent_frame (code p0 p1 p2 : Nat) (s : State) : Frame (reports []) s (s.memEvent code p0 p1 p2) := by
  simp [Frame, reports]

theorem State.send_frame (n tenant : Nat) (m : Msg) (s : State) : Frame [.trs, .out] s (s.send n tenant m) := by simp [Frame]

theorem State.reply_frame (p : Path) (typ : Nat) (tag : Word) (st : Nat) (body : Bytes) (s : State) :
    Frame [.hiu, .mss, .out] s (s.reply p typ tag st body) := by simp [Frame]

/-- The frame of a draw of randomness that is served. -/
theorem State.rngTake_frame (n : Nat) (s u : State) (b : Bytes) (h : s.rngTake n = .ok b u) : Frame [.rng] s u := by
  unfold State.rngTake at h
  split at h
  · cases h
  · split at h
    · cases h
    · split at h
      · cases h
      · cases h
        simp [Frame]

end Sys2Proof.Machine
end

