-- ==== Sys2Proof/Laws/Table.lean ====
section
/-! SUPPORT. Laws of the sparse tables and of the byte memories: what is read after a write, and that every operation keeps
the canonical form. -/

namespace Sys2Proof.Machine

variable {α : Type} [DecidableEq α]

/-- The canonical form above a bound, as a Prop: the first index lies above it, its value is not the default, the rest lies above it. -/
theorem tblOk_cons (d : α) (lo : Option Nat) (k : Nat) (v : α) (t : Tbl α) :
    tblOk d lo ((k, v) :: t) = true ↔ (∀ l, lo = some l → l < k) ∧ v ≠ d ∧ tblOk d (some k) t = true := by
  cases lo <;> simp [tblOk, and_assoc]

/-- A table above a bound is one above any lower bound. -/
theorem tblOk_lower (d : α) (k l : Nat) (t : Tbl α) (hk : l < k) (h : tblOk d (some k) t = true) : tblOk d (some l) t = true := by
  cases t with
  | nil => rfl
  | cons e t =>
    obtain ⟨a, v⟩ := e
    rw [tblOk_cons] at h ⊢
    exact ⟨fun x hx => by cases hx; exact Nat.lt_trans hk (h.1 k rfl), h.2⟩

/-- A table above a bound is canonical. -/
theorem tblOk_none (d : α) (lo : Option Nat) (t : Tbl α) (h : tblOk d lo t = true) : tblWf d t := by
  cases t with
  | nil => rfl
  | cons e t =>
    obtain ⟨a, v⟩ := e
    unfold tblWf
    rw [tblOk_cons] at h ⊢
    exact ⟨fun x hx => (by cases hx), h.2⟩

/-- An index at or below the bound of a table is not listed in it. -/
theorem tblGet_below (d : α) (k l : Nat) (t : Tbl α) (h : tblOk d (some l) t = true) (hk : k ≤ l) : tblGet d t k = d := by
  induction t generalizing l with
  | nil => rfl
  | cons e t ih =>
    obtain ⟨a, v⟩ := e
    rw [tblOk_cons] at h
    have hl := h.1 l rfl
    simp only [tblGet]
    rw [if_neg (by omega)]
    exact ih a h.2.2 (by omega)

omit [DecidableEq α] in
@[simp] theorem tblGet_nil (d : α) (k : Nat) : tblGet d [] k = d := rfl

theorem tblGet_tblCons (d : α) (k j : Nat) (v : α) (t : Tbl α) (h : tblOk d (some k) t = true) :
    tblGet d (tblCons d k v t) j = if k = j then v else tblGet d t j := by
  unfold tblCons
  split
  · rename_i hv
    split
    · rename_i hj
      rw [← hj, tblGet_below d k k t h (Nat.le_refl k), hv]
    · rfl
  · rfl

theorem tblOk_tblCons (d : α) (lo : Option Nat) (k : Nat) (v : α) (t : Tbl α) (hlo : ∀ l, lo = some l → l < k)
    (h : tblOk d (some k) t = true) : tblOk d lo (tblCons d k v t) = true := by
  unfold tblCons
  split
  · cases lo with
    | none => exact tblOk_none d _ t h
    | some l => exact tblOk_lower d k l t (hlo l rfl) h
  · rename_i hv
    rw [tblOk_cons]
    exact ⟨hlo, hv, h⟩

/-- Writing keeps a table canonical above a bound below the index. -/
theorem tblOk_tblSet (d : α) (lo : Option Nat) (k : Nat) (v : α) (t : Tbl α) (hlo : ∀ l, lo = some l → l < k)
    (h : tblOk d lo t = true) : tblOk d lo (tblSet d k v t) = true := by
  induction t generalizing lo with
  | nil => exact tblOk_tblCons d lo k v [] hlo rfl
  | cons e t ih =>
    obtain ⟨a, w⟩ := e
    rw [tblOk_cons] at h
    simp only [tblSet]
    split
    · rename_i hk
      refine tblOk_tblCons d lo k v _ hlo ?_
      rw [tblOk_cons]
      exact ⟨fun l hl => by cases hl; exact hk, h.2⟩
    · split
      · rename_i _ he
        subst he
        exact tblOk_tblCons d lo a v t h.1 h.2.2
      · rw [tblOk_cons]
        exact ⟨h.1, h.2.1, ih (some a) (fun l hl => by cases hl; omega) h.2.2⟩

/-- **Writing keeps the canonical form.** -/
theorem tblSet_wf (d : α) (k : Nat) (v : α) (t : Tbl α) (h : tblWf d t) : tblWf d (tblSet d k v t) :=
  tblOk_tblSet d none k v t (fun l hl => by cases hl) h

/-- What a canonical table reads after a write. -/
theorem tblGet_tblSet_above (d : α) (lo : Option Nat) (k j : Nat) (v : α) (t : Tbl α) (h : tblOk d lo t = true) :
    tblGet d (tblSet d k v t) j = if k = j then v else tblGet d t j := by
  induction t generalizing lo with
  | nil => exact tblGet_tblCons d k j v [] rfl
  | cons e t ih =>
    obtain ⟨a, w⟩ := e
    rw [tblOk_cons] at h
    simp only [tblSet]
    split
    · rename_i hk
      refine tblGet_tblCons d k j v _ ?_
      rw [tblOk_cons]
      exact ⟨fun l hl => by cases hl; exact hk, h.2⟩
    · split
      · rename_i _ he
        subst he
        rw [tblGet_tblCons d a j v t h.2.2]
        simp only [tblGet]
        split <;> rfl
      · rename_i hk he
        simp only [tblGet]
        split
        · rename_i haj
          rw [if_neg (by omega)]
        · exact ih (some a) h.2.2

/-- **A read after a write**: the written index reads the value written, every other as before. -/
theorem tblGet_tblSet (d : α) (k j : Nat) (v : α) (t : Tbl α) (h : tblWf d t) :
    tblGet d (tblSet d k v t) j = if k = j then v else tblGet d t j := tblGet_tblSet_above d none k j v t h

theorem tblGet_tblSet_same (d : α) (k : Nat) (v : α) (t : Tbl α) (h : tblWf d t) : tblGet d (tblSet d k v t) k = v := by
  rw [tblGet_tblSet d k k v t h, if_pos rfl]

theorem tblGet_tblSet_other (d : α) (k j : Nat) (v : α) (t : Tbl α) (h : tblWf d t) (hk : k ≠ j) :
    tblGet d (tblSet d k v t) j = tblGet d t j := by rw [tblGet_tblSet d k j v t h, if_neg hk]

/-- Changing the value at an index keeps the canonical form. -/
theorem tblMod_wf (d : α) (k : Nat) (f : α → α) (t : Tbl α) (h : tblWf d t) : tblWf d (tblMod d k f t) := tblSet_wf d k _ t h

theorem tblGet_tblMod (d : α) (k j : Nat) (f : α → α) (t : Tbl α) (h : tblWf d t) :
    tblGet d (tblMod d k f t) j = if k = j then f (tblGet d t k) else tblGet d t j := tblGet_tblSet d k j _ t h

theorem tblOk_tblDrop (d : α) (p : Nat → Bool) (lo : Option Nat) (t : Tbl α) (h : tblOk d lo t = true) :
    tblOk d lo (tblDrop p t) = true := by
  induction t generalizing lo with
  | nil => rfl
  | cons e t ih =>
    obtain ⟨a, w⟩ := e
    rw [tblOk_cons] at h
    unfold tblDrop
    rw [List.filter_cons]
    split
    · rw [tblOk_cons]
      exact ⟨h.1, h.2.1, ih (some a) h.2.2⟩
    · have := ih (some a) h.2.2
      cases lo with
      | none => exact tblOk_none d _ _ this
      | some l => exact tblOk_lower d a l _ (h.1 l rfl) this

/-- Removing indices keeps the canonical form. -/
theorem tblDrop_wf (d : α) (p : Nat → Bool) (t : Tbl α) (h : tblWf d t) : tblWf d (tblDrop p t) := tblOk_tblDrop d p none t h

omit [DecidableEq α] in
/-- A removed index reads the default, every other as before. -/
theorem tblGet_tblDrop (d : α) (p : Nat → Bool) (t : Tbl α) (j : Nat) :
    tblGet d (tblDrop p t) j = if p j then d else tblGet d t j := by
  induction t with
  | nil => simp [tblDrop]
  | cons e t ih =>
    obtain ⟨a, w⟩ := e
    unfold tblDrop at ih ⊢
    by_cases ha : p a <;> by_cases hj : a = j
    · subst hj
      simp_all
    · simp_all [tblGet]
    · subst hj
      simp_all [tblGet]
    · simp_all [tblGet]

theorem tblOk_tblMap (d : α) (f : Nat → α → α) (lo : Option Nat) (t : Tbl α) (h : tblOk d lo t = true) :
    tblOk d lo (tblMap d f t) = true := by
  induction t generalizing lo with
  | nil => rfl
  | cons e t ih =>
    obtain ⟨a, w⟩ := e
    rw [tblOk_cons] at h
    exact tblOk_tblCons d lo a _ _ h.1 (ih (some a) h.2.2)

/-- Changing every listed value keeps the canonical form. -/
theorem tblMap_wf (d : α) (f : Nat → α → α) (t : Tbl α) (h : tblWf d t) : tblWf d (tblMap d f t) := tblOk_tblMap d f none t h

/-! ## Byte memories -/

/-- Every byte write keeps a memory canonical. -/
theorem setByte_wf (d : Byte) (m : List Host.Cell) (a : Nat) (b : Byte) (h : Memory.wf d m) : Memory.wf d (setByte d m a b) :=
  tblSet_wf d a b m h

/-- **Writing a string of bytes keeps a memory canonical.** -/
theorem setBytes_wf (d : Byte) (m : List Host.Cell) (a : Nat) (bs : Bytes) (h : Memory.wf d m) : Memory.wf d (setBytes d m a bs) := by
  induction bs generalizing m a with
  | nil => exact h
  | cons b bs ih => exact ih _ _ (setByte_wf d m a b h)

/-- Clearing a range keeps a memory canonical. -/
theorem clearBytes_wf (d : Byte) (m : List Host.Cell) (a n : Nat) (h : Memory.wf d m) : Memory.wf d (clearBytes m a n) :=
  tblDrop_wf d _ m h

/-- A byte after one byte is written. -/
theorem byteAt_setByte (d : Byte) (m : List Host.Cell) (a j : Nat) (b : Byte) (h : Memory.wf d m) :
    byteAt d (setByte d m a b) j = if a = j then b else byteAt d m j := tblGet_tblSet d a j b m h

/-- **A byte after a string is written**: the string's own byte inside it, the former byte outside it. -/
theorem byteAt_setBytes (d : Byte) (m : List Host.Cell) (a j : Nat) (bs : Bytes) (h : Memory.wf d m) :
    byteAt d (setBytes d m a bs) j = if a ≤ j ∧ j < a + bs.length then bs.getD (j - a) 0 else byteAt d m j := by
  induction bs generalizing m a with
  | nil => simp [setBytes]
  | cons b bs ih =>
    simp only [setBytes]
    rw [ih _ _ (setByte_wf d m a b h), byteAt_setByte d m a j b h]
    by_cases h1 : a = j
    · subst h1
      rw [if_neg (by omega), if_pos rfl, if_pos ⟨Nat.le_refl a, by simp⟩]
      simp
    · by_cases h2 : a + 1 ≤ j ∧ j < a + 1 + bs.length
      · rw [if_pos h2, if_pos ⟨by omega, by simp; omega⟩]
        obtain ⟨k, rfl⟩ : ∃ k, j = a + 1 + k := ⟨j - (a + 1), by omega⟩
        rw [show a + 1 + k - (a + 1) = k by omega, show a + 1 + k - a = k + 1 by omega]
        simp
      · rw [if_neg h2, if_neg h1, if_neg (by simp; omega)]

/-- A string of bytes written nowhere near an address leaves it alone. -/
theorem byteAt_setBytes_outside (d : Byte) (m : List Host.Cell) (a j : Nat) (bs : Bytes) (h : Memory.wf d m)
    (hj : j < a ∨ a + bs.length ≤ j) : byteAt d (setBytes d m a bs) j = byteAt d m j := by
  rw [byteAt_setBytes d m a j bs h, if_neg (by omega)]

/-- A cleared byte reads the unlisted value, every other as before. -/
theorem byteAt_clearBytes (d : Byte) (m : List Host.Cell) (a n j : Nat) :
    byteAt d (clearBytes m a n) j = if a ≤ j ∧ j < a + n then d else byteAt d m j := by
  unfold byteAt clearBytes
  rw [tblGet_tblDrop]
  simp

@[simp] theorem bytesAt_length (d : Byte) (m : List Host.Cell) (a n : Nat) : (bytesAt d m a n).length = n := by
  induction n generalizing a with
  | zero => rfl
  | succ n ih => simp [bytesAt, ih]

/-- **A string that was written reads back.** -/
theorem bytesAt_setBytes (d : Byte) (m : List Host.Cell) (a : Nat) (bs : Bytes) (h : Memory.wf d m) :
    bytesAt d (setBytes d m a bs) a bs.length = bs := by
  have key : ∀ (n i : Nat), i + n = bs.length → bytesAt d (setBytes d m a bs) (a + i) n = bs.drop i := by
    intro n
    induction n with
    | zero => intro i hi; simp [bytesAt]; omega
    | succ n ih =>
      intro i hi
      simp only [bytesAt]
      rw [byteAt_setBytes d m a _ bs h, if_pos (by omega), Nat.add_assoc, ih (i + 1) (by omega), Nat.add_sub_cancel_left]
      rw [List.getD_eq_getElem bs 0 (by omega), ← List.drop_eq_getElem_cons (by omega)]
  simpa using key bs.length 0 (by omega)

end Sys2Proof.Machine
end

