-- ==== Sys2Proof/Laws/Memory.lean ====
section
/-! SUPPORT. The module's memories: every operation that changes the SRAM pool, MSS SRAM and module DRAM, or the configuration flash,
keeps their canonical form, and what a byte reads after a write of an internal address. -/

namespace Sys2Proof.Machine

/-- Memory at reset is canonical: it lists nothing. -/
theorem reset_mem_wf : Memory.wf 0 State.reset.mem := rfl

/-- The flash at reset is canonical. -/
theorem reset_flash_wf : Memory.wf 0xFF State.reset.cfg.flash := rfl

/-- Marking words valid leaves every byte alone. -/
theorem markValid_fold_mem (l : List Nat) (s : State) : (l.foldl (fun (s : State) k => s.markValid k) s).mem = s.mem :=
  foldl_keep State.mem _ l s (fun _ _ => rfl)

/-- What a write of an internal address does to memory (R40, R486): nothing unless both its ends lie in the pool, MSS SRAM or DRAM. -/
theorem State.writeMem_mem (a : Nat) (b : Bytes) (s : State) :
    (s.writeMem a b).mem = s.mem ∨ (s.writeMem a b).mem = setBytes 0 s.mem a b := by
  unfold State.writeMem
  split
  · exact .inl rfl
  · split <;> first | exact .inl rfl | exact .inr rfl | exact .inr (markValid_fold_mem _ _)

/-- **A write of an internal address keeps memory canonical.** -/
theorem State.writeMem_wf (a : Nat) (b : Bytes) (s : State) (h : Memory.wf 0 s.mem) : Memory.wf 0 (s.writeMem a b).mem := by
  cases s.writeMem_mem a b with
  | inl e => rw [e]; exact h
  | inr e => rw [e]; exact setBytes_wf 0 s.mem a b h

/-- **A byte outside a write reads as before it.** -/
theorem State.writeMem_outside (a x : Nat) (b : Bytes) (s : State) (h : Memory.wf 0 s.mem) (hx : x < a ∨ a + b.length ≤ x) :
    byteAt 0 (s.writeMem a b).mem x = byteAt 0 s.mem x := by
  cases s.writeMem_mem a b with
  | inl e => rw [e]
  | inr e => rw [e]; exact byteAt_setBytes_outside 0 s.mem a x b h hx

/-- A write within one region with storage reads back. -/
theorem State.writeMem_read (a : Nat) (b : Bytes) (s : State) (h : Memory.wf 0 s.mem) (hr : regionOf a = regionOf (a + b.length - 1))
    (hd : regionOf a = .dram ∨ regionOf a = .pool ∨ regionOf a = .mssSram) : (s.writeMem a b).readMem a b.length = b := by
  have e : (s.writeMem a b).mem = setBytes 0 s.mem a b := by
    unfold State.writeMem
    rw [if_neg (by simpa using hr)]
    rcases hd with hd | hd | hd <;> rw [hd] <;> first | rfl | exact markValid_fold_mem _ _
  unfold State.readMem
  rw [e]
  exact bytesAt_setBytes 0 s.mem a b h

/-- Clearing a range keeps memory canonical. -/
theorem State.clearRange_wf (a n : Nat) (s : State) (h : Memory.wf 0 s.mem) : Memory.wf 0 (s.clearRange a n).mem :=
  clearBytes_wf 0 s.mem a n h

theorem State.clearPool_wf (s : State) (h : Memory.wf 0 s.mem) : Memory.wf 0 s.clearPool.mem := s.clearRange_wf _ _ h

theorem State.clearMssSram_wf (s : State) (h : Memory.wf 0 s.mem) : Memory.wf 0 s.clearMssSram.mem := s.clearRange_wf _ _ h

/-- Zero-filling DRAM keeps memory canonical. -/
theorem State.clearDram_wf (s : State) (h : Memory.wf 0 s.mem) : Memory.wf 0 s.clearDram.mem := clearBytes_wf 0 s.mem _ _ h

/-- A poisoned stripe holds zeros, in a canonical memory. -/
theorem State.poisonStripe_mem (i : Nat) (s : State) : (s.poisonStripe i).mem = clearBytes s.mem (0x1000000000 + 192 * i) 192 := by
  unfold State.poisonStripe
  dsimp only
  split <;> rfl

theorem State.poisonStripe_wf (i : Nat) (s : State) (h : Memory.wf 0 s.mem) : Memory.wf 0 (s.poisonStripe i).mem := by
  rw [s.poisonStripe_mem i]
  exact clearBytes_wf 0 s.mem _ _ h

/-- Storing a merged stripe keeps memory canonical. -/
theorem State.dramStore_wf (a : Access) (i : Nat) (s : State) (h : Memory.wf 0 s.mem) : Memory.wf 0 (s.dramStore a i).mem :=
  setBytes_wf 0 s.mem _ _ h

/-- The bytes of an SRAM write keep memory canonical. -/
theorem putBytes_wf (bad : List Nat) (x : Nat) (bs : Bytes) (s : State) (h : Memory.wf 0 s.mem) :
    Memory.wf 0 (putBytes bad x bs s).mem := by
  induction bs generalizing x s with
  | nil => exact h
  | cons b bs ih =>
    unfold putBytes
    refine ih _ _ ?_
    split
    · exact h
    · exact setByte_wf 0 s.mem x b h

/-! ## The configuration flash -/

/-- A journal record that the MSS appends keeps the flash canonical. -/
theorem State.jAppend_wf (t kind kid : Nat) (w : DWord) (s : State) (h : Memory.wf 0xFF s.cfg.flash) :
    Memory.wf 0xFF (s.jAppend t kind kid w).cfg.flash := by
  simp only [State.jAppend]
  exact setBytes_wf 0xFF s.cfg.flash _ _ h

/-- Recording an event leaves the flash canonical. -/
theorem State.event_flash_wf (src code p0 p1 p2 p3 : Nat) (s : State) (h : Memory.wf 0xFF s.cfg.flash) :
    Memory.wf 0xFF (s.event src code p0 p1 p2 p3).cfg.flash := by
  rw [show (s.event src code p0 p1 p2 p3).cfg = s.cfg by simp]
  exact h

/-- Programming the inactive bank keeps the flash canonical. -/
theorem State.programBank_wf (image : Bytes) (s : State) (h : Memory.wf 0xFF s.cfg.flash) :
    Memory.wf 0xFF (s.programBank image).cfg.flash := by
  simp only [State.programBank]
  refine State.event_flash_wf _ _ _ _ _ _ _ ?_
  exact setBytes_wf 0xFF _ _ _ (clearBytes_wf 0xFF s.cfg.flash _ _ h)

end Sys2Proof.Machine
end

