-- ==== Sys2Proof/Laws/Shared.lean ====
section
/-! SUPPORT. What the shared operations do: reading what was just written, what becomes of a record that is offered, of a cost, of an
anchor write and of a draw. -/

namespace Sys2Proof.Machine

/-! ## Reading after writing -/

theorem State.entOf_setEnt (d j : Nat) (e : Entry) (s : State) (h : tblWf none s.deck.ent) :
    (s.setEnt d e).entOf j = if d = j then some e else s.entOf j := tblGet_tblSet none d j (some e) s.deck.ent h

theorem State.setEnt_wf (d : Nat) (e : Entry) (s : State) (h : tblWf none s.deck.ent) : tblWf none (s.setEnt d e).deck.ent :=
  tblSet_wf none d (some e) s.deck.ent h

/-- Changing an item's entry: where it holds one, that entry is changed; every other entry stays. -/
theorem State.entOf_modEnt (d j : Nat) (f : Entry → Entry) (s : State) (h : tblWf none s.deck.ent) :
    (s.modEnt d f).entOf j = if d = j then (s.entOf d).map f else s.entOf j := by
  unfold State.modEnt
  split
  · rename_i e he
    rw [State.entOf_setEnt d j _ s h, he]
    rfl
  · rename_i he
    split
    · rename_i hd
      subst hd
      rw [he]
      rfl
    · rfl

theorem State.engOf_setEng (e j : Nat) (x : Eng) (s : State) (h : tblWf {} s.eng.eng) :
    (s.setEng e x).engOf j = if e = j then x else s.engOf j := by
  unfold State.engOf
  exact tblGet_tblSet {} e j x s.eng.eng h

theorem State.pierOf_setPier (p j : Nat) (x : PierSt) (s : State) (h : tblWf .idle s.dsp.piers) :
    (s.setPier p x).pierOf j = if p = j then x else s.pierOf j := by
  unfold State.pierOf
  exact tblGet_tblSet .idle p j x s.dsp.piers h

theorem State.bayOf_setBay (b j : Nat) (x : BaySt) (s : State) (h : tblWf .powered s.clk.bays) :
    (s.setBay b x).bayOf j = if b = j then x else s.bayOf j := by
  unfold State.bayOf
  exact tblGet_tblSet .powered b j x s.clk.bays h

theorem State.tnOf_modTn (t j : Nat) (f : Tn → Tn) (s : State) (h : tblWf {} s.hiu.tn) :
    (s.modTn t f).tnOf j = if t = j then f (s.tnOf t) else s.tnOf j := by
  unfold State.tnOf
  exact tblGet_tblMod {} t j f s.hiu.tn h

theorem State.vfMbx_modVfMbx (t j : Nat) (f : VfMbx → VfMbx) (s : State) (h : tblWf {} s.mss.vf) :
    (s.modVfMbx t f).vfMbx j = if t = j then f (s.vfMbx t) else s.vfMbx j := by
  unfold State.vfMbx
  exact tblGet_tblMod {} t j f s.mss.vf h

theorem State.keyWord_setKeyWord (t kid : Nat) (w : DWord) (s : State) (h : tblWf 0 s.keys.ket) :
    (s.setKeyWord t kid w).keyWord t kid = w := tblGet_tblSet_same 0 (ketKey t kid) w s.keys.ket h

/-! ## Time, free values and signals -/

/-- Device time never moves back, and the backup domain's time moves with it. -/
theorem State.advance_now (n : Nat) (s : State) : (s.advance n).now = max s.now n := by
  unfold State.advance
  split
  · exact (Nat.max_eq_right (Nat.le_of_lt ‹_›)).symm
  · exact (Nat.max_eq_left (Nat.le_of_not_lt ‹_›)).symm

theorem freeBytes_length (k n : Nat) : (freeBytes k n).length = n := by
  induction n generalizing k with
  | zero => rfl
  | succ n ih => simp [freeBytes, ih]

/-- A draw of free bytes gives as many as are asked for, and moves the counter on by as many. -/
theorem State.draw_all (n : Nat) (s : State) : (s.draw n).1.length = n ∧ (s.draw n).2 = { s with free := s.free + n } :=
  ⟨freeBytes_length s.free n, rfl⟩

/-- An interrupt that is signalled is pending (R42). -/
theorem State.signal_isPending (src : Nat) (s : State) (h : tblWf false s.irq) : tblGet false (s.signal src).irq src = true :=
  tblGet_tblSet_same false src true s.irq h

/-- A message of an unmasked vector is sent (R71). -/
theorem State.msix_sent (fn vec : Nat) (s : State) (h : (tblGet ({} : Msix) s.hiu.msix (2048 * fn + vec)).masked = false) :
    s.msix fn vec = s.emit (.msix fn vec (tblGet ({} : Msix) s.hiu.msix (2048 * fn + vec)).addr
      (tblGet ({} : Msix) s.hiu.msix (2048 * fn + vec)).data) := by
  simp only [State.msix, h]
  rfl

/-- A message of a masked vector is kept pending and not sent (R71). -/
theorem State.msix_kept (fn vec : Nat) (s : State) (h : (tblGet ({} : Msix) s.hiu.msix (2048 * fn + vec)).masked = true)
    (hw : tblWf {} s.hiu.msix) :
    (tblGet ({} : Msix) (s.msix fn vec).hiu.msix (2048 * fn + vec)).pending = true ∧ (s.msix fn vec).out = s.out := by
  simp only [State.msix, h, if_true]
  rw [tblGet_tblSet_same _ _ _ _ hw]
  simp

/-! ## Records (R541 to R551) -/

/-- A record whose code is in no fall-back and below its ceiling joins the input queue while there is room (R547, R548). -/
theorem State.offer_joins (o : Offer) (s : State) (hf : histFind o.code s.evr.hist = none)
    (hc : tblGet 0 s.evr.offered o.code.toNat < 1000) (hq : s.evr.queue.length < 64) :
    s.offer o = { s with
      evr.offered := tblSet 0 o.code.toNat (tblGet 0 s.evr.offered o.code.toNat + 1) s.evr.offered
      evr.queue := s.evr.queue ++ [o] } := by
  unfold State.offer
  simp only [hf]
  rw [if_neg (by simp; omega), if_pos hq]

/-- With the queue full it is dropped and counted (R547). -/
theorem State.offer_dropped (o : Offer) (s : State) (hf : histFind o.code s.evr.hist = none)
    (hc : tblGet 0 s.evr.offered o.code.toNat < 1000) (hq : 64 ≤ s.evr.queue.length) :
    s.offer o = { s with
      evr.offered := tblSet 0 o.code.toNat (tblGet 0 s.evr.offered o.code.toNat + 1) s.evr.offered }.evrDrop := by
  unfold State.offer
  simp only [hf]
  rw [if_neg (by simp; omega), if_neg (by omega)]

/-- A code in fall-back is summarised in its histogram and joins no queue (R549). -/
theorem State.offer_summarised (o : Offer) (s : State) (i : Nat) (x : Hist) (hf : histFind o.code s.evr.hist = some (i, x)) :
    s.offer o = { s with
      evr.offered := tblSet 0 o.code.toNat (tblGet 0 s.evr.offered o.code.toNat + 1) s.evr.offered
      evr.hist := tblSet none i (some (x.add o.p0)) s.evr.hist
      evr.cntFallback := s.evr.cntFallback + 1 } := by
  unfold State.offer
  simp only [hf]

/-! ## Energy and anchor writes (R614 to R618, R646 to R651) -/

/-- The admission test (R649). -/
theorem State.admits_iff (c : Nat) (s : State) : s.admits c = true ↔
    s.pwr.quiesce = false ∧ floorUJ + 100000 ≤ s.pwr.full ∧ floorUJ + c + s.pwr.outstanding ≤ s.pwr.charge := by
  unfold State.admits State.storeIsLow
  simp only [Bool.and_eq_true, Bool.not_eq_true', decide_eq_true_eq, decide_eq_false_iff_not, Nat.not_lt, and_assoc]

/-- An admitted cost never takes the promised energy above what the store holds over the floor (R649). -/
theorem State.admitCost_within (c : Nat) (s : State) (h : s.admits c = true) :
    floorUJ + (s.admitCost c).pwr.outstanding ≤ (s.admitCost c).pwr.charge := by
  have := ((s.admits_iff c).1 h).2.2
  simp only [State.admitCost_pwr]
  omega

/-- An anchor write whose cost is admitted and none of whose words is worn is issued to the store (R614, R618). -/
theorem State.ancWrite_issued (w : Nat) (vals : List DWord) (e : Eff) (s : State) (ha : s.admits (ancCost vals.length) = true)
    (hw : s.ancWorn w vals.length = false) :
    s.ancWrite w vals e = ((s.admitCost (ancCost vals.length)).ancIssue w vals (ancCost vals.length) e, true) := by
  unfold State.ancWrite State.ancVerdict
  simp [ha, hw]

/-- An anchor write that is refused issues nothing (R618). -/
theorem State.ancWrite_refused (w : Nat) (vals : List DWord) (e : Eff) (s : State)
    (h : s.admits (ancCost vals.length) = false ∨ s.ancWorn w vals.length = true) :
    (s.ancWrite w vals e).2 = false ∧ (s.ancWrite w vals e).1.anc.queue = s.anc.queue := by
  unfold State.ancWrite State.ancVerdict
  by_cases ha : s.admits (ancCost vals.length) = true
  · have hw : s.ancWorn w vals.length = true := h.resolve_left (by simp [ha])
    simp [ha, hw, State.ancRefuse, State.ancError]
    split <;> simp
  · simp [ha, State.ancRefuse, State.ancError]
    split <;> simp

/-- The words of a completed write are in their places; every other word is as before. -/
theorem ancPut_words (a : Anc) (w j : Nat) (vs : List DWord) (h : tblWf 0 a.words) :
    tblGet 0 (ancPut a w vs).words j = if w ≤ j ∧ j < w + vs.length then vs.getD (j - w) 0 else tblGet 0 a.words j := by
  induction vs generalizing a w with
  | nil => simp [ancPut]
  | cons v vs ih =>
    unfold ancPut
    rw [ih _ (w + 1) (tblSet_wf 0 w v a.words h)]
    simp only [tblGet_tblSet 0 w j v a.words h]
    by_cases h1 : w = j
    · subst h1
      rw [if_neg (by omega), if_pos rfl, if_pos ⟨Nat.le_refl w, by simp⟩]
      simp
    · by_cases h2 : w + 1 ≤ j ∧ j < w + 1 + vs.length
      · rw [if_pos h2, if_pos ⟨by omega, by simp; omega⟩]
        obtain ⟨k, rfl⟩ : ∃ k, j = w + 1 + k := ⟨j - (w + 1), by omega⟩
        rw [show w + 1 + k - (w + 1) = k by omega, show w + 1 + k - w = k + 1 by omega]
        simp
      · rw [if_neg h2, if_neg h1, if_neg (by simp; omega)]

/-- The queue of the anchor store after its front write is the rest (R615). -/
theorem ancPut_queue (a : Anc) (w : Nat) (vs : List DWord) : (ancPut a w vs).queue = a.queue := by
  induction vs generalizing a w with
  | nil => rfl
  | cons v vs ih => unfold ancPut; rw [ih]

/-- What a cut of the store's supply leaves of the write at its front (R614 to R616): nothing, its commit mark, or its value. -/
theorem State.anchorsCut_anc (s : State) (a : AncWrite) (l : List AncWrite) (h : s.anc.queue = a :: l) :
    s.anchorsCut.anc = s.anc ∨ s.anchorsCut.anc =
      (if 1 < a.vals.length then { s.anc with shadow := some (a.word, a.vals) } else ancPut s.anc a.word a.vals) := by
  unfold State.anchorsCut
  rw [h]
  dsimp only [State.draw]
  split
  · right
    split <;> rfl
  · exact .inl rfl

/-- With no write under way a cut changes nothing. -/
theorem State.anchorsCut_idle (s : State) (h : s.anc.queue = []) : s.anchorsCut = s := by
  unfold State.anchorsCut
  rw [h]

/-- Without a mark there is nothing to repair (R616). -/
theorem State.anchorsRepair_idle (s : State) (h : s.anc.shadow = none) : s.anchorsRepair = s := by
  unfold State.anchorsRepair
  rw [h]

/-! ## Draws (R383, R385) -/

/-- A draw is served in OPERATIONAL alone, by an expander that is seeded and free. -/
theorem State.rngTake_served (n : Nat) (s u : State) (b : Bytes) (h : s.rngTake n = .ok b u) :
    s.rng.st = 1 ∧ ∃ i, rotFind 16 s.rng.expPtr s.expReady = some i ∧ u.rng.expPtr = (i + 1) % 16 := by
  unfold State.rngTake at h
  split at h
  · cases h
  · split at h
    · cases h
    · rename_i h1
      split at h
      · cases h
      · rename_i i hi
        cases h
        exact ⟨by simpa using h1, i, hi, rfl⟩

/-- A draw fails in FAILED alone, and is counted. -/
theorem State.rngTake_failed (n : Nat) (s u : State) (h : s.rngTake n = .fail u) :
    s.rng.st = 3 ∧ u = { s with rng.cntErrDraw := s.rng.cntErrDraw + 1 } := by
  unfold State.rngTake at h
  split at h
  · rename_i h3
    cases h
    exact ⟨h3, rfl⟩
  · split at h
    · cases h
    · split at h <;> cases h

end Sys2Proof.Machine
end

