-- ==== Sys2Proof/WellFormed.lean ====
section
/-! DEFINITION. Which commands are well formed: operands of the sizes and ranges that the spec gives the thing they stand for. The
meanings are total, so that an ill-formed command has an outcome too; a sender sends well-formed ones only. -/

namespace Sys2Proof

/-- A function has 64 queue pairs as the PF and 16 as a VF (R54). -/
def qpWf (f : Fn) (q : Fin 64) : Bool := f == 0 || decide (q.val < 16)

/-- The register exists in the view: queue pairs and vectors of the function, and a VF writes its own alone (R54, R70). -/
def regWf (v : View) (r : Reg) : Bool :=
  let own := fun (f : Fn) => match v with
    | .vf n => n == f && f != 0
    | _ => true
  match r with
  | .qpSqBase f q | .qpCqBase f q | .qpCfg f q | .qpImod f q | .qpStatus f q => qpWf f q && own f
  | .msixAddr f x | .msixData f x | .msixMask f x => (f == 0 || decide (x.val < 16)) && own f
  | _ => true

/-- A read that returns data returns `n` bytes. -/
def readWf (r : HostRead) (n : Nat) : Bool := match r with
  | .data b => b.length == n
  | .error _ => true

/-- The fields of a request entry have the widths of R303. -/
def Req.wf (q : Req) : Bool :=
  q.iv.length == 16 && q.cmp.length == 16 && q.data.length == 48 && decide (q.op < 256) && decide (q.keyOp < 256) &&
    decide (q.slot < 2 ^ 24) && decide (q.tenant ≤ 1024) && decide (q.deckIdx < 32768) && decide (q.attempt < 4) &&
    decide (q.pier < 128) && decide (q.len < 2 ^ 32) && decide (q.aux < 2 ^ 32) && decide (q.src < 2 ^ 40) && decide (q.dst < 2 ^ 40)

/-- The unit indices of an initiator (R452). -/
def unitsOf (init : Nat) : Nat :=
  match init with
  | 4 => 4
  | 8 => 2
  | 10 | 14 => 128
  | 11 => 32
  | 12 => 16
  | 13 => 48
  | _ => 1

/-- An access of R452: a known initiator and unit, 1 to 256 bytes within one 4 KiB page of the address map; a write carries its bytes,
and the MSS alone fetches (R453). -/
def Access.wf (a : Access) : Bool :=
  decide (a.init.val ≤ 14) && decide (a.unit.val < unitsOf a.init.val) && decide (1 ≤ a.len) && decide (a.len ≤ 256) &&
    a.addr / 4096 == (a.addr + a.len - 1) / 4096 && decide (a.addr < 2 ^ 40) && (a.kind != .fetch || a.init == 0) &&
    (if a.kind == .write then a.wdata.length == a.len else a.wdata.isEmpty)

/-- The header's fields have the widths of R415. -/
def Hdr.wf (h : Hdr) : Bool :=
  decide (h.src < 65536) && decide (h.dst < 65536) && decide (h.seq < 2 ^ 64) && decide (h.ack < 2 ^ 64) && decide (h.term < 2 ^ 32) &&
    decide (h.tenant < 65536)

/-- A proposal names a tenant and a member; STAGE carries 16 bytes of test data each way and whole blobs, and no other kind has any
(R429, R286). -/
def Proposal.wf (p : Proposal) : Bool :=
  decide (p.tenant ≤ 1024) && decide (p.origin < 65536) && p.blobs.all (fun b => b.length == 160) &&
    (if p.kind == .stage then p.testIn.length == 16 && p.testOut.length == 16 else p.testIn.isEmpty && p.testOut.isEmpty && p.blobs.isEmpty)

/-- RESYNC_DATA carries the three configuration words of one tenant, or ends a rejoin with tenant 0xFFFF and nothing else (R438). -/
def ResyncMsg.wf (m : ResyncMsg) : Bool :=
  if m.tenant == 0xFFFF then m.words.isEmpty && m.cfg.isEmpty else decide (m.tenant ≤ 1024) && m.cfg.length == 3

/-- A replicated record's numbers are in range (R423, R427). -/
def ReplRec.wf : ReplRec → Bool
  | .clTimeout ms => decide (100 ≤ ms) && decide (ms ≤ 2000)
  | .memberAdd m role _ => decide (m < 65536) && decide (role < 4)
  | _ => true

/-- Body and ticket fit in the 65,520 body bytes of a message, after the 16 bytes that precede them (R567, R568). -/
def ActionReq.wf (r : ActionReq) : Bool := decide (r.body.length + r.ticket.length ≤ 65504)

/-- The instances of a memory of R484. -/
def SramMem.insts : SramMem → Nat
  | .pool | .mssSram | .evrStore => 1
  | .pierLocal => 128
  | .operand | .controlStore => 48
  | .reqQueue => 96

/-- A command is well formed. -/
def Instr.wf : Instr → Bool
  | .registerWrite v r _ => regWf v r
  | .clockMonitorWindow _ _ => true
  | .fabricPllFail _ => true
  | .standbyPllFail => true
  | .pllQuarantineEnd _ _ => true
  | .mssPllLoss => true
  | .mssPllRelock => true
  | .pierGroupPowerUp _ => true
  | .bayPowerGate _ => true
  | .bayWake _ => true
  | .bayWakeDone _ => true
  | .sqDoorbell f q _ => qpWf f q
  | .cqHeadWrite f q _ => qpWf f q
  | .qpEnable f q _ => qpWf f q
  | .qpDisable f q => qpWf f q
  | .fetchGrant => true
  | .descriptorArrival _ descs => descs.all (fun d => d.length == 128) && decide (1 ≤ descs.length) && decide (descs.length ≤ 8)
  | .descriptorReadError _ _ => true
  | .inputReadComplete _ n r => decide (1 ≤ n) && readWf r n
  | .imodTimerExpiry f q => qpWf f q
  | .msixUnmask f v => f == 0 || decide (v.val < 16)
  | .tenantRecordWrite _ _ _ => true
  | .tenantSuspend _ _ => true
  | .vfFlr _ => true
  | .vfSessionsClear _ => true
  | .vfFlrReady _ => true
  | .pfFlr => true
  | .pfFlrReady => true
  | .vfEnableClear => true
  | .vfEnableSet n => decide (n ≤ 1024)
  | .hotReset => true
  | .dlDown => true
  | .perstAssert => true
  | .perstDeassert => true
  | .configRequest f d3 => f == 0 || d3.isNone
  | .takePortRead _ => true
  | .itemGrant => true
  | .itemPost _ => true
  | .releaseTest _ _ _ => true
  | .releaseEnd _ => true
  | .deadlineExpiry _ => true
  | .itemWatchdogExpiry _ => true
  | .pierStallDetect _ => true
  | .stepMonitorFault _ => true
  | .pierFault _ _ => true
  | .pierSelfTestEnd _ _ => true
  | .pinTranslate _ => true
  | .pinVerifyOffset _ => true
  | .pinGenerateOffset _ => true
  | .dukptPinTranslate _ => true
  | .dukptMacVerify _ => true
  | .macGenerate _ => true
  | .macVerify _ => true
  | .emvArqcVerify _ => true
  | .emvArpcGenerate _ => true
  | .cvcGenerate _ => true
  | .cvcVerify _ => true
  | .fpeFf1 _ => true
  | .xtsSector _ => true
  | .pkSign _ => true
  | .pkVerify _ => true
  | .pkEcdh _ => true
  | .pkKeygen _ => true
  | .rsaDecrypt _ => true
  | .sessionExpiry _ _ => true
  | .keyImportBlock _ => true
  | .keyExportBlock _ => true
  | .keyGenerate _ => true
  | .keyReplaceStage _ => true
  | .keyReplaceCommit _ => true
  | .keyReplaceAbandon _ => true
  | .keyReplaceStatus _ => true
  | .keyRevoke _ => true
  | .keyRewrap _ => true
  | .random _ => true
  | .keyStateRead _ => true
  | .sessionCloseAll _ => true
  | .keyFillComplete _ r => readWf r 160
  | .keyBusRequest _ => true
  | .keyBusSecondDecision _ _ => true
  | .anchorWindowExpiry _ => true
  | .journalRecordPersistent => true
  | .journalHalfErase => true
  | .kcFlush _ => true
  | .kcFlushDone => true
  | .generate => true
  | .clear => true
  | .chainPlace _ _ entries => decide (1 ≤ entries.length) && decide (entries.length ≤ 8) && entries.all Req.wf
  | .ecbEncrypt _ => true
  | .ecbDecrypt _ => true
  | .cbcEncrypt _ => true
  | .cbcDecrypt _ => true
  | .ctr _ => true
  | .cfbEncrypt _ => true
  | .cfbDecrypt _ => true
  | .gcmEncrypt _ => true
  | .gcmDecrypt _ => true
  | .cmacGenerate _ => true
  | .cmacVerify _ => true
  | .alg1MacGenerate _ => true
  | .alg1MacVerify _ => true
  | .alg3MacGenerate _ => true
  | .alg3MacVerify _ => true
  | .engineCvcGenerate _ => true
  | .engineCvcVerify _ => true
  | .ff1Round _ => true
  | .xtsEncrypt _ => true
  | .xtsDecrypt _ => true
  | .deriveToSlot _ => true
  | .deriveOut _ => true
  | .pinOpen _ => true
  | .pinSeal _ => true
  | .pinOffsetGenerate _ => true
  | .pinOffsetVerify _ => true
  | .pinVvGenerate _ => true
  | .pinVvVerify _ => true
  | .sha256 _ => true
  | .sha384 _ => true
  | .sha512 _ => true
  | .hmacGenerate _ => true
  | .hmacVerify _ => true
  | .rsaPrivateOp _ => true
  | .rsaPublicOp _ => true
  | .rsaOaepDecrypt _ => true
  | .rsaV15Decrypt _ => true
  | .rsaKeygen _ => true
  | .rsaPublicFromPrivate _ => true
  | .ecdsaSign _ => true
  | .ecdsaVerify _ => true
  | .ecdhKdf _ => true
  | .ecKeygen _ => true
  | .ecPublicFromScalar _ => true
  | .x25519Kdf _ => true
  | .ed25519Sign _ => true
  | .ed25519Verify _ => true
  | .curve25519Keygen _ => true
  | .engineResponse _ => true
  | .engineFaultDetect _ _ => true
  | .engineSelfTestEnd _ _ => true
  | .pksFaultDetect _ _ => true
  | .pksSelfTestEnd _ _ => true
  | .bayPark _ _ => true
  | .load => true
  | .ucodeLoadDone _ => true
  | .lock => true
  | .pksScrub _ => true
  | .scrubEnd _ => true
  | .mulacc _ _ => true
  | .mulaccShift _ _ => true
  | .accClear => true
  | .accStore _ => true
  | .ramClear => true
  | .adaptiveWindowEnd _ samples => samples.length == 512
  | .sourceExclude _ _ => true
  | .sourceStartupTestEnd _ samples => samples.length == 1024
  | .seedReady => true
  | .expanderReseedDue _ => true
  | .rngDraw _ len => decide (1 ≤ len) && decide (len ≤ 65536)
  | .drawServed => true
  | .rngDataRead => true
  | .rngRawRead _ => true
  | .rngKat _ => true
  | .rngKatEnd _ => true
  | .rawEnWrite _ => true
  | .heartbeat h => h.wf
  | .ackOnly h => h.wf
  | .enrolHello h _ _ _ => h.wf
  | .enrolChallenge h nonce _ _ _ => h.wf && nonce.length == 32
  | .enrolResponse h _ _ _ _ => h.wf
  | .enrolGrant h _ _ => h.wf
  | .enrolDone h _ => h.wf
  | .sakSet h _ _ => h.wf
  | .remove h _ => h.wf
  | .repl h _ r => h.wf && r.wf
  | .replAck h _ => h.wf
  | .propose h p _ => h.wf && p.wf
  | .verdict h _ _ _ => h.wf
  | .decision h _ _ _ => h.wf
  | .apply h a => h.wf && decide (a.tenant ≤ 1024)
  | .applied h _ _ => h.wf
  | .withdraw h _ => h.wf
  | .resyncReq h _ => h.wf
  | .resyncData h m => h.wf && m.wf
  | .takeoverCall h _ => h.wf
  | .vote h _ _ _ => h.wf
  | .takeover h _ _ => h.wf
  | .crkPrepare h _ _ blobs => h.wf && blobs.all (fun b => b.2.length == 160)
  | .crkReady h _ _ => h.wf
  | .crkCommit h => h.wf
  | .heartbeatTimer _ _ => true
  | .resendTimer _ => true
  | .portFail _ _ => true
  | .portRecover _ _ => true
  | .leaseExpiry => true
  | .verdictDeadline _ => true
  | .decisionDeadline _ _ => true
  | .clTimeoutExpiry _ => true
  | .abutmentLossTimer => true
  | .enrolHelloTimer => true
  | .sakRollover => true
  | .resync => true
  | .interconnectAccess a => a.wf
  | .tgHold => true
  | .tgDrained => true
  | .tgEnable => true
  | .tgRuleWrite _ _ _ => true
  | .holdLong => true
  | .tgFaultRearm => true
  | .sramScrub m inst _ _ => decide (inst.val < m.insts)
  | .dramScrub _ _ => true
  | .dieMarkFailed _ => true
  | .eccTestMode _ => true
  | .dramKeyWrite _ => true
  | .zeroFillEnd => true
  | .loopCheck _ => true
  | .alarmLatch _ => true
  | .parapetDecisionEnd _ => true
  | .sourceRearm _ => true
  | .policyOpen => true
  | .parPolicyWrite _ => true
  | .policyWindowClose => true
  | .alarmClr => true
  | .bootHoldRelease => true
  | .recordOffer _ _ _ _ _ _ => true
  | .recordAccept => true
  | .ceilingRaiseDone => true
  | .ceilingRetry => true
  | .secondEnd => true
  | .evrWrGo => true
  | .evrClear => true
  | .mssWatchdogExpiry => true
  | .warmRestartEnd _ => true
  | .smbStatus => true
  | .smbTemp _ => true
  | .smbV12 _ => true
  | .smbI12 _ => true
  | .smbPower _ => true
  | .smbHoldup => true
  | .smbSerial => true
  | .smbVersions => true
  | .smbAlertCause => true
  | .smbusAlertResponse => true
  | .serviceFrame _ _ index count payload => decide (1 ≤ count) && decide (count ≤ 45) && decide (index < count) && decide (1 ≤ payload.length) && decide (payload.length ≤ 1492)
  | .fragmentTimeout _ => true
  | .nonceReq _ _ => true
  | .attest _ _ nonce => nonce.length == 32
  | .officerRead _ _ => true
  | .ccPart _ _ parentBlob => match parentBlob with
    | some b => b.length == 160
    | none => true
  | .sensors _ _ _ _ _ _ => true
  | .tenantInfo _ _ => true
  | .vfMbxGo _ => true
  | .commission r => r.wf
  | .decommission r => r.wf
  | .officerTable r => r.wf
  | .tenantCreate r => r.wf
  | .tenantConfig r => r.wf
  | .tenantRemove r => r.wf
  | .ccImport r => r.wf
  | .drkBackup r => r.wf
  | .tamperPolicy r => r.wf
  | .recorderClear r => r.wf
  | .firmwareStageActivate r _ => r.wf
  | .firmwareActivateInactive r => r.wf
  | .firmwareRaiseMinimums r => r.wf
  | .overlaySelect r => r.wf
  | .clusterEnrolJoin r => r.wf
  | .clusterRemove r => r.wf
  | .crkChange r => r.wf
  | .clusterParameters r => r.wf
  | .nonceLapse => true
  | .ceremonyWindowEnd => true
  | .anchorWriteComplete => true
  | .ancMarkWorn _ => true
  | .cfgRead => true
  | .cfgProgram => true
  | .cfgErase => true
  | .cfgHash => true
  | .cfgCmdDone _ => true
  | .wait => true
  | .entryStepEnd => true
  | .drowseIdleExpiry => true
  | .wakeEvent _ => true
  | .wakeTimer => true
  | .drowseWakeDone _ => true
  | .dormantWakeDone => true
  | .padRelease _ => true
  | .chargeUpdate _ => true
  | .mainPowerLoss => true
  | .quiesceDone => true
  | .mainPowerReturn _ => true
  | .envelopeWrite _ => true
  | .envelopeMet => true
  | .powerOn _ => true
  | .moduleReset _ => true
  | .bootComplete => true
  | .auxPowerLoss => true
  | .softStartTrip => true
  | .reverseCurrentTrip => true
  | .auxPowerReturn => true
  | .softStartClose => true
  | .backupSupplyLoss => true
  | .keptRecordFlashWriteDone => true
  | .quarantineCountAgeOut _ => true
  | .hostCompletionTimeout _ => true
  | .temperatureAlert _ => true
  | .sakPreviousExpiry _ => true
  | .trestleFrameDrop => true
  | .secondPllLock => true
  | .linkL12Entry => true

end Sys2Proof
end

