-- ==== Sys2Proof/Tests/Slice0.lean ====
section
/-! SUPPORT. Tests of the model: well-formed commands, known answers of the published algorithms, and for every statement of
the certificates that has hypotheses a witness that meets them together, clause by clause in the statement's order. -/

open Sys2Proof Sys2Proof.Machine

namespace Sys2Proof.Tests

set_option Elab.async false

/-- A running module: the link is up, the data plane accepts work, main power is present. -/
def up : State :=
  { ({} : State) with
    hiu := { linkUp := true, idState := 3, dpUp := true, tn := [(0, { state := 1, winSize := 0x100000000 })] }
    boot := { booting := false, everReady := true, enItem := 3 }
    ks := { loaded := true, checkOk := true }
    tg := { en := true, boot := false }
    rng := { st := 1 }
    mi := { dramReady := true }
    pwr := { mainOk := true, full := 4000000, charge := 3900000 }
    hw := { perst := false } }

/-- An enabled queue pair with rings of 64 entries. -/
def qp6 : QP := { cfg := 0x80000166, cqBase := 0x2000 }

/-- `up` with queue pair 0 of the PF enabled. -/
def upQ : State := { up with hiu.qp := [(0, qp6)] }

/-- Bytes put at offsets of a string. -/
def putAll (b : Bytes) (l : List (Nat × Bytes)) : Bytes :=
  l.foldl (fun b x => b.take x.1 ++ x.2 ++ b.drop (x.1 + x.2.length)) b

/-- A descriptor of an opcode, with bytes put at offsets. -/
def dsc (op : Nat) (l : List (Nat × Bytes)) : Bytes := putAll (natLe 2 op ++ zeros 126) l


/-- A state that holds one entry, at index 7. -/
def withEnt (e : Entry) (s : State) : State := { s with deck.ent := [(7, some e)] }

/-- A request with every field 0. -/
def req0 : Req :=
  ⟨0, false, false, false, false, 0, 0, 0, 0, 0, 0, 0, 0, 0, 0, 0, 0, zeros 16, zeros 16, zeros 48, false⟩

/-- `up` with two virtual functions, both ready. -/
def upVf : State := { up with hiu.vfEnable := true, hiu.numVfs := 2, hiu.ready := [(1, true), (2, true)] }

/-- An item of function 2, in RUNNING, at pier 9. -/
def eRun : Entry := { fn := 2, q := 0, desc := dsc 0x0701 [], st := .running, flow := some (2, false, 0), order := 0, pier := some 9, phase := .exec, cls := 5 }

/-- One READY item, and four piers at their take ports. -/
def ready7 : State := withEnt { eRun with st := .ready, phase := .idle, pier := none }
  { up with dsp.ctrl := 0x4005, dsp.piers := [(3, .waiting), (4, .waiting), (5, .waiting), (6, .waiting)] }

/-- A DONE item of the PF, at the head of its flow. -/
def eDone : Entry := { desc := dsc 0x0701 [], st := .done, flow := some (0, false, 0), order := 0 }

/-- An item at stage 10. -/
def eEx (d : Bytes) : Entry :=
  { desc := d, st := .running, phase := .exec, flow := some (0, false, 0), order := 0, pier := some 3, cls := 1, binds := [⟨0, [5], 0, 0, []⟩, ⟨1, [6], 0, 0, []⟩] }

/-- A tier-one slot of the PF. -/
def slot (alg usage : Nat) (mat : Bytes) : Slot :=
  ⟨putAll (zeros 48) [(5, [byteOf alg]), (6, [byteOf usage])], mat, 0, 1, .valid, 0, false⟩

/-- An item at stage 10, its two keys in slots 5 and 6. -/
def upEx (d : Bytes) (a b : Slot) : State := withEnt (eEx d) { upQ with keys.t1 := [(5, some a), (6, some b)] }

/-- A TDEA key, an AES key, and slots that hold them. -/
def k16 : Bytes := natBe 16 0x0123456789ABCDEFFEDCBA9876543210
def sT : Slot := slot 0x80 0 k16
def sA : Slot := slot 0x82 0 k16

/-- A draw is served; its bytes and the state after it. -/
def isOk : DrawRes → Bool
  | .ok _ _ => true
  | _ => false
def okB : DrawRes → Bytes
  | .ok b _ => b
  | _ => []
def okS (s : State) : DrawRes → State
  | .ok _ u => u
  | _ => s
/-- Expander 0 alone is seeded, at time 0, and serves `k` requests more. -/
def Ready (k : Nat) (s : State) : Prop :=
  s.rng.st = 1 ∧ s.rng.katBusy = none ∧ s.rng.expPtr < 2 ∧ s.now = 0 ∧
    ∃ e : Exp, s.rng.exp = [(0, e)] ∧ e.seeded = true ∧ e.out = false ∧ e.at_ = 0 ∧ e.reqs + k ≤ 65536
theorem take_ready {k n : Nat} {s : State} (h : Ready (k + 1) s) : ∃ b u, s.rngTake n = .ok b u ∧ Ready k u := by
  obtain ⟨h1, h2, h3, h4, e, h5, h6, h7, h8, h9⟩ := h
  have e0 : s.expReady 0 = true := by
    simp [State.expReady, State.expOf, h5, tblGet, h6, h7, h8, h2, h4]; omega
  have ej : ∀ j, j ≠ 0 → s.expReady j = false := fun j hj => by
    simp [State.expReady, State.expOf, h5, tblGet, Ne.symm hj]
  have hf : rotFind 16 s.rng.expPtr s.expReady = some 0 := by
    have : s.rng.expPtr = 0 ∨ s.rng.expPtr = 1 := by omega
    rcases this with p | p <;> rw [p] <;> simp [rotFind, List.range_succ, e0, ej]
  have he : s.expOf 0 = e := by simp [State.expOf, h5, tblGet]
  have hu : ∀ (x : BitVec 256) (y : BitVec 128) (c : DWord), Ready k { s.setExp 0 { e with key := x, v := y, reqs := e.reqs + 1 } with
      rng.expPtr := 1, rng.cntBytes := c } := fun x y c => by
    refine ⟨h1, h2, Nat.one_lt_two, h4, { e with key := x, v := y, reqs := e.reqs + 1 }, ?_, h6, h7, h8, by show e.reqs + 1 + k ≤ 65536; omega⟩
    simp only [State.setExp, h5, tblSet, Nat.lt_irrefl, if_false, if_true, tblCons]
    rw [if_neg]
    intro hh
    have := congrArg Exp.seeded hh
    simp [h6] at this
  simp only [State.rngTake]
  rw [if_neg (by rw [h1]; decide), if_neg (by rw [h1]; decide), hf]
  simp only [he]
  exact ⟨_, _, rfl, hu _ _ _⟩
theorem draws_ready {n : Nat} : ∀ {k : Nat} {s : State}, Ready k s → n ≤ k → isOk (s.mssDraws n) = true := by
  induction n with
  | zero => intros; rfl
  | succ n ih =>
    intro k s h hk
    obtain ⟨k, rfl⟩ : ∃ m, k = m + 1 := ⟨k - 1, by omega⟩
    obtain ⟨b, u, hb, hu⟩ := take_ready (n := 8) h
    have := ih hu (Nat.le_of_succ_le_succ hk)
    rw [State.mssDraws, hb]
    dsimp only
    generalize u.mssDraws n = r at this ⊢
    cases r <;> simp [isOk] at this ⊢
theorem take_ok {n : Nat} {s : State} (h : Ready 1 s) : isOk (s.rngTake n) = true := by
  obtain ⟨b, u, hb, -⟩ := take_ready (n := n) h
  rw [hb]; rfl
theorem draw_ok {n : Nat} {s : State} (h : Ready 65536 s) (hn : (n + 7) / 8 ≤ 65536) : isOk (s.mssDraw n) = true := by
  have := draws_ready h hn
  rw [State.mssDraw]
  generalize s.mssDraws ((n + 7) / 8) = r at this ⊢
  cases r <;> simp [isOk] at this ⊢
/-- `s` with a generator that serves draws. -/
def seeded (s : State) : State := { s with rng := { st := 1, exp := [(0, { seeded := true, key := 1, v := 2 })] } }
theorem seeded_ready {k : Nat} {s : State} (hk : k ≤ 65536) (h : s.now = 0) : Ready k (seeded s) :=
  ⟨rfl, rfl, Nat.two_pos, h, _, rfl, rfl, rfl, rfl, by simpa using hk⟩
theorem ok_of_isOk {r : DrawRes} {s : State} (h : isOk r = true) : r = .ok (okB r) (okS s r) := by
  cases r <;> simp [isOk, okB, okS] at h ⊢
def rOf (n : Nat) (s : State) : Bytes := okB (s.rngTake n)
def uOf (n : Nat) (s : State) : State := okS s (s.rngTake n)
theorem drawn_of_served {n : Nat} {s : State} (h0 : n ≠ 0) (h : isOk (s.rngTake n) = true) : Drawn n s (rOf n s) (uOf n s) :=
  Or.inr ⟨h0, ok_of_isOk h⟩
/-- The key of an outcome that is one. -/
def keyMat : PkRes → Bytes
  | .key m _ => m
  | _ => []
def keyPub : PkRes → Bytes
  | .key _ p => p
  | _ => []
def isKey : PkRes → Bool
  | .key _ _ => true
  | _ => false
theorem gen21 (b : Bytes) : isKey (pkGen 0x21 b) = true := rfl
theorem key_of_isKey {r : PkRes} (h : isKey r = true) : r = .key (keyMat r) (keyPub r) := by
  cases r <;> simp [isKey, keyMat, keyPub] at h ⊢

/-- PIN_TRANSLATE from format 0 to format 0 or 1, with the PIN 1234 and a PAN of twelve zeros. -/
def dPin (f : Nat) : Bytes :=
  dsc 0x0101 [(49, [byteOf f]), (50, [12, 12]), (56, [240, 5, 184, 174, 50, 67, 107, 128])]

/-- DUKPT_PIN_TRANSLATE of TDEA to format 0. -/
def dDk : Bytes := dsc 0x0201 [(52, [12, 12]), (56, [1]), (72, [221, 57, 220, 9, 201, 226, 245, 74])]
def dX (peer : Bytes) : Entry := { eEx (dsc 0x0603 [(32, [0x20])]) with inputs := [peer] }
def eX : Entry := dX (natLe 32 9)
def upX : State := withEnt eX { upQ with keys.t1 := [(5, some (slot 0x20 4 (k16 ++ k16)))] }
def eX0 : Entry := dX (zeros 32)
def upX0 : State := withEnt eX0 { upQ with keys.t1 := [(5, some (slot 0x20 4 (k16 ++ k16)))] }
def upG : State := seeded (upEx (dsc 0x0604 [(16, [0x21, 8])]) sA sA)
def upR : State := seeded (upEx (dsc 0x0605 [(32, [1])]) (slot 1 7 (zeros 80)) sA)
def up9 : State := seeded (upEx (dsc 0x0801 [(16, [9])]) sA sA)
/-- A key block of version D under `k16`, with `k16` as the key, and one whose ciphertext is not hexadecimal. -/
def kbD : Bytes :=
  [68, 48, 49, 49, 50, 68, 48, 65, 69, 48, 48, 69, 48, 48, 48, 48, 69, 65, 67, 65, 55, 57, 53, 55, 53, 52, 54, 49, 70, 54, 54, 65, 54, 70, 51, 48, 70, 52, 68, 70, 55, 56, 68, 55, 56, 48, 49, 68, 70, 68, 68, 67, 54, 50, 50, 48, 65, 55, 51, 51, 52, 51, 49, 50, 68, 50, 55, 48, 65, 57, 70, 50, 65, 53, 68, 49, 57, 56, 65, 57, 50, 69, 57, 65, 56, 53, 68, 69, 69, 56, 56, 70, 68, 69, 52, 65, 51, 57, 51, 56, 68, 55, 56, 52, 53, 56, 49, 53, 55, 55, 55, 56]
def kbBad : Bytes := kbHeader 0x44 112 [0x44, 0x30] 0x41 0x45 [0x30, 0x30] 0x45 ++ List.replicate 96 0x5A
def eIn (d b : Bytes) : Entry := { eEx d with inputs := [b] }
def upIn (d b : Bytes) (a : Slot) : State := withEnt (eIn d b) { upQ with keys.t1 := [(5, some a)] }
theorem kbD_head : kbHeadOk kbD = true := by decide +kernel
theorem kbD_open : kbOpen k16 kbD = some k16 := by decide +kernel

/-- An encryption request under slot 5. -/
def reqE : Req := { req0 with op := 0, keyOp := 1, slot := 5, deckIdx := 7, len := 16, pier := 3 }
def qe (r : Req) : QEnt := ⟨r, none, none, none, none, []⟩
/-- A state in which cipher engine 2 has one request, of an item that serves slot 5. -/
def upE (y : QEnt) (a : Slot) : State :=
  withEnt (eEx (dsc 0x0301 [])) { upQ with keys.t1 := [(5, some a)], eng.eng := [(2, { q := [y] })] }
/-- An entry that is held with the answer 0 after a permitted first decision. -/
def qHeld : QEnt := { qe reqE with first := some true, out := some (bareResp reqE 0, []) }
def resp (a : Nat) (st : Nat) : Resp := ⟨7, a, st, 0, 0, []⟩
def upP (r : Resp) (l : List Resp) : State := withEnt (eEx (dsc 0x0301 [])) { upQ with dsp.piers := [(3, .holding 7)], eng.ports := [(3, r :: l)] }
/-- 1,024 samples with no long run, and 512 equal ones. -/
def samples (n : Nat) : List (BitVec 4) := (List.range n).map (fun i => BitVec.ofNat 4 i)
/-- Two healthy sources whose buffers are full, and expander 0 seeded. -/
def upSeed : State := { up with rng := { st := 1, exp := [(0, { seeded := true })], src := [(0, { st := 1, buf := samples 896 }), (1, { st := 1, buf := samples 896 })] } }
/-- A generator at whose Keystone port a draw waits. -/
def seededW : State := { seeded up with rng := { (seeded up).rng with waiting := [(212, 32)] } }
/-- An association in whose channel nothing is under way. -/
def as0 : Assoc := ⟨true, 0, 0, [], ⟨1, 5, 6⟩, none, false, false, none⟩
/-- A running member of a cluster in term 5: the abutment with pylon 2, pylon 2 with the abutment and span 129, span 129. -/
def mem (w : DWord) (l : Tbl (Option Assoc)) : State :=
  { up with
    boot.enItem := 3
    anc.words := [(0x0B, 0x01AA003F), (0x0D, w), (0x0E, 5)]
    trs := { linkA := true, linkB := true, cstate := 3, abutment := 1, assoc := l } }
def abut : State := mem 0x10001 [(2, some as0)]
def pylon : State := mem 0x60002 [(1, some as0), (129, some as0)]
def span : State := mem 0xB0081 [(2, some as0)]
def hdr (src dst seq : Nat) : Hdr := ⟨.a, src, dst, seq, 0, 5, 0xFFFF, true⟩
/-- The state in which a frame of neighbour `n` is taken up. -/
def heardBy (h : Hdr) (n : Nat) (s : State) : State := { s with
  trs.assoc := tblSet none n (some { as0 with got := h.seq }) s.trs.assoc
  out := s.out ++ [.frame ⟨h.port, s.member, s.nbrOf h.src, 0, h.seq, s.term, 0xFFFF, !as0.failed h.port⟩ .ackOnly] }
/-- `s` after it has taken up the first frame of a neighbour's channel. -/
def hu (h : Hdr) (s : State) : State := { s with
  trs.assoc := tblSet none (s.nbrOf h.src) (some { as0 with got := h.seq }) s.trs.assoc
  out := s.out ++ [.frame ⟨h.port, s.member, s.nbrOf h.src, 0, h.seq, s.term, 0xFFFF, !as0.failed h.port⟩ .ackOnly] }
theorem heard_hu {h : Hdr} {s : State} (q : (s.trsUp && h.term == s.term && s.assocOf (s.nbrOf h.src) == some as0 && h.seq == 1) = true) :
    Heard h s (hu h s) := by
  simp only [Bool.and_eq_true, beq_iff_eq] at q
  obtain ⟨⟨⟨a, b⟩, c⟩, d⟩ := q
  refine ⟨as0, a, b, c, by rw [d]; rfl, ?_, rfl⟩
  intro x hx; cases hx
/-- A commissioned module that belongs to no cluster, its port A linked. -/
def alone : State := { up with boot.enItem := 3, anc.words := [(0x0B, 0x01AA003F)], trs.linkA := true }
def enr : Enrol := ⟨77, 2, 2, 1, false, false, [], [], [], []⟩
def grant : EnrolGrant := ⟨2, 2, 1, false, 5, 200, 9, 0, ⟨0, 1, 2⟩⟩
def joined : State := { alone with trs.join := some ⟨[1], [2], [3], [4], false⟩ }
def slotCrk : Slot := { sA with hdr := zeros 48 }
def abutE (e : Enrol) : State := { abut with trs.deciding := true, trs.enrol := some e }
def abutK : State := { seeded (abutE { enr with nonce := [1] }) with keys.t1 := [(0, some slotCrk)] }
def goneWords (s : State) : List AncW := ((List.range 1025).filter (fun t => s.ancGet (0x1100 + 3 * t) != 0)).map (fun t => (0x1100 + 3 * t, [0, 0, 0])) ++ [(0x1E0, List.replicate 20 0), (0x1F4, List.replicate 20 0), (0x208, List.replicate 17 0), (0x0F, [0]), (0x0E, [0]), (0x0D, [0])]
def grantWords (s : State) (g : EnrolGrant) : List AncW := [(0x1E0, (s.crkWords g.crkEpoch.toNat (natBe 32 g.crk.toNat)).1), (0x0D, [memberWord g.member g.role g.parent g.standby]), (0x0E, [w64 g.term]), (0x0C, [w64 g.crkEpoch.toNat])]
def prop : Proposal := ⟨0x81000000000001, 129, .stage, 3, 8, 1, 0x123456, [], [], []⟩
def fwd1 : Fwd := ⟨prop.pid, 3, 0, true, []⟩
def held1 : Held := ⟨prop, 0, true, false, true, []⟩
def abutP (l : List Held) : State := { abut with trs.deciding := true, trs.props := l, trs.members := [(1, some ⟨1, 0, 4⟩), (2, some ⟨2, 1, 5⟩)] }
def pylonF (l : List Fwd) : State := { pylon with trs.fwd := l }
def entP : Entry := { ({} : Entry) with pid := prop.pid, confirm := some none, st := .done }
def spanE : State := withEnt entP span
def am : ApplyMsg := ⟨prop.pid, 3, 8, 7, 1, []⟩
def spanX : State := { span with anc.words := span.anc.words ++ [(0x0F, 3)] }
def pylonX : State := { pylon with anc.words := pylon.anc.words ++ [(0x0F, 3)], trs.replLog := [(3, .clTimeout 300)] }
def quarWords (s : State) : List AncW := [(0x208, [s.quarWord 3 true])]
def rs : ResyncMsg := ⟨3, [(8, 7)], true, 4, []⟩
def standby : State := { mem 0x400060002 [(1, some as0), (129, some as0)] with trs.abutLostAt := some 5, trs.members := [(1, some ⟨1, 0, 4⟩), (2, some ⟨2, 1, 5⟩), (3, some ⟨2, 1, 6⟩), (4, some ⟨2, 1, 6⟩), (5, some ⟨2, 1, 7⟩)], now := 2000005 }
def called (v : List Nat) : State := { standby with trs.call := some (6, v) }
def crkWs (s : State) (ep crk : Nat) : List AncW := [(0x1F4, blobWords (s.ancBlob 0x1E0)), (0x1E0, (s.crkWords ep (natBe 32 crk)).1), (0x0C, [w64 ep])]
def abutC (got : List Nat) : State := { abut with trs.members := [(1, some ⟨1, 0, 4⟩), (2, some ⟨2, 1, 5⟩)], trs.crk := some (1, 9, got), trs.crkNext := some (1, 9, []) }
def spanC : State := { span with trs.crkNext := some (1, 9, []) }
def ruleK : TgRule := ⟨0x40000000, 0x417FFFC0, 0x3FF, 0x80000009⟩
def ruleD : TgRule := ⟨0x42800000, 0x447FFFC0, 0xFFFFFFFF, 0x80000003⟩
def tgUp : State := { up with tg := { en := true, boot := false, rules := [(0, ruleK), (5, ruleD)] } }
def acc (i : Fin 32) (k : AccKind) (a n : Nat) (w : Bytes) : Access := ⟨i, 3, k, a, n, w, false, false, none, .clean⟩
/-- A read and a write of a user's, an access that no rule covers, and one of the MSS's to the key cache. -/
def accR : Access := acc 12 .read 0x43000010 40 []
def accW : Access := acc 12 .write 0x43000010 3 [1, 2, 3]
def accN : Access := acc 12 .read 0x45000000 8 []
def accM : Access := acc 0 .read 0x40000060 8 []
def tgHeld : State := { tgUp with tg := { tgUp.tg with en := false, holding := true } }
def scrubUp : State := { up with mi := { dramReady := true, ctrl := 3 } }
def testUp (b : DWord) : State := { up with hiu.overlay := 1, mi.testBase := b }
def alarmed (f p : Nat) (t : BitVec 13) : State := { up with par := { deciding := true, first := BitVec.ofNat 2 f, pol := BitVec.ofNat 26 p, todo := t, latch := t } }
def onBk (s : State) : State := { s with hw.aux := false, hw.onStore := false, pwr.mainOk := false }
def polUp : State := { up with par.policyOpen := true }
def off1 : Offer := ⟨1139, 0x0401, 1, 2, 3, 4⟩
def evrUp : State := { up with evr := { head := 5, ceiling := 65536, queue := [off1] } }
def evrFull : State := { evrUp with evr.queue := List.replicate 64 off1 }
def hist1 : Hist := ⟨0x0401, 3, [], 1, 9, 0⟩
def srvUp : State := { up with boot.enItem := 7 }
def frag1 : Frag := ⟨0xAA, 5, 2, 100, [(1, [7, 8])]⟩
def cer1 : Ceremony := ⟨9, 3, 0x82, 2, 2, 0, 8, 0, 0, [1, 2, 3], [], zeros 32, 1000⟩
def vf3 : Fn := 3
def vfUp : State := { up with hiu.vfEnable := true, hiu.numVfs := 3, hiu.ready := [(3, true)], hiu.tn := [(3, { state := 1, winSize := 0x100000000 })] }
def part (l : List (Nat × Bytes)) : Bytes := putAll (natLe 4 9 ++ zeros 136) l
theorem taken {r : ActionReq} {s : State} (q : (s.reqTaken r.path && r.path == .pf && !s.boot.romHalt) = true) : TakenUp r s := by
  simp only [Bool.and_eq_true, beq_iff_eq, Bool.not_eq_true'] at q
  exact ⟨q.1.1, Or.inl q.1.2, q.2⟩
/-- A request for an action, with a body and a ticket. -/
def ask (b t : Bytes) : ActionReq := ⟨.pf, 5, b, t, false⟩
def askVf (b t : Bytes) : ActionReq := ⟨.vf 3, 5, b, t, false⟩
def ancUp (l : List AncWrite) : State := { up with anc.queue := l }
def recC : Rec := ⟨5, 0x0B08, 1144, 0, 1, 2, 3, 4⟩
def entR : Entry := { ({} : Entry) with st := .releasing, waiting := true, post := ⟨0, zeros 32, [.journal .stage 3 8 7, .keyState 3 8 7], []⟩ }
def relUp (r : MssRel) : State := { up with anc.queue := [⟨0x500, [7], 30, .mss 4⟩], mss := { rels := [r], nextRel := 5, mbxBusy := true } }
def cfgUp (op : CfgOp) : State := { up with cfg := { cmd := some (op, 0x10000, 4, 0x10000000), flash := [(0x10001, 5), (0x10004, 6)] }, mem := [(0x10000002, 9)] }
def enter (m : BitVec 2) (k : Nat) : State := { up with pwr.entry := some (m, k), hiu.noFetch := decide (2 ≤ k), dsp.noGrant := decide (2 ≤ k) }
def asleep (m : BitVec 2) : State := { up with pwr.state := m, pwr.halted := true, pwr.saved := some up.savedNow }
def obs : BootObs := ⟨0, [], 0, 0, 4000000⟩
def jrnl : State := { ({} : State) with cfg.flash := setBytes 0xFF [] 0x2000000 (jRecord 1 3 1 8 7), anc.words := [(0x0B, 0x01AA003F), (0x403, 1)] }
/-- A draw of any length is served. -/
theorem drawn_any {n : Nat} {s : State} (h : s.now = 0) : ∃ b u, Drawn n (seeded s) b u := by
  cases n with
  | zero => exact ⟨_, _, Or.inl ⟨rfl, rfl, rfl⟩⟩
  | succ n =>
    obtain ⟨b, u, hb, -⟩ := take_ready (n := n + 1) (seeded_ready (k := 1) (by decide) h)
    exact ⟨b, u, Or.inr ⟨Nat.succ_ne_zero n, hb⟩⟩
/-- What `EngineRuns` assumes of a request, a draw and a state. -/
def RunsOn (n op : Nat) (y : QEnt) (rnd : Bytes) (u s : State) : Prop :=
  s.running n = some (0, y) ∧ (s.engOf n).q = [y] ∧ y.req.op = op ∧ s.parkMarked (bayOf n) = false ∧ tblWf {} s.eng.eng ∧
    (if needsKey y.req then y.first = some true ∧ y.second = some true ∧ ∃ k, y.key = some k ∧ opSuits y.req k.alg = true
      else y.first = none ∧ mustScrub n (s.engOf n) y.req = false) ∧
    (y.req.fromChainData = true → (s.engOf n).cdata.isSome = true) ∧ (s.addrTest n .read y.req.deckIdx y.req.src y.req.len).1 = .ok ∧
    (s.addrTest n .write y.req.deckIdx y.req.dst (outMax y.req)).1 = .ok ∧ (48 ≤ n → y.req.aux.testBit 11 = false) ∧
    Drawn (reqDraw n y.req) s rnd u
theorem runsOn_assumes {n op : Nat} {c : Instr} : EngineRuns n op c ↔ ∀ y rnd u s, RunsOn n op y rnd u s →
    ∃ t : State, exec c s = .next t ∧ Frame [.deck, .keys, .eng, .rng, .mem, .mi, .free, .out] s t ∧
      EngineOutcome n y s t (reqRun n (s.engOf n) y.req ((y.key.map (fun k => k.alg)).getD 0) ((y.key.map (fun k => k.mat)).getD [])
        (s.reqInput (s.engOf n) y.req) rnd) :=
  ⟨fun h y rnd u s ⟨a1, a2, a3, a4, a5, a6, a7, a8, a9, a10, a11⟩ => h y rnd u s a1 a2 a3 a4 a5 a6 a7 a8 a9 a10 a11,
   fun h y rnd u s a1 a2 a3 a4 a5 a6 a7 a8 a9 a10 a11 => h y rnd u s ⟨a1, a2, a3, a4, a5, a6, a7, a8, a9, a10, a11⟩⟩
/-- Every engine operation, with an engine of its kind, a key type that suits it and an AUX. -/
def engOps : List (Nat × Nat × Nat × Nat) :=
  [0x100, 0x101, 0x110, 0x111, 0x120, 0x130, 0x131, 0x140, 0x141, 0x150, 0x151, 0x190].map (fun op => (31, op, 0x82, 0)) ++
  [0x160, 0x161, 0x170, 0x171, 0x180, 0x181].map (fun op => (31, op, 0x80, 0)) ++
  [0x1A0, 0x1A1].map (fun op => (31, op, 0x85, 0)) ++
  [0x200, 0x201, 0x300, 0x301, 0x302, 0x303, 0x304, 0x305].map (fun op => (0, op, 0x80, 0)) ++
  [0x800, 0x801, 0x802, 0x810, 0x811].map (fun op => (47, op, 0x87, 0)) ++
  [0x400, 0x401, 0x402, 0x403, 0x404, 0x405].map (fun op => (48, op, 0x01, 0x01)) ++
  [0x410, 0x411, 0x412, 0x413, 0x414].map (fun op => (48, op, 0x10, 0x10)) ++
  [0x420, 0x421, 0x422, 0x423].map (fun op => (95, op, 0x21, 0x21))
def engEnt (x : Nat × Nat × Nat × Nat) : QEnt :=
  if needsKey { req0 with op := x.2.1 } then ⟨{ req0 with op := x.2.1, aux := x.2.2.2 }, some true, some true, some ⟨0, x.2.2.1, 0, k16, 5⟩, none, []⟩
  else qe { req0 with op := x.2.1, aux := x.2.2.2 }
def engUp (x : Nat × Nat × Nat × Nat) : State := { up with eng.eng := [(x.1, { q := [engEnt x] })] }
theorem engOps_ready : ∀ x ∈ engOps, (seeded (engUp x)).running x.1 = some (0, engEnt x) ∧ ((seeded (engUp x)).engOf x.1).q = [engEnt x] ∧
    (engEnt x).req.op = x.2.1 ∧ (seeded (engUp x)).parkMarked (bayOf x.1) = false ∧ tblWf {} (seeded (engUp x)).eng.eng ∧
    (if needsKey (engEnt x).req then (engEnt x).first = some true ∧ (engEnt x).second = some true ∧
        (engEnt x).key = some ⟨0, x.2.2.1, 0, k16, 5⟩ ∧ opSuits (engEnt x).req x.2.2.1 = true
      else (engEnt x).first = none ∧ mustScrub x.1 ((seeded (engUp x)).engOf x.1) (engEnt x).req = false) ∧
    (engEnt x).req.fromChainData = false ∧ (engEnt x).req.src = 0 ∧ (engEnt x).req.dst = 0 ∧ (engEnt x).req.aux.testBit 11 = false := by
  decide +kernel
theorem wit_EngineRuns : ∀ x ∈ engOps, ∃ y rnd u s, RunsOn x.1 x.2.1 y rnd u s := by
  intro x hx
  obtain ⟨a1, a2, a3, a4, a5, a6, a7, a8, a9, a10⟩ := engOps_ready x hx
  obtain ⟨b, u, hd⟩ := drawn_any (n := reqDraw x.1 (engEnt x).req) (s := engUp x) rfl
  refine ⟨engEnt x, b, u, seeded (engUp x), a1, a2, a3, a4, a5, ?_, ?_, ?_, ?_, fun _ => a10, hd⟩
  · by_cases hk : needsKey (engEnt x).req = true
    · rw [if_pos hk] at a6 ⊢
      exact ⟨a6.1, a6.2.1, _, a6.2.2.1, a6.2.2.2⟩
    · rw [if_neg hk] at a6 ⊢
      exact a6
  · intro h; rw [a7] at h; cases h
  · rw [State.addrTest, if_pos (Or.inl a8)]
  · rw [State.addrTest, if_pos (Or.inl a9)]

theorem wit_StepExecutesTheFront :
    (∃ (c : Instr) (l : List Instr) (s : State), s.pending = c :: l) ∧
    (∃ (s : State), s.pending = []) :=
  ⟨⟨.wait, [], { up with pending := [.wait] }, rfl⟩,
   ⟨up, rfl⟩⟩

theorem wit_KeystoneAndMemoriesKept :
    (∃ (s : State) (t : State), KeystoneOk s.ks ∧ Memory.wf 0 s.mem ∧ Memory.wf 0xFF s.cfg.flash ∧ Machine.step s = .next t) :=
  ⟨{ up with mem := [(0x40000000, 1)], ks := {} }, { up with mem := [(0x40000000, 1)], ks := {}, now := 1, backupUs := 1 }, ⟨⟨by decide +kernel, by decide +kernel⟩, by decide +kernel, by decide +kernel, rfl⟩⟩

theorem wit_FabricPllsFailAndReturn :
    (∃ (p : PllName) (s : State), (s.pll p).running = true ∧ (s.pll p).quarantined = true) ∧
    (∃ (p : PllName) (s : State), (s.pll p).running = true ∧ (s.pll p).quarantined = false) ∧
    (∃ (s : State), (s.pll s.clk.active).running = true ∧ (s.pll s.clk.active).quarantined = false) ∧
    (∃ (s : State), (s.pll s.clk.active).running = true ∧ s.clk.stopped = false ∧ s.pwr.state = 0 ∧ (s.pll (otherPll s.clk.active)).standby = true) ∧
    (∃ (s : State), (s.pll s.clk.active).running = true ∧ s.clk.stopped = false ∧ s.pwr.state = 0 ∧ (s.pll (otherPll s.clk.active)).standby = false ∧ s.pwr.quiesce = false) ∧
    (∃ (s : State), (s.pll (otherPll s.clk.active)).running = true ∧ (s.pll (otherPll s.clk.active)).quarantined = false) ∧
    (∃ (p : PllName) (s : State), (s.pll p).quarantined = true ∧ 1000 ≤ (s.pll p).windows) ∧
    (∃ (p : PllName) (s : State), (s.pll p).quarantined = true) ∧
    (∃ (s : State), (s.pll (otherPll s.clk.active)).on = true ∧ (s.pll (otherPll s.clk.active)).locked = false ∧ (s.pll (otherPll s.clk.active)).quarantined = false ∧ s.pwr.state = 0) :=
  ⟨⟨.b, { up with clk.pllB.quarantined := true, clk.pllB.windows := 999 }, by decide +kernel⟩,
   ⟨.b, up, by decide +kernel⟩,
   ⟨up, by decide +kernel⟩,
   ⟨up, by decide +kernel⟩,
   ⟨{ up with clk.pllB.locked := false }, by decide +kernel⟩,
   ⟨up, by decide +kernel⟩,
   ⟨.b, { up with clk.pllB.quarantined := true, clk.pllB.windows := 1000 }, by decide +kernel⟩,
   ⟨.a, { up with clk.pllA.quarantined := true }, by decide +kernel⟩,
   ⟨{ up with clk.pllB.locked := false }, by decide +kernel⟩⟩

theorem wit_ClocksBaysAndGroups :
    (∃ (s : State), s.clk.mssLocked = true ∧ s.pwr.state = 0) ∧
    (∃ (s : State), s.clk.mssLocked = false ∧ s.pwr.state = 0) ∧
    (∃ (g : Fin 16) (s : State), s.groupOf g = .powering ∧ tblWf .idle s.dsp.piers ∧ tblWf .powered s.clk.groups) ∧
    (∃ (b : Bay) (s : State), s.parkMarked (bayIx b) = false ∧ s.bayOf (bayIx b) = .powered ∧ s.bayIdle (bayIx b) = true) ∧
    (∃ (b : Bay) (s : State), s.bayOf (bayIx b) = .gated) ∧
    (∃ (b : Bay) (s : State), s.bayOf (bayIx b) = .waking) :=
  ⟨⟨up, by decide +kernel⟩,
   ⟨{ up with clk.mssLocked := false }, by decide +kernel⟩,
   ⟨15, { up with clk.groups := [(15, .powering)], dsp.piers := [(120, .parked), (127, .parked)] }, by decide +kernel⟩,
   ⟨.pk 5, up, by decide +kernel⟩,
   ⟨.hash 0, { up with clk.bays := [(4, .gated)] }, by decide +kernel⟩,
   ⟨.cipher 3, { up with clk.bays := [(3, .waking)] }, by decide +kernel⟩⟩

theorem wit_RegisterWriteByAccessType :
    (∃ (v : View) (s : State), s.viewOk v = false) ∧
    (∃ (n : Fn) (f : Fn), f ≠ n) ∧
    (∃ (s : State), s.pfBar = true) ∧
    (∃ (s : State), s.pfBar = true) ∧
    (∃ (s : State), s.pfBar = true) ∧
    (∃ (s : State), s.pfBar = true) ∧
    (∃ (x : DWord) (s : State), s.pfBar = true ∧ x.getLsbD 0 = false) :=
  ⟨⟨.pf, { up with hiu.linkUp := false }, by decide +kernel⟩,
   ⟨1, 2, by decide +kernel⟩,
   ⟨{ up with hiu.qp := [(63, { err := 7 })] }, by decide +kernel⟩,
   ⟨up, by decide +kernel⟩,
   ⟨{ up with hiu.tn := [(1024, { evt := 3 })] }, by decide +kernel⟩,
   ⟨{ up with pwr.evt := 6 }, by decide +kernel⟩,
   ⟨0, { up with hiu.msix := [(2047, { pending := true, addr := 64 })] }, by decide +kernel⟩⟩

theorem wit_DoorbellsAcceptedOrRefused :
    (∃ (f : Fn) (q : Fin 64) (s : State), s.barOk f = true ∧ q.val < qpCount f ∧ (s.qpOf f q).en = true ∧ (s.qpOf f q).stopped = false) ∧
    (∃ (f : Fn) (q : Fin 64) (s : State), s.barOk f = true ∧ q.val < qpCount f ∧ (s.qpOf f q).en = true ∧ (s.qpOf f q).stopped = false) :=
  ⟨⟨0, 0, upQ, by decide +kernel⟩,
   ⟨0, 0, upQ, by decide +kernel⟩⟩

theorem wit_EnableZeroesCounters :
    (∃ (f : Fn) (q : Fin 64) (c : Word) (s : State), s.barOk f = true ∧ q.val < qpCount f ∧ (s.qpOf f q).en = false ∧ s.enableOk f { s.qpOf f q with cfg := c &&& 0x7FFFF } = true) ∧
    (∃ (f : Fn) (q : Fin 64) (c : Word) (s : State), s.barOk f = true ∧ q.val < qpCount f ∧ (s.qpOf f q).en = false ∧ s.enableOk f { s.qpOf f q with cfg := c &&& 0x7FFFF } = false ∧ tblWf {} s.hiu.qp) ∧
    (∃ (f : Fn) (q : Fin 64) (s : State), s.barOk f = true ∧ q.val < qpCount f) :=
  ⟨⟨0, 0, 0x166, up, by decide +kernel⟩,
   ⟨0, 0, 0x165, up, by decide +kernel⟩,
   ⟨0, 0, upQ, by decide +kernel⟩⟩

theorem wit_FetchAndArrival :
    (∃ (f : Nat) (q : Nat) (s : State), f < 1025 ∧ q < 64 ∧ (s.hiu.qp.map Prod.fst).filter
      (fun k => decide (0 < s.fetchable (k / 64) (k % 64))) = [64 * f + q]) ∧
    (∃ (g : Grant) (ds : List Bytes) (s : State), s.hiu.grants = [g] ∧ g.data = none ∧ ds.length = g.idxs.length ∧ (∀ b ∈ ds, b.length = 128)) ∧
    (∃ (g : Grant) (s : State), s.hiu.grants = [g] ∧ g.data = none) ∧
    (∃ (d : Idx) (e : Entry) (a : Nat) (n : Nat) (l : List (Nat × Nat)) (s : State), s.entOf d = some e ∧ e.active = true ∧ e.phase = .input ((a, n) :: l)) :=
  ⟨⟨0, 0, { upQ with hiu.qp := [(0, { qp6 with sqTail := 3 })] }, by decide +kernel⟩,
   ⟨⟨4, 0, 0, [7], none⟩, [dsc 0x0701 []], { upQ with hiu.grants := [⟨4, 0, 0, [7], none⟩] }, ⟨rfl, rfl, rfl, by decide +kernel⟩⟩,
   ⟨⟨4, 0, 0, [7], none⟩, { upQ with hiu.grants := [⟨4, 0, 0, [7], none⟩], deck.ent := [(7, some {})] }, by decide +kernel⟩,
   ⟨7, { st := .running, phase := .input [(64, 16)] }, 64, 16, [], withEnt { st := .running, phase := .input [(64, 16)] } upQ, by decide +kernel⟩⟩

theorem wit_ArrivalChecksAndFiling :
    (∃ (g : Grant) (i : Nat) (b : Bytes) (s : State), s.hiu.grants = [g] ∧ g.data = none ∧ g.idxs = [i] ∧ b.length = 128 ∧ arrivalCheck g.fn b = 0 ∧ seqCheckOf b = false) ∧
    (∃ (g : Grant) (i : Nat) (b : Bytes) (s : State), s.hiu.grants = [g] ∧ g.data = none ∧ g.idxs = [i] ∧ b.length = 128 ∧ arrivalCheck g.fn b ≠ 0) ∧
    (∃ (g : Grant) (i : Nat) (b : Bytes) (v : Word) (s : State), s.hiu.grants = [g] ∧ g.data = none ∧ g.idxs = [i] ∧ b.length = 128 ∧ arrivalCheck g.fn b = 0 ∧ seqCheckOf b = true ∧ (tblGet none s.dsp.flows (flowKey (flowOf g.fn b))).bind (fun r => r.seq) = some v) ∧
    (∃ (g : Grant) (i : Nat) (b : Bytes) (v : Word) (s : State), s.hiu.grants = [g] ∧ g.data = none ∧ g.idxs = [i] ∧ b.length = 128 ∧ arrivalCheck g.fn b = 0 ∧ seqCheckOf b = true ∧ (tblGet none s.dsp.flows (flowKey (flowOf g.fn b))).bind (fun r => r.seq) = some v) :=
  ⟨⟨⟨4, 0, 0, [7], none⟩, 7, dsc 0x0701 [], { upQ with hiu.grants := [⟨4, 0, 0, [7], none⟩], deck.ent := [(7, some {})] }, by decide +kernel⟩,
   ⟨⟨4, 0, 0, [7], none⟩, 7, dsc 0x0702 [(2, [8])], { upQ with hiu.grants := [⟨4, 0, 0, [7], none⟩], deck.ent := [(7, some {})] }, by decide +kernel⟩,
   ⟨⟨4, 0, 0, [7], none⟩, 7, dsc 0x0701 [(2, [4]), (4, [9]), (8, [6])], 5, { upQ with hiu.grants := [⟨4, 0, 0, [7], none⟩], deck.ent := [(7, some {})], dsp.flows := [(9, some ⟨some 5, []⟩)] }, by decide +kernel⟩,
   ⟨⟨4, 0, 0, [7], none⟩, 7, dsc 0x0701 [(2, [4]), (4, [9]), (8, [7])], 5, { upQ with hiu.grants := [⟨4, 0, 0, [7], none⟩], deck.ent := [(7, some {})], dsp.flows := [(9, some ⟨some 5, []⟩)] }, by decide +kernel⟩⟩

theorem wit_MessagesAndConfigRequests :
    (∃ (f : Fn) (q : Fin 64) (s : State), (s.qpOf f q).uncovered ≠ 0) ∧
    (∃ (f : Fn) (v : Fin 2048) (s : State), s.barOk f = true ∧ ((f.val = 0 ∨ v.val < 16))) ∧
    (∃ (s : State), s.pfBar = true) ∧
    (∃ (s : State), s.hiu.linkUp = true ∧ ((s.hiu.pfFlr = true ∨ s.cfgNormal = false))) ∧
    (∃ (s : State), s.hiu.linkUp = true ∧ s.hiu.pfFlr = false ∧ s.cfgNormal = true) ∧
    (∃ (s : State), s.hiu.linkUp = true ∧ s.hiu.pfFlr = false ∧ s.cfgNormal = true) ∧
    (∃ (f : Fn) (s : State), f ≠ 0 ∧ s.hiu.linkUp = true) :=
  ⟨⟨0, 0, { up with hiu.qp := [(0, { qp6 with uncovered := 1 })] }, by decide +kernel⟩,
   ⟨0, 2047, { up with hiu.msix := [(2047, { pending := true })] }, by decide +kernel⟩,
   ⟨up, by decide +kernel⟩,
   ⟨{ up with boot.booting := true }, by decide +kernel⟩,
   ⟨up, by decide +kernel⟩,
   ⟨{ up with hiu.d3hot := true }, by decide +kernel⟩,
   ⟨3, { up with hiu.vfEnable := true, hiu.numVfs := 3 }, by decide +kernel⟩⟩

theorem wit_TenantRecordWrites :
    (∃ (s : State), s.pfBar = true) ∧
    (∃ (s : State), s.pfBar = true) :=
  ⟨⟨up, by decide +kernel⟩,
   ⟨up, by decide +kernel⟩⟩

theorem wit_VfResets :
    (∃ (f : Fn) (s : State), s.hiu.linkUp = true ∧ s.hiu.pfFlr = false ∧ s.vfExists f = true ∧ tblWf false s.hiu.ready) ∧
    (∃ (f : Fn) (s : State), s.hiu.linkUp = true ∧ s.hiu.pfFlr = false ∧ s.vfExists f = true ∧ s.hiu.grants = [] ∧ s.held.length ≤ 32768 ∧ tblWf none s.deck.ent) ∧
    (∃ (f : Fn) (s : State), s.fenced f = true ∧ f ≠ 0) ∧
    (∃ (f : Fn) (s : State), f ≠ 0 ∧ s.hiu.pfFlr = false ∧ s.fenced f = true ∧ tblWf false s.hiu.fence) ∧
    (∃ (s : State), s.hiu.linkUp = true ∧ s.hiu.pfFlr = false ∧ s.hiu.vfEnable = true) ∧
    (∃ (n : Nat) (s : State), s.hiu.linkUp = true ∧ s.hiu.pfFlr = false ∧ s.cfgNormal = true ∧ s.hiu.vfEnable = false ∧ 1 ≤ n ∧ n ≤ 1024) :=
  ⟨⟨2, { upVf with pay.sess := [(8192, some ⟨2, 0, 0, ⟨0, 0, [], [], 0, 0, [], 0⟩, 5⟩)] }, by decide +kernel⟩,
   ⟨2, withEnt { eRun with st := .ready } upVf, by decide +kernel⟩,
   ⟨2, { upVf with hiu.fence := [(2, true)] }, by decide +kernel⟩,
   ⟨2, { upVf with hiu.fence := [(2, true)], hiu.ready := [(1, true)] }, by decide +kernel⟩,
   ⟨upVf, by decide +kernel⟩,
   ⟨1024, up, by decide +kernel⟩⟩

theorem wit_PfAndLinkResets :
    (∃ (s : State), s.hiu.linkUp = true ∧ s.boot.booting = false) ∧
    (∃ (s : State), s.hiu.pfFlr = true ∧ s.hiu.linkUp = true) ∧
    (∃ (s : State), s.hiu.linkUp = true) ∧
    (∃ (s : State), s.hw.perst = false ∧ s.pwr.quiesce = false ∧ s.pwr.quiesceStep = 0 ∧ s.backupOnly = false ∧ s.pwr.state = 0 ∧ s.pwr.entry = none) ∧
    (∃ (s : State), s.hw.perst = true ∧ s.pwr.quiesceStep = 0 ∧ s.backupOnly = false ∧ s.pwr.state = 0 ∧ s.pwr.entry = none ∧ s.pwr.waking = none) ∧
    (∃ (s : State), s.hiu.linkUp = true) :=
  ⟨⟨upQ, by decide +kernel⟩,
   ⟨{ up with hiu.pfFlr := true, hiu.dpUp := false, hiu.fence := [(0, true), (1024, true)] }, by decide +kernel⟩,
   ⟨upVf, by decide +kernel⟩,
   ⟨up, by decide +kernel⟩,
   ⟨{ up with hw.perst := true, hiu.linkUp := false }, by decide +kernel⟩,
   ⟨up, by decide +kernel⟩⟩

theorem wit_TakePortsAndGrants :
    (∃ (p : PierNo) (s : State), s.pierOf p = .idle ∧ tblGet false s.dsp.parkNext p = false) ∧
    (∃ (p : PierNo) (s : State), s.pierOf p = .idle ∧ tblGet false s.dsp.parkNext p = true) ∧
    (∃ (p : PierNo) (i : Nat) (d : Nat) (rest : List Nat) (e : Entry) (s : State), s.granting = true ∧ i < 128 ∧ (s.dsp.pierPtr + i) % 128 = p.val ∧ s.pierOf p = .waiting ∧ (∀ j < i, s.pierOf ((s.dsp.pierPtr + j) % 128) ≠ .waiting) ∧ s.dsp.replayList = d :: rest ∧ s.entOf d = some e) ∧
    (∃ (p : PierNo) (i : Nat) (d : Nat) (e : Entry) (u : State) (s : State), s.granting = true ∧ i < 128 ∧ (s.dsp.pierPtr + i) % 128 = p.val ∧ s.pierOf p = .waiting ∧ (∀ j < i, s.pierOf ((s.dsp.pierPtr + j) % 128) ≠ .waiting) ∧ s.dsp.replayList = [] ∧ s.reserve < s.waitingPiers ∧ s.selectReady = some (d, u) ∧ s.entOf d = some e) ∧
    (∃ (s : State), s.granting = true ∧ s.dsp.replayList = [] ∧ s.waitingPiers ≤ s.reserve) :=
  ⟨⟨127, up, by decide +kernel⟩,
   ⟨127, { up with dsp.parkNext := [(127, true)] }, by decide +kernel⟩,
   ⟨0, 1, 7, [8], { eRun with st := .ready, phase := .idle, pier := none, onReplay := true }, withEnt { eRun with st := .ready, phase := .idle, pier := none, onReplay := true } { up with dsp.ctrl := 0x4005, dsp.pierPtr := 127, dsp.piers := [(0, .waiting)], dsp.replayList := [7, 8] }, by decide +kernel⟩,
   ⟨3, 3, 7, { eRun with st := .ready, phase := .idle, pier := none }, ((ready7.selectReady).getD (0, ready7)).2, ready7, by decide +kernel⟩,
   ⟨{ up with dsp.ctrl := 0x4005, dsp.piers := [(3, .waiting)] }, by decide +kernel⟩⟩

theorem wit_PostsAndReleases :
    (∃ (p : PierNo) (d : Nat) (e : Entry) (q : Post) (s : State), s.pierOf p = .holding d ∧ s.entOf d = some e ∧ e.phase = .finished q ∧ e.st = .running) ∧
    (∃ (p : PierNo) (d : Nat) (e : Entry) (q : Post) (s : State), s.pierOf p = .holding d ∧ s.entOf d = some e ∧ e.phase = .finished q ∧ e.st = .orphan ∧ tblWf none s.deck.ent) ∧
    (∃ (d : Idx) (e : Entry) (s : State), s.entOf d = some e ∧ s.mayTest e = true ∧ s.mustPropose e = none ∧ (∀ g ∈ e.post.guards, s.gword g.word = g.value) ∧ ((∀ x, e.expiry = some x → s.now ≤ x)) ∧ e.gen = (s.tnOf e.fn).gen ∧ s.itemVerdict e = 0 ∧ ((e.post.status ≤ 1 → journalOf e.post.intents = none)) ∧ tblWf {} s.hiu.qp) ∧
    (∃ (d : Idx) (e : Entry) (k : JKind) (n : Nat) (kid : BitVec 64) (w : DWord) (s : State), s.entOf d = some e ∧ s.mayTest e = true ∧ s.mustPropose e = none ∧ (∀ g ∈ e.post.guards, s.gword g.word = g.value) ∧ ((∀ x, e.expiry = some x → s.now ≤ x)) ∧ e.gen = (s.tnOf e.fn).gen ∧ s.itemVerdict e = 0 ∧ e.post.status ≤ 1 ∧ journalOf e.post.intents = some (k, n, kid, w)) :=
  ⟨⟨9, 7, { eRun with phase := .finished ⟨0, [1], [], []⟩ }, ⟨0, [1], [], []⟩, withEnt { eRun with phase := .finished ⟨0, [1], [], []⟩ } { up with dsp.piers := [(9, .holding 7)] }, by decide +kernel⟩,
   ⟨9, 7, { eRun with st := .orphan, phase := .finished ⟨0, [1], [], []⟩ }, ⟨0, [1], [], []⟩, withEnt { eRun with st := .orphan, phase := .finished ⟨0, [1], [], []⟩ } { up with dsp.piers := [(9, .holding 7)] }, by decide +kernel⟩,
   ⟨7, eDone, withEnt eDone upQ, by decide +kernel⟩,
   ⟨7, { eDone with post := ⟨0, [], [.journal .commit 0 5 3, .keyState 0 5 3], []⟩ }, .commit, 0, 5, 3, withEnt { eDone with post := ⟨0, [], [.journal .commit 0 5 3, .keyState 0 5 3], []⟩ } upQ, by decide +kernel⟩⟩

theorem wit_RefusalsGuardsDeadlinesDiscards :
    (∃ (d : Idx) (e : Entry) (s : State), s.entOf d = some e ∧ s.mayTest e = true ∧ s.mustPropose e = none ∧ (∀ g ∈ e.post.guards, s.gword g.word = g.value) ∧ ((∀ x, e.expiry = some x → s.now ≤ x)) ∧ e.gen = (s.tnOf e.fn).gen ∧ 1 < s.itemVerdict e) ∧
    (∃ (d : Idx) (e : Entry) (g : Guard) (s : State), s.entOf d = some e ∧ s.mayTest e = true ∧ s.mustPropose e = none ∧ g ∈ e.post.guards ∧ s.gword g.word ≠ g.value) ∧
    (∃ (d : Idx) (e : Entry) (s : State), s.entOf d = some e ∧ s.mayTest e = true ∧ s.mustPropose e = none ∧ (∀ g ∈ e.post.guards, s.gword g.word = g.value) ∧ ((∀ x, e.expiry = some x → s.now ≤ x)) ∧ e.gen ≠ (s.tnOf e.fn).gen ∧ tblWf none s.deck.ent) ∧
    (∃ (d : Idx) (e : Entry) (s : State), s.entOf d = some e ∧ e.st = .releasing ∧ e.waiting = false ∧ tblWf none s.deck.ent) ∧
    (∃ (d : Idx) (e : Entry) (x : Nat) (s : State), s.entOf d = some e ∧ e.expiry = some x ∧ e.st = .running ∧ s.fenced e.fn = false ∧ s.deck.noRelease = false ∧ s.releasing < 64 ∧ e.gen = (s.tnOf e.fn).gen ∧ tblWf {} s.hiu.qp) ∧
    (∃ (d : Idx) (e : Entry) (x : Nat) (s : State), s.entOf d = some e ∧ e.expiry = some x ∧ ((e.st = .ready ∨ e.st = .done ∨ e.st = .held)) ∧ s.fenced e.fn = false ∧ s.deck.noRelease = false ∧ s.releasing < 64 ∧ e.gen = (s.tnOf e.fn).gen ∧ tblWf none s.deck.ent) ∧
    (∃ (d : Idx) (e : Entry) (x : Nat) (s : State), s.entOf d = some e ∧ e.expiry = some x ∧ ((e.st = .ready ∨ e.st = .done ∨ e.st = .held)) ∧ s.fenced e.fn = false ∧ s.deck.noRelease = false ∧ s.releasing < 64 ∧ e.gen = (s.tnOf e.fn).gen ∧ tblWf none s.deck.ent) :=
  ⟨⟨7, { eDone with post := ⟨0, [], [.journal .commit 0 5 3], []⟩ }, withEnt { eDone with post := ⟨0, [], [.journal .commit 0 5 3], []⟩ } { upQ with pwr.charge := 0 }, by decide +kernel⟩,
   ⟨7, { eDone with post := ⟨0, [], [], [⟨.keyState 0 5, 3⟩]⟩ }, ⟨.keyState 0 5, 3⟩, withEnt { eDone with post := ⟨0, [], [], [⟨.keyState 0 5, 3⟩]⟩ } upQ, by decide +kernel⟩,
   ⟨7, { eDone with gen := 9 }, withEnt { eDone with gen := 9 } upQ, by decide +kernel⟩,
   ⟨7, { eDone with st := .releasing }, withEnt { eDone with st := .releasing } upQ, by decide +kernel⟩,
   ⟨7, { eRun with expiry := some 100 }, 100, withEnt { eRun with expiry := some 100 } upQ, by decide +kernel⟩,
   ⟨7, { eDone with expiry := some 100 }, 100, withEnt { eDone with expiry := some 100 } upQ, by decide +kernel⟩,
   ⟨7, { eRun with st := .held, expiry := some 100, pier := none }, 100, withEnt { eRun with st := .held, expiry := some 100, pier := none } upQ, by decide +kernel⟩⟩

theorem wit_PierFaultsAndMonitors :
    (∃ (p : PierNo) (d : Nat) (e : Entry) (s : State), s.pierOf p = .holding d ∧ s.entOf d = some e ∧ e.st = .running ∧ e.attempt < 2 ∧ tblGet 0 s.dsp.quar p < 2) ∧
    (∃ (p : PierNo) (d : Nat) (e : Entry) (s : State), s.pierOf p = .holding d ∧ s.entOf d = some e ∧ e.st = .running ∧ e.attempt = 2 ∧ tblGet 0 s.dsp.quar p < 2) ∧
    (∃ (p : PierNo) (s : State), ((s.pierOf p = .idle ∨ s.pierOf p = .waiting)) ∧ tblGet 0 s.dsp.quar p = 2 ∧ s.piersOut < 127) ∧
    (∃ (p : PierNo) (d : Nat) (e : Entry) (s : State), s.pierOf p = .holding d ∧ s.entOf d = some e ∧ e.cls ≠ 3 ∧ e.cls ≠ 4 ∧ (∀ a, e.phase ≠ .binding a) ∧ (∀ l, e.phase ≠ .input l)) ∧
    (∃ (p : PierNo) (d : Nat) (e : Entry) (a : Option Nat) (s : State), s.pierOf p = .holding d ∧ s.entOf d = some e ∧ e.phase = .binding a) ∧
    (∃ (p : PierNo) (s : State), s.pierOf p = .quarantined) ∧
    (∃ (p : PierNo) (s : State), s.pierOf p = .quarantined ∧ s.piersOut < 127) ∧
    (∃ (d : Idx) (p : Nat) (e : Entry) (s : State), s.entOf d = some e ∧ e.active = true ∧ e.cls = 4 ∧ e.pier = some p) ∧
    (∃ (d : Idx) (n : Nat) (e : Entry) (s : State), s.entOf d = some e ∧ e.active = true ∧ e.cls = 3 ∧ (List.range 48).find? (fun n => (s.engOf (48 + n)).q.any (fun y => y.req.deckIdx == d.val)) = some n) :=
  ⟨⟨9, 7, { eRun with attempt := 1 }, withEnt { eRun with attempt := 1 } { up with dsp.piers := [(9, .holding 7)], dsp.quar := [(9, 1)] }, by decide +kernel⟩,
   ⟨9, 7, { eRun with attempt := 2 }, withEnt { eRun with attempt := 2 } { up with dsp.piers := [(9, .holding 7)] }, by decide +kernel⟩,
   ⟨9, { up with dsp.quar := [(9, 2)] }, by decide +kernel⟩,
   ⟨9, 7, eRun, withEnt eRun { up with dsp.piers := [(9, .holding 7)] }, by and_intros <;> first | exact heard_hu (by decide +kernel) | exact taken (by decide +kernel) | decide +kernel | (intro _ h; cases h)⟩,
   ⟨9, 7, { eRun with phase := .binding (some 64) }, some 64, withEnt { eRun with phase := .binding (some 64) } { up with dsp.piers := [(9, .holding 7)] }, by decide +kernel⟩,
   ⟨127, { up with dsp.piers := [(127, .quarantined)] }, by decide +kernel⟩,
   ⟨127, { up with dsp.piers := [(127, .quarantined)] }, by decide +kernel⟩,
   ⟨7, 9, { eRun with cls := 4 }, withEnt { eRun with cls := 4 } { up with dsp.piers := [(9, .holding 7)] }, by decide +kernel⟩,
   ⟨7, 5, { eRun with cls := 3, pier := none }, withEnt { eRun with cls := 3, pier := none } { up with eng.eng := [(53, { q := [⟨{ req0 with deckIdx := 7 }, none, none, none, none, []⟩] })] }, by decide +kernel⟩⟩

theorem wit_PinCommands :
    (∃ (d : Idx) (e : Entry) (s : State), s.entOf d = some e ∧ e.active = true ∧ e.phase = .exec ∧ opcodeOf e.desc = 0x0101 ∧ pinOpenB (u8 e.desc 48) (s.ciphFor e 0) (sub e.desc 56 16) (panOf e.desc 72 (u8 e.desc 50)) = none) ∧
    (∃ (d : Idx) (e : Entry) (s : State) (pin : List Nat) (r : Bytes) (u : State), s.entOf d = some e ∧ e.active = true ∧ e.phase = .exec ∧ opcodeOf e.desc = 0x0101 ∧ Drawn (if u8 e.desc 49 = 0 then 0 else 8) s r u ∧ pinOpenB (u8 e.desc 48) (s.ciphFor e 0) (sub e.desc 56 16) (panOf e.desc 72 (u8 e.desc 50)) = some pin) ∧
    (∃ (d : Idx) (e : Entry) (s : State) (pin : List Nat) (u : State), s.entOf d = some e ∧ e.active = true ∧ e.phase = .exec ∧ opcodeOf e.desc = 0x0101 ∧ u8 e.desc 49 ≠ 0 ∧ s.rngTake 8 = .fail u ∧ pinOpenB (u8 e.desc 48) (s.ciphFor e 0) (sub e.desc 56 16) (panOf e.desc 72 (u8 e.desc 50)) = some pin) ∧
    (∃ (d : Idx) (e : Entry) (s : State), s.entOf d = some e ∧ e.active = true ∧ e.phase = .exec ∧ opcodeOf e.desc = 0x0102) ∧
    (∃ (d : Idx) (e : Entry) (s : State), s.entOf d = some e ∧ e.active = true ∧ e.phase = .exec ∧ opcodeOf e.desc = 0x0103) ∧
    (∃ (d : Idx) (e : Entry) (s : State), s.entOf d = some e ∧ e.active = true ∧ e.phase = .exec ∧ opcodeOf e.desc = 0x0201 ∧ pinOpenB (u8 e.desc 50) ⟨u8 e.desc 48 == 1, (dukptKeys (u8 e.desc 48) (u8 e.desc 49) (s.matOf e 0) (sub e.desc 56 12)).1⟩
        (sub e.desc 72 16) (panOf e.desc 88 (u8 e.desc 52)) = none) ∧
    (∃ (d : Idx) (e : Entry) (s : State) (pin : List Nat) (r : Bytes) (u : State), s.entOf d = some e ∧ e.active = true ∧ e.phase = .exec ∧ opcodeOf e.desc = 0x0201 ∧ Drawn (if u8 e.desc 51 = 0 then 0 else 8) s r u ∧ pinOpenB (u8 e.desc 50) ⟨u8 e.desc 48 == 1, (dukptKeys (u8 e.desc 48) (u8 e.desc 49) (s.matOf e 0) (sub e.desc 56 12)).1⟩
        (sub e.desc 72 16) (panOf e.desc 88 (u8 e.desc 52)) = some pin) :=
  ⟨⟨7, eEx (dsc 0x0101 [(50, [12])]), upEx (dsc 0x0101 [(50, [12])]) sT sT, by decide +kernel⟩,
   ⟨7, eEx (dPin 0), upEx (dPin 0) sT sT, [1, 2, 3, 4], [], upEx (dPin 0) sT sT, ⟨by decide +kernel, rfl, rfl, by decide +kernel, Or.inl (by decide +kernel), by decide +kernel⟩⟩,
   ⟨7, eEx (dPin 1), { upEx (dPin 1) sT sT with rng := { st := 3 } }, [1, 2, 3, 4], { upEx (dPin 1) sT sT with rng := { st := 3, cntErrDraw := 1 } }, ⟨by decide +kernel, rfl, rfl, by decide +kernel, by decide +kernel, rfl, by decide +kernel⟩⟩,
   ⟨7, eEx (dsc 0x0102 []), upEx (dsc 0x0102 []) sT sT, by decide +kernel⟩,
   ⟨7, eEx (dsc 0x0103 []), upEx (dsc 0x0103 []) sT sT, by decide +kernel⟩,
   ⟨7, eEx (dsc 0x0201 [(52, [12, 12])]), upEx (dsc 0x0201 [(52, [12, 12])]) sT sT, by decide +kernel⟩,
   ⟨7, eEx dDk, upEx dDk sT sT, [1, 2, 3, 4], [], upEx dDk sT sT, ⟨by decide +kernel, rfl, rfl, by decide +kernel, Or.inl (by decide +kernel), by decide +kernel⟩⟩⟩

theorem wit_MacEmvAndCardCodes :
    (∃ (d : Idx) (e : Entry) (s : State), s.entOf d = some e ∧ e.active = true ∧ e.phase = .exec ∧ opcodeOf e.desc = 0x0202) ∧
    (∃ (d : Idx) (e : Entry) (s : State), s.entOf d = some e ∧ e.active = true ∧ e.phase = .exec ∧ opcodeOf e.desc = 0x0301) ∧
    (∃ (d : Idx) (e : Entry) (s : State), s.entOf d = some e ∧ e.active = true ∧ e.phase = .exec ∧ opcodeOf e.desc = 0x0302) ∧
    (∃ (d : Idx) (e : Entry) (s : State), s.entOf d = some e ∧ e.active = true ∧ e.phase = .exec ∧ opcodeOf e.desc = 0x0401) ∧
    (∃ (d : Idx) (e : Entry) (s : State), s.entOf d = some e ∧ e.active = true ∧ e.phase = .exec ∧ opcodeOf e.desc = 0x0402) ∧
    (∃ (d : Idx) (e : Entry) (s : State), s.entOf d = some e ∧ e.active = true ∧ e.phase = .exec ∧ opcodeOf e.desc = 0x0410) ∧
    (∃ (d : Idx) (e : Entry) (s : State), s.entOf d = some e ∧ e.active = true ∧ e.phase = .exec ∧ opcodeOf e.desc = 0x0411) :=
  ⟨⟨7, eEx (dsc 0x0202 []), upEx (dsc 0x0202 []) sT sT, by decide +kernel⟩,
   ⟨7, eEx (dsc 0x0301 []), upEx (dsc 0x0301 []) sT sT, by decide +kernel⟩,
   ⟨7, eEx (dsc 0x0302 []), upEx (dsc 0x0302 []) sT sT, by decide +kernel⟩,
   ⟨7, eEx (dsc 0x0401 []), upEx (dsc 0x0401 []) sT sT, by decide +kernel⟩,
   ⟨7, eEx (dsc 0x0402 []), upEx (dsc 0x0402 []) sT sT, by decide +kernel⟩,
   ⟨7, eEx (dsc 0x0410 []), upEx (dsc 0x0410 []) sT sT, by decide +kernel⟩,
   ⟨7, eEx (dsc 0x0411 []), upEx (dsc 0x0411 []) sT sT, by decide +kernel⟩⟩

theorem wit_FormatPreservingXtsAndSessions :
    (∃ (d : Idx) (e : Entry) (s : State), s.entOf d = some e ∧ e.active = true ∧ e.phase = .exec ∧ opcodeOf e.desc = 0x0702) ∧
    (∃ (d : Idx) (e : Entry) (s : State), s.entOf d = some e ∧ e.active = true ∧ e.phase = .exec ∧ opcodeOf e.desc = 0x0701) ∧
    (∃ (radix : Nat) (x : List Nat), 2 ≤ radix ∧ 2 ≤ x.length ∧ (∀ c ∈ x, c < radix)) ∧
    (∃ (f : Fn) (i : Fin 4096) (x : Sess) (s : State), tblGet none s.pay.sess (4096 * f.val + i.val) = some x ∧ tblWf none s.pay.sess) :=
  ⟨⟨7, eEx (dsc 0x0702 [(34, [6]), (72, [48, 49, 50, 51, 52, 57])]), upEx (dsc 0x0702 [(34, [6]), (72, [48, 49, 50, 51, 52, 57])]) sA sA, by decide +kernel⟩,
   ⟨7, eEx (dsc 0x0701 [(36, [16])]), upEx (dsc 0x0701 [(36, [16])]) (slot 0x85 2 (k16 ++ k16)) sA, by decide +kernel⟩,
   ⟨10, [1, 9], by decide +kernel⟩,
   ⟨3, 4095, ⟨3, 0, 0, ⟨0, 0, [], [], 0, 0, [], 0⟩, 5⟩, { up with pay.sess := [(16383, some ⟨3, 0, 0, ⟨0, 0, [], [], 0, 0, [], 0⟩, 5⟩)] }, by decide +kernel⟩⟩

theorem wit_PublicKeyRandomAndAdminItems :
    (∃ (d : Idx) (e : Entry) (s : State) (r : Bytes) (u : State), s.entOf d = some e ∧ e.active = true ∧ e.phase = .exec ∧ opcodeOf e.desc = 0x0601 ∧ Drawn (signDraw e.desc) s r u) ∧
    (∃ (d : Idx) (e : Entry) (s : State), s.entOf d = some e ∧ e.active = true ∧ e.phase = .exec ∧ opcodeOf e.desc = 0x0602) ∧
    (∃ (d : Idx) (e : Entry) (s : State) (r : Bytes) (u : State) (mat : Bytes) (pub : Bytes), s.entOf d = some e ∧ e.active = true ∧ e.phase = .exec ∧ opcodeOf e.desc = 0x0603 ∧ Drawn (blindLen (u8 e.desc 32)) s r u ∧ s.agreement e = .key mat pub) ∧
    (∃ (d : Idx) (e : Entry) (s : State) (r : Bytes) (u : State) (p : Post), s.entOf d = some e ∧ e.active = true ∧ e.phase = .exec ∧ opcodeOf e.desc = 0x0603 ∧ Drawn (blindLen (u8 e.desc 32)) s r u ∧ (∀ m q, s.agreement e ≠ .key m q) ∧ pkPost e.post.guards (s.agreement e) = some p) ∧
    (∃ (d : Idx) (e : Entry) (s : State) (r : Bytes) (u : State) (mat : Bytes) (pub : Bytes), s.entOf d = some e ∧ e.active = true ∧ e.phase = .exec ∧ opcodeOf e.desc = 0x0604 ∧ Drawn (genDraw (u8 e.desc 16)) s r u ∧ pkGen (u8 e.desc 16) r = .key mat pub) ∧
    (∃ (d : Idx) (e : Entry) (s : State) (r : Bytes) (u : State), s.entOf d = some e ∧ e.active = true ∧ e.phase = .exec ∧ opcodeOf e.desc = 0x0605 ∧ Drawn (blindLen (u8 e.desc 32)) s r u) ∧
    (∃ (d : Idx) (e : Entry) (s : State) (r : Bytes) (u : State), s.entOf d = some e ∧ e.active = true ∧ e.phase = .exec ∧ opcodeOf e.desc = 0x0801 ∧ Drawn (fld e.desc 16 4) s r u) ∧
    (∃ (d : Idx) (e : Entry) (s : State), s.entOf d = some e ∧ e.active = true ∧ e.phase = .exec ∧ opcodeOf e.desc = 0x0F01) ∧
    (∃ (d : Idx) (e : Entry) (s : State), s.entOf d = some e ∧ e.active = true ∧ e.phase = .exec ∧ opcodeOf e.desc = 0x0F02) :=
  ⟨⟨7, eEx (dsc 0x0601 [(32, [0x21, 3])]), seeded (upEx (dsc 0x0601 [(32, [0x21, 3])]) (slot 0x21 8 (k16 ++ k16)) sA), rOf 8 (seeded (upEx (dsc 0x0601 [(32, [0x21, 3])]) (slot 0x21 8 (k16 ++ k16)) sA)), uOf 8 (seeded (upEx (dsc 0x0601 [(32, [0x21, 3])]) (slot 0x21 8 (k16 ++ k16)) sA)), ⟨by decide +kernel, rfl, rfl, by decide +kernel, drawn_of_served (n := 8) (by decide) (take_ok (seeded_ready (by decide) rfl))⟩⟩,
   ⟨7, eEx (dsc 0x0602 [(32, [0x21, 3])]), upEx (dsc 0x0602 [(32, [0x21, 3])]) (slot 0x21 8 (k16 ++ k16)) sA, by decide +kernel⟩,
   ⟨7, eX, upX, [], upX, keyMat (upX.agreement eX), keyPub (upX.agreement eX), ⟨by decide +kernel, rfl, rfl, by decide +kernel, Or.inl (by decide +kernel), key_of_isKey (by decide +kernel)⟩⟩,
   ⟨7, eX0, upX0, [], upX0, ⟨0x4003, [], [], []⟩, ⟨by decide +kernel, rfl, rfl, by decide +kernel, Or.inl (by decide +kernel), by intro m q h; exact (by decide +kernel : isKey (upX0.agreement eX0) ≠ true) (congrArg isKey h), by decide +kernel⟩⟩,
   ⟨7, eEx (dsc 0x0604 [(16, [0x21, 8])]), upG, rOf 32 upG, uOf 32 upG, keyMat (pkGen 0x21 (rOf 32 upG)), keyPub (pkGen 0x21 (rOf 32 upG)), ⟨by decide +kernel, rfl, rfl, by decide +kernel, drawn_of_served (n := 32) (by decide) (take_ok (seeded_ready (by decide) rfl)), key_of_isKey (gen21 _)⟩⟩,
   ⟨7, eEx (dsc 0x0605 [(32, [1])]), upR, rOf 272 upR, uOf 272 upR, ⟨by decide +kernel, rfl, rfl, by decide +kernel, drawn_of_served (n := 272) (by decide) (take_ok (seeded_ready (by decide) rfl))⟩⟩,
   ⟨7, eEx (dsc 0x0801 [(16, [9])]), up9, rOf 9 up9, uOf 9 up9, ⟨by decide +kernel, rfl, rfl, by decide +kernel, drawn_of_served (n := 9) (by decide) (take_ok (seeded_ready (by decide) rfl))⟩⟩,
   ⟨7, eEx (dsc 0x0F01 [(16, [0, 4])]), upEx (dsc 0x0F01 [(16, [0, 4])]) sA sA, by decide +kernel⟩,
   ⟨7, eEx (dsc 0x0F02 [(16, [0, 4])]), upEx (dsc 0x0F02 [(16, [0, 4])]) sA sA, by decide +kernel⟩⟩

theorem wit_KeyBlockCommands :
    (∃ (d : Idx) (e : Entry) (s : State), s.entOf d = some e ∧ e.active = true ∧ e.phase = .exec ∧ opcodeOf e.desc = 0x0501 ∧ kbHeadOk (e.inputs.headD []) = false) ∧
    (∃ (d : Idx) (e : Entry) (s : State), s.entOf d = some e ∧ e.active = true ∧ e.phase = .exec ∧ opcodeOf e.desc = 0x0501 ∧ kbHeadOk (e.inputs.headD []) = true ∧ ((((e.inputs.headD []).getD 0 0).toNat == 0x44) != aesAlgs.contains (s.algOf e 0)) = true) ∧
    (∃ (d : Idx) (e : Entry) (s : State), s.entOf d = some e ∧ e.active = true ∧ e.phase = .exec ∧ opcodeOf e.desc = 0x0501 ∧ kbHeadOk (e.inputs.headD []) = true ∧ (((e.inputs.headD []).getD 0 0).toNat == 0x44) = aesAlgs.contains (s.algOf e 0) ∧ kbOpen (s.matOf e 0) (e.inputs.headD []) = none) ∧
    (∃ (d : Idx) (e : Entry) (s : State) (mat : Bytes) (alg : Nat) (cls : Nat), s.entOf d = some e ∧ e.active = true ∧ e.phase = .exec ∧ opcodeOf e.desc = 0x0501 ∧ kbHeadOk (e.inputs.headD []) = true ∧ (((e.inputs.headD []).getD 0 0).toNat == 0x44) = aesAlgs.contains (s.algOf e 0) ∧ kbOpen (s.matOf e 0) (e.inputs.headD []) = some mat ∧ kbAlg ((e.inputs.headD []).getD 7 0) mat.length = some alg ∧ kbClass (sub (e.inputs.headD []) 5 2) ((e.inputs.headD []).getD 8 0) = some cls ∧ u8 e.desc 25 = 1 ∧ kcvSym alg mat ≠ sub e.desc 28 3) ∧
    (∃ (d : Idx) (e : Entry) (s : State) (mat : Bytes) (alg : Nat) (cls : Nat), s.entOf d = some e ∧ e.active = true ∧ e.phase = .exec ∧ opcodeOf e.desc = 0x0501 ∧ kbHeadOk (e.inputs.headD []) = true ∧ (((e.inputs.headD []).getD 0 0).toNat == 0x44) = aesAlgs.contains (s.algOf e 0) ∧ kbOpen (s.matOf e 0) (e.inputs.headD []) = some mat ∧ kbAlg ((e.inputs.headD []).getD 7 0) mat.length = some alg ∧ kbClass (sub (e.inputs.headD []) 5 2) ((e.inputs.headD []).getD 8 0) = some cls ∧ ((u8 e.desc 25 = 1 → kcvSym alg mat = sub e.desc 28 3))) ∧
    (∃ (d : Idx) (e : Entry) (s : State) (r : Bytes) (u : State), s.entOf d = some e ∧ e.active = true ∧ e.phase = .exec ∧ opcodeOf e.desc = 0x0502 ∧ Drawn (kbPadLen (byteOf (u8 e.desc 48)) (s.matOf e 0).length) s r u) ∧
    (∃ (d : Idx) (e : Entry) (s : State) (r : Bytes) (u : State), s.entOf d = some e ∧ e.active = true ∧ e.phase = .exec ∧ opcodeOf e.desc = 0x0503 ∧ Drawn ((algShape (u8 e.desc 25)).getD (0, 1)).1 s r u) ∧
    (∃ (d : Idx) (e : Entry) (s : State), s.entOf d = some e ∧ e.active = true ∧ e.phase = .exec ∧ opcodeOf e.desc = 0x0513) :=
  ⟨⟨7, eEx (dsc 0x0501 []), upEx (dsc 0x0501 []) sA sA, by decide +kernel⟩,
   ⟨7, eIn (dsc 0x0501 []) kbBad, upIn (dsc 0x0501 []) kbBad sT, by decide +kernel⟩,
   ⟨7, eIn (dsc 0x0501 []) kbBad, upIn (dsc 0x0501 []) kbBad sA, by decide +kernel⟩,
   ⟨7, eIn (dsc 0x0501 [(25, [1])]) kbD, upIn (dsc 0x0501 [(25, [1])]) kbD sA, k16, 0x82, 0, ⟨by decide +kernel, rfl, rfl, by decide +kernel, kbD_head, by decide +kernel, kbD_open, by decide +kernel, by decide +kernel, by decide +kernel, by decide +kernel⟩⟩,
   ⟨7, eIn (dsc 0x0501 []) kbD, upIn (dsc 0x0501 []) kbD sA, k16, 0x82, 0, ⟨by decide +kernel, rfl, rfl, by decide +kernel, kbD_head, by decide +kernel, kbD_open, by decide +kernel, by decide +kernel, by decide +kernel⟩⟩,
   ⟨7, eEx (dsc 0x0502 [(48, [0x44])]), seeded (upEx (dsc 0x0502 [(48, [0x44])]) sA sA), rOf 14 (seeded (upEx (dsc 0x0502 [(48, [0x44])]) sA sA)), uOf 14 (seeded (upEx (dsc 0x0502 [(48, [0x44])]) sA sA)), ⟨by decide +kernel, rfl, rfl, by decide +kernel, drawn_of_served (n := 14) (by decide) (take_ok (seeded_ready (by decide) rfl))⟩⟩,
   ⟨7, eEx (dsc 0x0503 [(25, [0x84])]), seeded (upEx (dsc 0x0503 [(25, [0x84])]) sA sA), rOf 32 (seeded (upEx (dsc 0x0503 [(25, [0x84])]) sA sA)), uOf 32 (seeded (upEx (dsc 0x0503 [(25, [0x84])]) sA sA)), ⟨by decide +kernel, rfl, rfl, by decide +kernel, drawn_of_served (n := 32) (by decide) (take_ok (seeded_ready (by decide) rfl))⟩⟩,
   ⟨7, eEx (dsc 0x0513 []), upEx (dsc 0x0513 []) sA sA, by decide +kernel⟩⟩

theorem wit_KeyReplacementCommands :
    (∃ (d : Idx) (e : Entry) (s : State) (r : Bytes) (u : State), s.entOf d = some e ∧ e.active = true ∧ e.phase = .exec ∧ opcodeOf e.desc = 0x0510 ∧ Drawn (if (ecOf (s.algOf e 0)).isSome then 8 else 0) s r u) ∧
    (∃ (d : Idx) (e : Entry) (s : State), s.entOf d = some e ∧ e.active = true ∧ e.phase = .exec ∧ opcodeOf e.desc = 0x0511 ∧ u8 e.desc 24 = 0) ∧
    (∃ (d : Idx) (e : Entry) (s : State), s.entOf d = some e ∧ e.active = true ∧ e.phase = .exec ∧ opcodeOf e.desc = 0x0511 ∧ u8 e.desc 24 = 1) ∧
    (∃ (d : Idx) (e : Entry) (s : State), s.entOf d = some e ∧ e.active = true ∧ e.phase = .exec ∧ opcodeOf e.desc = 0x0511 ∧ u8 e.desc 24 = 2) ∧
    (∃ (d : Idx) (e : Entry) (s : State), s.entOf d = some e ∧ e.active = true ∧ e.phase = .exec ∧ opcodeOf e.desc = 0x0512 ∧ wRevoked (s.keyWord e.fn (targetOf e.desc)) = true) ∧
    (∃ (d : Idx) (e : Entry) (s : State), s.entOf d = some e ∧ e.active = true ∧ e.phase = .exec ∧ opcodeOf e.desc = 0x0512 ∧ wRevoked (s.keyWord e.fn (targetOf e.desc)) = false) :=
  ⟨⟨7, eEx (dsc 0x0510 []), upEx (dsc 0x0510 []) sA sA, [], upEx (dsc 0x0510 []) sA sA, ⟨by decide +kernel, rfl, rfl, by decide +kernel, Or.inl (by decide +kernel)⟩⟩,
   ⟨7, eEx (dsc 0x0511 [(16, [9])]), upEx (dsc 0x0511 [(16, [9])]) sA sA, by decide +kernel⟩,
   ⟨7, eEx (dsc 0x0511 [(24, [1])]), upEx (dsc 0x0511 [(24, [1])]) sA sA, by decide +kernel⟩,
   ⟨7, eEx (dsc 0x0511 [(24, [2])]), upEx (dsc 0x0511 [(24, [2])]) sA sA, by decide +kernel⟩,
   ⟨7, eEx (dsc 0x0512 [(16, [9])]), { upEx (dsc 0x0512 [(16, [9])]) sA sA with keys.ket := [(9, 0xFFFFFFFF)] }, by decide +kernel⟩,
   ⟨7, eEx (dsc 0x0512 [(16, [9])]), { upEx (dsc 0x0512 [(16, [9])]) sA sA with keys.ket := [(9, 0xFFFFFFFE)] }, by decide +kernel⟩⟩

theorem wit_FillsAndInputReads :
    (∃ (d : Idx) (e : Entry) (a : Nat) (b : Bytes) (s : State), s.entOf d = some e ∧ e.active = true ∧ e.phase = .binding (some a) ∧ b.length = 160) ∧
    (∃ (d : Idx) (e : Entry) (s : State), s.entOf d = some e ∧ e.active = true ∧ e.phase = .binding none) ∧
    (∃ (d : Idx) (e : Entry) (a : Nat) (s : State), s.entOf d = some e ∧ e.active = true ∧ e.phase = .binding (some a)) ∧
    (∃ (d : Idx) (e : Entry) (a : Nat) (n : Nat) (b : Bytes) (s : State), s.entOf d = some e ∧ e.active = true ∧ e.phase = .input [(a, n)] ∧ b.length = n ∧ (s.bodyFor e).reads.length = e.inputs.length + 1) ∧
    (∃ (d : Idx) (e : Entry) (a : Nat) (n : Nat) (a' : Nat) (n' : Nat) (l : List (Nat × Nat)) (b : Bytes) (s : State), s.entOf d = some e ∧ e.active = true ∧ e.phase = .input ((a, n) :: (a', n') :: l) ∧ b.length = n ∧ e.gen = (s.tnOf e.fn).gen ∧ (s.bodyFor e).reads.drop (e.inputs.length + 1) = (a', n') :: l) ∧
    (∃ (d : Idx) (e : Entry) (p : Nat × Nat) (l : List (Nat × Nat)) (s : State), s.entOf d = some e ∧ e.active = true ∧ e.phase = .input (p :: l)) :=
  ⟨⟨7, { eEx (dsc 0x0301 []) with phase := .binding (some 64) }, 64, zeros 160, withEnt { eEx (dsc 0x0301 []) with phase := .binding (some 64) } upQ, by decide +kernel⟩,
   ⟨7, { eEx (dsc 0x0301 []) with phase := .binding none }, withEnt { eEx (dsc 0x0301 []) with phase := .binding none } upQ, by decide +kernel⟩,
   ⟨7, { eEx (dsc 0x0301 []) with phase := .binding (some 64) }, 64, withEnt { eEx (dsc 0x0301 []) with phase := .binding (some 64) } upQ, by decide +kernel⟩,
   ⟨7, { eEx (dsc 0x0301 [(40, [64]), (48, [2])]) with phase := .input [(64, 2)] }, 64, 2, [1, 2], withEnt { eEx (dsc 0x0301 [(40, [64]), (48, [2])]) with phase := .input [(64, 2)] } upQ, by decide +kernel⟩,
   ⟨7, { eEx (dsc 0x0602 [(16, [64]), (32, [0x10, 2, 0, 0, 1]), (112, [128])]) with phase := .input [(64, 65), (128, 64)] }, 64, 65, 128, 64, [], zeros 65, withEnt { eEx (dsc 0x0602 [(16, [64]), (32, [0x10, 2, 0, 0, 1]), (112, [128])]) with phase := .input [(64, 65), (128, 64)] } upQ, by decide +kernel⟩,
   ⟨7, { eEx (dsc 0x0301 []) with phase := .input [(64, 2)] }, (64, 2), [], withEnt { eEx (dsc 0x0301 []) with phase := .input [(64, 2)] } upQ, by decide +kernel⟩⟩

theorem wit_JournalAndFlush :
    (∃ (x : Taken) (l : List Taken) (s : State), s.keys.taken = x :: l ∧ x.persistent = false) ∧
    (∃ (f : Fn) (s : State), tblGet false s.keys.windows f = true ∧ coverable f s.keys.taken = []) ∧
    (∃ (f : Fn) (x : Taken) (s : State), tblGet false s.keys.windows f = true ∧ s.keys.taken = [x] ∧ x.tenant = f.val ∧ x.persistent = true ∧ x.issued = false) ∧
    (∃ (s : State), s.keys.jSnap = true) ∧
    (∃ (s : State), s.keys.flushing = none ∧ tblWf none s.keys.t1) ∧
    (∃ (s : State), s.keys.flushing.isSome = true) :=
  ⟨⟨⟨3, 8, zeros 32, .deck 7, false, false, none⟩, [], { up with keys.taken := [⟨3, 8, zeros 32, .deck 7, false, false, none⟩] }, by decide +kernel⟩,
   ⟨3, { up with keys.windows := [(3, true)] }, by decide +kernel⟩,
   ⟨3, ⟨3, 8, zeros 32, .deck 7, true, false, none⟩, { up with keys.windows := [(3, true)], keys.taken := [⟨3, 8, zeros 32, .deck 7, true, false, none⟩] }, by decide +kernel⟩,
   ⟨{ up with keys.jSnap := true, keys.ket := [(9, 5)] }, by decide +kernel⟩,
   ⟨{ up with keys.t1 := [(5, some sA), (6, some sT)] }, by decide +kernel⟩,
   ⟨{ up with keys.flushing := some 1 }, by decide +kernel⟩⟩

theorem wit_KeystoneCommands :
    (∃ (s : State), s.ks.loaded = false ∧ s.mss.mayGenerate = true) ∧
    (∃ (s : State), s.ks.loaded = true) ∧
    (∃ (s : State), s.mss.mayClear = true) ∧
    (∃ (s : State), s.mss.mayClear = false) :=
  ⟨⟨{ up with ks := {}, mss.mayGenerate := true }, by decide +kernel⟩,
   ⟨up, by decide +kernel⟩,
   ⟨{ up with mss.mayClear := true }, by decide +kernel⟩,
   ⟨up, by decide +kernel⟩⟩

theorem wit_PlacementAndKeyBus :
    (∃ (p : PierNo) (k : EngKind) (l : List Req) (d : Nat) (b : Nat) (e : Nat) (s : State), s.pierOf p = .holding d ∧ chainOk k l = true ∧ s.clk.stopped = false ∧ (baysFor k p).findSome? (fun b => (s.pickEng b l.length ((l.map (fun q => q.tenant)).headD 0)).map (fun e => (b, e))) = some (b, e) ∧ (s.engOf e).q = [] ∧ bayOf e = b ∧ tblWf 0 s.eng.engPtr ∧ tblWf 0 s.eng.pierPtr ∧ (∀ q ∈ l, reqOk e { q with pier := p } = true)) ∧
    (∃ (e : Fin 96) (y : QEnt) (s : State), s.running e = some (0, y) ∧ (s.engOf e).q = [y] ∧ needsKey y.req = true ∧ y.first = none ∧ mustScrub e (s.engOf e) y.req = false ∧ y.req.keyChain = false ∧ (∀ k ∈ reqSlots y.req, (slotWords k).any s.poisoned = false) ∧ (reqSlots y.req).all (s.permitSlot y.req) = true) ∧
    (∃ (e : Fin 96) (y : QEnt) (s : State), s.running e = some (0, y) ∧ (s.engOf e).q = [y] ∧ needsKey y.req = true ∧ y.first = none ∧ mustScrub e (s.engOf e) y.req = false ∧ y.req.keyChain = false ∧ (∀ k ∈ reqSlots y.req, (slotWords k).any s.poisoned = false) ∧ (reqSlots y.req).all (s.permitSlot y.req) = false) ∧
    (∃ (e : Fin 96) (y : QEnt) (o : Resp × Bytes) (a : Bool) (s : State), (s.engOf e).q = [y] ∧ y.out = some o ∧ y.first = some a ∧ y.second = none ∧ y.req.keyChain = false ∧ o.1.status ∉ [6, 7, 0x14, 3] ∧ ((o.1.status = 0 → installs y.req = false ∧ y.req.dst = 0)) ∧ s.parkMarked (bayOf e) = false ∧ ((48 ≤ e.val → y.req.aux.testBit 11 = false)) ∧ tblWf {} s.eng.eng) ∧
    (∃ (e : Fin 96) (y : QEnt) (o : Resp × Bytes) (a : Bool) (s : State), (s.engOf e).q = [y] ∧ y.out = some o ∧ y.first = some a ∧ y.second = none ∧ y.req.keyChain = false ∧ o.1.status ∉ [6, 7, 0x14] ∧ s.parkMarked (bayOf e) = false ∧ ((48 ≤ e.val → y.req.aux.testBit 11 = false)) ∧ tblWf {} s.eng.eng) :=
  ⟨⟨3, .cipher, [{ reqE with op := 0x0100 }], 7, 0, 0, withEnt (eEx (dsc 0x0301 [])) { upQ with dsp.piers := [(3, .holding 7)] }, by decide +kernel⟩,
   ⟨2, qe reqE, upE (qe reqE) sA, by decide +kernel⟩,
   ⟨2, qe reqE, upE (qe reqE) (slot 0x82 5 k16), by decide +kernel⟩,
   ⟨2, qHeld, (bareResp reqE 0, []), true, upE qHeld sA, by decide +kernel⟩,
   ⟨2, qHeld, (bareResp reqE 0, []), true, upE qHeld sA, by decide +kernel⟩⟩

theorem wit_ResponsesAndEngineFaults :
    (∃ (p : PierNo) (r : Resp) (l : List Resp) (d : Nat) (e : Entry) (s : State), tblGet [] s.eng.ports p = r :: l ∧ s.pierOf p = .holding d ∧ s.entOf d = some e ∧ ((r.deckIdx ≠ d ∨ r.attempt ≠ e.attempt))) ∧
    (∃ (p : PierNo) (r : Resp) (l : List Resp) (d : Nat) (e : Entry) (s : State), tblGet [] s.eng.ports p = r :: l ∧ s.pierOf p = .holding d ∧ s.entOf d = some e ∧ r.deckIdx = d ∧ r.attempt = e.attempt ∧ r.status = 0) ∧
    (∃ (p : PierNo) (r : Resp) (l : List Resp) (d : Nat) (e : Entry) (s : State), tblGet [] s.eng.ports p = r :: l ∧ s.pierOf p = .holding d ∧ s.entOf d = some e ∧ r.deckIdx = d ∧ r.attempt = e.attempt ∧ r.status = 1) ∧
    (∃ (p : PierNo) (r : Resp) (l : List Resp) (d : Nat) (e : Entry) (s : State), tblGet [] s.eng.ports p = r :: l ∧ s.pierOf p = .holding d ∧ s.entOf d = some e ∧ r.deckIdx = d ∧ r.attempt = e.attempt ∧ (r.status = 2 ∨ r.status = 5)) ∧
    (∃ (e : Fin 48) (k : Fin 8) (s : State), k.val ≤ 2 ∧ (s.engOf e).st = .inService ∧ (s.engOf e).quar < 2) ∧
    (∃ (e : Fin 48) (k : Fin 8) (s : State), k.val ≤ 4 ∧ (s.engOf (48 + e)).st = .inService ∧ (s.engOf (48 + e)).quar < 2) ∧
    (∃ (e : Fin 48) (k : Fin 8) (s : State), k.val ≤ 2 ∧ (s.engOf e).st = .inService ∧ (s.engOf e).quar = 2) ∧
    (∃ (e : Fin 48) (s : State), (s.engOf e).st = .quarantined) ∧
    (∃ (e : Fin 48) (s : State), (s.engOf e).st = .quarantined) ∧
    (∃ (e : Fin 48) (s : State), (s.engOf (48 + e)).st = .quarantined) ∧
    (∃ (e : Fin 48) (s : State), (s.engOf (48 + e)).st = .quarantined) :=
  ⟨⟨3, resp 1 0, [resp 0 0], 7, eEx (dsc 0x0301 []), upP (resp 1 0) [resp 0 0], by decide +kernel⟩,
   ⟨3, resp 0 0, [], 7, eEx (dsc 0x0301 []), upP (resp 0 0) [], by decide +kernel⟩,
   ⟨3, resp 0 1, [], 7, eEx (dsc 0x0301 []), upP (resp 0 1) [], by decide +kernel⟩,
   ⟨3, resp 0 5, [], 7, eEx (dsc 0x0301 []), upP (resp 0 5) [], by decide +kernel⟩,
   ⟨47, 2, { up with eng.eng := [(47, { quar := 1, q := [qe reqE] })] }, by decide +kernel⟩,
   ⟨47, 4, { up with eng.eng := [(95, { quar := 1, opmem := [(3, 1)] })] }, by decide +kernel⟩,
   ⟨0, 0, { up with eng.eng := [(0, { quar := 2 })] }, by decide +kernel⟩,
   ⟨0, { up with eng.eng := [(0, { st := .quarantined })] }, by decide +kernel⟩,
   ⟨0, { up with eng.eng := [(0, { st := .quarantined })] }, by decide +kernel⟩,
   ⟨47, { up with eng.eng := [(95, { st := .quarantined })] }, by decide +kernel⟩,
   ⟨47, { up with eng.eng := [(95, { st := .quarantined })] }, by decide +kernel⟩⟩

theorem wit_MicrocodeAndScrubs :
    (∃ (s : State), s.eng.ucLocked = true ∧ s.eng.ucBusy = false ∧ (∀ e ∈ s.ucTargets, s.loadable e = true)) ∧
    (∃ (s : State), ((s.eng.ucLocked = false ∨ s.eng.ucBusy = true ∨ ∃ e ∈ s.ucTargets, s.loadable e = false))) ∧
    (∃ (s : State), s.eng.ucBusy = true) ∧
    (∃ (n : Fin 48) (v : Word) (s : State), v.getLsbD 31 = true ∧ (v.setWidth 6).toNat = n.val ∧ (s.engOf (48 + n)).q = []) ∧
    (∃ (n : Fin 48) (v : Word) (y : QEnt) (l : List QEnt) (s : State), v.getLsbD 31 = true ∧ (v.setWidth 6).toNat = n.val ∧ (s.engOf (48 + n)).q = y :: l ∧ y.first.isSome = true) ∧
    (∃ (n : Fin 48) (s : State), (s.engOf (48 + n)).scrubbing = true ∧ (s.engOf (48 + n)).q = [] ∧ s.parkMarked (bayOf (48 + n)) = false ∧ tblWf {} s.eng.eng) :=
  ⟨⟨{ up with eng.ucLocked := true, eng.ucTarget := 0x800000000001 }, by decide +kernel⟩,
   ⟨{ up with eng.ucLocked := true, eng.ucTarget := 2, eng.eng := [(49, { loaded := true })] }, by refine Or.inr (Or.inr ⟨49, ?_, ?_⟩) <;> decide +kernel⟩,
   ⟨{ up with eng.ucBusy := true, eng.ucTarget := 1 }, by decide +kernel⟩,
   ⟨47, 0x8000002F, up, by decide +kernel⟩,
   ⟨47, 0x8000002F, { qe req0 with first := some true }, [], { up with eng.eng := [(95, { q := [{ qe req0 with first := some true }] })] }, by decide +kernel⟩,
   ⟨47, { up with eng.eng := [(95, { scrubbing := true, dirty := true })] }, by decide +kernel⟩⟩

theorem wit_NoiseSources :
    (∃ (n : Fin 4) (l : List (BitVec 4)) (s : State), (((s.srcOf n).st = 0 ∨ (s.srcOf n).st = 2)) ∧ l.length = 1024 ∧ (healthTest (0, 0) 0 0 0 l).1 = 0) ∧
    (∃ (n : Fin 4) (l : List (BitVec 4)) (s : State), (((s.srcOf n).st = 0 ∨ (s.srcOf n).st = 2)) ∧ l.length = 1024 ∧ (healthTest (0, 0) 0 0 0 l).1 ≠ 0) ∧
    (∃ (n : Fin 4) (l : List (BitVec 4)) (s : State), (s.srcOf n).st = 1 ∧ l.length = 512 ∧ (healthTest (s.srcOf n).run 0 0 0 l).1 = 0) ∧
    (∃ (n : Fin 4) (l : List (BitVec 4)) (s : State), (s.srcOf n).st = 1 ∧ l.length = 512 ∧ (healthTest (s.srcOf n).run 0 0 0 l).1 ≠ 0) ∧
    (∃ (n : Fin 4) (s : State), (s.srcOf n).st ≠ 3) ∧
    (∃ (n : Fin 4) (s : State), (s.srcOf n).st ≠ 3) ∧
    (∃ (n : Fin 4) (s : State), (s.srcOf n).st = 3) :=
  ⟨⟨3, samples 1024, { up with rng.src := [(3, { st := 2 })] }, by decide +kernel⟩,
   ⟨3, List.replicate 1024 7, up, by decide +kernel⟩,
   ⟨0, samples 512, { up with rng.src := [(0, { st := 1, run := (0, 39) })] }, by decide +kernel⟩,
   ⟨0, [0] ++ samples 511, { up with rng.src := [(0, { st := 1, run := (0, 39) })] }, by decide +kernel⟩,
   ⟨1, { up with rng.src := [(1, { st := 1, quar := 1 })] }, by decide +kernel⟩,
   ⟨1, { up with rng.src := [(1, { st := 1, quar := 2 })] }, by decide +kernel⟩,
   ⟨1, { up with rng.src := [(1, { st := 3 })] }, by decide +kernel⟩⟩

theorem wit_SeedsAndTests :
    (∃ (i : Nat) (a : Nat) (b : Nat) (s : State), s.rng.rawEn = false ∧ s.rng.condFault = false ∧ s.rng.katBusy ≠ some 16 ∧ i < 16 ∧ s.seedPair i = some (a, b) ∧ (∀ j < i, s.seedPair j = none) ∧ tblWf {} s.rng.src) ∧
    (∃ (x : Fin 16) (s : State), (s.expOf x).seeded = true ∧ tblWf {} s.rng.exp) ∧
    (∃ (v : Word) (s : State), s.rng.katBusy = none ∧ v.getLsbD 0 = true ∧ v.getLsbD 1 = false) ∧
    (∃ (v : Word) (s : State), s.rng.katBusy = none ∧ v.getLsbD 0 = true ∧ v.getLsbD 1 = true ∧ tblWf {} s.rng.exp) ∧
    (∃ (s : State), s.rng.katBusy.isSome = true) ∧
    (∃ (u : Nat) (s : State), s.rng.katBusy = some u) ∧
    (∃ (v : Word) (s : State), v.getLsbD 0 = true ∧ s.hiu.overlay ≠ 1) ∧
    (∃ (v : Word) (s : State), v.getLsbD 0 = true ∧ s.hiu.overlay = 1) ∧
    (∃ (v : Word) (s : State), v.getLsbD 0 = false ∧ s.rng.rawEn = true) :=
  ⟨⟨1, (upSeed.seedPair 1).getD (0, 0) |>.1, (upSeed.seedPair 1).getD (0, 0) |>.2, upSeed, by decide +kernel⟩,
   ⟨0, upSeed, by decide +kernel⟩,
   ⟨1, upSeed, by decide +kernel⟩,
   ⟨3, upSeed, by decide +kernel⟩,
   ⟨{ upSeed with rng.katBusy := some 3 }, by decide +kernel⟩,
   ⟨16, { upSeed with rng.katBusy := some 16 }, by decide +kernel⟩,
   ⟨1, upSeed, by decide +kernel⟩,
   ⟨7, { upSeed with hiu.overlay := 1 }, by decide +kernel⟩,
   ⟨0, { upSeed with rng.rawEn := true }, by decide +kernel⟩⟩

theorem wit_RandomDraws :
    (∃ (p : Fin 214) (n : Nat) (s : State), 1 ≤ n ∧ n ≤ 65536 ∧ tblGet 0 s.rng.waiting p = 0 ∧ s.rng.st ≠ 3) ∧
    (∃ (p : Fin 214) (n : Nat) (s : State), 1 ≤ n ∧ n ≤ 65536 ∧ tblGet 0 s.rng.waiting p = 0 ∧ s.rng.st = 3 ∧ p.val ≠ 213) ∧
    (∃ (p : Nat) (b : Bytes) (u : State) (s : State), rotFind 214 s.rng.portPtr (fun p => tblGet 0 s.rng.waiting p != 0) = some p ∧ s.rng.st = 1 ∧ s.rngTake (tblGet 0 s.rng.waiting p) = .ok b u) ∧
    (∃ (b : Bytes) (u : State) (s : State), s.rngTake 8 = .ok b u) ∧
    (∃ (s : State), s.rng.st = 3) ∧
    (∃ (s : State), s.rngTake 8 = .stall) :=
  ⟨⟨213, 65536, up, by decide +kernel⟩,
   ⟨5, 1, { up with rng.st := 3 }, by decide +kernel⟩,
   ⟨212, okB (seededW.rngTake 32), okS up (seededW.rngTake 32), seededW, ⟨by decide +kernel, by decide +kernel, ok_of_isOk (take_ok ⟨rfl, rfl, Nat.two_pos, rfl, _, rfl, rfl, rfl, rfl, by decide⟩)⟩⟩,
   ⟨okB ((seeded up).rngTake 8), okS up ((seeded up).rngTake 8), seeded up, ok_of_isOk (take_ok (seeded_ready (by decide) rfl))⟩,
   ⟨{ up with rng.st := 3 }, by decide +kernel⟩,
   ⟨{ up with rng.st := 0 }, rfl⟩⟩

theorem wit_ClusterReception :
    (∃ (c : Instr) (h : Hdr) (q : Bool) (s : State), macsecFrame c = some (h, q) ∧ ((s.role ≠ 1 ∨ h.src ≠ s.member)) ∧ ((s.trsUp = false ∨ h.term < s.term ∨ (h.term = s.term ∧ s.assocOf (s.nbrOf h.src) = none)))) ∧
    (∃ (c : Instr) (h : Hdr) (q : Bool) (s : State), macsecFrame c = some (h, q) ∧ ((s.role ≠ 1 ∨ h.src ≠ s.member)) ∧ ((s.trsUp = false ∨ h.term < s.term ∨ (h.term = s.term ∧ s.assocOf (s.nbrOf h.src) = none)))) ∧
    (∃ (c : Instr) (h : Hdr) (a : Assoc) (s : State), macsecFrame c = some (h, true) ∧ ((s.role ≠ 1 ∨ h.src ≠ s.member)) ∧ s.trsUp = true ∧ h.term = s.term ∧ s.assocOf (s.nbrOf h.src) = some a ∧ ((∀ x ∈ a.unacked, x.1 ≤ h.ack → x.2.2 ≠ .remove (s.nbrOf h.src))) ∧ h.seq ≠ a.got + 1) ∧
    (∃ (h : Hdr) (a : Assoc) (s : State), s.trsUp = true ∧ h.term = s.term ∧ s.assocOf (s.nbrOf h.src) = some a ∧ ((∀ x ∈ a.unacked, x.1 ≤ h.ack → x.2.2 ≠ .remove (s.nbrOf h.src)))) ∧
    (∃ (h : Hdr) (a : Assoc) (q : Nat) (t : Nat) (s : State), s.trsUp = true ∧ h.term = s.term ∧ s.assocOf (s.nbrOf h.src) = some a ∧ (q, t, Msg.remove (s.nbrOf h.src)) ∈ a.unacked ∧ q ≤ h.ack) ∧
    (∃ (h : Hdr) (s : State), s.trsUp = true ∧ s.role = 1 ∧ s.term < h.term) ∧
    (∃ (n : Nat) (a : Assoc) (p : Port) (s : State), s.assocOf n = some a ∧ a.port = some p) ∧
    (∃ (n : Nat) (a : Assoc) (s : State), s.trsUp = true ∧ s.assocOf n = some a) ∧
    (∃ (n : Nat) (q : Nat) (tenant : Nat) (m : Msg) (l : List (Nat × Nat × Msg)) (a : Assoc) (p : Port) (s : State), s.trsUp = true ∧ s.assocOf n = some a ∧ a.unacked = (q, tenant, m) :: l ∧ a.port = some p) ∧
    (∃ (n : Nat) (a : Assoc) (s : State), s.assocOf n = some a ∧ a.unacked = []) :=
  ⟨⟨.remove (hdr 1 129 1) 129, hdr 1 129 1, true, { span with pwr.state := 1 }, ⟨rfl, by decide +kernel, by decide +kernel⟩⟩,
   ⟨.heartbeat { hdr 2 129 0 with term := 4 }, { hdr 2 129 0 with term := 4 }, false, span, ⟨rfl, by decide +kernel, by decide +kernel⟩⟩,
   ⟨.remove (hdr 2 129 2) 129, hdr 2 129 2, as0, span, ⟨rfl, by decide +kernel, by decide +kernel, by decide +kernel, by decide +kernel, by decide +kernel, by decide +kernel⟩⟩,
   ⟨hdr 2 129 0, as0, span, by decide +kernel⟩,
   ⟨{ hdr 2 1 0 with ack := 1 }, { as0 with sent := 1, unacked := [(1, 0xFFFF, .remove 2)] }, 1, 0xFFFF, mem 0x10001 [(2, some { as0 with sent := 1, unacked := [(1, 0xFFFF, .remove 2)] })], by decide +kernel⟩,
   ⟨{ hdr 2 1 0 with term := 6 }, abut, by decide +kernel⟩,
   ⟨129, { as0 with failA := true }, .b, mem 0x60002 [(129, some { as0 with failA := true })], by decide +kernel⟩,
   ⟨2, as0, abut, by decide +kernel⟩,
   ⟨2, 3, 0xFFFF, .replAck 4, [], { as0 with sent := 3, unacked := [(3, 0xFFFF, .replAck 4)] }, .a, mem 0xB0081 [(2, some { as0 with sent := 3, unacked := [(3, 0xFFFF, .replAck 4)] })], by decide +kernel⟩,
   ⟨2, as0, span, by decide +kernel⟩⟩

theorem wit_PortsAndChannels :
    (∃ (n : Nat) (s : State), s.assocOf n = none) ∧
    (∃ (n : Nat) (a : Assoc) (s : State), s.trsUp = true ∧ s.assocOf n = some a ∧ a.failA = false ∧ a.failB = false) ∧
    (∃ (n : Nat) (a : Assoc) (s : State), s.trsUp = true ∧ s.assocOf n = some a ∧ a.failA = false ∧ a.failB = false) ∧
    (∃ (p : Port) (n : Nat) (a : Assoc) (s : State), s.trsUp = true ∧ s.assocOf n = some a ∧ a.failed p = false ∧ (a.setFail p true).port = none) ∧
    (∃ (p : Port) (n : Nat) (a : Assoc) (s : State), s.trsUp = true ∧ s.assocOf n = some a ∧ a.failed p = true) ∧
    (∃ (at_ : Nat) (s : State), s.trs.lostAt = some at_ ∧ s.role = 3 ∧ s.trs.cstate = 4 ∧ s.trs.quarAll = false) ∧
    (∃ (s : State), ((s.trs.lostAt = none ∨ s.role ≠ 3 ∨ s.trs.quarAll = true))) ∧
    (∃ (h : Hdr) (n : Nat) (k : Sak) (s : State) (u : State), Heard h s u ∧ ((s.role ≠ 2 ∨ k.an = 0 ∨ n < 129)) ∧ ((k.an = 0 ∨ u.assocOf n = none))) ∧
    (∃ (h : Hdr) (n : Nat) (k : Sak) (a : Assoc) (s : State) (u : State), Heard h s u ∧ ((s.role ≠ 2 ∨ n < 129)) ∧ k.an ≠ 0 ∧ u.assocOf n = some a) ∧
    (∃ (n : Nat) (a : Assoc) (s : State), s.assocOf n = some a) ∧
    (∃ (n : Nat) (a : Assoc) (b : Bytes) (u : State) (s : State), s.trsUp = true ∧ s.role = 1 ∧ s.trs.members = [] ∧ s.children = [n] ∧ s.assocOf n = some a ∧ s.mssDraw 44 = .ok b u) ∧
    (∃ (s : State), ((s.trsUp = false ∨ s.role ≠ 1))) :=
  ⟨⟨3, span, by decide +kernel⟩,
   ⟨2, as0, span, by decide +kernel⟩,
   ⟨2, as0, span, by decide +kernel⟩,
   ⟨.b, 2, { as0 with failA := true }, mem 0xB0081 [(2, some { as0 with failA := true })], by decide +kernel⟩,
   ⟨.b, 2, { as0 with failA := true, failB := true, lostAt := some 3 }, mem 0xB0081 [(2, some { as0 with failA := true, failB := true, lostAt := some 3 })], by decide +kernel⟩,
   ⟨7, { span with trs.lostAt := some 7, trs.cstate := 4 }, by decide +kernel⟩,
   ⟨span, by decide +kernel⟩,
   ⟨hdr 2 129 1, 2, ⟨0, 8, 9⟩, span, heardBy (hdr 2 129 1) 2 span, ⟨⟨as0, by decide +kernel, by decide +kernel, by decide +kernel, by decide +kernel, by decide +kernel, rfl⟩, by decide +kernel, by decide +kernel⟩⟩,
   ⟨hdr 2 129 1, 2, ⟨2, 8, 9⟩, { as0 with got := 1 }, span, heardBy (hdr 2 129 1) 2 span, ⟨⟨as0, by decide +kernel, by decide +kernel, by decide +kernel, by decide +kernel, by decide +kernel, rfl⟩, by decide +kernel, by decide +kernel, by decide +kernel⟩⟩,
   ⟨2, { as0 with prev := some ⟨2, 3, 4⟩ }, mem 0xB0081 [(2, some { as0 with prev := some ⟨2, 3, 4⟩ })], by decide +kernel⟩,
   ⟨2, as0, okB ((seeded abut).mssDraw 44), okS abut ((seeded abut).mssDraw 44), seeded abut, ⟨by decide +kernel, by decide +kernel, by decide +kernel, by decide +kernel, by decide +kernel, ok_of_isOk (draw_ok (seeded_ready (by decide) rfl) (by decide))⟩⟩,
   ⟨span, by decide +kernel⟩⟩

theorem wit_EnrolmentAndRemoval :
    (∃ (s : State), s.trsUp = true ∧ s.ks.checkOk = true ∧ s.enrolled = false ∧ s.trs.linkA = true) ∧
    (∃ (s : State), ((s.trsUp = false ∨ s.ks.checkOk = false ∨ (s.trs.linkA = false ∧ s.trs.linkB = false)))) ∧
    (∃ (s : State), s.trsUp = true ∧ s.ks.checkOk = true ∧ s.role = 2 ∧ s.trs.linkA = true) ∧
    (∃ (serial : DWord) (e : Enrol) (b : Bytes) (u : State) (s : State), s.trsUp = true ∧ s.ks.checkOk = true ∧ s.role = 1 ∧ s.trs.deciding = true ∧ s.trs.enrol = some e ∧ e.serial = serial ∧ s.mssDraw 144 = .ok b u ∧ s.trs.linkA = true) ∧
    (∃ (s : State), s.role = 1 ∧ s.trs.enrol = none) ∧
    (∃ (b : Bytes) (u : State) (s : State), s.trsUp = true ∧ s.role = 0 ∧ s.mssDraw 112 = .ok b u ∧ s.trs.linkA = true) ∧
    (∃ (s : State), s.trsUp = true ∧ s.role = 2) ∧
    (∃ (b : Bytes) (e : Enrol) (u : State) (v : State) (s : State), s.trsUp = true ∧ s.role = 1 ∧ s.trs.enrol = some e ∧ e.nonce ≠ [] ∧ e.parent = s.member ∧ s.loadCrk = some v ∧ v.mssDraw 44 = .ok b u ∧ s.trs.linkA = true) ∧
    (∃ (g : EnrolGrant) (j : Join) (ws : List AncW) (s : State), s.trsUp = true ∧ s.role ≠ 2 ∧ s.trs.join = some j ∧ ws = [(0x1E0, (s.crkWords g.crkEpoch.toNat (natBe 32 g.crk.toNat)).1), (0x0D, [memberWord g.member g.role g.parent g.standby]), (0x0E, [w64 g.term]), (0x0C, [w64 g.crkEpoch.toNat])] ∧ (s.crkWords g.crkEpoch.toNat (natBe 32 g.crk.toNat)).2.mssVerdict ws = 0) ∧
    (∃ (s : State), s.role ≠ 2) ∧
    (∃ (h : Hdr) (m : Nat) (s : State) (u : State), Heard h s u ∧ s.role = 2 ∧ h.src ≠ m) ∧
    (∃ (h : Hdr) (e : Enrol) (s : State) (u : State), Heard h s u ∧ s.role = 1 ∧ s.trs.enrol = some e ∧ e.rejoin = false ∧ e.standby = false ∧ s.mssVerdict [(0x0F, [w64 ((s.ancLatest 0x0F).toNat + 1)])] = 0) ∧
    (∃ (h : Hdr) (e : Enrol) (s : State) (u : State), Heard h s u ∧ s.role = 1 ∧ s.trs.enrol = some e ∧ e.rejoin = true) ∧
    (∃ (h : Hdr) (m : Nat) (s : State) (u : State), Heard h s u ∧ s.role = 2 ∧ m ≠ s.member) ∧
    (∃ (h : Hdr) (ws : List AncW) (s : State) (u : State), Heard h s u ∧ ws = ((List.range 1025).filter (fun t => s.ancGet (0x1100 + 3 * t) != 0)).map (fun t => (0x1100 + 3 * t, [0, 0, 0])) ++ [(0x1E0, List.replicate 20 0), (0x1F4, List.replicate 20 0), (0x208, List.replicate 17 0), (0x0F, [0]), (0x0E, [0]), (0x0D, [0])] ∧ s.mssVerdict ws = 0) :=
  ⟨⟨alone, by decide +kernel⟩,
   ⟨up, Or.inr (Or.inr (by decide +kernel))⟩,
   ⟨pylon, by decide +kernel⟩,
   ⟨77, enr, okB ((seeded (abutE enr)).mssDraw 144), okS abut ((seeded (abutE enr)).mssDraw 144), seeded (abutE enr), ⟨by decide +kernel, by decide +kernel, by decide +kernel, by decide +kernel, by decide +kernel, by decide +kernel, ok_of_isOk (draw_ok (seeded_ready (by decide) rfl) (by decide)), by decide +kernel⟩⟩,
   ⟨abut, by decide +kernel⟩,
   ⟨okB ((seeded alone).mssDraw 112), okS abut ((seeded alone).mssDraw 112), seeded alone, ⟨by decide +kernel, by decide +kernel, ok_of_isOk (draw_ok (seeded_ready (by decide) rfl) (by decide)), by decide +kernel⟩⟩,
   ⟨pylon, by decide +kernel⟩,
   ⟨okB (abutK.mssDraw 44), { enr with nonce := [1] }, okS abut (abutK.mssDraw 44), abutK, abutK, ⟨by decide +kernel, by decide +kernel, by decide +kernel, by decide +kernel, by decide +kernel, by decide +kernel, ok_of_isOk (draw_ok (seeded_ready (by decide) rfl) (by decide)), by decide +kernel⟩⟩,
   ⟨grant, ⟨[1], [2], [3], [4], false⟩, grantWords joined grant, joined, ⟨by decide +kernel, by decide +kernel, by decide +kernel, rfl, by decide +kernel⟩⟩,
   ⟨alone, by decide +kernel⟩,
   ⟨hdr 129 1 1, 130, pylon, hu (hdr 129 1 1) pylon, by and_intros <;> first | exact heard_hu (by decide +kernel) | exact taken (by decide +kernel) | decide +kernel⟩,
   ⟨hdr 2 1 1, enr, abutE enr, hu (hdr 2 1 1) (abutE enr), by and_intros <;> first | exact heard_hu (by decide +kernel) | exact taken (by decide +kernel) | decide +kernel⟩,
   ⟨hdr 2 1 1, { enr with rejoin := true }, abutE { enr with rejoin := true }, hu (hdr 2 1 1) (abutE { enr with rejoin := true }), by and_intros <;> first | exact heard_hu (by decide +kernel) | exact taken (by decide +kernel) | decide +kernel⟩,
   ⟨hdr 1 129 1, 129, pylon, hu (hdr 1 129 1) pylon, by and_intros <;> first | exact heard_hu (by decide +kernel) | exact taken (by decide +kernel) | decide +kernel⟩,
   ⟨hdr 2 129 1, goneWords span, span, hu (hdr 2 129 1) span, ⟨heard_hu (by decide +kernel), rfl, by decide +kernel⟩⟩⟩

theorem wit_ProposalsAndDecisions :
    (∃ (h : Hdr) (s : State) (u : State), Heard h s u ∧ s.role ≠ 1 ∧ s.role ≠ 2) ∧
    (∃ (h : Hdr) (s : State) (u : State), Heard h s u ∧ s.role = 2 ∧ s.nbrOf h.src ≠ s.parentNo) ∧
    (∃ (h : Hdr) (p : Proposal) (c : Nat) (s : State) (u : State), Heard h s u ∧ s.role = 2 ∧ s.nbrOf h.src = s.parentNo ∧ c ∈ s.children ∧ s.unreachable c = false ∧ (∀ y ∈ s.trs.fwd, y.pid ≠ p.pid) ∧ tblWf none s.trs.assoc) ∧
    (∃ (h : Hdr) (p : Proposal) (s : State) (u : State), Heard h s u ∧ s.role = 1 ∧ s.trs.deciding = true ∧ (∀ y ∈ s.trs.props, y.p.pid ≠ p.pid) ∧ s.pylons ≠ []) ∧
    (∃ (h : Hdr) (s : State) (u : State), Heard h s u ∧ s.role = 1 ∧ s.trs.deciding = false) ∧
    (∃ (h : Hdr) (pid : BitVec 64) (yes : Bool) (x : Fwd) (y : Fwd) (s : State) (u : State), Heard h s u ∧ s.role = 2 ∧ s.trs.fwd = [x] ∧ x.pid = pid ∧ y = { x with answers := x.answers ++ [(h.src, yes)] } ∧ (∀ n ∈ u.children, y.answers.any (fun a => a.1 == n) = true)) ∧
    (∃ (h : Hdr) (pid : BitVec 64) (x : Held) (s : State) (u : State), Heard h s u ∧ s.role = 1 ∧ s.trs.props = [x] ∧ x.p.pid = pid ∧ x.reserved = true ∧ x.decided = false ∧ s.pylons = [h.src] ∧ x.answers = []) ∧
    (∃ (pid : BitVec 64) (x : Fwd) (s : State), s.trs.fwd.find? (fun y => y.pid == pid) = some x ∧ s.trsUp = true) ∧
    (∃ (pid : BitVec 64) (x : Held) (s : State), s.trs.props.find? (fun y => y.p.pid == pid) = some x ∧ s.trsUp = true ∧ x.decided = false ∧ s.trs.deciding = true ∧ x.reserved = true) ∧
    (∃ (pid : BitVec 64) (x : Held) (s : State), s.trs.props.find? (fun y => y.p.pid == pid) = some x ∧ s.trsUp = true ∧ x.decided = false ∧ s.trs.deciding = true ∧ x.reserved = true) ∧
    (∃ (pid : BitVec 64) (x : Held) (s : State), s.trs.props.find? (fun y => y.p.pid == pid) = some x ∧ s.trsUp = true ∧ x.decided = false ∧ s.trs.deciding = true ∧ x.reserved = false) ∧
    (∃ (h : Hdr) (pid : BitVec 64) (d : Nat) (e : Entry) (s : State) (u : State), Heard h s u ∧ pidOrigin pid = s.member ∧ s.held.find? (fun x => x.2.pid == pid && x.2.confirm == some none) = some (d, e)) ∧
    (∃ (h : Hdr) (pid : BitVec 64) (s : State) (u : State), Heard h s u ∧ pidOrigin pid = s.member ∧ (∀ x ∈ s.held, x.2.pid ≠ pid)) ∧
    (∃ (h : Hdr) (pid : BitVec 64) (s : State) (u : State), Heard h s u ∧ pidOrigin pid ≠ s.member ∧ s.role = 2) ∧
    (∃ (d : Idx) (e : Entry) (s : State), s.entOf d = some e ∧ e.st = .done ∧ e.confirm = some none) ∧
    (∃ (d : Idx) (e : Entry) (s : State), s.entOf d = some e ∧ ((e.st ≠ .done ∨ e.confirm ≠ some none))) ∧
    (∃ (h : Hdr) (pid : BitVec 64) (x : Held) (s : State) (u : State), Heard h s u ∧ s.role = 1 ∧ s.trs.props = [x] ∧ x.p.pid = pid) ∧
    (∃ (h : Hdr) (s : State) (u : State), Heard h s u ∧ s.role = 2 ∧ s.nbrOf h.src ≠ s.parentNo) :=
  ⟨⟨hdr 2 129 1, span, hu (hdr 2 129 1) span, by and_intros <;> first | exact heard_hu (by decide +kernel) | exact taken (by decide +kernel) | decide +kernel⟩,
   ⟨hdr 129 1 1, pylon, hu (hdr 129 1 1) pylon, by and_intros <;> first | exact heard_hu (by decide +kernel) | exact taken (by decide +kernel) | decide +kernel⟩,
   ⟨hdr 1 2 1, prop, 129, pylon, hu (hdr 1 2 1) pylon, by and_intros <;> first | exact heard_hu (by decide +kernel) | exact taken (by decide +kernel) | decide +kernel⟩,
   ⟨hdr 2 1 1, prop, abutP [], hu (hdr 2 1 1) (abutP []), by and_intros <;> first | exact heard_hu (by decide +kernel) | exact taken (by decide +kernel) | decide +kernel⟩,
   ⟨hdr 2 1 1, abut, hu (hdr 2 1 1) abut, by and_intros <;> first | exact heard_hu (by decide +kernel) | exact taken (by decide +kernel) | decide +kernel⟩,
   ⟨hdr 129 2 1, prop.pid, true, fwd1, { fwd1 with answers := [(129, true)] }, pylonF [fwd1], hu (hdr 129 2 1) (pylonF [fwd1]), by and_intros <;> first | exact heard_hu (by decide +kernel) | exact taken (by decide +kernel) | decide +kernel⟩,
   ⟨hdr 2 1 1, prop.pid, held1, abutP [held1], hu (hdr 2 1 1) (abutP [held1]), by and_intros <;> first | exact heard_hu (by decide +kernel) | exact taken (by decide +kernel) | decide +kernel⟩,
   ⟨prop.pid, fwd1, pylonF [fwd1], by decide +kernel⟩,
   ⟨prop.pid, held1, abutP [held1], by decide +kernel⟩,
   ⟨prop.pid, { held1 with answers := [(2, false, 5)] }, abutP [{ held1 with answers := [(2, false, 5)] }], by decide +kernel⟩,
   ⟨prop.pid, { held1 with reserved := false }, abutP [{ held1 with reserved := false }], by decide +kernel⟩,
   ⟨hdr 2 129 1, prop.pid, 7, entP, spanE, hu (hdr 2 129 1) spanE, by and_intros <;> first | exact heard_hu (by decide +kernel) | exact taken (by decide +kernel) | decide +kernel⟩,
   ⟨hdr 2 129 1, prop.pid, span, hu (hdr 2 129 1) span, by and_intros <;> first | exact heard_hu (by decide +kernel) | exact taken (by decide +kernel) | decide +kernel⟩,
   ⟨hdr 1 129 1, prop.pid, pylon, hu (hdr 1 129 1) pylon, by and_intros <;> first | exact heard_hu (by decide +kernel) | exact taken (by decide +kernel) | decide +kernel⟩,
   ⟨7, entP, spanE, by decide +kernel⟩,
   ⟨7, { entP with confirm := none }, withEnt { entP with confirm := none } span, ⟨by decide +kernel, Or.inr (by decide +kernel)⟩⟩,
   ⟨hdr 2 1 1, prop.pid, held1, abutP [held1], hu (hdr 2 1 1) (abutP [held1]), by and_intros <;> first | exact heard_hu (by decide +kernel) | exact taken (by decide +kernel) | decide +kernel⟩,
   ⟨hdr 129 1 1, pylon, hu (hdr 129 1 1) pylon, by and_intros <;> first | exact heard_hu (by decide +kernel) | exact taken (by decide +kernel) | decide +kernel⟩⟩

theorem wit_ChangesRecordsAndResync :
    (∃ (h : Hdr) (s : State) (u : State), Heard h s u ∧ s.role = 1) ∧
    (∃ (h : Hdr) (s : State) (u : State), Heard h s u ∧ s.role = 2 ∧ s.nbrOf h.src ≠ s.parentNo) ∧
    (∃ (h : Hdr) (a : ApplyMsg) (ws : List AncW) (s : State) (u : State), Heard h s u ∧ s.role = 3 ∧ s.member ∈ a.excluded ∧ ws = [(0x208 + a.tenant / 64, [s.quarWord a.tenant true])] ∧ s.mssVerdict ws = 0) ∧
    (∃ (h : Hdr) (a : ApplyMsg) (ws : List AncW) (s : State) (u : State), Heard h s u ∧ s.role = 3 ∧ s.member ∉ a.excluded ∧ pidOrigin a.pid = s.member ∧ ws = [(0x400 + a.tenant, [w64 (a.ckseq.toNat * 2 ^ 32 + (s.ancLatest (0x400 + a.tenant)).toNat % 2 ^ 32)])] ∧ s.mssVerdict ws = 0) ∧
    (∃ (h : Hdr) (a : ApplyMsg) (s : State) (u : State), Heard h s u ∧ s.role = 3 ∧ s.member ∉ a.excluded ∧ pidOrigin a.pid ≠ s.member ∧ s.pwr.quiesce = false ∧ s.admits journalCost = true ∧ s.journalWorn a.tenant = false) ∧
    (∃ (h : Hdr) (s : State) (u : State), Heard h s u) ∧
    (∃ (h : Hdr) (seq : Nat) (s : State) (u : State), Heard h s u ∧ seq ≤ (s.ancLatest 0x0F).toNat) ∧
    (∃ (h : Hdr) (r : ReplRec) (ws : List AncW) (s : State) (u : State), Heard h s u ∧ (replRecords r).1 = 0 ∧ (s.ancLatest 0x0F).toNat + 1 < 2 ^ 64 ∧ tblGet none s.trs.replHeld ((s.ancLatest 0x0F).toNat + 2) = none ∧ ws = s.replWords r ++ [(0x0F, [w64 ((s.ancLatest 0x0F).toNat + 1)])] ∧ s.mssVerdict ws = 0) ∧
    (∃ (h : Hdr) (r : ReplRec) (ws : List AncW) (s : State) (u : State), Heard h s u ∧ (replRecords r).1 = 0 ∧ (s.ancLatest 0x0F).toNat + 1 < 2 ^ 64 ∧ tblGet none s.trs.replHeld ((s.ancLatest 0x0F).toNat + 2) = none ∧ ws = s.replWords r ++ [(0x0F, [w64 ((s.ancLatest 0x0F).toNat + 1)])] ∧ s.mssVerdict ws = 0) ∧
    (∃ (h : Hdr) (n : Fn) (ws : List AncW) (s : State) (u : State), Heard h s u ∧ (s.ancLatest 0x0F).toNat + 1 < 2 ^ 64 ∧ tblGet none s.trs.replHeld ((s.ancLatest 0x0F).toNat + 2) = none ∧ ws = s.replWords (.tenantRemove n) ++ [(0x0F, [w64 ((s.ancLatest 0x0F).toNat + 1)])] ∧ s.mssVerdictJ 1 n ws = 0) ∧
    (∃ (h : Hdr) (seq : Nat) (s : State) (u : State), Heard h s u ∧ (s.ancLatest 0x0F).toNat + 1 < seq) ∧
    (∃ (h : Hdr) (seq : Nat) (s : State) (u : State), Heard h s u ∧ (s.ancGet 0x0F).toNat ≤ seq) ∧
    (∃ (h : Hdr) (seq : Nat) (r : ReplRec) (a : Assoc) (s : State) (u : State), Heard h s u ∧ seq < (s.ancGet 0x0F).toNat ∧ s.trs.replLog = [(seq + 1, r)] ∧ u.assocOf (s.nbrOf h.src) = some a ∧ a.unacked = []) ∧
    (∃ (h : Hdr) (seq : Nat) (a : Assoc) (s : State) (u : State), Heard h s u ∧ seq < (s.ancGet 0x0F).toNat ∧ s.trs.replLog = [] ∧ u.assocOf (s.nbrOf h.src) = some a ∧ a.unacked = [] ∧ s.role ≠ 1) ∧
    (∃ (h : Hdr) (s : State) (u : State), Heard h s u ∧ s.role ≠ 1) ∧
    (∃ (h : Hdr) (n : Nat) (s : State) (u : State), Heard h s u ∧ s.role = 1 ∧ n ≠ 0xFFFF) ∧
    (∃ (h : Hdr) (m : ResyncMsg) (s : State) (u : State), Heard h s u ∧ h.dst = s.member ∧ m.tenant = 0xFFFF) ∧
    (∃ (h : Hdr) (m : ResyncMsg) (s : State) (u : State), Heard h s u ∧ h.dst = s.member ∧ m.tenant ≠ 0xFFFF ∧ m.stagedOk = false) ∧
    (∃ (h : Hdr) (m : ResyncMsg) (diff : List (BitVec 64 × DWord)) (ws : List AncW) (s : State) (u : State), Heard h s u ∧ h.dst = s.member ∧ m.tenant ≠ 0xFFFF ∧ m.stagedOk = true ∧ m.cfg = [] ∧ diff = m.words.filter (fun x => s.keyWord m.tenant x.1.toNat != x.2) ∧ ws = [(0x400 + m.tenant, [w64 ((tblGet 0 s.keys.seqs m.tenant + diff.length) % 2 ^ 32 + m.ckseq.toNat * 2 ^ 32)]), (0x208 + m.tenant / 64, [s.quarWord m.tenant false])] ∧ s.mssVerdictJ diff.length m.tenant ws = 0) ∧
    (∃ (s : State), s.pfBar = true ∧ s.trsUp = true ∧ s.enrolled = true ∧ s.role ≠ 1 ∧ s.trs.quarAll = true) ∧
    (∃ (s : State), ((s.pfBar = false ∨ s.trsUp = false ∨ s.enrolled = false ∨ s.role = 1))) :=
  ⟨⟨hdr 2 1 1, abut, hu (hdr 2 1 1) abut, by and_intros <;> first | exact heard_hu (by decide +kernel) | exact taken (by decide +kernel) | decide +kernel⟩,
   ⟨hdr 129 1 1, pylon, hu (hdr 129 1 1) pylon, by and_intros <;> first | exact heard_hu (by decide +kernel) | exact taken (by decide +kernel) | decide +kernel⟩,
   ⟨hdr 2 129 1, { am with excluded := [129] }, quarWords span, span, hu (hdr 2 129 1) span, by and_intros <;> first | exact heard_hu (by decide +kernel) | exact taken (by decide +kernel) | decide +kernel⟩,
   ⟨hdr 2 129 1, am, [(0x403, [w64 0x100000000])], span, hu (hdr 2 129 1) span, by and_intros <;> first | exact heard_hu (by decide +kernel) | exact taken (by decide +kernel) | decide +kernel⟩,
   ⟨hdr 2 129 1, { am with pid := 0x82000000000001 }, span, hu (hdr 2 129 1) span, by and_intros <;> first | exact heard_hu (by decide +kernel) | exact taken (by decide +kernel) | decide +kernel⟩,
   ⟨hdr 129 2 1, pylon, hu (hdr 129 2 1) pylon, heard_hu (by decide +kernel)⟩,
   ⟨hdr 2 129 1, 3, spanX, hu (hdr 2 129 1) spanX, by and_intros <;> first | exact heard_hu (by decide +kernel) | exact taken (by decide +kernel) | decide +kernel⟩,
   ⟨hdr 2 129 1, .clTimeout 300, spanX.replWords (.clTimeout 300) ++ [(0x0F, [4])], spanX, hu (hdr 2 129 1) spanX, by and_intros <;> first | exact heard_hu (by decide +kernel) | exact taken (by decide +kernel) | decide +kernel⟩,
   ⟨hdr 2 129 1, .tenantConfig 3 false 10 0 0, spanX.replWords (.tenantConfig 3 false 10 0 0) ++ [(0x0F, [4])], spanX, hu (hdr 2 129 1) spanX, by and_intros <;> first | exact heard_hu (by decide +kernel) | exact taken (by decide +kernel) | decide +kernel⟩,
   ⟨hdr 2 129 1, 3, spanX.replWords (.tenantRemove 3) ++ [(0x0F, [4])], spanX, hu (hdr 2 129 1) spanX, by and_intros <;> first | exact heard_hu (by decide +kernel) | exact taken (by decide +kernel) | decide +kernel⟩,
   ⟨hdr 2 129 1, 5, spanX, hu (hdr 2 129 1) spanX, by and_intros <;> first | exact heard_hu (by decide +kernel) | exact taken (by decide +kernel) | decide +kernel⟩,
   ⟨hdr 129 2 1, 3, pylonX, hu (hdr 129 2 1) pylonX, by and_intros <;> first | exact heard_hu (by decide +kernel) | exact taken (by decide +kernel) | decide +kernel⟩,
   ⟨hdr 129 2 1, 2, .clTimeout 300, { as0 with got := 1 }, pylonX, hu (hdr 129 2 1) pylonX, by and_intros <;> first | exact heard_hu (by decide +kernel) | exact taken (by decide +kernel) | decide +kernel⟩,
   ⟨hdr 129 2 1, 2, { as0 with got := 1 }, { pylonX with trs.replLog := [] }, hu (hdr 129 2 1) { pylonX with trs.replLog := [] }, by and_intros <;> first | exact heard_hu (by decide +kernel) | exact taken (by decide +kernel) | decide +kernel⟩,
   ⟨hdr 129 2 1, pylon, hu (hdr 129 2 1) pylon, by and_intros <;> first | exact heard_hu (by decide +kernel) | exact taken (by decide +kernel) | decide +kernel⟩,
   ⟨hdr 2 1 1, 3, abut, hu (hdr 2 1 1) abut, by and_intros <;> first | exact heard_hu (by decide +kernel) | exact taken (by decide +kernel) | decide +kernel⟩,
   ⟨hdr 2 129 1, { rs with tenant := 0xFFFF }, span, hu (hdr 2 129 1) span, by and_intros <;> first | exact heard_hu (by decide +kernel) | exact taken (by decide +kernel) | decide +kernel⟩,
   ⟨hdr 2 129 1, { rs with stagedOk := false }, span, hu (hdr 2 129 1) span, by and_intros <;> first | exact heard_hu (by decide +kernel) | exact taken (by decide +kernel) | decide +kernel⟩,
   ⟨hdr 2 129 1, rs, [(8, 7)], [(0x403, [w64 (1 + 4 * 2 ^ 32)]), (0x208, [span.quarWord 3 false])], span, hu (hdr 2 129 1) span, by and_intros <;> first | exact heard_hu (by decide +kernel) | exact taken (by decide +kernel) | decide +kernel⟩,
   ⟨{ span with trs.quarAll := true }, by decide +kernel⟩,
   ⟨{ span with hiu.linkUp := false }, Or.inl (by decide +kernel)⟩⟩

theorem wit_TakeoverAndCrkChange :
    (∃ (at_ : Nat) (s : State), s.trs.abutLostAt = some at_ ∧ s.trsUp = true ∧ s.role = 2 ∧ s.isStandby = true ∧ s.trs.call = none ∧ s.pylons ≠ []) ∧
    (∃ (s : State), ((s.trs.abutLostAt = none ∨ s.role ≠ 2 ∨ s.isStandby = false))) ∧
    (∃ (h : Hdr) (n : Nat) (at_ : Nat) (s : State) (u : State), Heard h s u ∧ s.trs.abutLostAt = some at_ ∧ s.role = 2 ∧ s.term < n ∧ at_ + 2000000 ≤ s.now) ∧
    (∃ (h : Hdr) (n : Nat) (s : State) (u : State), Heard h s u ∧ ((s.trs.abutLostAt = none ∨ s.role ≠ 2 ∨ n ≤ s.term))) ∧
    (∃ (h : Hdr) (n : Nat) (q : Nat) (ms : Nat) (votes : List Nat) (s : State) (u : State), Heard h s u ∧ s.trs.call = some (n, votes) ∧ 2000 ≤ ms ∧ h.src ∉ votes ∧ q ≤ (s.ancGet 0x0F).toNat ∧ 2 * (votes.length + 2) ≤ s.pylonCount) ∧
    (∃ (h : Hdr) (n : Nat) (q : Nat) (ms : Nat) (votes : List Nat) (ws : List AncW) (s : State) (u : State), Heard h s u ∧ s.trs.call = some (n, votes) ∧ 2000 ≤ ms ∧ h.src ∉ votes ∧ q ≤ (s.ancGet 0x0F).toNat ∧ s.pylonCount < 2 * (votes.length + 2) ∧ ws = [(0x0D, [memberWord s.member 1 0 false]), (0x0E, [w64 n])] ∧ s.mssVerdict ws = 0) ∧
    (∃ (h : Hdr) (ms : Nat) (s : State) (u : State), Heard h s u ∧ ((s.trs.call = none ∨ ms < 2000))) ∧
    (∃ (h : Hdr) (n : Nat) (s : State) (u : State), Heard h s u ∧ n ≤ s.term) ∧
    (∃ (h : Hdr) (n : Nat) (m : Nat) (ws : List AncW) (s : State) (u : State), Heard h s u ∧ s.term < n ∧ ws = (if s.role = 2 then [(0x0D, [memberWord s.member 2 m s.isStandby]), (0x0E, [w64 n])] else [(0x0E, [w64 n])]) ∧ s.mssVerdict ws = 0) ∧
    (∃ (h : Hdr) (n : Nat) (m : Nat) (ws : List AncW) (s : State) (u : State), Heard h s u ∧ s.term < n ∧ ws = (if s.role = 2 then [(0x0D, [memberWord s.member 2 m s.isStandby]), (0x0E, [w64 n])] else [(0x0E, [w64 n])]) ∧ s.mssVerdict ws = 0) ∧
    (∃ (h : Hdr) (ep : BitVec 32) (l : List (Fn × Bytes)) (yes : Bool) (s : State) (u : State), Heard h s u ∧ s.role = 3 ∧ yes = (ep.toNat == s.crkEpoch + 1 && s.blobsReady (l.map (fun x => (x.1.val, x.2))))) ∧
    (∃ (h : Hdr) (ep : BitVec 32) (l : List (Fn × Bytes)) (yes : Bool) (s : State) (u : State), Heard h s u ∧ s.role = 3 ∧ yes = (ep.toNat == s.crkEpoch + 1 && s.blobsReady (l.map (fun x => (x.1.val, x.2))))) ∧
    (∃ (h : Hdr) (s : State) (u : State), Heard h s u ∧ s.role ≠ 1) ∧
    (∃ (h : Hdr) (s : State) (u : State), Heard h s u ∧ s.role = 1 ∧ s.trs.crk.isSome = true) ∧
    (∃ (h : Hdr) (m : Nat) (ep : BitVec 32) (crk : BitVec 256) (got : List Nat) (s : State) (u : State), Heard h s u ∧ s.role = 1 ∧ s.trs.crk = some (ep, crk, got) ∧ m ∉ got ∧ s.member ∉ got ∧ m ≠ s.member) ∧
    (∃ (h : Hdr) (m : Nat) (ep : BitVec 32) (crk : BitVec 256) (got : List Nat) (l : List (Nat × Bytes)) (ws : List AncW) (s : State) (u : State), Heard h s u ∧ s.role = 1 ∧ s.trs.crk = some (ep, crk, got) ∧ m ∉ got ∧ s.member ∈ got ∧ ((∀ x ∈ s.trs.members, x.2.isSome = true → x.1 = m ∨ x.1 ∈ got)) ∧ s.trs.crkNext = some (ep, crk, l) ∧ ws = [(0x1F4, blobWords (s.ancBlob 0x1E0)), (0x1E0, (s.crkWords ep.toNat (natBe 32 crk.toNat)).1), (0x0C, [w64 ep.toNat])] ∧ (s.crkWords ep.toNat (natBe 32 crk.toNat)).2.mssVerdict ws = 0) ∧
    (∃ (h : Hdr) (s : State) (u : State), Heard h s u ∧ s.role = 3 ∧ s.trs.crkNext = none) ∧
    (∃ (h : Hdr) (ep : BitVec 32) (crk : BitVec 256) (l : List (Nat × Bytes)) (ws : List AncW) (s : State) (u : State), Heard h s u ∧ s.role = 3 ∧ s.trs.crkNext = some (ep, crk, l) ∧ ws = [(0x1F4, blobWords (s.ancBlob 0x1E0)), (0x1E0, (s.crkWords ep.toNat (natBe 32 crk.toNat)).1), (0x0C, [w64 ep.toNat])] ∧ (s.crkWords ep.toNat (natBe 32 crk.toNat)).2.mssVerdict ws = 0) :=
  ⟨⟨5, standby, by decide +kernel⟩,
   ⟨abut, Or.inl (by decide +kernel)⟩,
   ⟨hdr 3 2 1, 6, 5, standby, hu (hdr 3 2 1) standby, by and_intros <;> first | exact heard_hu (by decide +kernel) | exact taken (by decide +kernel) | decide +kernel⟩,
   ⟨hdr 3 2 1, 5, standby, hu (hdr 3 2 1) standby, ⟨heard_hu (by decide +kernel), Or.inr (Or.inr (by decide +kernel))⟩⟩,
   ⟨hdr 3 2 1, 6, 0, 2000, [], called [], hu (hdr 3 2 1) (called []), by and_intros <;> first | exact heard_hu (by decide +kernel) | exact taken (by decide +kernel) | decide +kernel⟩,
   ⟨hdr 3 2 1, 6, 0, 2000, [4], [(0x0D, [memberWord 2 1 0 false]), (0x0E, [6])], called [4], hu (hdr 3 2 1) (called [4]), by and_intros <;> first | exact heard_hu (by decide +kernel) | exact taken (by decide +kernel) | decide +kernel⟩,
   ⟨hdr 3 2 1, 1999, called [], hu (hdr 3 2 1) (called []), ⟨heard_hu (by decide +kernel), Or.inr (by decide +kernel)⟩⟩,
   ⟨hdr 3 2 1, 5, standby, hu (hdr 3 2 1) standby, by and_intros <;> first | exact heard_hu (by decide +kernel) | exact taken (by decide +kernel) | decide +kernel⟩,
   ⟨hdr 3 2 1, 6, 3, [(0x0D, [memberWord 2 2 3 true]), (0x0E, [6])], standby, hu (hdr 3 2 1) standby, by and_intros <;> first | exact heard_hu (by decide +kernel) | exact taken (by decide +kernel) | decide +kernel⟩,
   ⟨hdr 2 129 1, 6, 3, [(0x0E, [6])], span, hu (hdr 2 129 1) span, by and_intros <;> first | exact heard_hu (by decide +kernel) | exact taken (by decide +kernel) | decide +kernel⟩,
   ⟨hdr 2 129 1, 1, [], true, { span with hiu.tn := [] }, hu (hdr 2 129 1) { span with hiu.tn := [] }, by and_intros <;> first | exact heard_hu (by decide +kernel) | exact taken (by decide +kernel) | decide +kernel⟩,
   ⟨hdr 2 129 1, 2, [], false, span, hu (hdr 2 129 1) span, by and_intros <;> first | exact heard_hu (by decide +kernel) | exact taken (by decide +kernel) | decide +kernel⟩,
   ⟨hdr 129 1 1, pylon, hu (hdr 129 1 1) pylon, by and_intros <;> first | exact heard_hu (by decide +kernel) | exact taken (by decide +kernel) | decide +kernel⟩,
   ⟨hdr 2 1 1, abutC [1], hu (hdr 2 1 1) (abutC [1]), by and_intros <;> first | exact heard_hu (by decide +kernel) | exact taken (by decide +kernel) | decide +kernel⟩,
   ⟨hdr 2 1 1, 2, 1, 9, [], abutC [], hu (hdr 2 1 1) (abutC []), by and_intros <;> first | exact heard_hu (by decide +kernel) | exact taken (by decide +kernel) | decide +kernel⟩,
   ⟨hdr 2 1 1, 2, 1, 9, [1], [], crkWs (abutC [1]) 1 9, abutC [1], hu (hdr 2 1 1) (abutC [1]), ⟨heard_hu (by decide +kernel), by decide +kernel, by decide +kernel, by decide +kernel, by decide +kernel, by decide +kernel, by decide +kernel, rfl, by decide +kernel⟩⟩,
   ⟨hdr 2 129 1, span, hu (hdr 2 129 1) span, by and_intros <;> first | exact heard_hu (by decide +kernel) | exact taken (by decide +kernel) | decide +kernel⟩,
   ⟨hdr 2 129 1, 1, 9, [], crkWs spanC 1 9, spanC, hu (hdr 2 129 1) spanC, ⟨heard_hu (by decide +kernel), by decide +kernel, by decide +kernel, rfl, by decide +kernel⟩⟩⟩

theorem wit_TollgateDecisions :
    (∃ (rules : Tbl TgRule) (a : Access), tblWf {} rules ∧ 1 ≤ a.len) ∧
    (∃ (rules : Tbl TgRule), tblWf {} rules) ∧
    (∃ (rules : Tbl TgRule), tblWf {} rules) ∧
    (∃ (a : Access), privileged a.init = false ∧ (∃ g ∈ granules a, excluded g = true)) ∧
    (∃ (rules : Tbl TgRule) (a : Access), 1 ≤ a.len ∧ (∀ g ∈ granules a, governing a.init g rules = none) ∧ ((privileged a.init = true ∨ ∀ g ∈ granules a, excluded g = false))) ∧
    (∃ (rules : Tbl TgRule) (a : Access), 1 ≤ a.len ∧ (∀ g ∈ granules a, governing a.init g rules = none) ∧ ((privileged a.init = true ∨ ∀ g ∈ granules a, excluded g = false))) ∧
    (∃ (a : Access) (s : State), ((s.tg.boot = true ∨ (s.tg.en = false ∧ a.init = 0)))) ∧
    (∃ (a : Access) (s : State), accFormed a = true ∧ s.accWaits a = false ∧ s.tgHolds a = false ∧ s.tg.boot = false ∧ s.tg.en = true ∧ a.parity = none ∧ ruleDecide s.tg.rules a = .pass ∧ regionOf a.addr = .pool ∧ a.kind = .read ∧ a.ecc = .clean ∧ (∀ k ∈ wordsIn a.addr a.len, s.poisoned k = false) ∧ s.mi.testEn = false) ∧
    (∃ (a : Access) (s : State), accFormed a = true ∧ s.accWaits a = false ∧ s.tgHolds a = false ∧ s.tg.boot = false ∧ s.tg.en = true ∧ a.parity = none ∧ ruleDecide s.tg.rules a = .pass ∧ regionOf a.addr = .pool ∧ a.kind = .write ∧ a.ecc = .clean ∧ (∀ k ∈ wordsIn a.addr a.len, s.poisoned k = false) ∧ a.wdata.length = a.len ∧ Memory.wf 0 s.mem) ∧
    (∃ (a : Access) (s : State), accFormed a = true ∧ s.accWaits a = false ∧ s.tgHolds a = false ∧ s.tg.boot = false ∧ s.tg.en = true ∧ a.parity = none ∧ ruleDecide s.tg.rules a = .pass ∧ regionOf a.addr = .pool ∧ a.kind = .write ∧ a.ecc = .clean ∧ (∀ k ∈ wordsIn a.addr a.len, s.poisoned k = false) ∧ a.wdata.length = a.len ∧ Memory.wf 0 s.mem) :=
  ⟨⟨tgUp.tg.rules, accR, by decide +kernel⟩,
   ⟨tgUp.tg.rules, by decide +kernel⟩,
   ⟨tgUp.tg.rules, by decide +kernel⟩,
   ⟨{ accR with addr := 0x40000000 }, ⟨by decide +kernel, ⟨0x40000000 / 64, by decide +kernel, by decide +kernel⟩⟩⟩,
   ⟨tgUp.tg.rules, accN, ⟨by decide +kernel, by decide +kernel, Or.inr (by decide +kernel)⟩⟩,
   ⟨tgUp.tg.rules, { accN with init := 0, addr := 0x1F000000 }, ⟨by decide +kernel, by decide +kernel, Or.inl (by decide +kernel)⟩⟩,
   ⟨accM, { tgUp with tg.en := false }, Or.inr (by decide +kernel)⟩,
   ⟨accR, tgUp, by decide +kernel⟩,
   ⟨accW, tgUp, by decide +kernel⟩,
   ⟨accW, { tgUp with mem := [(0x43000011, 9), (0x43000013, 8)] }, by decide +kernel⟩⟩

theorem wit_TollgateFaults :
    (∃ (a : Access) (s : State), ((accFormed a = false ∨ s.accWaits a = true))) ∧
    (∃ (a : Access) (s : State), accFormed a = true ∧ s.accWaits a = false ∧ s.tgHolds a = true) ∧
    (∃ (a : Access) (k : TgKind) (r : Nat) (s : State), accFormed a = true ∧ s.accWaits a = false ∧ a.init = 0 ∧ s.tg.boot = false ∧ s.tg.en = true ∧ a.parity = none ∧ ruleDecide s.tg.rules a = .fault k r) ∧
    (∃ (a : Access) (k : TgKind) (r : Nat) (s : State), accFormed a = true ∧ s.accWaits a = false ∧ a.init = 0 ∧ s.tg.boot = false ∧ s.tg.en = true ∧ a.parity = none ∧ ruleDecide s.tg.rules a = .fault k r) ∧
    (∃ (a : Access) (k : TgKind) (r : Nat) (s : State), accFormed a = true ∧ s.accWaits a = false ∧ s.tgHolds a = false ∧ 1 ≤ a.init.val ∧ a.init.val ≤ 9 ∧ s.tg.boot = false ∧ s.tg.en = true ∧ a.parity = none ∧ ruleDecide s.tg.rules a = .fault k r) ∧
    (∃ (a : Access) (s : State), accFormed a = true ∧ s.accWaits a = false ∧ a.init = 0 ∧ s.tg.en = false ∧ s.tg.boot = false ∧ a.flip1 = true ∧ a.flip2 = true) ∧
    (∃ (a : Access) (i : Fin 4096) (s : State), accFormed a = true ∧ s.accWaits a = false ∧ s.tgHolds a = false ∧ s.tg.boot = false ∧ a.init ≠ 0 ∧ a.parity = some (i, true) ∧ tblWf {} s.tg.rules) ∧
    (∃ (a : Access) (syn : BitVec 8) (k : Nat) (s : State), accFormed a = true ∧ s.accWaits a = false ∧ s.tgHolds a = false ∧ s.tg.boot = false ∧ s.tg.en = true ∧ a.parity = none ∧ ruleDecide s.tg.rules a = .pass ∧ regionOf a.addr = .pool ∧ a.addr ≤ 0x417FFFFF ∧ a.kind = .read ∧ a.ecc = .uncorrectable syn ∧ k ∈ wordsIn a.addr a.len ∧ s.valid k = true ∧ (∀ k ∈ wordsIn a.addr a.len, s.poisoned k = false) ∧ s.mi.testEn = false) :=
  ⟨⟨{ accR with len := 0 }, tgUp, Or.inl (by decide +kernel)⟩,
   ⟨accR, tgHeld, by decide +kernel⟩,
   ⟨{ accM with kind := .write }, .denied, 0, tgUp, by decide +kernel⟩,
   ⟨{ accM with kind := .fetch }, .denied, 0, { tgUp with tg.faultInfo := 0x80000000 }, by decide +kernel⟩,
   ⟨{ accM with init := 4, kind := .write, wdata := zeros 8 }, .denied, 0, tgUp, by decide +kernel⟩,
   ⟨{ accM with flip1 := true, flip2 := true }, { tgUp with tg.en := false }, by decide +kernel⟩,
   ⟨{ accR with parity := some (5, true) }, 5, tgUp, by decide +kernel⟩,
   ⟨{ accM with ecc := .uncorrectable 7 }, 7, wordAt 0x40000060, { tgUp with mi.words := [(wordAt 0x40000060, 1)] }, by decide +kernel⟩⟩

theorem wit_TollgateHoldsAndRules :
    (∃ (s : State), s.tg.en = true) ∧
    (∃ (s : State), s.tg.en = false) ∧
    (∃ (s : State), s.tg.en = true) ∧
    (∃ (i : Fin 4096) (r : TgRule) (s : State), s.tg.en = false ∧ tblWf {} s.tg.rules ∧ r = tblGet {} s.tg.rules i) ∧
    (∃ (i : Fin 4096) (r : TgRule) (s : State), s.tg.en = false ∧ tblWf {} s.tg.rules ∧ r = tblGet {} s.tg.rules i) ∧
    (∃ (s : State), s.tg.holding = true ∧ s.tg.held ≠ [] ∧ s.tg.holdLong = false) ∧
    (∃ (s : State), ((s.tg.holding = false ∨ s.tg.held = [] ∨ s.tg.holdLong = true))) :=
  ⟨⟨tgUp, by decide +kernel⟩,
   ⟨tgHeld, by decide +kernel⟩,
   ⟨tgUp, by decide +kernel⟩,
   ⟨5, ruleD, tgHeld, by decide +kernel⟩,
   ⟨4095, {}, tgHeld, by decide +kernel⟩,
   ⟨{ tgHeld with tg.held := [accR] }, by decide +kernel⟩,
   ⟨tgHeld, Or.inr (Or.inl (by decide +kernel))⟩⟩

theorem wit_MemoryIntegrity :
    (∃ (a : Nat) (s : State), ((s.mi.ctrl.getLsbD 0 = false ∨ s.inTestWindow a = true))) ∧
    (∃ (m : SramMem) (a : Nat), lastSram m a = false) ∧
    (∃ (m : SramMem) (a : Nat) (s : State), s.mi.ctrl.getLsbD 0 = true ∧ s.inTestWindow a = false ∧ lastSram m a = false) ∧
    (∃ (a : Nat) (s : State), s.mi.ctrl.getLsbD 0 = true ∧ s.inTestWindow a = false ∧ 0x40000000 ≤ a ∧ a ≤ 0x417FFFFF ∧ s.poisoned (wordAt a) = false) ∧
    (∃ (m : SramMem) (i : Fin 128) (a : Nat) (s : State), s.poisoned (scrubKey m i a) = true ∧ lastSram m a = false) ∧
    (∃ (s : State), s.mi.ctrl.getLsbD 0 = true ∧ s.inTestWindow 262143 = false) ∧
    (∃ (n : Fin 67108864) (s : State), ((s.mi.ctrl.getLsbD 1 = false ∨ s.mi.dramReady = false ∨ s.stripeInTest n = true))) ∧
    (∃ (n : Fin 67108864) (s : State), s.mi.ctrl.getLsbD 1 = true ∧ s.mi.dramReady = true ∧ s.stripeInTest n = false ∧ s.pwr.state ≠ 2 ∧ n.val ≠ 67108863) ∧
    (∃ (n : Fin 67108864) (s : State), s.mi.ctrl.getLsbD 1 = true ∧ s.mi.dramReady = true ∧ s.stripeInTest n = false ∧ s.pwr.state ≠ 2 ∧ n.val ≠ 67108863) ∧
    (∃ (n : Fin 67108864) (s : State), s.mi.ctrl.getLsbD 1 = true ∧ s.mi.dramReady = true ∧ s.stripeInTest n = false ∧ s.pwr.state ≠ 2 ∧ 192 * n.val + 191 ≤ 0x7FFFFFFF ∧ (∀ l < 3, s.linePoisoned n l = false) ∧ s.mi.linePoison.length < 4096 ∧ tblWf none s.keys.t2) ∧
    (∃ (n : Fin 67108864) (s : State), s.mi.ctrl.getLsbD 1 = true ∧ s.mi.dramReady = true ∧ s.stripeInTest n = false ∧ s.pwr.state ≠ 2 ∧ 192 * n.val + 191 ≤ 0x7FFFFFFF ∧ (∀ l < 3, s.linePoisoned n l = false) ∧ s.mi.linePoison.length < 4096 ∧ tblWf none s.keys.t2) ∧
    (∃ (n : Fin 67108864) (l : Nat) (s : State), l < 3 ∧ s.linePoisoned n l = true ∧ n.val ≠ 67108863) ∧
    (∃ (s : State), s.mi.ctrl.getLsbD 1 = true ∧ s.mi.dramReady = true ∧ s.stripeInTest 67108863 = false ∧ s.pwr.state ≠ 2) ∧
    (∃ (d : Fin 16) (s : State), s.mi.dieFailed.getLsbD d = false ∧ ((List.range 16).filter (fun i => s.mi.dieFailed.getLsbD i)).length < 2) ∧
    (∃ (d : Fin 16) (s : State), ((s.mi.dieFailed.getLsbD d = true ∨ 2 ≤ ((List.range 16).filter (fun i => s.mi.dieFailed.getLsbD i)).length))) ∧
    (∃ (s : State), s.mi.testEn = false ∧ s.hiu.overlay ≠ 1) ∧
    (∃ (s : State), s.mi.testEn = false ∧ s.hiu.overlay = 1 ∧ ¬(0x10000000 ≤ s.mi.testBase.toNat ∧ s.mi.testBase.toNat + 4096 ≤ 0x10400000) ∧ ¬(0x1280000000 ≤ s.mi.testBase.toNat ∧ s.mi.testBase.toNat + 4096 ≤ 0x1300000000)) ∧
    (∃ (s : State), s.mi.testEn = false ∧ s.hiu.overlay = 1 ∧ (((0x10000000 ≤ s.mi.testBase.toNat ∧ s.mi.testBase.toNat + 4096 ≤ 0x10400000) ∨ (0x1280000000 + 4096 ≤ s.mi.testBase.toNat ∧ s.mi.testBase.toNat + 8192 ≤ 0x1300000000)))) ∧
    (∃ (s : State), s.mi.testEn = false ∧ s.hiu.overlay = 1 ∧ (((0x10000000 ≤ s.mi.testBase.toNat ∧ s.mi.testBase.toNat + 4096 ≤ 0x10400000) ∨ (0x1280000000 + 4096 ≤ s.mi.testBase.toNat ∧ s.mi.testBase.toNat + 8192 ≤ 0x1300000000)))) ∧
    (∃ (s : State), s.mi.testEn = true) ∧
    (∃ (s : State), s.mi.testEn = false) ∧
    (∃ (s : State), s.mi.testEn = true) ∧
    (∃ (s : State), s.mi.zeroFilling = true) ∧
    (∃ (s : State), s.mi.zeroFilling = false) :=
  ⟨⟨0x40000000, { up with mi.ctrl := 0 }, Or.inl (by decide +kernel)⟩,
   ⟨.pool, 0x40000000, by decide +kernel⟩,
   ⟨.operand, 65535, scrubUp, by decide +kernel⟩,
   ⟨0x40000060, { scrubUp with keys.t1 := [(scrubUp.slotAt 1, some sA)] }, by decide +kernel⟩,
   ⟨.pool, 0, 0x40000060, { scrubUp with mi.words := [(wordAt 0x40000060, 3)] }, by decide +kernel⟩,
   ⟨scrubUp, by decide +kernel⟩,
   ⟨5, { scrubUp with mi.dramReady := false }, Or.inr (Or.inl (by decide +kernel))⟩,
   ⟨67108862, scrubUp, by decide +kernel⟩,
   ⟨5, { scrubUp with mi.dieCe := [(3, 1023)] }, by decide +kernel⟩,
   ⟨0, { scrubUp with keys.t2 := [(1, some sA)], mem := [(0x1000000000, 1), (0x10000000BF, 2), (0x10000000C0, 3)] }, by decide +kernel⟩,
   ⟨11184809, scrubUp, by decide +kernel⟩,
   ⟨5, 2, { scrubUp with mi.linePoison := [(5, 4)] }, by decide +kernel⟩,
   ⟨scrubUp, by decide +kernel⟩,
   ⟨15, { up with mi.dieFailed := 1 }, by decide +kernel⟩,
   ⟨15, { up with mi.dieFailed := 3 }, Or.inr (by decide +kernel)⟩,
   ⟨up, by decide +kernel⟩,
   ⟨testUp 0x103FF001, by decide +kernel⟩,
   ⟨testUp 0x103FF000, ⟨by decide +kernel, by decide +kernel, Or.inl (by decide +kernel)⟩⟩,
   ⟨testUp 0x12FFFFE000, ⟨by decide +kernel, by decide +kernel, Or.inr (by decide +kernel)⟩⟩,
   ⟨{ up with mi.testEn := true }, by decide +kernel⟩,
   ⟨up, by decide +kernel⟩,
   ⟨{ up with mi.testEn := true }, by decide +kernel⟩,
   ⟨{ up with mi := { zeroFilling := true } }, by decide +kernel⟩,
   ⟨up, by decide +kernel⟩⟩

theorem wit_AlarmsAndResponses :
    (∃ (n : Fin 13) (s : State), s.monitored n = false) ∧
    (∃ (n : Fin 13) (s : State), s.monitored n = true ∧ ((s.par.acted.getLsbD n = true ∨ s.par.todo.getLsbD n = true))) ∧
    (∃ (n : Fin 13) (s : State), s.monitored n = true ∧ s.par.acted.getLsbD n = false ∧ s.par.todo.getLsbD n = false) ∧
    (∃ (n : Fin 13) (s : State), s.monitored n = true ∧ s.par.acted.getLsbD n = false ∧ s.par.todo.getLsbD n = false) ∧
    (∃ (s : State), s.par.deciding = false) ∧
    (∃ (d : Option (Fin 4)) (second : Nat) (taken : Nat) (s : State), s.par.deciding = true ∧ second = (match d with | some c => c.val | none => strongest s.par.pol s.par.todo) ∧ taken = max s.par.first.toNat second ∧ taken ≤ 1) ∧
    (∃ (d : Option (Fin 4)) (second : Nat) (taken : Nat) (s : State), s.par.deciding = true ∧ second = (match d with | some c => c.val | none => strongest s.par.pol s.par.todo) ∧ taken = max s.par.first.toNat second ∧ taken ≤ 1) ∧
    (∃ (d : Option (Fin 4)) (second : Nat) (s : State), s.par.deciding = true ∧ s.backupOnly = false ∧ s.par.response = 0 ∧ second = (match d with | some c => c.val | none => strongest s.par.pol s.par.todo) ∧ max s.par.first.toNat second = 2) ∧
    (∃ (d : Option (Fin 4)) (second : Nat) (s : State), s.par.deciding = true ∧ s.backupOnly = false ∧ s.par.response ≠ 3 ∧ second = (match d with | some c => c.val | none => strongest s.par.pol s.par.todo) ∧ max s.par.first.toNat second = 3) ∧
    (∃ (d : Option (Fin 4)) (second : Nat) (s : State), s.par.deciding = true ∧ s.backupOnly = false ∧ s.par.response ≠ 3 ∧ second = (match d with | some c => c.val | none => strongest s.par.pol s.par.todo) ∧ max s.par.first.toNat second = 3) ∧
    (∃ (d : Option (Fin 4)) (second : Nat) (s : State), s.par.deciding = true ∧ s.backupOnly = true ∧ second = (match d with | some c => c.val | none => strongest s.par.pol s.par.todo) ∧ max s.par.first.toNat second = 3) ∧
    (∃ (d : Option (Fin 4)) (second : Nat) (s : State), s.par.deciding = true ∧ s.backupOnly = true ∧ second = (match d with | some c => c.val | none => strongest s.par.pol s.par.todo) ∧ max s.par.first.toNat second = 2) ∧
    (∃ (n : Fin 13) (s : State), s.par.acted.getLsbD n = true) ∧
    (∃ (n : Fin 13) (s : State), s.par.acted.getLsbD n = false) :=
  ⟨⟨3, up, by decide +kernel⟩,
   ⟨0, { up with par.acted := 1 }, ⟨by decide +kernel, Or.inl (by decide +kernel)⟩⟩,
   ⟨8, up, by decide +kernel⟩,
   ⟨0, alarmed 2 0x01AA003F 0x100, by decide +kernel⟩,
   ⟨up, by decide +kernel⟩,
   ⟨none, 1, 1, alarmed 1 0x01AA003F 0x1000, by decide +kernel⟩,
   ⟨some 0, 0, 0, alarmed 0 0x01AA003F 0x1000, by decide +kernel⟩,
   ⟨none, 2, alarmed 1 0x01AA003F 0x100, by decide +kernel⟩,
   ⟨some 3, 3, { alarmed 2 0x01AA003F 0x100 with mem := [(0x40000000, 5), (0x45000000, 6)], keys.t1 := [(5, some sA)], pwr.quiesce := true }, by decide +kernel⟩,
   ⟨none, 3, alarmed 2 0x01AA003F 0x101, by decide +kernel⟩,
   ⟨none, 3, onBk (alarmed 3 0x01AA003F 1), by decide +kernel⟩,
   ⟨none, 2, onBk (alarmed 1 0x01AA003F 0x100), by decide +kernel⟩,
   ⟨12, { up with par.acted := 0x1001, par.cond := 0x1001 }, by decide +kernel⟩,
   ⟨12, { up with par.cond := 0x1001 }, by decide +kernel⟩⟩

theorem wit_PolicyAndBootHold :
    (∃ (s : State), s.par.policyOpen = false) ∧
    (∃ (v : Word) (s : State), s.par.policyOpen = true ∧ (((∃ i < 3, v.toNat / 4 ^ i % 4 ≠ 3) ∨ (∃ i < 5, v.toNat / 4 ^ (8 + i) % 4 = 0)))) ∧
    (∃ (v : Word) (s : State), s.par.policyOpen = true ∧ (((∃ i < 3, v.toNat / 4 ^ i % 4 ≠ 3) ∨ (∃ i < 5, v.toNat / 4 ^ (8 + i) % 4 = 0)))) ∧
    (∃ (v : Word) (s : State), s.par.policyOpen = true ∧ (∀ i < 3, v.toNat / 4 ^ i % 4 = 3) ∧ (∀ i < 5, v.toNat / 4 ^ (8 + i) % 4 ≠ 0) ∧ s.admits 30 = true ∧ s.ancWorn 0x0B 1 = false) ∧
    (∃ (v : Word) (s : State), s.par.policyOpen = true ∧ policyBad v = false ∧ s.admits 30 = false) ∧
    (∃ (s : State), s.ks.tamper = true) ∧
    (∃ (s : State), s.ks.tamper = false) ∧
    (∃ (s : State), s.par.held = true ∧ ((∀ i < 13, s.par.cond.getLsbD i = true → s.par.acted.getLsbD i = true → classOf s.par.policyBk i ≠ 2))) ∧
    (∃ (i : Nat) (s : State), i < 13 ∧ s.par.cond.getLsbD i = true ∧ s.par.acted.getLsbD i = true ∧ classOf s.par.policyBk i = 2) :=
  ⟨⟨up, by decide +kernel⟩,
   ⟨0x01AA003E, polUp, ⟨by decide +kernel, Or.inl (by decide +kernel)⟩⟩,
   ⟨0x01A8003F, polUp, ⟨by decide +kernel, Or.inr (by decide +kernel)⟩⟩,
   ⟨0xFFFF003F, polUp, by decide +kernel⟩,
   ⟨0x01AA003F, { polUp with pwr.charge := 0 }, by decide +kernel⟩,
   ⟨{ up with ks.tamper := true, par.alarmOut := true }, by decide +kernel⟩,
   ⟨{ up with par.alarmOut := true }, by decide +kernel⟩,
   ⟨{ up with par.held := true, par.cond := 0x1000, par.acted := 0x1000 }, by decide +kernel⟩,
   ⟨8, { up with par.held := true, par.cond := 0x100, par.acted := 0x100 }, by decide +kernel⟩⟩

theorem wit_RecordsAccepted :
    (∃ (c : BitVec 16) (s : State), c ≠ 0 ∧ histFind c s.evr.hist = none ∧ ((tblGet 0 s.evr.offered c.toNat < 1000 ∨ noFallback c = true)) ∧ s.evr.queue.length < 64) ∧
    (∃ (c : BitVec 16) (s : State), c ≠ 0 ∧ histFind c s.evr.hist = none ∧ ((tblGet 0 s.evr.offered c.toNat < 1000 ∨ noFallback c = true)) ∧ 64 ≤ s.evr.queue.length) ∧
    (∃ (c : BitVec 16) (i : Nat) (s : State), c ≠ 0 ∧ histFind c s.evr.hist = none ∧ 1000 ≤ tblGet 0 s.evr.offered c.toNat ∧ noFallback c = false ∧ histFree s.evr.hist 32 0 = some i) ∧
    (∃ (c : BitVec 16) (i : Nat) (h : Hist) (s : State), c ≠ 0 ∧ histFind c s.evr.hist = some (i, h)) ∧
    (∃ (o : Offer) (l : List Offer) (slot : Nat) (r : Rec) (s : State), s.evr.clearing = false ∧ s.evr.head + 32769 < s.evr.ceiling ∧ s.evr.dropped = 0 ∧ s.evr.own = [] ∧ s.boot.log = [] ∧ s.evr.queue = o :: l ∧ slot = evrSlot s.evr.keptBase (w32 s.evr.head) ∧ r = ⟨w32 s.evr.head, o.code, o.source, s.now, o.p0, o.p1, o.p2, o.p3⟩) ∧
    (∃ (o : Offer) (l : List Offer) (slot : Nat) (r : Rec) (s : State), s.evr.clearing = false ∧ s.evr.head + 32769 < s.evr.ceiling ∧ s.evr.dropped = 0 ∧ s.evr.own = [] ∧ s.boot.log = [] ∧ s.evr.queue = o :: l ∧ slot = evrSlot s.evr.keptBase (w32 s.evr.head) ∧ r = ⟨w32 s.evr.head, o.code, o.source, s.now, o.p0, o.p1, o.p2, o.p3⟩) ∧
    (∃ (s : State), s.evr.clearing = false ∧ 0 < s.evr.dropped ∧ s.evr.head + 32769 < s.evr.ceiling) ∧
    (∃ (s : State), s.evr.clearing = true) ∧
    (∃ (s : State), s.evr.clearing = false ∧ s.evr.ceiling ≤ s.evr.head ∧ s.evr.raising = true) ∧
    (∃ (i : Nat) (l : List Nat) (r : Rec) (s : State), s.evr.keptPending = i :: l ∧ tblGet none s.evr.store i = some r) ∧
    (∃ (s : State), s.evr.keptPending = []) :=
  ⟨⟨0x0401, evrUp, ⟨by decide +kernel, by decide +kernel, Or.inl (by decide +kernel), by decide +kernel⟩⟩,
   ⟨0x0401, evrFull, ⟨by decide +kernel, by decide +kernel, Or.inl (by decide +kernel), by decide +kernel⟩⟩,
   ⟨0x0401, 1, { evrUp with evr.offered := [(0x0401, 1000)], evr.hist := [(0, some { hist1 with code := 0x0402 })] }, by decide +kernel⟩,
   ⟨0x0401, 2, hist1, { evrUp with evr.hist := [(2, some hist1)] }, by decide +kernel⟩,
   ⟨off1, [], evrSlot 0 5, ⟨5, 0x0401, 1139, 0, 1, 2, 3, 4⟩, evrUp, by decide +kernel⟩,
   ⟨off1, [off1], evrSlot 0 5000, ⟨5000, 0x0401, 1139, 0, 1, 2, 3, 4⟩, { evrUp with evr.head := 5000, evr.queue := [off1, off1] }, by decide +kernel⟩,
   ⟨{ evrUp with evr.dropped := 9 }, by decide +kernel⟩,
   ⟨{ evrUp with evr.clearing := true }, by decide +kernel⟩,
   ⟨{ evrUp with evr.ceiling := 5, evr.raising := true }, by decide +kernel⟩,
   ⟨9, [], ⟨5, 0x0401, 1139, 0, 1, 2, 3, 4⟩, { up with evr.keptPending := [9], evr.store := [(9, some ⟨5, 0x0401, 1139, 0, 1, 2, 3, 4⟩)] }, by decide +kernel⟩,
   ⟨up, by decide +kernel⟩⟩

theorem wit_CeilingWritesAndClear :
    (∃ (s : State), s.evr.raising = true ∧ s.evr.ceiling < (s.ancGet 8).toNat) ∧
    (∃ (s : State), s.evr.raising = false) ∧
    (∃ (s : State), s.evr.retry = true ∧ s.evr.raising = false ∧ s.evr.ceiling ≤ s.evr.head + 32768 ∧ s.admits 30 = true ∧ s.ancWorn 8 1 = false) ∧
    (∃ (s : State), s.evr.retry = true ∧ s.evr.raising = false ∧ s.evr.ceiling ≤ s.evr.head + 32768 ∧ s.admits 30 = false) ∧
    (∃ (s : State), s.evr.retry = false) ∧
    (∃ (s : State), s.evr.wrHdr.setWidth 16 ≠ (0 : BitVec 16) ∧ s.evr.queue.length < 64 ∧ histFind (s.evr.wrHdr.setWidth 16) s.evr.hist = none ∧ tblGet 0 s.evr.offered (s.evr.wrHdr.setWidth 16 : BitVec 16).toNat < 1000) ∧
    (∃ (s : State), ((s.evr.wrHdr.setWidth 16 = (0 : BitVec 16) ∨ 64 ≤ s.evr.queue.length))) ∧
    (∃ (s : State), ((s.evr.wrHdr.setWidth 16 = (0 : BitVec 16) ∨ 64 ≤ s.evr.queue.length))) ∧
    (∃ (s : State), s.mss.mayClearEvr = none) ∧
    (∃ (sg : Word) (tk : Word) (s : State), s.mss.mayClearEvr = some (sg, tk) ∧ s.evr.clearing = false ∧ s.evr.head < s.evr.ceiling ∧ s.admits 30 = true ∧ s.ancWorn 9 1 = false) ∧
    (∃ (sg : Word) (tk : Word) (s : State), s.mss.mayClearEvr = some (sg, tk) ∧ s.evr.clearing = false ∧ s.evr.head < s.evr.ceiling ∧ s.admits 30 = true ∧ s.ancWorn 9 1 = false) ∧
    (∃ (sg : Word) (tk : Word) (s : State), s.mss.mayClearEvr = some (sg, tk) ∧ s.evr.clearing = false ∧ s.evr.head < s.evr.ceiling ∧ s.admits 30 = false) :=
  ⟨⟨{ up with evr.raising := true, anc.words := [(8, 65536)] }, by decide +kernel⟩,
   ⟨up, by decide +kernel⟩,
   ⟨{ up with evr.retry := true }, by decide +kernel⟩,
   ⟨{ up with evr.retry := true, pwr.charge := 0 }, by decide +kernel⟩,
   ⟨up, by decide +kernel⟩,
   ⟨{ up with evr.wrHdr := 0x04730401, evr.wrP := [(0, 7), (3, 8)] }, by decide +kernel⟩,
   ⟨up, Or.inl (by decide +kernel)⟩,
   ⟨{ evrFull with evr.wrHdr := 5 }, Or.inr (by decide +kernel)⟩,
   ⟨up, by decide +kernel⟩,
   ⟨3, 4, { evrUp with mss.mayClearEvr := some (3, 4) }, by decide +kernel⟩,
   ⟨3, 4, { evrUp with mss.mayClearEvr := some (3, 4), anc.words := [(9, 0x100000005)] }, by decide +kernel⟩,
   ⟨3, 4, { evrUp with mss.mayClearEvr := some (3, 4), pwr.charge := 0 }, by decide +kernel⟩⟩

theorem wit_SidebandServiceAndTimers :
    (∃ (s : State), s.backupOnly = false) ∧
    (∃ (c : Instr) (b : BitVec 16) (s : State), s.backupOnly = true ∧ c ∈ [Instr.smbStatus, .smbTemp b, .smbV12 b, .smbI12 b, .smbPower b, .smbHoldup, .smbSerial, .smbVersions, .smbAlertCause, .smbusAlertResponse]) ∧
    (∃ (src : BitVec 48) (id : Word) (i : Nat) (n : Nat) (p : Bytes) (s : State), s.servicePort = true ∧ i < n ∧ n ≤ 45 ∧ p ≠ [] ∧ p.length ≤ 1492 ∧ ((∀ f ∈ s.mss.frags, f.src ≠ src ∨ f.msgId ≠ id))) ∧
    (∃ (src : BitVec 48) (id : Word) (i : Nat) (n : Nat) (p : Bytes) (s : State), s.servicePort = true ∧ i < n ∧ n ≤ 45 ∧ p ≠ [] ∧ p.length ≤ 1492 ∧ ((∀ f ∈ s.mss.frags, f.src ≠ src ∨ f.msgId ≠ id))) ∧
    (∃ (src : BitVec 48) (id : Word) (p : Bytes) (q : Bytes) (at_ : Nat) (s : State), s.servicePort = true ∧ p ≠ [] ∧ p.length ≤ 1492 ∧ s.mss.frags = [(⟨src, id, 2, at_, [(1, q)]⟩ : Frag)]) ∧
    (∃ (src : BitVec 48) (id : Word) (i : Nat) (n : Nat) (p : Bytes) (f : Frag) (s : State), ((s.servicePort = false ∨ n ≤ i ∨ 45 < n ∨ p = [] ∨ 1492 < p.length ∨ (s.mss.frags.find? (fun g => g.src == src && g.msgId == id) = some f ∧ (f.count ≠ n ∨ f.got.any (fun x => x.1 == i) = true))))) ∧
    (∃ (src : BitVec 48) (id : Word) (i : Nat) (n : Nat) (p : Bytes) (f : Frag) (s : State), ((s.servicePort = false ∨ n ≤ i ∨ 45 < n ∨ p = [] ∨ 1492 < p.length ∨ (s.mss.frags.find? (fun g => g.src == src && g.msgId == id) = some f ∧ (f.count ≠ n ∨ f.got.any (fun x => x.1 == i) = true))))) ∧
    (∃ (id : Word) (f : Frag) (s : State), s.mss.frags.find? (fun g => g.msgId == id) = some f) ∧
    (∃ (id : Word) (s : State), (∀ f ∈ s.mss.frags, f.msgId ≠ id)) ∧
    (∃ (n : Bytes) (at_ : Nat) (l : List (Bytes × Nat)) (s : State), s.mss.nonces = (n, at_) :: l) ∧
    (∃ (c : Ceremony) (s : State), s.mss.cerem = some c) ∧
    (∃ (s : State), s.mss.cerem = none) ∧
    (∃ (s : State), s.pwr.halted = false ∧ s.boot.warm = false ∧ s.boot.booting = false ∧ s.boot.romHalt = false) ∧
    (∃ (s : State), ((s.pwr.halted = true ∨ s.boot.booting = true))) ∧
    (∃ (s : State), s.boot.warm = true) ∧
    (∃ (s : State), s.boot.warm = true) ∧
    (∃ (s : State), s.boot.warm = false) ∧
    (∃ (s : State), s.backupOnly = false) ∧
    (∃ (s : State), s.backupOnly = false) :=
  ⟨⟨{ up with mss.alert := 3, par.alarmOut := true }, by decide +kernel⟩,
   ⟨.smbTemp 5, 5, onBk up, ⟨by decide +kernel, by simp⟩⟩,
   ⟨0xAA, 5, 0, 45, zeros 1492, srvUp, by decide +kernel⟩,
   ⟨0xAA, 6, 0, 1, [9], { srvUp with mss.frags := [frag1] }, by decide +kernel⟩,
   ⟨0xAA, 5, [9], [7, 8], 100, { srvUp with mss.frags := [frag1] }, by decide +kernel⟩,
   ⟨0xAA, 5, 1, 2, [9], frag1, { srvUp with mss.frags := [frag1] }, Or.inr (Or.inr (Or.inr (Or.inr (Or.inr (by decide +kernel)))))⟩,
   ⟨0xAA, 5, 2, 2, [9], frag1, { srvUp with mss.frags := [frag1] }, Or.inr (Or.inl (by decide +kernel))⟩,
   ⟨5, frag1, { srvUp with mss.frags := [frag1] }, by decide +kernel⟩,
   ⟨6, { srvUp with mss.frags := [frag1] }, by decide +kernel⟩,
   ⟨[1], 50, [([2], 60)], { up with mss.nonces := [([1], 50), ([2], 60)] }, by decide +kernel⟩,
   ⟨cer1, { up with mss.cerem := some cer1 }, by decide +kernel⟩,
   ⟨up, by decide +kernel⟩,
   ⟨{ up with mss.nonces := [([1], 50)], mss.cerem := some cer1, mss.mbxBusy := true, mem := [(0x10000000, 5), (0x10400000, 6)] }, by decide +kernel⟩,
   ⟨{ up with pwr.halted := true }, Or.inl (by decide +kernel)⟩,
   ⟨{ up with boot.warm := true }, by decide +kernel⟩,
   ⟨{ up with boot.warm := true }, by decide +kernel⟩,
   ⟨up, by decide +kernel⟩,
   ⟨up, by decide +kernel⟩,
   ⟨up, by decide +kernel⟩⟩

theorem wit_ManagementRequests :
    (∃ (p : Path) (b : Bytes) (u : State) (s : State), s.reqTaken p = true ∧ ((p = .pf ∨ p = .service)) ∧ s.mssDraw 32 = .ok b u) ∧
    (∃ (p : Path) (b : Bytes) (u : State) (s : State), s.reqTaken p = true ∧ ((p = .pf ∨ p = .service)) ∧ s.mssDraw 32 = .ok b u) ∧
    (∃ (p : Path) (s : State), s.reqTaken p = true ∧ ((p = .pf ∨ p = .service)) ∧ s.mssDraw 32 = .stall) ∧
    (∃ (p : Path) (u : State) (s : State), s.reqTaken p = true ∧ ((p = .pf ∨ p = .service)) ∧ s.mssDraw 32 = .fail u) ∧
    (∃ (n : Fn) (s : State), s.reqTaken (.vf n) = true) ∧
    (∃ (p : Path) (nonce : Bytes) (b : Bytes) (u : State) (s : State), s.reqTaken p = true ∧ ((p = .pf ∨ p = .service)) ∧ s.boot.romHalt = false ∧ nonce.length = 32 ∧ s.mssDraw 56 = .ok b u) ∧
    (∃ (n : Fn) (nonce : Bytes) (b : Bytes) (u : State) (s : State), s.reqTaken (.vf n) = true ∧ s.boot.romHalt = false ∧ nonce.length = 32 ∧ s.mssDraw 56 = .ok b u) ∧
    (∃ (p : Path) (nonce : Bytes) (s : State), s.reqTaken p = true ∧ s.boot.romHalt = false ∧ nonce.length ≠ 32) ∧
    (∃ (p : Path) (nonce : Bytes) (s : State), s.reqTaken p = true ∧ s.boot.romHalt = false ∧ nonce.length ≠ 32) ∧
    (∃ (p : Path) (s : State), s.reqTaken p = true ∧ ((p = .pf ∨ p = .service)) ∧ s.boot.romHalt = false) ∧
    (∃ (p : Path) (s : State), s.reqTaken p = true ∧ ((p = .pf ∨ p = .service)) ∧ s.boot.romHalt = false) ∧
    (∃ (n : Fn) (s : State), s.reqTaken (.vf n) = true) ∧
    (∃ (n : Fn) (b : Bytes) (tag : Word) (s : State), s.reqTaken (.vf n) = true ∧ b = (s.vfMbx n).bytes ∧ tag = w32 (fld b 8 4)) ∧
    (∃ (n : Fn) (b : Bytes) (tag : Word) (s : State), s.reqTaken (.vf n) = true ∧ b = (s.vfMbx n).bytes ∧ tag = w32 (fld b 8 4)) ∧
    (∃ (n : Fn) (b : Bytes) (tag : Word) (s : State), s.reqTaken (.vf n) = true ∧ b = (s.vfMbx n).bytes ∧ tag = w32 (fld b 8 4)) ∧
    (∃ (n : Fn) (b : Bytes) (tag : Word) (s : State), s.reqTaken (.vf n) = true ∧ b = (s.vfMbx n).bytes ∧ tag = w32 (fld b 8 4)) ∧
    (∃ (c : Instr) (p : Path) (tag : Word) (v : BitVec 16) (nonce : Bytes) (s : State), s.reqTaken p = false ∧ c ∈ [Instr.nonceReq p tag, .attest p tag nonce, .officerRead p tag, .sensors p tag v v v v]) ∧
    (∃ (n : Fn) (s : State), s.reqTaken (.vf n) = false) ∧
    (∃ (body : Bytes) (c : Ceremony) (s : State), s.reqTaken .service = true ∧ s.boot.romHalt = false ∧ body.length = 140 ∧ s.mss.cerem = some c ∧ fld body 0 4 = c.id ∧ s.now < c.windowEnd) ∧
    (∃ (body : Bytes) (s : State), s.reqTaken .service = true ∧ s.boot.romHalt = false ∧ body.length = 140 ∧ s.mss.cerem = none) ∧
    (∃ (body : Bytes) (c : Ceremony) (s : State), s.reqTaken .service = true ∧ s.boot.romHalt = false ∧ body.length = 140 ∧ s.mss.cerem = some c ∧ fld body 0 4 = c.id ∧ c.windowEnd ≤ s.now) :=
  ⟨⟨.pf, okB ((seeded up).mssDraw 32), okS up ((seeded up).mssDraw 32), seeded up, ⟨by decide +kernel, Or.inl rfl, ok_of_isOk (draw_ok (seeded_ready (by decide) rfl) (by decide))⟩⟩,
   ⟨.service, okB ((seeded srvUp).mssDraw 32), okS up ((seeded srvUp).mssDraw 32), seeded srvUp, ⟨by decide +kernel, Or.inr rfl, ok_of_isOk (draw_ok (seeded_ready (by decide) rfl) (by decide))⟩⟩,
   ⟨.pf, { up with rng.st := 0 }, ⟨by decide +kernel, Or.inl rfl, rfl⟩⟩,
   ⟨.pf, { up with rng.st := 3, rng.cntErrDraw := 1 }, { up with rng.st := 3 }, ⟨by decide +kernel, Or.inl rfl, rfl⟩⟩,
   ⟨vf3, vfUp, by decide +kernel⟩,
   ⟨.pf, zeros 32, okB ((seeded up).mssDraw 56), okS up ((seeded up).mssDraw 56), seeded up, ⟨by decide +kernel, Or.inl rfl, by decide +kernel, by decide +kernel, ok_of_isOk (draw_ok (seeded_ready (by decide) rfl) (by decide))⟩⟩,
   ⟨vf3, zeros 32, okB ((seeded vfUp).mssDraw 56), okS up ((seeded vfUp).mssDraw 56), seeded vfUp, ⟨by decide +kernel, by decide +kernel, by decide +kernel, ok_of_isOk (draw_ok (seeded_ready (by decide) rfl) (by decide))⟩⟩,
   ⟨.vf vf3, zeros 31, vfUp, by decide +kernel⟩,
   ⟨.pf, zeros 31, up, by decide +kernel⟩,
   ⟨.pf, up, ⟨by decide +kernel, Or.inl rfl, by decide +kernel⟩⟩,
   ⟨.service, srvUp, ⟨by decide +kernel, Or.inr rfl, by decide +kernel⟩⟩,
   ⟨vf3, vfUp, by decide +kernel⟩,
   ⟨vf3, (vfUp.vfMbx 3).bytes, w32 (fld (vfUp.vfMbx 3).bytes 8 4), vfUp, by decide +kernel⟩,
   ⟨vf3, ({ vfUp with mss.vf := [(3, { req := [(0, 0x10), (2, 77)] })] }.vfMbx 3).bytes, 77, { vfUp with mss.vf := [(3, { req := [(0, 0x10), (2, 77)] })] }, by decide +kernel⟩,
   ⟨vf3, ({ vfUp with mss.vf := [(3, { req := [(0, 0x10), (1, 1)] })] }.vfMbx 3).bytes, 0, { vfUp with mss.vf := [(3, { req := [(0, 0x10), (1, 1)] })] }, by decide +kernel⟩,
   ⟨vf3, ({ vfUp with mss.vf := [(3, { req := [(0, 3), (1, 32)] })] }.vfMbx 3).bytes, 0, { vfUp with mss.vf := [(3, { req := [(0, 3), (1, 32)] })] }, by decide +kernel⟩,
   ⟨.officerRead .service 5, .service, 5, 0, [], up, ⟨by decide +kernel, by simp⟩⟩,
   ⟨vf3, up, by decide +kernel⟩,
   ⟨part [(4, [1])], cer1, { srvUp with mss.cerem := some cer1 }, by decide +kernel⟩,
   ⟨part [], srvUp, by decide +kernel⟩,
   ⟨part [], cer1, { srvUp with mss.cerem := some cer1, now := 1000 }, by decide +kernel⟩⟩

theorem wit_OfficerAndTenantActions :
    (∃ (c : Instr) (r : ActionReq) (s : State), c ∈ [Instr.commission r, .decommission r, .officerTable r, .tenantCreate r, .tenantConfig r, .tenantRemove r, .ccImport r, .drkBackup r, .tamperPolicy r, .recorderClear r, .overlaySelect r] ∧ s.reqTaken r.path = false) ∧
    (∃ (c : Instr) (r : ActionReq) (s : State) (n : _), c ∈ [Instr.commission r, .decommission r, .officerTable r, .tenantCreate r, .tenantConfig r, .tenantRemove r, .ccImport r, .drkBackup r, .tamperPolicy r, .recorderClear r, .overlaySelect r] ∧ r.path = .vf n ∧ s.reqTaken r.path = true) ∧
    (∃ (r : ActionReq) (own : Bool) (s : State), TakenUp r s ∧ own = (s.noOfficers && offCount r.body != 0)) ∧
    (∃ (r : ActionReq) (own : Bool) (s : State), TakenUp r s ∧ own = (s.noOfficers && offCount r.body != 0)) ∧
    (∃ (r : ActionReq) (s : State), TakenUp r s) ∧
    (∃ (r : ActionReq) (s : State), TakenUp r s) ∧
    (∃ (r : ActionReq) (rs : List OffRec) (s : State), TakenUp r s ∧ rs = offRecs r.body) ∧
    (∃ (r : ActionReq) (n : Nat) (share : Nat) (pol : DWord) (dec : DWord) (ws : List AncW) (s : State), TakenUp r s ∧ n = fld r.body 0 2 ∧ share = fld r.body 4 4 ∧ pol = w64 (fld r.body 8 8) ∧ dec = w64 (fld r.body 16 8) ∧ ws = [(0x0C00 + n, [w64 (s.tdkEpoch n + 1)]), tnCfgWords n 1 share pol dec]) ∧
    (∃ (r : ActionReq) (n : Nat) (share : Nat) (su : Bool) (pol : DWord) (dec : DWord) (ws : List AncW) (s : State), TakenUp r s ∧ n = fld r.body 0 2 ∧ su = (fld r.body 2 1 == 1) ∧ share = fld r.body 4 4 ∧ pol = w64 (fld r.body 8 8) ∧ dec = w64 (fld r.body 16 8) ∧ ws = [tnCfgWords n (if su then 2 else 1) share pol dec]) ∧
    (∃ (r : ActionReq) (n : Nat) (ws : List AncW) (s : State), TakenUp r s ∧ n = fld r.body 0 2 ∧ ws = s.replWords (.tenantRemove (fnOf n)) ++ (if s.enrolled then [(0x0F, [w64 ((s.ancLatest 0x0F).toNat + 1)])] else [])) ∧
    (∃ (r : ActionReq) (n : Nat) (s : State), TakenUp r s ∧ n = fld r.body 0 2) :=
  ⟨⟨.commission (ask [] []), ask [] [], { up with mss.mbxBusy := true }, ⟨by simp, by decide +kernel⟩⟩,
   ⟨.commission (askVf [] []), askVf [] [], vfUp, 3, ⟨by simp, rfl, by decide +kernel⟩⟩,
   ⟨ask (zeros 4) [], false, up, by and_intros <;> first | exact heard_hu (by decide +kernel) | exact taken (by decide +kernel) | decide +kernel⟩,
   ⟨ask (zeros 4) (zeros 200), false, up, by and_intros <;> first | exact heard_hu (by decide +kernel) | exact taken (by decide +kernel) | decide +kernel⟩,
   ⟨ask [] [], up, by and_intros <;> first | exact heard_hu (by decide +kernel) | exact taken (by decide +kernel) | decide +kernel⟩,
   ⟨ask [] (zeros 200), { up with mss.nonces := [(zeros 32, 5)] }, by and_intros <;> first | exact heard_hu (by decide +kernel) | exact taken (by decide +kernel) | decide +kernel⟩,
   ⟨ask [1] [], offRecs [1], up, by and_intros <;> first | exact heard_hu (by decide +kernel) | exact taken (by decide +kernel) | decide +kernel⟩,
   ⟨ask (zeros 24) [], 0, 0, 0, 0, [(0x0C00, [w64 (up.tdkEpoch 0 + 1)]), tnCfgWords 0 1 0 0 0], up, by and_intros <;> first | exact heard_hu (by decide +kernel) | exact taken (by decide +kernel) | decide +kernel⟩,
   ⟨ask (zeros 24) [], 0, 0, false, 0, 0, [tnCfgWords 0 1 0 0 0], up, by and_intros <;> first | exact heard_hu (by decide +kernel) | exact taken (by decide +kernel) | decide +kernel⟩,
   ⟨ask [3, 0] [], 3, up.replWords (.tenantRemove (fnOf 3)), up, by and_intros <;> first | exact heard_hu (by decide +kernel) | exact taken (by decide +kernel) | decide +kernel⟩,
   ⟨ask [3, 0] [], 3, up, by and_intros <;> first | exact heard_hu (by decide +kernel) | exact taken (by decide +kernel) | decide +kernel⟩⟩

theorem wit_OtherActions :
    (∃ (r : ActionReq) (s : State), TakenUp r s) ∧
    (∃ (r : ActionReq) (v : Word) (s : State), TakenUp r s ∧ v = w32 (fld r.body 0 4)) ∧
    (∃ (r : ActionReq) (s : State), TakenUp r s) ∧
    (∃ (r : ActionReq) (img : HostRead) (src : ImgSrc) (s : State), TakenUp r s ∧ fld r.body 0 1 ≠ 1 ∧ fld r.body 0 1 ≠ 2 ∧ src = (fun off n => sub (match img with | .data x => x | .error _ => []) off n)) ∧
    (∃ (r : ActionReq) (s : State), TakenUp r s ∧ fld r.body 0 1 ≠ 0 ∧ fld r.body 0 1 ≠ 2) ∧
    (∃ (r : ActionReq) (s : State), TakenUp r s ∧ 2 ≤ fld r.body 0 1) ∧
    (∃ (r : ActionReq) (c : Nat) (run : ImgSrc) (s : State), TakenUp r s ∧ c = fld r.body 0 1 ∧ run = s.bankSrc s.boot.runBank) ∧
    (∃ (c : Instr) (k : Nat) (r : ActionReq), (k, c) ∈ [(0, Instr.clusterEnrolJoin r), (1, .clusterRemove r), (2, .crkChange r), (3, .clusterParameters r)] ∧ fld r.body 0 1 ≠ k ∧ fld r.body 0 1 ≤ 3) ∧
    (∃ (r : ActionReq) (role : Nat) (m : Nat) (pa : Nat) (sb : Bool) (s : State), TakenUp r s ∧ ((fld r.body 0 1 = 0 ∨ 3 < fld r.body 0 1)) ∧ role = fld r.body 1 1 ∧ m = fld r.body 12 2 ∧ pa = fld r.body 14 2 ∧ sb = (fld r.body 2 1 == 1)) ∧
    (∃ (r : ActionReq) (m : Nat) (s : State), TakenUp r s ∧ ((fld r.body 0 1 = 1 ∨ 3 < fld r.body 0 1)) ∧ m = fld r.body 12 2) ∧
    (∃ (r : ActionReq) (s : State), TakenUp r s ∧ ((fld r.body 0 1 = 2 ∨ 3 < fld r.body 0 1))) ∧
    (∃ (r : ActionReq) (ms : Nat) (sb : Nat) (s : State), TakenUp r s ∧ ((fld r.body 0 1 = 3 ∨ 3 < fld r.body 0 1)) ∧ ms = fld r.body 16 2 ∧ sb = fld r.body 18 2) :=
  ⟨⟨ask (zeros 100) [], up, by and_intros <;> first | exact heard_hu (by decide +kernel) | exact taken (by decide +kernel) | decide +kernel⟩,
   ⟨ask (zeros 4) [], 0, up, by and_intros <;> first | exact heard_hu (by decide +kernel) | exact taken (by decide +kernel) | decide +kernel⟩,
   ⟨ask [] [], up, by and_intros <;> first | exact heard_hu (by decide +kernel) | exact taken (by decide +kernel) | decide +kernel⟩,
   ⟨ask (zeros 24) [], .data [], (fun off n => sub [] off n), up, ⟨taken (by decide +kernel), by decide +kernel, by decide +kernel, rfl⟩⟩,
   ⟨ask ([1] ++ zeros 23) [], up, by and_intros <;> first | exact heard_hu (by decide +kernel) | exact taken (by decide +kernel) | decide +kernel⟩,
   ⟨ask ([2] ++ zeros 23) [], up, by and_intros <;> first | exact heard_hu (by decide +kernel) | exact taken (by decide +kernel) | decide +kernel⟩,
   ⟨ask [1, 0, 0, 0] [], 1, up.bankSrc false, up, ⟨taken (by decide +kernel), by decide +kernel, rfl⟩⟩,
   ⟨.clusterRemove (ask [0] []), 1, ask [0] [], ⟨by simp, by decide +kernel, by decide +kernel⟩⟩,
   ⟨ask (zeros 20) [], 0, 0, 0, false, up, ⟨taken (by decide +kernel), Or.inl (by decide +kernel), by decide +kernel, by decide +kernel, by decide +kernel, by decide +kernel⟩⟩,
   ⟨ask ([1] ++ zeros 19) [], 0, abut, ⟨taken (by decide +kernel), Or.inl (by decide +kernel), by decide +kernel⟩⟩,
   ⟨ask ([2] ++ zeros 19) [], abut, ⟨taken (by decide +kernel), Or.inl (by decide +kernel)⟩⟩,
   ⟨ask ([3] ++ zeros 19) [], 0, 0, abut, ⟨taken (by decide +kernel), Or.inl (by decide +kernel), by decide +kernel, by decide +kernel⟩⟩⟩

theorem wit_AnchorsAndFlash :
    (∃ (s : State), s.anc.queue = []) ∧
    (∃ (w : Nat) (c : Nat) (vals : List DWord) (e : Eff) (rest : List AncWrite) (s : State), s.anc.queue = ⟨w, vals, c, e⟩ :: rest ∧ ((e = .none ∨ e = .ceiling ∨ (e.ofRelease = true ∧ s.par.response = 3))) ∧ s.trs.replHeld = [] ∧ w + vals.length ≤ 8192 ∧ tblWf 0 s.anc.words ∧ tblWf false s.anc.lost) ∧
    (∃ (w : Nat) (c : Nat) (vals : List DWord) (e : Eff) (rest : List AncWrite) (s : State), s.anc.queue = ⟨w, vals, c, e⟩ :: rest ∧ ((e = .none ∨ e = .ceiling ∨ (e.ofRelease = true ∧ s.par.response = 3))) ∧ s.trs.replHeld = [] ∧ w + vals.length ≤ 8192 ∧ tblWf 0 s.anc.words ∧ tblWf false s.anc.lost) ∧
    (∃ (v : DWord) (old : Word) (c : Nat) (rest : List AncWrite) (s : State), s.anc.queue = ⟨0x0B, [v], c, .policy old⟩ :: rest ∧ s.mss.rels = [] ∧ s.trs.replHeld = [] ∧ tblWf 0 s.anc.words ∧ tblWf false s.anc.lost) ∧
    (∃ (v : DWord) (c : Nat) (r : Rec) (rest : List AncWrite) (s : State), s.anc.queue = ⟨9, [v], c, .evrClear⟩ :: rest ∧ s.mss.rels = [] ∧ s.trs.replHeld = [] ∧ s.evr.clearRec = some r) ∧
    (∃ (n : Nat) (q : Nat) (d : Nat) (c : Nat) (v : DWord) (x : Taken) (e : Entry) (k : JKind) (kid : BitVec 64) (w : DWord) (rest : List AncWrite) (s : State), s.anc.queue = ⟨0x400 + n, [v], c, .keySeq n q⟩ :: rest ∧ s.par.response ≠ 3 ∧ s.trs.replHeld = [] ∧ s.keys.taken = [x] ∧ x.tenant = n ∧ x.seq ≤ q ∧ x.owner = .deck d ∧ s.entOf d = some e ∧ e.st = .releasing ∧ e.relStatus = 0 ∧ e.post.intents = [.journal k n kid w, .keyState n kid w] ∧ tblWf 0 s.keys.ket) ∧
    (∃ (id : Nat) (w : Nat) (c : Nat) (vals : List DWord) (p : Path) (tag : Word) (typ : Nat) (body : Bytes) (rest : List AncWrite) (s : State), s.anc.queue = ⟨w, vals, c, .mss id⟩ :: rest ∧ s.par.response ≠ 3 ∧ s.trs.replHeld = [] ∧ s.pwr.quiesce = false ∧ s.mss.rels = [⟨id, some (p, tag, typ, body), none, .none⟩]) ∧
    (∃ (id : Nat) (w : Nat) (c : Nat) (n : Nat) (vals : List DWord) (b : BitVec 2) (rest : List AncWrite) (s : State), s.anc.queue = ⟨w, vals, c, .mss id⟩ :: rest ∧ s.par.response ≠ 3 ∧ s.trs.replHeld = [] ∧ s.pwr.quiesce = false ∧ s.mss.rels = [⟨id, none, none, .tenantSet n b⟩] ∧ tblWf {} s.hiu.tn) ∧
    (∃ (id : Nat) (w : Nat) (c : Nat) (n : Nat) (vals : List DWord) (b : BitVec 2) (rest : List AncWrite) (s : State), s.anc.queue = ⟨w, vals, c, .mss id⟩ :: rest ∧ s.par.response ≠ 3 ∧ s.trs.replHeld = [] ∧ s.pwr.quiesce = false ∧ s.mss.rels = [⟨id, none, none, .tenantSet n b⟩] ∧ tblWf {} s.hiu.tn) ∧
    (∃ (v : Word), v.getLsbD 31 = true ∧ (v.setWidth 14 : BitVec 14).toNat ≤ 8192) ∧
    (∃ (v : Word), ((v.getLsbD 31 = false ∨ 8192 < (v.setWidth 14 : BitVec 14).toNat))) ∧
    (∃ (op : CfgOp) (s : State) (v : State), (v = (if s.cfg.cmd.isSome = true then s
      else if 0x4000000 < s.cfg.flashAddr.toNat + s.cfg.len.toNat ∨ (0 < s.cfg.len.toNat ∧ flashRegion s.cfg.flashAddr.toNat ≠ flashRegion (s.cfg.flashAddr.toNat + s.cfg.len.toNat - 1)) ∨ ((op = .program ∨ op = .erase) ∧ flashRegion s.cfg.flashAddr.toNat = (if s.activeBank then 1 else 0)) ∨ (op = .erase ∧ ¬ (0x10000 ∣ s.cfg.flashAddr.toNat ∧ 0x10000 ∣ s.cfg.len.toNat)) then
        { s with cfg.refused := true }
      else { s with
        cfg.refused := false
        cfg.cmd := some (op, s.cfg.flashAddr.toNat, s.cfg.len.toNat, s.cfg.memAddr.toNat) })) ∧ op = .read) ∧
    (∃ (op : CfgOp) (s : State) (v : State), (v = (if s.cfg.cmd.isSome = true then s
      else if 0x4000000 < s.cfg.flashAddr.toNat + s.cfg.len.toNat ∨ (0 < s.cfg.len.toNat ∧ flashRegion s.cfg.flashAddr.toNat ≠ flashRegion (s.cfg.flashAddr.toNat + s.cfg.len.toNat - 1)) ∨ ((op = .program ∨ op = .erase) ∧ flashRegion s.cfg.flashAddr.toNat = (if s.activeBank then 1 else 0)) ∨ (op = .erase ∧ ¬ (0x10000 ∣ s.cfg.flashAddr.toNat ∧ 0x10000 ∣ s.cfg.len.toNat)) then
        { s with cfg.refused := true }
      else { s with
        cfg.refused := false
        cfg.cmd := some (op, s.cfg.flashAddr.toNat, s.cfg.len.toNat, s.cfg.memAddr.toNat) })) ∧ op = .program) ∧
    (∃ (op : CfgOp) (s : State) (v : State), (v = (if s.cfg.cmd.isSome = true then s
      else if 0x4000000 < s.cfg.flashAddr.toNat + s.cfg.len.toNat ∨ (0 < s.cfg.len.toNat ∧ flashRegion s.cfg.flashAddr.toNat ≠ flashRegion (s.cfg.flashAddr.toNat + s.cfg.len.toNat - 1)) ∨ ((op = .program ∨ op = .erase) ∧ flashRegion s.cfg.flashAddr.toNat = (if s.activeBank then 1 else 0)) ∨ (op = .erase ∧ ¬ (0x10000 ∣ s.cfg.flashAddr.toNat ∧ 0x10000 ∣ s.cfg.len.toNat)) then
        { s with cfg.refused := true }
      else { s with
        cfg.refused := false
        cfg.cmd := some (op, s.cfg.flashAddr.toNat, s.cfg.len.toNat, s.cfg.memAddr.toNat) })) ∧ op = .erase) ∧
    (∃ (op : CfgOp) (s : State) (v : State), (v = (if s.cfg.cmd.isSome = true then s
      else if 0x4000000 < s.cfg.flashAddr.toNat + s.cfg.len.toNat ∨ (0 < s.cfg.len.toNat ∧ flashRegion s.cfg.flashAddr.toNat ≠ flashRegion (s.cfg.flashAddr.toNat + s.cfg.len.toNat - 1)) ∨ ((op = .program ∨ op = .erase) ∧ flashRegion s.cfg.flashAddr.toNat = (if s.activeBank then 1 else 0)) ∨ (op = .erase ∧ ¬ (0x10000 ∣ s.cfg.flashAddr.toNat ∧ 0x10000 ∣ s.cfg.len.toNat)) then
        { s with cfg.refused := true }
      else { s with
        cfg.refused := false
        cfg.cmd := some (op, s.cfg.flashAddr.toNat, s.cfg.len.toNat, s.cfg.memAddr.toNat) })) ∧ op = .hash) ∧
    (∃ (s : State), s.cfg.cmd = none) ∧
    (∃ (op : CfgOp) (a : Nat) (n : Nat) (m : Nat) (s : State), s.cfg.cmd = some (op, a, n, m) ∧ a + n ≤ 0x4000000) ∧
    (∃ (op : CfgOp) (a : Nat) (n : Nat) (m : Nat) (s : State), s.cfg.cmd = some (op, a, n, m) ∧ a + n ≤ 0x4000000) ∧
    (∃ (op : CfgOp) (a : Nat) (n : Nat) (m : Nat) (s : State), s.cfg.cmd = some (op, a, n, m) ∧ a + n ≤ 0x4000000) ∧
    (∃ (op : CfgOp) (a : Nat) (n : Nat) (m : Nat) (s : State), s.cfg.cmd = some (op, a, n, m) ∧ a + n ≤ 0x4000000) ∧
    (∃ (op : CfgOp) (a : Nat) (n : Nat) (m : Nat) (s : State), s.cfg.cmd = some (op, a, n, m) ∧ a + n ≤ 0x4000000) ∧
    (∃ (op : CfgOp) (a : Nat) (n : Nat) (m : Nat) (s : State), s.cfg.cmd = some (op, a, n, m) ∧ a + n ≤ 0x4000000) :=
  ⟨⟨up, by decide +kernel⟩,
   ⟨0x500, 60, [7, 8], .none, [], ancUp [⟨0x500, [7, 8], 60, .none⟩], ⟨rfl, Or.inl rfl, by decide +kernel, by decide +kernel, by decide +kernel, by decide +kernel⟩⟩,
   ⟨8191, 30, [7], .keySeq 3 1, [], { ancUp [⟨8191, [7], 30, .keySeq 3 1⟩] with par.response := 3 }, ⟨rfl, Or.inr (Or.inr (by decide +kernel)), by decide +kernel, by decide +kernel, by decide +kernel, by decide +kernel⟩⟩,
   ⟨0x02AA003F, 0x01AA003F, 30, [], ancUp [⟨0x0B, [0x02AA003F], 30, .policy 0x01AA003F⟩], by decide +kernel⟩,
   ⟨5, 30, recC, [], { ancUp [⟨9, [5], 30, .evrClear⟩] with evr := { head := 5, ceiling := 65536, clearing := true, clearRec := some recC, store := [(4, some recC)] } }, by decide +kernel⟩,
   ⟨3, 1, 7, 30, 1, ⟨3, 1, zeros 32, .deck 7, true, true, none⟩, entR, .stage, 8, 7, [], withEnt entR { upQ with anc.queue := [⟨0x403, [1], 30, .keySeq 3 1⟩], keys.taken := [⟨3, 1, zeros 32, .deck 7, true, true, none⟩] }, by decide +kernel⟩,
   ⟨4, 0x500, 30, [7], .pf, 9, 2, [1], [], relUp ⟨4, some (.pf, 9, 2, [1]), none, .none⟩, by decide +kernel⟩,
   ⟨4, 0x500, 30, 3, [7], 1, [], relUp ⟨4, none, none, .tenantSet 3 1⟩, by decide +kernel⟩,
   ⟨4, 0x500, 30, 3, [7], 0, [], { relUp ⟨4, none, none, .tenantSet 3 0⟩ with hiu.tn := [(3, { state := 1 })] }, by decide +kernel⟩,
   ⟨0x80002000, by decide +kernel⟩,
   ⟨0x80002001, Or.inr (by decide +kernel)⟩,
   ⟨.read, { up with cfg.len := 4 }, { up with cfg.len := 4, cfg.cmd := some (.read, 0, 4, 0) }, by decide +kernel⟩,
   ⟨.program, { up with cfg.len := 4 }, { up with cfg.len := 4, cfg.refused := true }, by decide +kernel⟩,
   ⟨.erase, { up with cfg.len := 0x10000, cfg.flashAddr := 0x2000000 }, { up with cfg.len := 0x10000, cfg.flashAddr := 0x2000000, cfg.cmd := some (.erase, 0x2000000, 0x10000, 0) }, by decide +kernel⟩,
   ⟨.hash, { up with cfg.len := 4, cfg.flashAddr := 0x3FFFFFE }, { up with cfg.len := 4, cfg.flashAddr := 0x3FFFFFE, cfg.refused := true }, by decide +kernel⟩,
   ⟨up, by decide +kernel⟩,
   ⟨.program, 0x10000, 4, 0x10000000, cfgUp .program, by decide +kernel⟩,
   ⟨.program, 0x10000, 4, 0x10000000, cfgUp .program, by decide +kernel⟩,
   ⟨.read, 0x10000, 4, 0x10000000, cfgUp .read, by decide +kernel⟩,
   ⟨.erase, 0x10000, 4, 0x10000000, cfgUp .erase, by decide +kernel⟩,
   ⟨.hash, 0x10000, 4, 0x10000000, cfgUp .hash, by decide +kernel⟩,
   ⟨.erase, 0x10000, 4, 0x10000000, cfgUp .erase, by decide +kernel⟩⟩

theorem wit_PowerStates :
    (∃ (s : State), s.coreRuns = true) ∧
    (∃ (s : State), s.coreRuns = true) ∧
    (∃ (s : State), s.coreRuns = false) ∧
    (∃ (s : State) (quiet : Prop) (deep : Prop), s.coreRuns = true ∧ quiet = ((s.pwr.policy.setWidth 16 : BitVec 16) ≠ 0 ∧ s.held = [] ∧ s.anc.queue = [] ∧ s.keys.taken = [] ∧ s.mss.rels = [] ∧ s.tg.holding = false ∧ s.eng.ucBusy = false) ∧ (deep = (s.pwr.policy.getLsbD 16 = true ∧ (s.hiu.l12 = true ∨ s.hiu.d3hot = true) ∧ s.mi.testEn = false ∧ s.rng.rawEn = false))) ∧
    (∃ (s : State), s.pwr.entry = none) ∧
    (∃ (m : BitVec 2) (k : Nat) (s : State), s.pwr.entry = some (m, k) ∧ k < 4 ∧ s.pwr.wakePend = 0 ∧ s.pwr.forced = false ∧ ((k = 0 → s.stateOk m = true))) ∧
    (∃ (m : BitVec 2) (k : Nat) (s : State), s.pwr.entry = some (m, k) ∧ k < 4 ∧ s.pwr.wakePend = 0 ∧ s.pwr.forced = false ∧ ((k = 0 → s.stateOk m = true))) ∧
    (∃ (m : BitVec 2) (k : Nat) (s : State), s.pwr.entry = some (m, k) ∧ k < 4 ∧ s.pwr.wakePend = 0 ∧ s.pwr.forced = false ∧ ((k = 0 → s.stateOk m = true))) ∧
    (∃ (m : BitVec 2) (k : Nat) (s : State), s.pwr.entry = some (m, k) ∧ k < 4 ∧ s.pwr.wakePend = 0 ∧ s.pwr.forced = false ∧ ((k = 0 → s.stateOk m = true))) ∧
    (∃ (m : BitVec 2) (k : Nat) (s : State), s.pwr.entry = some (m, k) ∧ k < 4 ∧ s.pwr.entryPads = 0 ∧ s.pwr.quiesce = false ∧ s.boot.request = none ∧ ((s.pwr.wakePend ≠ 0 ∨ s.pwr.forced = true ∨ (k = 0 ∧ s.stateOk m = false)))) ∧
    (∃ (m : BitVec 2) (k : Nat) (s : State), s.pwr.entry = some (m, k) ∧ k < 4 ∧ s.pwr.entryPads = 0 ∧ s.pwr.quiesce = false ∧ s.boot.request = none ∧ ((s.pwr.wakePend ≠ 0 ∨ s.pwr.forced = true ∨ (k = 0 ∧ s.stateOk m = false)))) ∧
    (∃ (m : BitVec 2) (s : State), s.pwr.entry = some (m, 4) ∧ s.pwr.state = 0 ∧ s.pwr.waking = none ∧ m ≠ 0) ∧
    (∃ (m : BitVec 2) (s : State), s.pwr.entry = some (m, 4) ∧ s.pwr.state = 0 ∧ s.pwr.waking = none ∧ m ≠ 0) ∧
    (∃ (m : BitVec 2) (s : State), s.pwr.entry = some (m, 4) ∧ s.pwr.state = 0 ∧ s.pwr.waking = none ∧ m ≠ 0) ∧
    (∃ (w : WakeSrc) (b : BitVec 5) (s : State), s.boot.booting = false ∧ s.backupOnly = false ∧ s.pwr.quiesceStep ≠ 7 ∧ wakeBit w = some b ∧ s.pwr.wakeEn &&& b ≠ 0 ∧ ((w = .trestle → s.pwr.state ≠ 2))) ∧
    (∃ (w : WakeSrc) (b : BitVec 5) (s : State), s.boot.booting = false ∧ s.backupOnly = false ∧ s.pwr.quiesceStep ≠ 7 ∧ wakeBit w = some b ∧ s.pwr.wakeEn &&& b ≠ 0 ∧ ((w = .trestle → s.pwr.state ≠ 2))) ∧
    (∃ (w : WakeSrc) (b : BitVec 5) (s : State), wakeBit w = some b ∧ ((s.pwr.wakeEn &&& b = 0 ∨ (w = .trestle ∧ s.pwr.state = 2)))) ∧
    (∃ (w : WakeSrc) (s : State), wakeBit w = none ∧ s.boot.booting = false ∧ s.backupOnly = false ∧ s.pwr.quiesceStep ≠ 7) ∧
    (∃ (w : WakeSrc) (s : State), wakeBit w = none ∧ s.boot.booting = false ∧ s.backupOnly = false ∧ s.pwr.quiesceStep ≠ 7) ∧
    (∃ (w : WakeSrc) (s : State), wakeBit w = none ∧ s.boot.booting = false ∧ s.backupOnly = false ∧ s.pwr.quiesceStep ≠ 7) ∧
    (∃ (s : State), s.boot.booting = false ∧ s.backupOnly = false ∧ s.now ≤ s.pwr.wakeTimer.toNat) ∧
    (∃ (s : State), s.boot.booting = false ∧ s.backupOnly = false ∧ s.now ≤ s.pwr.wakeTimer.toNat) ∧
    (∃ (s : State), s.pwr.wakeTimer.toNat < s.now) ∧
    (∃ (p : PllName) (bits : Word) (t0 : Nat) (s : State), s.pwr.waking = some (1, bits, t0) ∧ (s.pll p).quarantined = false) ∧
    (∃ (p : PllName) (s : State), (((∀ bits t0, s.pwr.waking ≠ some (1, bits, t0)) ∨ (s.pll p).quarantined = true))) ∧
    (∃ (bits : Word) (t0 : Nat) (v : Saved) (s : State), s.pwr.waking = some (2, bits, t0) ∧ s.tg.held = [] ∧ s.pwr.saved = some v) ∧
    (∃ (s : State), (∀ bits t0, s.pwr.waking ≠ some (2, bits, t0))) :=
  ⟨⟨up, by decide +kernel⟩,
   ⟨{ up with pwr.mode := 2 }, by decide +kernel⟩,
   ⟨{ up with pwr.halted := true }, by decide +kernel⟩,
   ⟨up, _, _, ⟨by decide +kernel, rfl, rfl⟩⟩,
   ⟨up, by decide +kernel⟩,
   ⟨1, 0, enter 1 0, by decide +kernel⟩,
   ⟨1, 1, enter 1 1, by decide +kernel⟩,
   ⟨2, 2, enter 2 2, by decide +kernel⟩,
   ⟨2, 3, enter 2 3, by decide +kernel⟩,
   ⟨1, 1, { enter 1 1 with pwr.wakePend := 1 }, ⟨by decide +kernel, by decide +kernel, by decide +kernel, by decide +kernel, by decide +kernel, Or.inl (by decide +kernel)⟩⟩,
   ⟨2, 3, { enter 2 3 with pwr.forced := true }, ⟨by decide +kernel, by decide +kernel, by decide +kernel, by decide +kernel, by decide +kernel, Or.inr (Or.inl (by decide +kernel))⟩⟩,
   ⟨1, enter 1 4, by decide +kernel⟩,
   ⟨2, { enter 2 4 with mem := [(0x40000000, 5), (0x45000000, 6), (0x10000000, 7)], pwr.wakePend := 1 }, by decide +kernel⟩,
   ⟨2, { span with pwr.entry := some (2, 4) }, by decide +kernel⟩,
   ⟨.host, 1, { up with hiu.l12 := true }, by decide +kernel⟩,
   ⟨.service, 4, asleep 2, by decide +kernel⟩,
   ⟨.trestle, 2, up, ⟨by decide +kernel, Or.inl (by decide +kernel)⟩⟩,
   ⟨.parapet, up, by decide +kernel⟩,
   ⟨.mainLoss, enter 1 2, by decide +kernel⟩,
   ⟨.parapet, asleep 1, by decide +kernel⟩,
   ⟨{ up with pwr.wakeTimer := 500 }, by decide +kernel⟩,
   ⟨{ asleep 2 with pwr.wakeTimer := 500 }, by decide +kernel⟩,
   ⟨{ up with now := 1 }, by decide +kernel⟩,
   ⟨.b, 4, 3, { asleep 1 with pwr.waking := some (1, 4, 3) }, by decide +kernel⟩,
   ⟨.a, up, Or.inl (by intro _ _ h; cases h)⟩,
   ⟨1, 3, up.savedNow, { asleep 2 with pwr.waking := some (2, 1, 3) }, by decide +kernel⟩,
   ⟨up, by intro _ _ h; cases h⟩⟩

theorem wit_EnvelopeAndMainPower :
    (∃ (s : State), ((s.boot.booting = true ∨ s.pwr.quiesceStep = 7 ∨ s.backupOnly = true))) ∧
    (∃ (v : Word) (e : Nat) (s : State), s.boot.booting = false ∧ s.pwr.quiesceStep ≠ 7 ∧ s.backupOnly = false ∧ e = max 20 (min 60 (v.toNat % 64))) ∧
    (∃ (v : Word) (e : Nat) (s : State), s.boot.booting = false ∧ s.pwr.quiesceStep ≠ 7 ∧ s.backupOnly = false ∧ e = max 20 (min 60 (v.toNat % 64))) ∧
    (∃ (v : Word) (e : Nat) (s : State), s.boot.booting = false ∧ s.pwr.quiesceStep ≠ 7 ∧ s.backupOnly = false ∧ e = max 20 (min 60 (v.toNat % 64))) ∧
    (∃ (s : State), s.pwr.parking = false) ∧
    (∃ (s : State), s.pwr.parking = true ∧ ((∀ b, b < 12 → s.parkMarked b = true → s.bayOf b = .parked)) ∧ s.dsp.parkNext = []) ∧
    (∃ (s : State), ((s.pwr.mainOk = false ∨ s.pwr.quiesce = true))) ∧
    (∃ (s : State), s.pwr.mainOk = true ∧ s.pwr.quiesce = false ∧ s.pwr.entry = none ∧ s.pwr.state = 0 ∧ s.tg.en = true ∧ ((∀ d e, s.entOf d = some e → e.confirm = none)) ∧ tblWf none s.deck.ent) ∧
    (∃ (s : State), ((s.pwr.quiesce = false ∨ s.pwr.quiesceStep ≠ 5 ∨ s.anc.queue ≠ [] ∨ s.keys.taken ≠ [] ∨ s.evr.keptPending ≠ []))) ∧
    (∃ (s : State), s.pwr.quiesce = true ∧ s.pwr.quiesceStep = 5 ∧ s.anc.queue = [] ∧ s.keys.taken = [] ∧ s.evr.keptPending = [] ∧ (∀ x ∈ s.entries, x.2.st ≠ .releasing)) ∧
    (∃ (s : State), s.backupOnly = true) ∧
    (∃ (m : Nat) (s : State), s.backupOnly = false ∧ ((m ≠ 0 ∨ s.hw.onStore = false))) ∧
    (∃ (s : State) (c : Instr), (((c = .chargeUpdate 0 ∧ s.hw.onStore = true) ∨ (c = .auxPowerLoss ∧ s.hw.aux = true ∧ s.pwr.mainOk = false ∧ (s.pwr.quiesce = false ∨ s.pwr.charge = 0))))) ∧
    (∃ (s : State) (c : Instr), (((c = .chargeUpdate 0 ∧ s.hw.onStore = true) ∨ (c = .auxPowerLoss ∧ s.hw.aux = true ∧ s.pwr.mainOk = false ∧ (s.pwr.quiesce = false ∨ s.pwr.charge = 0))))) ∧
    (∃ (s : State) (c : Instr), (((c = .chargeUpdate 0 ∧ s.hw.onStore = true) ∨ (c = .auxPowerLoss ∧ s.hw.aux = true ∧ s.pwr.mainOk = false ∧ (s.pwr.quiesce = false ∨ s.pwr.charge = 0))))) ∧
    (∃ (s : State), s.hw.aux = false) ∧
    (∃ (s : State), s.hw.aux = true ∧ ((s.pwr.mainOk = true ∨ (s.pwr.quiesce = true ∧ s.pwr.charge ≠ 0)))) ∧
    (∃ (s : State), s.hw.softStart = true) ∧
    (∃ (s : State), s.hw.softStart = false) :=
  ⟨⟨onBk up, Or.inr (Or.inr (by decide +kernel))⟩,
   ⟨30, 30, up, by decide +kernel⟩,
   ⟨5, 20, up, by decide +kernel⟩,
   ⟨60, 60, up, by decide +kernel⟩,
   ⟨up, by decide +kernel⟩,
   ⟨{ up with pwr.parking := true, pwr.alloc := 0 }, by decide +kernel⟩,
   ⟨{ up with pwr.mainOk := false }, Or.inl (by decide +kernel)⟩,
   ⟨up, ⟨by decide +kernel, by decide +kernel, by decide +kernel, by decide +kernel, by decide +kernel, (by intro _ _ h; cases h), by decide +kernel⟩⟩,
   ⟨up, Or.inl (by decide +kernel)⟩,
   ⟨{ up with pwr.quiesce := true, pwr.quiesceStep := 5 }, by decide +kernel⟩,
   ⟨onBk up, by decide +kernel⟩,
   ⟨3000000, up, ⟨by decide +kernel, Or.inl (by decide +kernel)⟩⟩,
   ⟨{ up with hw.aux := false, hw.onStore := true }, .chargeUpdate 0, Or.inl ⟨rfl, by decide +kernel⟩⟩,
   ⟨{ up with hw.aux := false, hw.onStore := true, anc.queue := [⟨0x400, [1, 2], 90, .none⟩] }, .chargeUpdate 0, Or.inl ⟨rfl, by decide +kernel⟩⟩,
   ⟨{ up with pwr.mainOk := false }, .auxPowerLoss, Or.inr ⟨rfl, by decide +kernel, by decide +kernel, Or.inl (by decide +kernel)⟩⟩,
   ⟨{ up with hw.aux := false }, by decide +kernel⟩,
   ⟨up, ⟨by decide +kernel, Or.inl (by decide +kernel)⟩⟩,
   ⟨up, by decide +kernel⟩,
   ⟨{ up with hw.softStart := false }, by decide +kernel⟩⟩

theorem wit_BootAndReset :
    (∃ (s : State), ((s.boot.booting = false ∨ s.pwr.mainOk = true ∨ s.pwr.quiesce = true ∨ s.hw.aux = false ∨ s.hw.softStart = false))) ∧
    (∃ (s : State), ((s.boot.request = none ∨ s.pwr.quiesce = true))) ∧
    (∃ (s : State), ((s.pwr.quiesce = false ∨ s.pwr.quiesceStep ≠ 7 ∨ s.hw.aux = false))) ∧
    (∃ (o : BootObs) (c : Instr) (k : BitVec 4) (s : State), (((c = .powerOn o ∧ k = 0 ∧ s.boot.booting = true ∧ s.pwr.mainOk = false ∧ s.pwr.quiesce = false ∧ s.hw.aux = true ∧ s.hw.softStart = true) ∨ (c = .moduleReset o ∧ s.boot.request = some k ∧ s.pwr.quiesce = false ∧ s.anc.queue = []) ∨ (c = .mainPowerReturn o ∧ k = 5 ∧ s.pwr.quiesce = true ∧ s.pwr.quiesceStep = 7 ∧ s.hw.aux = true)))) ∧
    (∃ (o : BootObs) (c : Instr) (k : BitVec 4) (s : State), (((c = .powerOn o ∧ k = 0 ∧ s.boot.booting = true ∧ s.pwr.mainOk = false ∧ s.pwr.quiesce = false ∧ s.hw.aux = true ∧ s.hw.softStart = true) ∨ (c = .moduleReset o ∧ s.boot.request = some k ∧ s.pwr.quiesce = false ∧ s.anc.queue = []) ∨ (c = .mainPowerReturn o ∧ k = 5 ∧ s.pwr.quiesce = true ∧ s.pwr.quiesceStep = 7 ∧ s.hw.aux = true)))) ∧
    (∃ (o : BootObs) (c : Instr) (k : BitVec 4) (s : State), (((c = .powerOn o ∧ k = 0 ∧ s.boot.booting = true ∧ s.pwr.mainOk = false ∧ s.pwr.quiesce = false ∧ s.hw.aux = true ∧ s.hw.softStart = true) ∨ (c = .moduleReset o ∧ s.boot.request = some k ∧ s.pwr.quiesce = false ∧ s.anc.queue = []) ∨ (c = .mainPowerReturn o ∧ k = 5 ∧ s.pwr.quiesce = true ∧ s.pwr.quiesceStep = 7 ∧ s.hw.aux = true)))) ∧
    (∃ (o : BootObs) (c : Instr) (k : BitVec 4) (s : State), (((c = .powerOn o ∧ k = 0 ∧ s.boot.booting = true ∧ s.pwr.mainOk = false ∧ s.pwr.quiesce = false ∧ s.hw.aux = true ∧ s.hw.softStart = true) ∨ (c = .moduleReset o ∧ s.boot.request = some k ∧ s.pwr.quiesce = false ∧ s.anc.queue = []) ∨ (c = .mainPowerReturn o ∧ k = 5 ∧ s.pwr.quiesce = true ∧ s.pwr.quiesceStep = 7 ∧ s.hw.aux = true)))) ∧
    (∃ (o : BootObs) (x : JRec) (s : State), s.boot.booting = true ∧ s.pwr.mainOk = false ∧ s.pwr.quiesce = false ∧ s.hw.aux = true ∧ s.hw.softStart = true ∧ s.anc.lost = [] ∧ s.anc.shadow = none ∧ o.ancLost = [] ∧ jRecOf (s.flashRead (jAddr false 0) 32) = some x ∧ s.flashRead (jAddr false 0) 32 ≠ List.replicate 32 0xFF ∧ s.flashRead (jAddr false 1) 32 = List.replicate 32 0xFF ∧ s.flashRead (jAddr true 0) 32 = List.replicate 32 0xFF ∧ 1 ≤ x.kind ∧ x.kind ≤ 4 ∧ x.tenant ≤ 1024 ∧ x.seq ≤ (s.ancGet (0x400 + x.tenant)).toNat % 2 ^ 32) ∧
    (∃ (s : State), ((s.boot.booting = false ∨ s.pwr.mainOk = false ∨ s.par.held = true ∨ s.mi.dramReady = false ∨ s.rng.st ≠ 1 ∨ s.boot.request.isSome = true ∨ s.bootAdmitted = false))) ∧
    (∃ (s : State), s.boot.booting = true ∧ s.pwr.mainOk = true ∧ s.par.held = false ∧ s.mi.dramReady = true ∧ s.rng.st = 1 ∧ s.boot.request = none ∧ s.boot.romHalt = false ∧ s.pwr.quiesce = false ∧ s.anc.queue = [] ∧ s.keys.taken = [] ∧ s.mss.rels = [] ∧ s.trs.replHeld = [] ∧ s.tg.held = [] ∧ s.boot.writes = [] ∧ s.boot.voids = [] ∧ s.admits 30 = true ∧ s.ancWorn 7 1 = false ∧ tblWf 0 s.anc.words ∧ tblWf false s.anc.lost ∧ tblWf {} s.hiu.tn) :=
  ⟨⟨up, Or.inl (by decide +kernel)⟩,
   ⟨up, Or.inl (by decide +kernel)⟩,
   ⟨up, Or.inl (by decide +kernel)⟩,
   ⟨obs, .powerOn obs, 0, {}, Or.inl ⟨rfl, by decide +kernel, by decide +kernel, by decide +kernel, by decide +kernel, by decide +kernel, by decide +kernel⟩⟩,
   ⟨obs, .powerOn obs, 0, { ({} : State) with anc.shadow := some (0x400, [1, 2]) }, Or.inl ⟨rfl, by decide +kernel, by decide +kernel, by decide +kernel, by decide +kernel, by decide +kernel, by decide +kernel⟩⟩,
   ⟨obs, .moduleReset obs, 2, { up with boot.request := some 2 }, Or.inr (Or.inl ⟨rfl, by decide +kernel, by decide +kernel, by decide +kernel⟩)⟩,
   ⟨obs, .mainPowerReturn obs, 5, { up with pwr.quiesce := true, pwr.quiesceStep := 7 }, Or.inr (Or.inr ⟨rfl, by decide +kernel, by decide +kernel, by decide +kernel, by decide +kernel⟩)⟩,
   ⟨obs, ⟨1, 3, 1, 8, 7⟩, jrnl, by decide +kernel⟩,
   ⟨up, Or.inl (by decide +kernel)⟩,
   ⟨{ up with boot := { booting := true, enItem := 3 } }, by decide +kernel⟩⟩

/-! ## Well-formed commands: one ill-formed term for each check, and a well-formed one beside it -/

/-- A message header with every field 0. -/
def hdr0 : Hdr := ⟨.a, 0, 0, 0, 0, 0, 0, false⟩

/-- A read of 8 bytes of the pool by the MSS. -/
def acc0 : Access := ⟨0, 0, .read, 0x40000000, 8, [], false, false, none, .clean⟩

/-- A proposal to commit. -/
def prop0 : Proposal := ⟨0, 0, .commit, 1, 5, 1, 0, [], [], []⟩

/-- A resynchronisation message of tenant 1. -/
def rs0 : ResyncMsg := ⟨1, [], true, 0, [0, 0, 0]⟩

theorem test_wf_queue_of_vf :
    (Instr.qpDisable 0 63).wf = true ∧ (Instr.qpDisable 3 15).wf = true ∧ (Instr.qpDisable 3 16).wf = false ∧
      (Instr.sqDoorbell 3 16 0).wf = false ∧ (Instr.cqHeadWrite 3 16 0).wf = false ∧ (Instr.qpEnable 3 16 0).wf = false ∧
      (Instr.imodTimerExpiry 3 16).wf = false := by decide

theorem test_wf_register_of_view :
    (Instr.registerWrite .pf (.qpCfg 0 63) 0).wf = true ∧ (Instr.registerWrite .pf (.qpCfg 2 16) 0).wf = false ∧
      (Instr.registerWrite (.vf 2) (.qpCfg 2 0) 0).wf = true ∧ (Instr.registerWrite (.vf 2) (.qpCfg 3 0) 0).wf = false ∧
      (Instr.registerWrite (.vf 0) (.qpCfg 0 0) 0).wf = false ∧ (Instr.registerWrite (.vf 2) (.msixAddr 2 16) 0).wf = false ∧
      (Instr.registerWrite (.vf 2) (.msixMask 0 1) 0).wf = false := by decide

theorem test_wf_vector_of_vf :
    (Instr.msixUnmask 0 2047).wf = true ∧ (Instr.msixUnmask 2 15).wf = true ∧ (Instr.msixUnmask 2 16).wf = false := by decide

theorem test_wf_vf_count : (Instr.vfEnableSet 1024).wf = true ∧ (Instr.vfEnableSet 1025).wf = false := by decide

theorem test_wf_power_state :
    (Instr.configRequest 0 (some true)).wf = true ∧ (Instr.configRequest 2 none).wf = true ∧ (Instr.configRequest 2 (some true)).wf = false := by
  decide

theorem test_wf_descriptors :
    (Instr.descriptorArrival 0 [zeros 128]).wf = true ∧ (Instr.descriptorArrival 0 []).wf = false ∧
      (Instr.descriptorArrival 0 [zeros 127]).wf = false ∧ (Instr.descriptorArrival 0 (List.replicate 9 (zeros 128))).wf = false := by
  decide +kernel

theorem test_wf_reads :
    (Instr.inputReadComplete 0 2 (.data [1, 2])).wf = true ∧ (Instr.inputReadComplete 0 2 (.data [1])).wf = false ∧
      (Instr.inputReadComplete 0 0 (.data [])).wf = false ∧ (Instr.inputReadComplete 0 2 (.error .abort)).wf = true ∧
      (Instr.keyFillComplete 0 (.data (zeros 160))).wf = true ∧ (Instr.keyFillComplete 0 (.data (zeros 159))).wf = false := by
  decide +kernel

theorem test_wf_chain :
    (Instr.chainPlace 0 .cipher [req0]).wf = true ∧ (Instr.chainPlace 0 .cipher []).wf = false ∧
      (Instr.chainPlace 0 .cipher (List.replicate 9 req0)).wf = false := by decide +kernel

theorem test_wf_request_widths :
    Req.wf req0 = true ∧ Req.wf { req0 with iv := [] } = false ∧ Req.wf { req0 with cmp := zeros 15 } = false ∧
      Req.wf { req0 with data := zeros 49 } = false ∧ Req.wf { req0 with op := 256 } = false ∧ Req.wf { req0 with keyOp := 256 } = false ∧
      Req.wf { req0 with slot := 0x1000000 } = false ∧ Req.wf { req0 with tenant := 1025 } = false ∧
      Req.wf { req0 with deckIdx := 32768 } = false ∧ Req.wf { req0 with attempt := 4 } = false ∧ Req.wf { req0 with pier := 128 } = false ∧
      Req.wf { req0 with len := 0x100000000 } = false ∧ Req.wf { req0 with aux := 0x100000000 } = false ∧
      Req.wf { req0 with src := 0x10000000000 } = false ∧ Req.wf { req0 with dst := 0x10000000000 } = false := by decide +kernel

theorem test_wf_access :
    acc0.wf = true ∧ Access.wf { acc0 with init := 15 } = false ∧ Access.wf { acc0 with unit := 1 } = false ∧
      Access.wf { acc0 with init := 8, unit := 1 } = true ∧ Access.wf { acc0 with init := 8, unit := 2 } = false ∧
      Access.wf { acc0 with len := 0 } = false ∧ Access.wf { acc0 with len := 257 } = false ∧
      Access.wf { acc0 with addr := 0x40000FFC } = false ∧ Access.wf { acc0 with addr := 0x10000000000 } = false ∧
      Access.wf { acc0 with kind := .fetch } = true ∧ Access.wf { acc0 with kind := .fetch, init := 1 } = false ∧
      Access.wf { acc0 with kind := .write } = false ∧ Access.wf { acc0 with wdata := zeros 8 } = false ∧
      Access.wf { acc0 with kind := .write, wdata := zeros 8 } = true := by decide +kernel

theorem test_wf_header :
    hdr0.wf = true ∧ Hdr.wf { hdr0 with src := 65536 } = false ∧ Hdr.wf { hdr0 with dst := 65536 } = false ∧
      Hdr.wf { hdr0 with seq := 0x10000000000000000 } = false ∧ Hdr.wf { hdr0 with ack := 0x10000000000000000 } = false ∧
      Hdr.wf { hdr0 with term := 0x100000000 } = false ∧ Hdr.wf { hdr0 with tenant := 65536 } = false ∧
      (Instr.heartbeat { hdr0 with dst := 65536 }).wf = false := by decide +kernel

theorem test_wf_proposal :
    prop0.wf = true ∧ Proposal.wf { prop0 with tenant := 1025 } = false ∧ Proposal.wf { prop0 with origin := 65536 } = false ∧
      Proposal.wf { prop0 with testIn := zeros 16 } = false ∧ Proposal.wf { prop0 with kind := .stage } = false ∧
      Proposal.wf { prop0 with kind := .stage, testIn := zeros 16, testOut := zeros 16, blobs := [zeros 160] } = true ∧
      Proposal.wf { prop0 with kind := .stage, testIn := zeros 16, testOut := zeros 16, blobs := [zeros 159] } = false := by
  decide +kernel

theorem test_wf_replicated :
    (Instr.repl hdr0 1 (.clTimeout 100)).wf = true ∧ (Instr.repl hdr0 1 (.clTimeout 99)).wf = false ∧
      (Instr.repl hdr0 1 (.clTimeout 2001)).wf = false ∧ (Instr.repl hdr0 1 (.memberAdd 65536 1 0)).wf = false ∧
      (Instr.repl hdr0 1 (.memberAdd 9 4 0)).wf = false := by decide +kernel

theorem test_wf_resync :
    (Instr.resyncData hdr0 rs0).wf = true ∧ (Instr.resyncData hdr0 { rs0 with tenant := 1025 }).wf = false ∧
      (Instr.resyncData hdr0 { rs0 with cfg := [0] }).wf = false ∧ (Instr.resyncData hdr0 { rs0 with tenant := 0xFFFF }).wf = false ∧
      (Instr.resyncData hdr0 { rs0 with tenant := 0xFFFF, cfg := [] }).wf = true ∧
      (Instr.apply hdr0 ⟨0, 1025, 0, 0, 0, []⟩).wf = false ∧ (Instr.apply hdr0 ⟨0, 1024, 0, 0, 0, []⟩).wf = true := by decide +kernel

theorem test_wf_enrolment :
    (Instr.enrolChallenge hdr0 (zeros 32) [] [] []).wf = true ∧ (Instr.enrolChallenge hdr0 (zeros 31) [] [] []).wf = false ∧
      (Instr.crkPrepare hdr0 1 0 [(3, zeros 160)]).wf = true ∧ (Instr.crkPrepare hdr0 1 0 [(3, zeros 161)]).wf = false := by decide +kernel

theorem test_wf_management :
    (Instr.commission ⟨.pf, 0, zeros 65504, [], false⟩).wf = true ∧ (Instr.commission ⟨.pf, 0, zeros 65504, [0], false⟩).wf = false ∧
      (Instr.attest .pf 0 (zeros 32)).wf = true ∧ (Instr.attest .pf 0 (zeros 33)).wf = false ∧
      (Instr.ccPart 0 [] none).wf = true ∧ (Instr.ccPart 0 [] (some (zeros 160))).wf = true ∧
      (Instr.ccPart 0 [] (some [])).wf = false := by decide +kernel

theorem test_wf_service_frame :
    (Instr.serviceFrame 0 0 44 45 [0]).wf = true ∧ (Instr.serviceFrame 0 0 0 0 [0]).wf = false ∧
      (Instr.serviceFrame 0 0 45 45 [0]).wf = false ∧ (Instr.serviceFrame 0 0 0 46 [0]).wf = false ∧
      (Instr.serviceFrame 0 0 0 1 []).wf = false ∧ (Instr.serviceFrame 0 0 0 1 (zeros 1493)).wf = false := by decide +kernel

theorem test_wf_rng :
    (Instr.adaptiveWindowEnd 0 (List.replicate 512 0)).wf = true ∧ (Instr.adaptiveWindowEnd 0 [0]).wf = false ∧
      (Instr.sourceStartupTestEnd 0 (List.replicate 1024 0)).wf = true ∧ (Instr.sourceStartupTestEnd 0 []).wf = false ∧
      (Instr.rngDraw 0 65536).wf = true ∧ (Instr.rngDraw 0 65537).wf = false ∧ (Instr.rngDraw 0 0).wf = false := by decide +kernel

theorem test_wf_memory_instance :
    (Instr.sramScrub .pierLocal 127 0 .clean).wf = true ∧ (Instr.sramScrub .pool 1 0 .clean).wf = false ∧
      (Instr.sramScrub .operand 47 0 .clean).wf = true ∧ (Instr.sramScrub .operand 48 0 .clean).wf = false ∧
      (Instr.sramScrub .reqQueue 96 0 .clean).wf = false := by decide +kernel

/-! ## Known answers of the algorithms that the spec takes from published standards (R315, R319, R325), by the standards' own examples -/

/-- AES-128, FIPS 197 appendix C.1. -/
theorem test_aes128 :
    aesEnc (hexB 16 0x000102030405060708090A0B0C0D0E0F) (hexB 16 0x00112233445566778899AABBCCDDEEFF) =
      hexB 16 0x69C4E0D86A7B0430D8CDB78070B4C55A := by decide +kernel

/-- AES-256 deciphers, FIPS 197 appendix C.3. -/
theorem test_aes256_inverse :
    aesDec (hexB 32 0x000102030405060708090A0B0C0D0E0F101112131415161718191A1B1C1D1E1F) (hexB 16 0x8EA2B7CA516745BFEAFC49904B496089) =
      hexB 16 0x00112233445566778899AABBCCDDEEFF := by decide +kernel

/-- The two S-boxes of FIPS 197 undo each other, and the first maps 0x53 to 0xED (its section 5.1.1). -/
theorem test_sbox :
    sbox 0x53 = 0xED ∧ sbox 0 = 0x63 ∧ (List.range 256).all (fun n => isbox (sbox (byteOf n)) == byteOf n) = true := by decide +kernel

/-- DEA, FIPS 81: the well-known example under the key 133457799BBCDFF1. -/
theorem test_dea :
    desEnc (hexB 8 0x133457799BBCDFF1) (hexB 8 0x0123456789ABCDEF) = hexB 8 0x85E813540F0AB405 ∧
      desDec (hexB 8 0x133457799BBCDFF1) (hexB 8 0x85E813540F0AB405) = hexB 8 0x0123456789ABCDEF := by decide +kernel

/-- CMAC of the empty message, RFC 4493 example 1. -/
theorem test_cmac_empty :
    cmacB ⟨true, hexB 16 0x2B7E151628AED2A6ABF7158809CF4F3C⟩ [] = hexB 16 0xBB1D6929E95937287FA37D129B756746 := by decide +kernel

/-- GCM, test case 2 of its specification. -/
theorem test_gcm :
    gcmSeal (zeros 16) (zeros 12) [] (zeros 16) =
      (hexB 16 0x0388DACE60B6A392F328C2B971B2FE78, hexB 16 0xAB6E47D42CEC13BDF53A67B21257BDDF) := by decide +kernel

/-- XTS, vector 1 of IEEE 1619. -/
theorem test_xts :
    xts true (zeros 32) 0 (zeros 32) = hexB 32 0x917CF69EBD68B2EC9B9FE9A3EADDA692CD43D2F59598ED858C02C2652FBF922E := by decide +kernel

/-- FF1, sample 1 of SP 800-38G. -/
theorem test_ff1 :
    ff1 true (hexB 16 0x2B7E151628AED2A6ABF7158809CF4F3C) [] 10 [0, 1, 2, 3, 4, 5, 6, 7, 8, 9] = [2, 4, 3, 3, 4, 7, 7, 4, 8, 4] := by
  decide +kernel

/-- SHA-256, SHA-384 and SHA-512 of the three letters abc, FIPS 180. -/
theorem test_sha :
    sha256B [0x61, 0x62, 0x63] = hexB 32 0xBA7816BF8F01CFEA414140DE5DAE2223B00361A396177A9CB410FF61F20015AD ∧
      sha384B [0x61, 0x62, 0x63] = hexB 48 0xCB00753F45A35E8BB5A03D699AC65007272C32AB0EDED1631A8B605A43FF5BED8086072BA1E7CC2358BAECA134C825A7 ∧
      (sha512B [0x61, 0x62, 0x63]).take 16 = hexB 16 0xDDAF35A193617ABACC417349AE204131 := by decide +kernel

/-- The PIN key of the first transaction in the TDEA example of X9.24. -/
theorem test_dukpt :
    (dukptTdea (hexB 16 0x0123456789ABCDEFFEDCBA9876543210) (hexB 10 0xFFFF9876543210E00001)).1 =
      hexB 16 0x042666B49184CF5C68DE9628D0397B36 := by decide +kernel

/-- The base point of each prime curve lies on it. -/
theorem test_curves :
    [ecP256, ecP384, ecP521, ecB256, ecB384].all (fun c => c.on c.gx c.gy) = true := by decide +kernel

/-- The multiplication of a point by 1 and by 2 on P-256 agree with addition. -/
theorem test_point_double : ecP256.mul 1 ecP256.g = ecP256.g ∧ ecP256.mul 2 ecP256.g = ecP256.add ecP256.g ecP256.g := by decide +kernel

end Sys2Proof.Tests
end

section
/-! PROOFS. The scope of the model (00_scope.md): how a step takes the front of the queue, and how a register write acts by access type
and view. -/

namespace Sys2Proof.Machine

/-! ## One step (log 2) -/

/-- With nothing waiting, a step is an idle one. -/
theorem step_idle (s : State) (h : s.pending = []) : step s = .next (s.advance (s.now + 1)) := by
  unfold step
  rw [h]

/-- A command at the front of the queue is executed on the state with the rest of the queue. -/
theorem step_front (c : Instr) (l : List Instr) (s : State) (h : s.pending = c :: l) : step s = exec c { s with pending := l } := by
  unfold step
  rw [h]

/-- Device time moved on by 1 µs takes the backup domain's time with it. -/
theorem State.advance_succ (s : State) : s.advance (s.now + 1) = { s with now := s.now + 1, backupUs := s.backupUs + 1 } := by
  unfold State.advance
  rw [if_pos (Nat.lt_succ_self s.now), Nat.add_sub_cancel_left]

/-- Settles O1. -/
theorem stepExecutesTheFront : Obligations.StepExecutesTheFront := by
  unfold Obligations.StepExecutesTheFront
  refine ⟨fun c s => step_front c s.pending _ rfl, step_front, fun s h => ?_⟩
  rw [step_idle s h, State.advance_succ]

/-! ## Register writes (R11, R12) -/

/-- A view that is not reached ignores the write. -/
theorem registerWrite_unreached (v : View) (r : Reg) (x : DWord) (s : State) (h : s.viewOk v = false) :
    exec (.registerWrite v r x) s = .next s := by
  simp [exec, execRegisterWrite, h]

/-- A view that is reached writes the register. -/
theorem registerWrite_reached (v : View) (r : Reg) (x : DWord) (s : State) (h : s.viewOk v = true) :
    exec (.registerWrite v r x) s = .next (s.writeReg v r x) := by
  simp [exec, execRegisterWrite, h]

/-- A queue-pair or MSI-X register is written in the view of its own function. -/
theorem State.writeReg_own (v : View) (r : Reg) (x : DWord) (f : Nat) (s : State) (hr : regFn r = some f) (hv : viewFn v = some f) :
    s.writeReg v r x = s.writeRing r x := by
  simp [State.writeReg, hr, hv]

/-- The view of another function ignores a write of such a register. -/
theorem State.writeReg_other (v : View) (r : Reg) (x : DWord) (f : Nat) (s : State) (hr : regFn r = some f) (hv : viewFn v ≠ some f) :
    s.writeReg v r x = s := by
  simp [State.writeReg, hr, hv]

/-- Every view ignores a write of a read-only register. -/
theorem State.writeReg_readOnly (v : View) (x : DWord) (s : State) : s.writeReg v .readOnly x = s := by
  cases v <;> rfl

/-- A view of function `n` does not hold the registers of function `f`. -/
theorem viewFn_vf_ne (n f : Fn) (h : f ≠ n) : viewFn (.vf n) ≠ some f.val := by
  simp only [viewFn, ne_eq]
  split
  · simp
  · simpa using fun hn : n.val = f.val => h (Fin.ext hn.symm)

/-- The PF writes a queue pair of its own. -/
theorem registerWrite_pf_qp (r : Reg) (q : Fin 64) (x : DWord) (s : State) (h : s.pfBar = true) (hr : regFn r = some 0)
    (hw : s.writeRing r x = s.writeQp 0 q r x) : exec (.registerWrite .pf r x) s = .next (s.writeQp 0 q r x) := by
  rw [registerWrite_reached .pf r x s h, State.writeReg_own .pf r x 0 s hr rfl, hw]

/-- The PF has 64 queue pairs. -/
theorem not_qpCount_pf_le (q : Fin 64) : ¬ qpCount 0 ≤ q.val := Nat.not_le.2 q.isLt

/-- A write of HIU_QP_STATUS clears exactly the error bits written as 1. -/
theorem State.writeQp_pf_status (q : Fin 64) (x : DWord) (s : State) :
    s.writeQp 0 q (.qpStatus 0 q) x = s.setQp 0 q { s.qpOf 0 q with err := (s.qpOf 0 q).err &&& ~~~(x.setWidth 3) } := by
  unfold State.writeQp
  rw [if_neg (not_qpCount_pf_le q)]
  rfl

/-- A write of the submission ring's base counts only while EN is 0 (R58). -/
theorem State.writeQp_pf_sqBase (q : Fin 64) (x : DWord) (s : State) :
    s.writeQp 0 q (.qpSqBase 0 q) x = if (s.qpOf 0 q).en then s else s.setQp 0 q { s.qpOf 0 q with sqBase := x } := by
  unfold State.writeQp
  rw [if_neg (not_qpCount_pf_le q)]
  rfl

/-- Clearing the mask of an MSI-X entry clears its pending bit and sends the message that was pending (R71). -/
theorem State.writeMsix_pf_unmask (v : Fin 2048) (x : DWord) (s : State) (h : x.getLsbD 0 = false) :
    s.writeMsix 0 v (.msixMask 0 v) x = { s with
      out := s.out ++ (let e := tblGet ({} : Msix) s.hiu.msix v.val
        if e.masked && e.pending then [.msix 0 v e.addr e.data] else [])
      hiu.msix := tblMod {} v.val (fun e => { e with masked := false, pending := false }) s.hiu.msix } := by
  simp only [State.writeMsix, h, Nat.mul_zero, Nat.zero_add, Bool.false_eq_true, if_false]
  rw [if_neg (by simp)]
  split
  · rfl
  · rw [List.append_nil]

/-- A write that is outside the ring registers, in the view of the PF. -/
theorem registerWrite_pf_plain (r : Reg) (x : DWord) (s : State) (h : s.pfBar = true) (hr : regFn r = none) :
    exec (.registerWrite .pf r x) s = .next (s.writePf r x) := by
  rw [registerWrite_reached .pf r x s h, State.writeReg, hr]

/-- The same in the view of the MSS, which is always reached. -/
theorem registerWrite_mss_plain (r : Reg) (x : DWord) (s : State) (hr : regFn r = none) :
    exec (.registerWrite .mss r x) s = .next (s.writeMss r x) := by
  rw [registerWrite_reached .mss r x s rfl, State.writeReg, hr]

/-- Settles O7. -/
theorem registerWriteByAccessType : Obligations.RegisterWriteByAccessType := by
  unfold Obligations.RegisterWriteByAccessType
  refine ⟨registerWrite_unreached, fun v x s => ?readOnly, fun n f q x s hf => ?other, fun q x s h => ?status, fun q x s h => ?base,
    fun f x s h => ?tenant, fun x s h => ?energy, fun v x s h hx => ?mask, fun x s => ?mss⟩
  case readOnly =>
    by_cases hv : s.viewOk v = true
    · rw [registerWrite_reached v _ x s hv, State.writeReg_readOnly]
    · exact registerWrite_unreached v _ x s (by simpa using hv)
  case other =>
    by_cases hv : s.viewOk (.vf n) = true
    · rw [registerWrite_reached _ _ x s hv, State.writeReg_other _ _ x f s rfl (viewFn_vf_ne n f hf)]
    · exact registerWrite_unreached _ _ x s (by simpa using hv)
  case status => rw [registerWrite_pf_qp (.qpStatus 0 q) q x s h rfl rfl, State.writeQp_pf_status]
  case base => rw [registerWrite_pf_qp (.qpSqBase 0 q) q x s h rfl rfl, State.writeQp_pf_sqBase]
  case tenant => exact registerWrite_pf_plain (.tnEvt f) x s h rfl
  case energy => exact registerWrite_pf_plain .nrgEvt x s h rfl
  case mask =>
    have hw := registerWrite_reached .pf (.msixMask 0 v) x s h
    rw [State.writeReg_own .pf (.msixMask 0 v) x 0 s rfl rfl] at hw
    exact ⟨_, hw.trans (congrArg Host.Outcome.next (State.writeMsix_pf_unmask v x s hx)), rfl, rfl⟩
  case mss =>
    exact ⟨registerWrite_mss_plain .ancErr x s rfl, registerWrite_mss_plain .cfgLen x s rfl,
      registerWrite_mss_plain .cfgFlashAddr x s rfl, registerWrite_mss_plain .pwrMode x s rfl,
      registerWrite_mss_plain .pwrWakeTimer x s rfl⟩

end Sys2Proof.Machine
end

section
/-! PROOFS. Every command of the table is executed to a next state and leaves the queue of the commands behind it alone
(00_scope.md; the model's choices of log 1 and log 2): one lemma for each operation of the units that the frames of the
shared operations do not cover, then the commands. -/

namespace Sys2Proof.Machine

/-! ## The queue of what an operation answers -/

/-- The queue that a step leaves behind: none where it stops. -/
def queueAfter : Host.Outcome State Fault Refusal → Option (List Instr)
  | .next t => some t.pending
  | _ => none

@[simp] theorem queueAfter_next (t : State) : queueAfter (.next t) = some t.pending := rfl

@[simp] theorem queueAfter_ite (c : Prop) [Decidable c] (a b : Host.Outcome State Fault Refusal) :
    queueAfter (if c then a else b) = if c then queueAfter a else queueAfter b := apply_ite queueAfter c a b

theorem queueAfter_eq_some (o : Host.Outcome State Fault Refusal) (q : List Instr) :
    queueAfter o = some q ↔ ∃ t, o = .next t ∧ t.pending = q := by
  cases o <;> simp [queueAfter]

@[simp] theorem State.ite_pending (c : Prop) [Decidable c] (a b : State) :
    (if c then a else b).pending = if c then a.pending else b.pending := apply_ite State.pending c a b

/-- Both branches of a choice have the queue `q`. -/
theorem State.ite_keeps {c : Prop} [Decidable c] {a b : State} {q : List Instr} (ha : a.pending = q) (hb : b.pending = q) :
    (if c then a else b).pending = q := by rw [State.ite_pending, ha, hb, ite_self]

/-- The queue of a state that a match has taken out of a pair. -/
theorem snd_pending {α : Type} {p : α × State} {a : α} {t : State} (h : p = (a, t)) : t.pending = p.2.pending := by rw [h]

/-- The same for the first of a pair. -/
theorem fst_pending {α : Type} {p : State × α} {a : α} {t : State} (h : p = (t, a)) : t.pending = p.1.pending := by rw [h]

/-- Whatever state a draw answers has the queue `q`. -/
def DrawRes.Queue (q : List Instr) : DrawRes → Prop
  | .ok _ t => t.pending = q
  | .stall => True
  | .fail t => t.pending = q

/-- The state that a bind answers has the queue `q`. -/
def BRes.Queue (q : List Instr) : BRes → Prop
  | .ok _ t => t.pending = q
  | .fail _ t => t.pending = q
  | .need _ t => t.pending = q
  | .wait t => t.pending = q

/-- Whatever state the execution of an action answers has the queue `q`. -/
def ActRes.Queue (q : List Instr) : ActRes → Prop
  | .done _ t => t.pending = q
  | .begun t => t.pending = q
  | .refuse _ t => t.pending = q
  | .stall => True

/-! ## Operations and commands, unit by unit -/

/-! ### Anchor store -/

@[simp] theorem State.anchorsCut_pending (s : State) : s.anchorsCut.pending = s.pending := by
  unfold State.anchorsCut
  split <;> simp

@[simp] theorem State.anchorsRepair_pending (s : State) : s.anchorsRepair.pending = s.pending := by
  unfold State.anchorsRepair
  split <;> simp

/-! ### Memories -/

@[simp] theorem State.poison_pending (k : Nat) (s : State) : (s.poison k).pending = s.pending := by simp [State.poison]

@[simp] theorem State.clearRange_pending (a n : Nat) (s : State) :
    (s.clearRange a n).pending = s.pending := by simp [State.clearRange]

@[simp] theorem State.clearPool_pending (s : State) : s.clearPool.pending = s.pending := by simp [State.clearPool]

@[simp] theorem State.clearMssSram_pending (s : State) : s.clearMssSram.pending = s.pending := by simp [State.clearMssSram]

/-! ### Configuration flash -/

@[simp] theorem State.cfgStart_pending (op : CfgOp) (s : State) : (s.cfgStart op).pending = s.pending := by simp [State.cfgStart]

@[simp] theorem execCfgCmdDone_queue (ok : Bool) (s : State) : queueAfter (execCfgCmdDone ok s) = some s.pending := by
  unfold execCfgCmdDone
  (repeat' split) <;> simp

/-! ### Key cache and blobs -/

@[simp] theorem State.nextIv_pending (s : State) : (s.nextIv).2.pending = s.pending := by simp [State.nextIv]

@[simp] theorem State.sealParts_pending (n : HdrNew) (parent : Bytes) (i : Nat) (ms : List Bytes) (s : State) :
    (s.sealParts n parent i ms).2.pending = s.pending := by
  induction ms generalizing i s with
  | nil => rfl
  | cons m ms ih => simp [State.sealParts, ih]

theorem State.install_pending {hdr mat : Bytes} {parent k : Nat} {s t : State} (h : s.install hdr mat parent = some (k, t)) :
    t.pending = s.pending := by
  unfold State.install at h
  dsimp only at h
  split at h <;> cases h
  simp

/-! ### Binding of keys -/

theorem State.loadCrk_pending {s t : State} (h : s.loadCrk = some t) : t.pending = s.pending := by
  unfold State.loadCrk at h
  extract_lets found b at h
  by_cases hf : found = true
  · rw [if_pos hf] at h
    cases h
    rfl
  · rw [if_neg hf] at h
    by_cases hl : s.ks.loaded = true
    · rw [if_pos hl] at h
      obtain ⟨m, -, rfl⟩ := Option.map_eq_some_iff.1 h
      simp
    · rw [if_neg hl] at h
      cases h

theorem State.crkFor_pending {s t : State} {epoch : Nat} {crk : Bytes} (h : s.crkFor epoch = some (crk, t)) :
    t.pending = s.pending := by
  unfold State.crkFor at h
  split at h
  · obtain ⟨u, hu, hx⟩ := Option.map_eq_some_iff.1 h
    cases hx
    exact State.loadCrk_pending hu
  · split at h
    · obtain ⟨m, -, hx⟩ := Option.map_eq_some_iff.1 h
      cases hx
      rfl
    · cases h

theorem bindTdk_queue (c : BCtx) (s : State) : (bindTdk c s).Queue s.pending := by
  unfold bindTdk
  extract_lets ep slot hit
  split; · rfl
  split; · rfl
  split; · rfl
  split; · rfl
  split; · rfl
  split; · rfl
  split; · rfl
  split; · rfl
  split; · rfl
  rename_i hc
  have ht := State.crkFor_pending hc
  split
  · exact ht
  · simpa [BRes.Queue] using ht

theorem installAll_pending {parent : Nat} {l : List (Bytes × Bytes)} {ks : List Nat} {s t : State}
    (h : installAll parent l s = some (ks, t)) : t.pending = s.pending := by
  induction l generalizing s ks with
  | nil => cases h; rfl
  | cons x l ih =>
    simp only [installAll] at h
    split at h
    · cases h
    · split at h <;> cases h
      exact (ih ‹_›).trans (State.install_pending ‹_›)

/-- A bind goes up the key hierarchy one level per unit of fuel: what it answers for the parent has the queue `s.pending`
(`hparent`), and installing the key below the parent keeps it. -/
theorem bindKey_queue (c : BCtx) (fuel level idx kid : Nat) (mode : BMode) (s : State) :
    (bindKey c fuel level idx kid mode s).Queue s.pending := by
  induction fuel generalizing level idx kid mode with
  | zero => rfl
  | succ fuel ih =>
    unfold bindKey
    extract_lets ep hit _ parent t2 t2' bs hd
    have hparent : ∀ h, (parent h).Queue s.pending := by
      intro h
      unfold parent
      split
      · exact bindTdk_queue c s
      · split
        · rfl
        · exact ih ..
    clear_value ep hit parent t2'
    split
    · split
      · rfl
      · exact State.ite_keeps rfl rfl
    · split
      · rfl
      · split
        · split
          · rfl
          · rename_i l _
            have hp := hparent ((l.map (fun x => x.hdr)).headD [])
            split
            · rename_i ps u hb
              rw [hb] at hp
              split
              · rename_i hi
                have hv := (installAll_pending hi).trans hp
                exact State.ite_keeps hv hv
              · exact hp
            · exact hp
        · split; · rfl
          split; · rfl
          split; · rfl
          split
          · have hp := hparent hd
            split
            · rename_i ps u hb
              rw [hb] at hp
              extract_lets pk pe
              split; · exact hp
              split; · exact hp
              split; · exact hp
              split
              · rename_i hi
                exact (installAll_pending hi).trans hp
              · exact hp
            · rename_i hb
              rw [hb] at hp
              exact hp
            · exact hp
          · rfl

theorem bindRef_queue (c : BCtx) (r : KRef) (s : State) : (bindRef c r s).Queue s.pending := by
  have ht := bindTdk_queue c s
  have hk := bindKey_queue c 5 0 r.idx r.kid r.mode s
  unfold bindRef
  (repeat' split) <;> simp_all [BRes.Queue]

/-! ### Start of items -/

@[simp] theorem State.bindFrom_pending (d : Nat) (t2ok : Bool) (reads : List (Nat × Nat)) (i : Nat) (rs : List KRef) (s : State) :
    (s.bindFrom d t2ok reads i rs).pending = s.pending := by
  induction rs generalizing t2ok i s with
  | nil => simp [State.bindFrom]
  | cons r rs ih =>
    unfold State.bindFrom
    split
    · rfl
    · rename_i e _
      dsimp only
      split
      · exact ih ..
      · have h := bindRef_queue ⟨e.fn, e.fetched, t2ok, ((bindOf e.binds i).map (fun b => (b.keyId, b.epoch) :: b.anc)).getD []⟩ r s
        split <;> simp_all [BRes.Queue]

@[simp] theorem State.bindOn_pending (d : Nat) (t2ok : Bool) (s : State) : (s.bindOn d t2ok).pending = s.pending := by
  unfold State.bindOn
  split <;> simp

@[simp] theorem State.stage8_pending (d : Nat) (e : Entry) (b : Body) (s : State) : (s.stage8 d e b).pending = s.pending := by
  unfold State.stage8
  split <;> simp

@[simp] theorem State.startItem_pending (d : Nat) (s : State) : (s.startItem d).pending = s.pending := by
  simp only [State.startItem]
  (repeat' split) <;> simp

@[simp] theorem execKeyFillComplete_queue (d : Idx) (r : HostRead) (s : State) :
    queueAfter (execKeyFillComplete d r s) = some s.pending := by
  unfold execKeyFillComplete
  (repeat' split) <;> simp

@[simp] theorem execInputReadComplete_queue (d : Idx) (n : Nat) (r : HostRead) (s : State) :
    queueAfter (execInputReadComplete d n r s) = some s.pending := by
  unfold execInputReadComplete
  (repeat' split) <;> simp

/-! ### Engines' shared operations -/

@[simp] theorem State.cancelReqs_pending (d : Nat) (s : State) :
    (s.cancelReqs d).pending = s.pending := by simp [State.cancelReqs]

/-! ### Dispatch, replay and piers -/

@[simp] theorem State.dropAttempt_pending (d : Nat) (s : State) :
    (s.dropAttempt d).pending = s.pending := by simp [State.dropAttempt]

@[simp] theorem State.holdItem_pending (d : Nat) (s : State) : (s.holdItem d).pending = s.pending := by
  unfold State.holdItem
  split <;> simp

@[simp] theorem State.restart_pending (d : Nat) (s : State) : (s.restart d).pending = s.pending := by
  unfold State.restart
  (repeat' split) <;> simp

@[simp] theorem State.replayMove_pending (p : Option Nat) (s : State) : (s.replayMove p).pending = s.pending := by
  unfold State.replayMove
  split <;> simp

@[simp] theorem State.redispatch_pending (d : Nat) (s : State) : (s.redispatch d).pending = s.pending := by
  unfold State.redispatch
  (repeat' split) <;> simp

@[simp] theorem State.pierFails_pending (p cause : Nat) (s : State) : (s.pierFails p cause).pending = s.pending := by
  unfold State.pierFails
  (repeat' split) <;> simp

theorem State.selectReady_pending {s t : State} {d : Nat} (h : s.selectReady = some (d, t)) : t.pending = s.pending := by
  simp only [State.selectReady] at h
  split at h
  · cases h
  · split at h <;> cases h
    rfl

@[simp] theorem State.grantTo_pending (p d : Nat) (s : State) : (s.grantTo p d).pending = s.pending := by
  unfold State.grantTo
  split <;> simp

@[simp] theorem execItemGrant_queue (s : State) : queueAfter (execItemGrant s) = some s.pending := by
  unfold execItemGrant
  (repeat' split) <;> try simp
  rename_i hsel
  exact State.selectReady_pending hsel

@[simp] theorem execTakePortRead_queue (p : PierNo) (s : State) : queueAfter (execTakePortRead p s) = some s.pending := by
  unfold execTakePortRead
  split <;> simp

@[simp] theorem State.countWdog_pending (s : State) : s.countWdog.pending = s.pending := by simp [State.countWdog]

@[simp] theorem execItemWatchdogExpiry_queue (p : PierNo) (s : State) :
    queueAfter (execItemWatchdogExpiry p s) = some s.pending := by
  unfold execItemWatchdogExpiry
  (repeat' split) <;> simp

@[simp] theorem execPierStallDetect_queue (p : PierNo) (s : State) : queueAfter (execPierStallDetect p s) = some s.pending := by
  unfold execPierStallDetect
  split <;> simp

/-! ### Random numbers -/

@[simp] theorem State.seedExp_pending (i a b : Nat) (seed : Bytes) (s : State) :
    (s.seedExp i a b seed).pending = s.pending := by simp [State.seedExp]

theorem State.rngTake_queue (n : Nat) (s : State) : (s.rngTake n).Queue s.pending := by
  unfold State.rngTake
  (repeat' split) <;> simp [DrawRes.Queue]

@[simp] theorem State.loadDrk_pending (b : Bytes) (s : State) : (s.loadDrk b).pending = s.pending := by simp [State.loadDrk]

@[simp] theorem execDrawServed_queue (s : State) : queueAfter (execDrawServed s) = some s.pending := by
  unfold execDrawServed
  split
  · rfl
  · rename_i p _
    have h := s.rngTake_queue (tblGet 0 s.rng.waiting p)
    split
    · simp
    · split <;> simp_all [DrawRes.Queue]

@[simp] theorem execRngDataRead_queue (s : State) : queueAfter (execRngDataRead s) = some s.pending := by
  have h := s.rngTake_queue 8
  unfold execRngDataRead
  split <;> simp_all [DrawRes.Queue]

@[simp] theorem State.dropSeeds_pending (p : Nat × Nat → Bool) (s : State) :
    (s.dropSeeds p).pending = s.pending := by simp [State.dropSeeds]

@[simp] theorem State.excludeSrc_pending (n test : Nat) (s : State) :
    (s.excludeSrc n test).pending = s.pending := by simp [State.excludeSrc]

@[simp] theorem execAdaptiveWindowEnd_queue (n : Fin 4) (samples : List (BitVec 4)) (s : State) :
    queueAfter (execAdaptiveWindowEnd n samples s) = some s.pending := by
  simp only [execAdaptiveWindowEnd]
  (repeat' split) <;> simp

@[simp] theorem execSourceStartupTestEnd_queue (n : Fin 4) (samples : List (BitVec 4)) (s : State) :
    queueAfter (execSourceStartupTestEnd n samples s) = some s.pending := by
  unfold execSourceStartupTestEnd
  split <;> simp

@[simp] theorem execSeedReady_queue (s : State) : queueAfter (execSeedReady s) = some s.pending := by
  unfold execSeedReady
  (repeat' split) <;> simp

@[simp] theorem State.katResult_pending (unit : Nat) (pass : Bool) (startup : Bool) (s : State) :
    (s.katResult unit pass startup).pending = s.pending := by simp [State.katResult]

@[simp] theorem execRngKatEnd_queue (pass : Bool) (s : State) : queueAfter (execRngKatEnd pass s) = some s.pending := by
  unfold execRngKatEnd
  split <;> simp

@[simp] theorem State.rngStart_pending (all : Bool) (s : State) : (s.rngStart all).pending = s.pending := by simp [State.rngStart]

/-! ### Payment items -/

@[simp] theorem State.runItem_queue (d op : Nat) (f : Entry → State → State) (s : State) (hf : ∀ e t, (f e t).pending = t.pending) :
    queueAfter (s.runItem d op f) = some s.pending := by
  unfold State.runItem
  split <;> simp [hf]

@[simp] theorem State.withDraw_pending (n d : Nat) (f : Bytes → State → State) (s : State)
    (hf : ∀ b t, (f b t).pending = t.pending) : (s.withDraw n d f).pending = s.pending := by
  have h := s.rngTake_queue n
  unfold State.withDraw
  split
  · exact hf [] s
  · split <;> simp_all [DrawRes.Queue]

@[simp] theorem State.pinTranslate_pending (d : Nat) (e : Entry) (s : State) : (s.pinTranslate d e).pending = s.pending := by
  simp only [State.pinTranslate]
  split <;> simp

@[simp] theorem State.pinVerify_pending (d : Nat) (e : Entry) (s : State) : (s.pinVerify d e).pending = s.pending := by
  unfold State.pinVerify
  split <;> simp

@[simp] theorem State.pinGenerate_pending (d : Nat) (e : Entry) (s : State) : (s.pinGenerate d e).pending = s.pending := by
  unfold State.pinGenerate
  split <;> simp

@[simp] theorem State.dukptPin_pending (d : Nat) (e : Entry) (s : State) : (s.dukptPin d e).pending = s.pending := by
  simp only [State.dukptPin]
  split <;> simp

@[simp] theorem State.dukptMac_pending (d : Nat) (e : Entry) (s : State) :
    (s.dukptMac d e).pending = s.pending := by simp [State.dukptMac]

@[simp] theorem State.emvVerify_pending (d : Nat) (e : Entry) (s : State) :
    (s.emvVerify d e).pending = s.pending := by simp [State.emvVerify]

@[simp] theorem State.fpe_pending (d : Nat) (e : Entry) (s : State) : (s.fpe d e).pending = s.pending := by simp [State.fpe]

@[simp] theorem State.xtsSector_pending (d : Nat) (e : Entry) (s : State) :
    (s.xtsSector d e).pending = s.pending := by simp [State.xtsSector]

@[simp] theorem execSessionExpiry_queue (f : Fn) (i : Fin 4096) (s : State) :
    queueAfter (execSessionExpiry f i s) = some s.pending := by
  unfold execSessionExpiry
  split <;> simp

/-! ### Public-key items -/

@[simp] theorem State.newBlob_pending (e : Entry) (ref pidx : Nat) (h : HdrNew) (mat : Bytes) (s : State) :
    (s.newBlob e ref pidx h mat).2.pending = s.pending := by simp [State.newBlob]

@[simp] theorem State.pkEnd_pending (d : Nat) (r : PkRes) (s : State) : (s.pkEnd d r).pending = s.pending := by
  unfold State.pkEnd
  split <;> simp

@[simp] theorem State.pkSign_pending (d : Nat) (e : Entry) (s : State) :
    (s.pkSign d e).pending = s.pending := by simp [State.pkSign]

@[simp] theorem State.pkEcdh_pending (d : Nat) (e : Entry) (s : State) : (s.pkEcdh d e).pending = s.pending := by
  refine State.withDraw_pending _ d _ s fun b t => ?_
  dsimp only
  split <;> simp

@[simp] theorem State.pkKeygen_pending (d : Nat) (e : Entry) (s : State) : (s.pkKeygen d e).pending = s.pending := by
  refine State.withDraw_pending _ d _ s fun b t => ?_
  dsimp only
  split <;> simp

@[simp] theorem State.rsaDecrypt_pending (d : Nat) (e : Entry) (s : State) :
    (s.rsaDecrypt d e).pending = s.pending := by simp [State.rsaDecrypt]

/-! ### Key management items and the journal -/

@[simp] theorem State.keyImport_pending (d : Nat) (e : Entry) (s : State) : (s.keyImport d e).pending = s.pending := by
  simp only [State.keyImport]
  (repeat' split) <;> simp

@[simp] theorem State.keyExport_pending (d : Nat) (e : Entry) (s : State) :
    (s.keyExport d e).pending = s.pending := by simp [State.keyExport]

@[simp] theorem State.keyGenerate_pending (d : Nat) (e : Entry) (s : State) :
    (s.keyGenerate d e).pending = s.pending := by simp [State.keyGenerate]

@[simp] theorem State.keyStage_pending (d : Nat) (e : Entry) (s : State) : (s.keyStage d e).pending = s.pending := by
  refine State.withDraw_pending _ d _ s fun b t => ?_
  dsimp only
  split <;> simp

@[simp] theorem State.runAction_queue (d act : Nat) (f : Entry → State → State) (s : State)
    (hf : ∀ e t, (f e t).pending = t.pending) : queueAfter (s.runAction d act f) = some s.pending := by
  simp [State.runAction, hf]

@[simp] theorem State.keyRewrap_pending (d : Nat) (e : Entry) (s : State) :
    (s.keyRewrap d e).pending = s.pending := by simp [State.keyRewrap]

@[simp] theorem execJournalRecordPersistent_queue (s : State) : queueAfter (execJournalRecordPersistent s) = some s.pending := by
  unfold execJournalRecordPersistent
  split <;> simp

@[simp] theorem State.jrnWear_pending (s : State) : s.jrnWear.pending = s.pending := by simp [State.jrnWear]

/-! ### Releases of the MSS -/

@[simp] theorem State.issueAll_pending (id : Nat) (ws : List AncW) (s : State) : (s.issueAll id ws).pending = s.pending := by
  induction ws generalizing s with
  | nil => rfl
  | cons w ws ih => cases ws <;> simp_all [State.issueAll]

@[simp] theorem State.mssBegin_pending (ws : List AncW) (reply : Option (Path × Word × Nat × Bytes))
    (act : Option (Nat × BitVec 64 × Word × Nat)) (eff : MssEff) (s : State) :
    (s.mssBegin ws reply act eff).2.pending = s.pending := by
  unfold State.mssBegin
  split <;> simp

@[simp] theorem State.mssJournal_pending (kind : JKind) (t kid : Nat) (w : DWord) (ck : Option Nat) (eff : MssEff) (s : State) :
    (s.mssJournal kind t kid w ck eff).2.pending = s.pending := by
  unfold State.mssJournal
  (repeat' split) <;> simp

@[simp] theorem State.applyDrop_pending (t kid : Nat) (closes : Bool) (s : State) :
    (s.applyDrop t kid closes).pending = s.pending := by simp [State.applyDrop]

/-! ### Trestle: proposals and key changes -/

@[simp] theorem State.modAssoc_pending (n : Nat) (f : Assoc → Assoc) (s : State) : (s.modAssoc n f).pending = s.pending := by
  unfold State.modAssoc
  split <;> simp

@[simp] theorem State.quarEnter_pending (t : Nat) (s : State) : (s.quarEnter t).pending = s.pending := by simp [State.quarEnter]

@[simp] theorem State.markQuar_pending (t : Nat) (pid : Option (BitVec 64)) (s : State) :
    (s.markQuar t pid).pending = s.pending := by simp [State.markQuar]

@[simp] theorem State.decideProp_pending (x : Held) (flip : Bool) (s : State) :
    (s.decideProp x flip).pending = s.pending := by simp [State.decideProp]

@[simp] theorem State.reserveProp_pending (x : Held) (own : Bool) (s : State) :
    (s.reserveProp x own).pending = s.pending := by simp [State.reserveProp]

@[simp] theorem State.abutPropose_pending (p : Proposal) (own : Bool) (s : State) :
    (s.abutPropose p own).pending = s.pending := by simp [State.abutPropose]

@[simp] theorem State.endReservation_pending (pid : BitVec 64) (s : State) : (s.endReservation pid).pending = s.pending := by
  simp only [State.endReservation]
  (repeat' split) <;> simp

@[simp] theorem State.memberApply_pending (a : ApplyMsg) (s : State) : (s.memberApply a).pending = s.pending := by
  simp only [State.memberApply]
  split
  · simp
  · split
    · simp
    · split <;> rename_i h <;> simp [snd_pending h]

@[simp] theorem State.abutApply_pending (a : ApplyMsg) (s : State) :
    (s.abutApply a).pending = s.pending := by simp [State.abutApply]

@[simp] theorem State.originApply_pending (pid : BitVec 64) (t : Nat) (kid : BitVec 64) (w : DWord) (excl : List Nat) (s : State) :
    (s.originApply pid t kid w excl).pending = s.pending := by
  simp [State.originApply]

@[simp] theorem State.withdrawOf_pending (e : Entry) (s : State) :
    (s.withdrawOf e).pending = s.pending := by simp [State.withdrawOf]

@[simp] theorem State.unpropose_pending (d : Nat) (s : State) : (s.unpropose d).pending = s.pending := by
  unfold State.unpropose
  split <;> simp

@[simp] theorem State.withdrawAll_pending (fn : Nat) (s : State) :
    (s.withdrawAll fn).pending = s.pending := by simp [State.withdrawAll]

@[simp] theorem State.nextGen_pending (fn : Nat) (s : State) : (s.nextGen fn).pending = s.pending := by simp [State.nextGen]

@[simp] theorem State.originPropose_pending (d : Nat) (e : Entry) (k : ChangeKind) (t : Nat) (kid : BitVec 64) (w : DWord)
    (s : State) :
    (s.originPropose d e k t kid w).pending = s.pending := by
  simp [State.originPropose]

/-! ### Release of items -/

@[simp] theorem execItemPost_queue (p : PierNo) (s : State) : queueAfter (execItemPost p s) = some s.pending := by
  unfold execItemPost
  (repeat' split) <;> simp

@[simp] theorem State.openSess_pending (fn : Nat) (n : SessNew) (s : State) : (s.openSess fn n).2.pending = s.pending := by
  simp only [State.openSess]
  split <;> simp

@[simp] theorem State.closeResolved_pending (e : Entry) (s : State) : (s.closeResolved e).pending = s.pending := by
  unfold State.closeResolved
  split <;> simp

@[simp] theorem State.imodCount_pending (fn q : Nat) (s : State) :
    (s.imodCount fn q).pending = s.pending := by simp [State.imodCount]

@[simp] theorem State.hostOut_pending (e : Entry) (status : Nat) (result : Bytes) (s : State) :
    (s.hostOut e status result).pending = s.pending := by simp [State.hostOut]

@[simp] theorem State.applyIntent_pending (e : Entry) (all : List Intent) (x : Intent) (rs : Bytes × State) :
    (State.applyIntent e all x rs).2.pending = rs.2.pending := by
  cases x <;> simp [State.applyIntent]

@[simp] theorem State.applyRel_pending (d : Nat) (s : State) : (s.applyRel d).pending = s.pending := by
  unfold State.applyRel
  split
  · rfl
  · split
    · rfl
    · rename_i e _ _
      have h : ∀ (all xs : List Intent) (rs : Bytes × State),
          (xs.foldl (fun rs x => State.applyIntent e all x rs) rs).2.pending = rs.2.pending := fun all xs rs =>
        List.foldlRecOn xs _ (motive := fun u : Bytes × State => u.2.pending = rs.2.pending) rfl (fun u hu x _ => by simp [hu])
      simp [h]

@[simp] theorem State.itemRefused_pending (e : Entry) (v : Nat) (s : State) :
    (s.itemRefused e v).pending = s.pending := by simp [State.itemRefused]

@[simp] theorem State.beginRelease_pending (d : Nat) (e : Entry) (v : Nat) (s : State) :
    (s.beginRelease d e v).pending = s.pending := by
  simp only [State.beginRelease]
  split <;> simp

@[simp] theorem State.deadline_pending (d : Nat) (e : Entry) (s : State) :
    (s.deadline d e).pending = s.pending := by simp [State.deadline]

@[simp] theorem State.guardFail_pending (d : Nat) (e : Entry) (s : State) :
    (s.guardFail d e).pending = s.pending := by simp [State.guardFail]

@[simp] theorem State.admissionMismatch_pending (d : Nat) (e : Entry) (s : State) :
    (s.admissionMismatch d e).pending = s.pending := by simp [State.admissionMismatch]

@[simp] theorem execReleaseTest_queue (d : Idx) (entryLost flip : Bool) (s : State) :
    queueAfter (execReleaseTest d entryLost flip s) = some s.pending := by
  unfold execReleaseTest
  (repeat' split) <;> simp

@[simp] theorem execReleaseEnd_queue (d : Idx) (s : State) : queueAfter (execReleaseEnd d s) = some s.pending := by
  unfold execReleaseEnd
  split <;> simp

@[simp] theorem execDeadlineExpiry_queue (d : Idx) (s : State) : queueAfter (execDeadlineExpiry d s) = some s.pending := by
  unfold execDeadlineExpiry
  (repeat' split) <;> simp

/-! ### Host link, queue pairs and functions -/

@[simp] theorem execFetchGrant_queue (s : State) : queueAfter (execFetchGrant s) = some s.pending := by
  unfold execFetchGrant
  dsimp only
  split
  · rfl
  · split
    · rfl
    · exact congrArg some (foldl_pending _ _ _ fun t d => State.setEnt_pending d _ t)

@[simp] theorem State.presentReady_pending (gs : List Grant) (s : State) : (s.presentReady gs).pending = s.pending := by
  induction gs generalizing s with
  | nil => rfl
  | cons g gs ih =>
    unfold State.presentReady
    split <;> simp [ih]

@[simp] theorem execDescriptorArrival_queue (tag : Nat) (descs : List Bytes) (s : State) :
    queueAfter (execDescriptorArrival tag descs s) = some s.pending := by
  unfold execDescriptorArrival
  split <;> simp

@[simp] theorem State.descError_pending (tag : Nat) (e : ReadErr) (s : State) : (s.descError tag e).pending = s.pending := by
  unfold State.descError
  split <;> simp

@[simp] theorem execHostCompletionTimeout_queue (r : ReadFor) (s : State) :
    queueAfter (execHostCompletionTimeout r s) = some s.pending := by
  unfold execHostCompletionTimeout
  (repeat' split) <;> simp

@[simp] theorem State.tnRefuse_pending (f : Nat) (s : State) : (s.tnRefuse f).pending = s.pending := by simp [State.tnRefuse]

@[simp] theorem execTenantRecordWrite_queue (f : Fn) (fld : TnField) (value : DWord) (s : State) :
    queueAfter (execTenantRecordWrite f fld value s) = some s.pending := by
  unfold execTenantRecordWrite
  (repeat' split) <;> simp

@[simp] theorem State.dropFetches_pending (f : Nat) (s : State) :
    (s.dropFetches f).pending = s.pending := by simp [State.dropFetches]

@[simp] theorem State.vfReset_pending (f : Nat) (s : State) : (s.vfReset f).pending = s.pending := by simp [State.vfReset]

@[simp] theorem State.abandonItems_pending (s : State) : s.abandonItems.pending = s.pending := by simp [State.abandonItems]

@[simp] theorem State.moveAllGens_pending (s : State) : s.moveAllGens.pending = s.pending := by simp [State.moveAllGens]

@[simp] theorem State.resetDataPlane_pending (s : State) :
    s.resetDataPlane.pending = s.pending := by simp [State.resetDataPlane]

@[simp] theorem State.pfFlrStart_pending (s : State) : s.pfFlrStart.pending = s.pending := by
  unfold State.pfFlrStart
  rw [State.signal_pending, State.resetDataPlane_pending, State.moveAllGens_pending, State.abandonItems_pending]

@[simp] theorem State.linkReset_pending (s : State) : s.linkReset.pending = s.pending := by simp [State.linkReset]

/-! ### Clocks, groups and bays -/

@[simp] theorem State.setPll_pending (p : PllName) (x : Pll) (s : State) : (s.setPll p x).pending = s.pending := by
  unfold State.setPll
  split <;> simp

@[simp] theorem State.clockReplays_pending (s : State) : s.clockReplays.pending = s.pending := by simp [State.clockReplays]

@[simp] theorem State.activeFail_pending (cause : Nat) (s : State) :
    (s.activeFail cause).pending = s.pending := by simp [State.activeFail]

@[simp] theorem State.standbyFail_pending (locked : Bool) (s : State) :
    (s.standbyFail locked).pending = s.pending := by simp [State.standbyFail]

@[simp] theorem State.parkSettle_pending (b : Nat) (s : State) :
    (s.parkSettle b).pending = s.pending := by simp [State.parkSettle]

/-! ### Tollgate -/

@[simp] theorem State.tgFault_pending (a : Access) (kind : TgKind) (rule : Nat) (s : State) :
    (s.tgFault a kind rule).pending = s.pending := by simp [State.tgFault]

@[simp] theorem State.tgHoldAccess_pending (a : Access) (s : State) :
    (s.tgHoldAccess a).pending = s.pending := by simp [State.tgHoldAccess]

@[simp] theorem State.tgChangePoint_pending (s : State) : s.tgChangePoint.pending = s.pending := by simp [State.tgChangePoint]

@[simp] theorem State.tgSetEn_pending (s : State) : s.tgSetEn.pending = s.pending := by
  simp only [State.tgSetEn]
  split <;> simp

/-! ### Engines -/

@[simp] theorem State.failQueue_pending (e : Nat) (s : State) : (s.failQueue e).pending = s.pending := by simp [State.failQueue]

@[simp] theorem State.engFails_pending (e kind : Nat) (s : State) :
    (s.engFails e kind).pending = s.pending := by simp [State.engFails]

theorem State.installParts_pending {q : Req} {parent : Nat} {ms : List Bytes} {ks : List Nat} {s t : State}
    (h : s.installParts q parent ms = some (ks, t)) : t.pending = s.pending := by
  induction ms generalizing s ks with
  | nil => cases h; rfl
  | cons m ms ih =>
    simp only [State.installParts] at h
    split at h
    · cases h
    · split at h <;> cases h
      exact (ih ‹_›).trans (by simp [State.install_pending ‹_›])

@[simp] theorem State.pinFor_pending (d : Nat) (ks : List Nat) (s : State) : (s.pinFor d ks).pending = s.pending := by
  unfold State.pinFor
  split <;> simp

theorem State.answerHead_pending {e : Nat} {y : QEnt} {r : Resp} {data : Bytes} {s t : State}
    (h : s.answerHead e y r data = some t) : t.pending = s.pending := by
  simp only [State.answerHead] at h
  split at h
  · split at h <;> cases h
    simp [State.installParts_pending ‹_›]
  · cases h
    simp

/-- Draining an engine runs one entry of its queue per unit of fuel, and each such round keeps the commands' queue. -/
@[simp] theorem State.drainF_pending (e n : Nat) (s : State) : (s.drainF e n).pending = s.pending := by
  induction n generalizing s with
  | zero => rfl
  | succ n ih =>
    unfold State.drainF
    extract_lets x
    split
    · rfl
    · split
      · rfl
      · split
        · rfl
        · extract_lets after t _ u
          have hu : u.pending = s.pending := by simp [u, t]
          split
          · rfl
          · split
            · exact hu
            · rw [ih, State.answerHead_pending ‹_›, hu]

@[simp] theorem State.refuseBadF_pending (e n : Nat) (s : State) : (s.refuseBadF e n).pending = s.pending := by
  induction n generalizing s with
  | zero => rfl
  | succ n ih =>
    simp only [State.refuseBadF]
    (repeat' split) <;> simp [ih]

@[simp] theorem State.settle_pending (e : Nat) (s : State) : (s.settle e).pending = s.pending := by simp [State.settle]

@[simp] theorem execChainPlace_queue (p : PierNo) (k : EngKind) (entries : List Req) (s : State) :
    queueAfter (execChainPlace p k entries s) = some s.pending := by
  unfold execChainPlace
  (repeat' split) <;> simp

@[simp] theorem execKeyBusRequest_queue (e : Fin 96) (s : State) : queueAfter (execKeyBusRequest e s) = some s.pending := by
  unfold execKeyBusRequest
  split <;> simp

@[simp] theorem execKeyBusSecondDecision_queue (e : Fin 96) (flip : Bool) (s : State) :
    queueAfter (execKeyBusSecondDecision e flip s) = some s.pending := by
  unfold execKeyBusSecondDecision
  (repeat' split) <;> simp

@[simp] theorem State.addrTest_pending (s : State) (e : Nat) (k : AccKind) (d a n : Nat) :
    (s.addrTest e k d a n).2.pending = s.pending := by
  simp only [State.addrTest]
  (repeat' split) <;> simp

@[simp] theorem State.finishReq_pending (e i : Nat) (q : Req) (key : Option CKey) (o : EngOut) (s : State) :
    (s.finishReq e i q key o).pending = s.pending := by
  unfold State.finishReq
  split <;> simp

@[simp] theorem State.runEng_queue (e op : Nat) (s : State) : queueAfter (s.runEng e op) = some s.pending := by
  unfold State.runEng
  split; · simp
  extract_lets q t alg mat bad go
  have ht : t.pending = s.pending := by simp [t]
  have hgo : ∀ b u, (go b u).pending = u.pending := fun b u => by simp [go]
  clear_value t go bad
  split; · simp
  split; · rfl
  split; · simp
  split; · simp [ht]
  split <;> rename_i hr <;> have hu := (snd_pending hr).trans (State.addrTest_pending ..)
  · simp [hu, ht]
  · simp [hu, ht]
  · split <;> rename_i hw <;> have hv := (snd_pending hw).trans (State.addrTest_pending ..)
    · simp [hv, hu, ht]
    · simp [hv, hu, ht]
    · rename_i v
      have hd := v.rngTake_queue (Machine.reqDraw e q)
      split
      · simp [hgo, hv, hu, ht]
      · split <;> rename_i hd' <;> rw [hd'] at hd <;> simp_all [DrawRes.Queue]

@[simp] theorem State.pierActs_pending (p d : Nat) (e : Entry) (st : Nat) (s : State) :
    (s.pierActs p d e st).pending = s.pending := by
  unfold State.pierActs
  split <;> simp

@[simp] theorem execEngineResponse_queue (p : PierNo) (s : State) : queueAfter (execEngineResponse p s) = some s.pending := by
  simp only [execEngineResponse]
  (repeat' split) <;> simp

@[simp] theorem execStepMonitorFault_queue (d : Idx) (s : State) : queueAfter (execStepMonitorFault d s) = some s.pending := by
  unfold execStepMonitorFault
  (repeat' split) <;> simp

@[simp] theorem State.setPark_pending (pk : Bool) (v : BitVec 6) (s : State) :
    (s.setPark pk v).pending = s.pending := by simp [State.setPark]

/-! ### Public-key engines -/

@[simp] theorem State.endLoad_pending (e : Nat) (dig : Bytes) (s : State) :
    (s.endLoad e dig).pending = s.pending := by simp [State.endLoad]

@[simp] theorem State.setPkmWord_pending (i : Nat) (v : DWord) (s : State) :
    (s.setPkmWord i v).pending = s.pending := by simp [State.setPkmWord]

@[simp] theorem State.pkmAccept_pending (s : State) : s.pkmAccept.pending = s.pending := by simp [State.pkmAccept]

/-! ### Draws, reports and requests of the MSS -/

theorem State.mssDraws_queue (n : Nat) (s : State) : (s.mssDraws n).Queue s.pending := by
  induction n generalizing s with
  | zero => rfl
  | succ n ih =>
    have h := s.rngTake_queue 8
    unfold State.mssDraws
    split
    · rename_i t heq
      rw [heq] at h
      have ht := ih t
      rw [show t.pending = s.pending from h] at ht
      split <;> simp_all [DrawRes.Queue]
    · exact h

theorem State.mssDraw_queue (n : Nat) (s : State) : (s.mssDraw n).Queue s.pending := by
  have h := s.mssDraws_queue ((n + 7) / 8)
  unfold State.mssDraw
  split <;> simp_all [DrawRes.Queue]

@[simp] theorem State.reqDraw_pending (n : Nat) (p : Path) (typ : Nat) (tag : Word) (f : Bytes → State → State) (s : State)
    (hf : ∀ b t, (f b t).pending = t.pending) : (s.reqDraw n p typ tag f).pending = s.pending := by
  have h := s.mssDraw_queue n
  unfold State.reqDraw
  split <;> simp_all [DrawRes.Queue]

@[simp] theorem State.report_pending (kind tenant : Nat) (nonce binding rnd : Bytes) (s : State) :
    (s.report kind tenant nonce binding rnd).2.pending = s.pending := by simp [State.report]

@[simp] theorem execNonceReq_queue (path : Path) (tag : Word) (s : State) :
    queueAfter (execNonceReq path tag s) = some s.pending := by
  unfold execNonceReq
  split <;> simp

@[simp] theorem execAttest_queue (path : Path) (tag : Word) (nonce : Bytes) (s : State) :
    queueAfter (execAttest path tag nonce s) = some s.pending := by
  unfold execAttest
  (repeat' split) <;> simp

@[simp] theorem execOfficerRead_queue (path : Path) (tag : Word) (s : State) :
    queueAfter (execOfficerRead path tag s) = some s.pending := by
  unfold execOfficerRead
  (repeat' split) <;> simp

/-! ### What a release of the MSS does -/

@[simp] theorem State.confirmTrial_pending (s : State) : s.confirmTrial.pending = s.pending := by simp [State.confirmTrial]

@[simp] theorem State.settleId_pending (s : State) : s.settleId.pending = s.pending := by simp [State.settleId]

@[simp] theorem State.disableQps_pending (f : Nat) (s : State) :
    (s.disableQps f).pending = s.pending := by simp [State.disableQps]

@[simp] theorem State.setTenant_pending (t : Nat) (st : BitVec 2) (s : State) :
    (s.setTenant t st).pending = s.pending := by simp [State.setTenant]

@[simp] theorem State.allAbsent_pending (s : State) : s.allAbsent.pending = s.pending := by simp [State.allAbsent]

@[simp] theorem State.uncommission_pending (s : State) : s.uncommission.pending = s.pending := by simp [State.uncommission]

@[simp] theorem State.crkWords_pending (epoch : Nat) (crk : Bytes) (s : State) :
    (s.crkWords epoch crk).2.pending = s.pending := by simp [State.crkWords]

@[simp] theorem State.adoptCrk_pending (epoch : Nat) (crk : Bytes) (s : State) :
    (s.adoptCrk epoch crk).pending = s.pending := by simp [State.adoptCrk]

@[simp] theorem State.rollTdks_pending (crk : Bytes) (l : List (Nat × Bytes)) (s : State) :
    (s.rollTdks crk l).pending = s.pending := by
  induction l generalizing s with
  | nil => rfl
  | cons x l ih =>
    simp only [State.rollTdks]
    (repeat' split) <;> simp [ih]

@[simp] theorem State.applyRepl_pending (r : ReplRec) (s : State) : (s.applyRepl r).pending = s.pending := by
  unfold State.applyRepl
  split <;> simp

@[simp] theorem State.keepRepl_pending (seq : Nat) (r : ReplRec) (s : State) :
    (s.keepRepl seq r).pending = s.pending := by simp [State.keepRepl]

@[simp] theorem State.forwardRepl_pending (seq : Nat) (r : ReplRec) (s : State) :
    (s.forwardRepl seq r).pending = s.pending := by simp [State.forwardRepl]

@[simp] theorem State.leaveCluster_pending (s : State) : s.leaveCluster.pending = s.pending := by simp [State.leaveCluster]

@[simp] theorem State.officerEvents_pending (l : List (Nat × Nat × Nat)) (s : State) :
    (s.officerEvents l).pending = s.pending := by simp [State.officerEvents]

@[simp] theorem State.mssEffect_pending (e : MssEff) (ticket : Nat) (s : State) : (s.mssEffect e ticket).pending = s.pending := by
  unfold State.mssEffect
  (repeat' split) <;> simp

@[simp] theorem State.mssCommit_pending (id : Nat) (s : State) : (s.mssCommit id).pending = s.pending := by
  have ht : (s.takeRel id).2.pending = s.pending := by simp
  unfold State.mssCommit
  split <;> rename_i h <;> rw [h] at ht
  · exact ht
  · extract_lets ticket u v
    have hv : v.pending = s.pending := by
      unfold v
      split <;> simpa [u] using ht
    split <;> simpa using hv

/-! ### Cluster -/

@[simp] theorem State.ackUpTo_pending (n ack : Nat) (s : State) : (s.ackUpTo n ack).pending = s.pending := by
  unfold State.ackUpTo
  split <;> simp

@[simp] theorem State.deposed_pending (term : Nat) (s : State) : (s.deposed term).pending = s.pending := by simp [State.deposed]

@[simp] theorem State.recv_pending (h : Hdr) (sequenced : Bool) (f : State → State) (s : State)
    (hf : ∀ t, (f t).pending = t.pending) : (s.recv h sequenced f).pending = s.pending := by
  simp only [State.recv]
  (repeat' split) <;> simp [hf]

@[simp] theorem State.jVoid_pending (t first last : Nat) (s : State) :
    (s.jVoid t first last).pending = s.pending := by simp [State.jVoid]

@[simp] theorem State.challenge_pending (e : Enrol) (dst : Nat) (s : State) : (s.challenge e dst).pending = s.pending := by
  have h := s.mssDraw_queue (32 + 2 * scalarDraw)
  unfold State.challenge
  split <;> simp_all [DrawRes.Queue]

@[simp] theorem execEnrolHello_queue (h : Hdr) (serial : DWord) (rejoin : Bool) (ivEpoch : DWord) (s : State) :
    queueAfter (execEnrolHello h serial rejoin ivEpoch s) = some s.pending := by
  unfold execEnrolHello
  (repeat' split) <;> simp

@[simp] theorem execEnrolChallenge_queue (h : Hdr) (nonce report cert ephPub : Bytes) (s : State) :
    queueAfter (execEnrolChallenge h nonce report cert ephPub s) = some s.pending := by
  have hd := s.mssDraw_queue (2 * scalarDraw)
  unfold execEnrolChallenge
  split
  · rfl
  · split
    · simp
    · split
      · rfl
      · split <;> simp_all [DrawRes.Queue]

@[simp] theorem State.drawSak_pending (an : Nat) (f : Sak → State → State) (s : State) (hf : ∀ k t, (f k t).pending = t.pending) :
    (s.drawSak an f).pending = s.pending := by
  have h := s.mssDraw_queue 44
  unfold State.drawSak
  split <;> simp_all [DrawRes.Queue]

@[simp] theorem State.installSak_pending (n : Nat) (k : Sak) (s : State) : (s.installSak n k).pending = s.pending := by
  unfold State.installSak
  split <;> simp

@[simp] theorem execEnrolResponse_queue (h : Hdr) (report cert ephPub : Bytes) (ckseqs : List (Nat × Word)) (s : State) :
    queueAfter (execEnrolResponse h report cert ephPub ckseqs s) = some s.pending := by
  unfold execEnrolResponse
  split
  · rfl
  · split
    · simp
    · split
      · rfl
      · split
        · rfl
        · split
          · rfl
          · simp [State.loadCrk_pending ‹_›]

@[simp] theorem execEnrolGrant_queue (h : Hdr) (authentic : Bool) (g : EnrolGrant) (s : State) :
    queueAfter (execEnrolGrant h authentic g s) = some s.pending := by
  unfold execEnrolGrant
  split
  · rfl
  · split
    · simp
    · split
      · rfl
      · simp

@[simp] theorem State.originate_pending (r : ReplRec) (ws : List AncW) (reply : Option (Path × Word × Nat × Bytes))
    (act : Option (Nat × BitVec 64 × Word × Nat)) (s : State) :
    (s.originate r ws reply act).2.pending = s.pending := by
  simp [State.originate]

@[simp] theorem State.sendResync_pending (m : Nat) (ts : List Nat) (s : State) :
    (s.sendResync m ts).pending = s.pending := by simp [State.sendResync]

@[simp] theorem State.linkStandby_pending (sb p : Nat) (s : State) :
    (s.linkStandby sb p).pending = s.pending := by simp [State.linkStandby]

@[simp] theorem execEnrolDone_queue (h : Hdr) (member : Nat) (s : State) :
    queueAfter (execEnrolDone h member s) = some s.pending := by
  refine congrArg some (State.recv_pending _ _ _ _ fun t => ?_)
  extract_lets u _ v
  have hu : u.pending = t.pending := by simp [u]
  split
  · simp [hu]
  · split
    · exact hu
    · split
      · exact hu
      · extract_lets diff w _ x y
        have hw : w.pending = t.pending := by simp [w, v, hu]
        split
        · exact hw
        · have hy : y.pending = t.pending := by simp [y, x, hw]
          simp [hy]

@[simp] theorem State.mssBeginJ_pending (n t : Nat) (put : State → State) (ws : List AncW)
    (reply : Option (Path × Word × Nat × Bytes)) (act : Option (Nat × BitVec 64 × Word × Nat)) (eff : MssEff) (s : State)
    (hp : ∀ u, (put u).pending = u.pending) : (s.mssBeginJ n t put ws reply act eff).2.pending = s.pending := by
  unfold State.mssBeginJ
  split <;> simp [hp]

@[simp] theorem State.replNow_pending (seq : Nat) (r : ReplRec) (s : State) :
    (s.replNow seq r).pending = s.pending := by simp [State.replNow]

@[simp] theorem State.replDrain_pending (s : State) : s.replDrain.pending = s.pending := by
  simp only [State.replDrain]
  split <;> simp

@[simp] theorem State.pylonVerdict_pending (x : Fwd) (s : State) :
    (s.pylonVerdict x).pending = s.pending := by simp [State.pylonVerdict]

@[simp] theorem State.pylonCheck_pending (pid : BitVec 64) (s : State) : (s.pylonCheck pid).pending = s.pending := by
  unfold State.pylonCheck
  split <;> simp

@[simp] theorem execVerdict_queue (h : Hdr) (pid : BitVec 64) (yes : Bool) (noSpans : BitVec 128) (s : State) :
    queueAfter (execVerdict h pid yes noSpans s) = some s.pending := by
  refine congrArg some (State.recv_pending _ _ _ _ fun t => ?_)
  dsimp only
  split
  · simp
  · split <;> simp

@[simp] theorem execVerdictDeadline_queue (pid : BitVec 64) (s : State) :
    queueAfter (execVerdictDeadline pid s) = some s.pending := by
  unfold execVerdictDeadline
  split <;> simp

@[simp] theorem execDecisionDeadline_queue (pid : BitVec 64) (flip : Bool) (s : State) :
    queueAfter (execDecisionDeadline pid flip s) = some s.pending := by
  unfold execDecisionDeadline
  split <;> simp

@[simp] theorem execClTimeoutExpiry_queue (d : Idx) (s : State) : queueAfter (execClTimeoutExpiry d s) = some s.pending := by
  unfold execClTimeoutExpiry
  split <;> simp

@[simp] theorem State.resyncApply_pending (m : ResyncMsg) (s : State) :
    (s.resyncApply m).pending = s.pending := by simp [State.resyncApply]

@[simp] theorem execResendTimer_queue (neighbour : Nat) (s : State) :
    queueAfter (execResendTimer neighbour s) = some s.pending := by
  unfold execResendTimer
  split <;> simp

@[simp] theorem State.setLink_pending (p : Port) (b : Bool) (s : State) : (s.setLink p b).pending = s.pending := by
  unfold State.setLink
  split <;> simp

@[simp] theorem State.nbrLost_pending (n : Nat) (s : State) : (s.nbrLost n).pending = s.pending := by simp [State.nbrLost]

@[simp] theorem execPortFail_queue (p : Port) (neighbour : Nat) (s : State) :
    queueAfter (execPortFail p neighbour s) = some s.pending := by
  unfold execPortFail
  split <;> simp

@[simp] theorem execPortRecover_queue (p : Port) (neighbour : Nat) (s : State) :
    queueAfter (execPortRecover p neighbour s) = some s.pending := by
  unfold execPortRecover
  split <;> simp

@[simp] theorem execLeaseExpiry_queue (s : State) : queueAfter (execLeaseExpiry s) = some s.pending := by
  unfold execLeaseExpiry
  split <;> simp

@[simp] theorem State.takeOver_pending (term : Nat) (votes : List Nat) (s : State) :
    (s.takeOver term votes).pending = s.pending := by simp [State.takeOver]

@[simp] theorem execAbutmentLossTimer_queue (s : State) : queueAfter (execAbutmentLossTimer s) = some s.pending := by
  unfold execAbutmentLossTimer
  split
  · rfl
  · split
    · rfl
    · rename_i t _ _
      -- The time's state is named: the kernel must not evaluate the sum with its large numeral.
      obtain ⟨u, hu, hp⟩ : ∃ u, s.advance (t + 2000000) = u ∧ u.pending = s.pending := ⟨_, rfl, by simp⟩
      rw [hu, queueAfter_next, State.takeOver_pending, foldl_pending]
      · exact congrArg some hp
      · intro v x
        split <;> simp

@[simp] theorem execTakeoverCall_queue (h : Hdr) (term : Nat) (s : State) :
    queueAfter (execTakeoverCall h term s) = some s.pending := by
  refine congrArg some (State.recv_pending _ _ _ _ fun t => ?_)
  split <;> simp

@[simp] theorem execVote_queue (h : Hdr) (term replSeq lostMs : Nat) (s : State) :
    queueAfter (execVote h term replSeq lostMs s) = some s.pending := by
  refine congrArg some (State.recv_pending _ _ _ _ fun t => ?_)
  split <;> simp

@[simp] theorem State.applyCrk_pending (s : State) : s.applyCrk.pending = s.pending := by
  unfold State.applyCrk
  split <;> simp

@[simp] theorem State.crkAnswer_pending (member : Nat) (yes : Bool) (s : State) :
    (s.crkAnswer member yes).pending = s.pending := by
  unfold State.crkAnswer
  split <;> simp

@[simp] theorem execCrkPrepare_queue (h : Hdr) (epoch : BitVec 32) (crk : BitVec 256) (tdkBlobs : List (Fn × Bytes)) (s : State) :
    queueAfter (execCrkPrepare h epoch crk tdkBlobs s) = some s.pending := by
  unfold execCrkPrepare
  (repeat' split) <;> simp

/-! ### Event recorder -/

@[simp] theorem State.evrWrite_pending (o : Offer) (time : Nat) (s : State) :
    (s.evrWrite o time).pending = s.pending := by simp [State.evrWrite]

theorem State.evrNext_pending {s t : State} {o : Offer} {time : Nat}
    (h : s.evrNext = some (o, time, t)) : t.pending = s.pending := by
  unfold State.evrNext at h
  (repeat' split at h) <;> cases h <;> rfl

@[simp] theorem execRecordAccept_queue (s : State) : queueAfter (execRecordAccept s) = some s.pending := by
  unfold execRecordAccept
  split
  · rfl
  · split
    · simp
    · split
      · simp [State.evrNext_pending ‹_›]
      · simp

@[simp] theorem execKeptRecordFlashWriteDone_queue (s : State) :
    queueAfter (execKeptRecordFlashWriteDone s) = some s.pending := by
  simp only [execKeptRecordFlashWriteDone]
  (repeat' split) <;> simp

@[simp] theorem State.evrCleared_pending (s : State) : s.evrCleared.pending = s.pending := by
  unfold State.evrCleared
  split <;> simp

@[simp] theorem State.evrLost_pending (slot : Nat) (s : State) : (s.evrLost slot).pending = s.pending := by
  unfold State.evrLost
  split <;> simp

/-! ### Memory integrity -/

@[simp] theorem State.warmRestart_pending (cause : Nat) (s : State) :
    (s.warmRestart cause).pending = s.pending := by simp [State.warmRestart]

@[simp] theorem State.stagingLost_pending (d : Nat) (s : State) : (s.stagingLost d).pending = s.pending := by
  unfold State.stagingLost
  (repeat' split) <;> simp

@[simp] theorem State.deckLost_pending (d off : Nat) (s : State) : (s.deckLost d off).pending = s.pending := by
  unfold State.deckLost
  split <;> simp

@[simp] theorem State.ownerAt_pending (a : Nat) (s : State) : (s.ownerAt a).pending = s.pending := by simp [State.ownerAt]

@[simp] theorem State.operandLost_pending (e : Nat) (s : State) : (s.operandLost e).pending = s.pending := by
  unfold State.operandLost
  split <;> simp

@[simp] theorem State.sramOwner_pending (m : SramMem) (inst addr : Nat) (s : State) :
    (s.sramOwner m inst addr).pending = s.pending := by
  unfold State.sramOwner
  split <;> simp

@[simp] theorem execSramScrub_queue (m : SramMem) (inst : Fin 128) (addr : Nat) (ecc : Ecc) (s : State) :
    queueAfter (execSramScrub m inst addr ecc s) = some s.pending := by
  unfold execSramScrub
  (repeat' split) <;> simp

@[simp] theorem State.poisonStripe_pending (i : Nat) (s : State) :
    (s.poisonStripe i).pending = s.pending := by simp [State.poisonStripe]

@[simp] theorem State.stripeOwners_pending (i : Nat) (s : State) :
    (s.stripeOwners i).pending = s.pending := by simp [State.stripeOwners]

@[simp] theorem State.markDie_pending (die : Nat) (s : State) : (s.markDie die).pending = s.pending := by simp [State.markDie]

@[simp] theorem State.dramCorrected_pending (syn : BitVec 8) (info addr : Nat) (s : State) :
    (s.dramCorrected syn info addr).pending = s.pending := by simp [State.dramCorrected]

@[simp] theorem execDramScrub_queue (stripe : Fin 67108864) (ecc : Ecc) (s : State) :
    queueAfter (execDramScrub stripe ecc s) = some s.pending := by
  unfold execDramScrub
  (repeat' split) <;> simp

/-! ### Parapet -/

@[simp] theorem State.alarm_pending (src : Nat) (s : State) : (s.alarm src).pending = s.pending := by simp [State.alarm]

@[simp] theorem State.logAlarm_pending (v : DWord) (s : State) : (s.logAlarm v).pending = s.pending := by
  unfold State.logAlarm
  split <;> simp

@[simp] theorem State.recordAlarm_pending (taken : Nat) (mismatch : Bool) (src : Nat) (s : State) :
    (s.recordAlarm taken mismatch src).pending = s.pending := by simp [State.recordAlarm]

@[simp] theorem State.alarmOn_pending (s : State) : s.alarmOn.pending = s.pending := by simp [State.alarmOn]

@[simp] theorem State.resetResponse_pending (s : State) : s.resetResponse.pending = s.pending := by simp [State.resetResponse]

@[simp] theorem State.zeroise_pending (s : State) : s.zeroise.pending = s.pending := by simp [State.zeroise]

@[simp] theorem State.eraseResponse_pending (s : State) : s.eraseResponse.pending = s.pending := by simp [State.eraseResponse]

@[simp] theorem State.backupResponse_pending (taken : Nat) (s : State) :
    (s.backupResponse taken).pending = s.pending := by simp [State.backupResponse]

@[simp] theorem State.policyWrite_pending (v : Word) (s : State) : (s.policyWrite v).1.pending = s.pending := by
  unfold State.policyWrite
  (repeat' split) <;> simp

@[simp] theorem State.policyPersist_pending (old : Word) (s : State) :
    (s.policyPersist old).pending = s.pending := by simp [State.policyPersist]

/-! ### Images -/

@[simp] theorem State.bootVerdict_pending (b : Bool) (flips : BitVec 16) (x : ImgSlot) (s : State) :
    (s.bootVerdict b flips x).2.pending = s.pending := by
  simp only [State.bootVerdict]
  split <;> simp

@[simp] theorem State.bootVerdicts_pending (b : Bool) (flips : BitVec 16) (l : List ImgSlot) (s : State) :
    (s.bootVerdicts b flips l).2.pending = s.pending := by
  induction l generalizing s with
  | nil => rfl
  | cons x l ih => simp [State.bootVerdicts, ih]

@[simp] theorem State.recoverySet_pending (b : Bool) (flips : BitVec 16) (s : State) :
    (s.recoverySet b flips).2.pending = s.pending := by simp [State.recoverySet]

@[simp] theorem State.tryBank_pending (b : Bool) (flips : BitVec 16) (code : Nat) (s : State) :
    (s.tryBank b flips code).2.pending = s.pending := by
  unfold State.tryBank
  dsimp only
  (repeat' split) <;> simp

/-! ### Tickets and ceremonies -/

@[simp] theorem State.smbRead_queue (b : Bytes) (s : State) : queueAfter (s.smbRead b) = some s.pending := by simp [State.smbRead]

@[simp] theorem execSensors_queue (path : Path) (tag : Word) (temp v12 i12 power : BitVec 16) (s : State) :
    queueAfter (execSensors path tag temp v12 i12 power s) = some s.pending := by
  unfold execSensors
  (repeat' split) <;> simp

@[simp] theorem execFragmentTimeout_queue (msgId : Word) (s : State) :
    queueAfter (execFragmentTimeout msgId s) = some s.pending := by
  unfold execFragmentTimeout
  split <;> simp

@[simp] theorem execNonceLapse_queue (s : State) : queueAfter (execNonceLapse s) = some s.pending := by
  unfold execNonceLapse
  split <;> simp

@[simp] theorem execEvrClear_queue (s : State) : queueAfter (execEvrClear s) = some s.pending := by
  unfold execEvrClear
  split <;> simp

@[simp] theorem State.useNonce_pending (t : Bytes) (s : State) : (s.useNonce t).pending = s.pending := by simp [State.useNonce]

@[simp] theorem State.actAccepted_pending (r : ActionReq) (a : Action) (t : Nat) (s0 s : State) (h0 : s0.pending = s.pending)
    (ha : ∀ u, (a.run u).Queue u.pending) : (State.actAccepted r a t s0 s).pending = s.pending := by
  unfold State.actAccepted
  extract_lets id sg u st
  have hu : u.pending = s.pending := by simp [u]
  have h := ha u
  split
  · simp [hu]
  · split <;> rename_i hr <;> rw [hr, hu] at h
    · simpa [ActRes.Queue] using h
    · exact h
    · simpa [ActRes.Queue] using h
    · exact h0

@[simp] theorem State.action_pending (r : ActionReq) (a : Action) (t : Nat) (s : State) (ha : ∀ u, (a.run u).Queue u.pending) :
    (s.action r a t).pending = s.pending := by
  unfold State.action
  split; · rfl
  extract_lets u vf v w id
  have hu : u.pending = s.pending := by simp [u]
  have hw : w.pending = s.pending := by simp [w, hu]
  split; · simp [hu]
  split; · simp [hu]
  split; · simp [hu]
  split
  · simp [hw]
  · split
    · simp [hw]
    · exact State.actAccepted_pending r a t w s hw ha

theorem State.actRelease_queue {s : State} {q : List Instr} (hs : s.pending = q) (r : ActionReq) (code t : Nat) (ws : List AncW)
    (body : Bytes) (e : MssEff) : (s.actRelease r code t ws body e).Queue q := by
  have h := s.mssBegin_pending ws (some (repOf r body)) (some (actOf code r.ticket t)) e
  unfold State.actRelease
  split <;> rename_i hb <;> rw [hb] at h <;> exact h.trans hs

theorem State.actDraw_queue (n : Nat) (f : Bytes → State → ActRes) (s : State)
    (hf : ∀ b t, t.pending = s.pending → (f b t).Queue s.pending) : (s.actDraw n f).Queue s.pending := by
  have h := s.mssDraw_queue n
  unfold State.actDraw
  split <;> rename_i hd <;> rw [hd] at h
  · exact hf _ _ h
  · trivial
  · exact h

@[simp] theorem State.endCeremony_pending (c : Ceremony) (how : Nat) (s : State) :
    (s.endCeremony c how).pending = s.pending := by simp [State.endCeremony]

@[simp] theorem execCeremonyWindowEnd_queue (s : State) : queueAfter (execCeremonyWindowEnd s) = some s.pending := by
  unfold execCeremonyWindowEnd
  split <;> simp

theorem State.bindParent_queue (s : State) (r : KRef) (t n : Nat) (got : List (Nat × Bytes)) (t2 : Bool)
    (blobs : Option (List Bytes)) : (s.bindParent r t n got t2 blobs).Queue s.pending := by
  induction n generalizing s got t2 blobs with
  | zero => rfl
  | succ n ih =>
    have h := bindRef_queue ⟨t, got, t2, []⟩ r s
    unfold State.bindParent
    split
    · rename_i u hb
      rw [hb] at h
      have hu : u.pending = s.pending := h
      split
      · exact hu
      · exact hu
      · exact hu ▸ ih u _ _ _
    · rename_i u hb
      rw [hb] at h
      have hu : u.pending = s.pending := h
      exact hu ▸ ih u _ _ _
    · exact h

@[simp] theorem State.sealCeremony_pending (c : Ceremony) (parentBlob : Option Bytes) (s : State) :
    (s.sealCeremony c parentBlob).2.2.pending = s.pending := by
  unfold State.sealCeremony
  extract_lets len mat r
  split; · rfl
  split; · rfl
  split; · rfl
  have h := s.bindParent_queue r c.tenant 8 [] false (parentBlob.map (blocks 160))
  split
  · rename_i k _ u hb
    rw [hb] at h
    have hu : u.pending = s.pending := h
    split
    · split
      · exact hu
      · simp [hu]
    · exact hu
  · rename_i u hb
    rw [hb] at h
    exact h
  · rfl

@[simp] theorem execCcPart_queue (tag : Word) (body : Bytes) (parentBlob : Option Bytes) (s : State) :
    queueAfter (execCcPart tag body parentBlob s) = some s.pending := by
  unfold execCcPart
  split; · rfl
  extract_lets t ans
  have ht : t.pending = s.pending := by simp [t]
  have hans : ∀ st b u, u.pending = s.pending → queueAfter (ans st b u) = some s.pending := fun st b u hu => by simp [ans, hu]
  clear_value ans
  split; · exact hans _ _ _ ht
  split; · exact hans _ _ _ ht
  split; · exact hans _ _ _ ht
  split; · exact hans _ _ _ ht
  split; · exact hans _ _ _ (by simp [ht])
  split
  · extract_lets d
    split
    · exact hans _ _ _ ht
    · have hc := t.sealCeremony_pending d parentBlob
      split <;> rename_i hr <;> rw [hr] at hc <;> exact hans _ _ _ (by simpa [ht] using hc)
  · exact hans _ _ _ (by simp [ht])

/-! ### Actions -/

theorem State.commissionRun_queue (r : ActionReq) (s : State) : (s.commissionRun r).Queue s.pending := by
  refine State.actDraw_queue _ _ s fun b t ht => ?_
  extract_lets ep
  split
  rename_i u hc
  have hu : u.pending = s.pending := by simpa [ht] using snd_pending hc
  extract_lets ws
  split
  · refine State.actRelease_queue ?_ ..
    exact hu
  · simp [ActRes.Queue, hu]

@[simp] theorem execCommission_queue (r : ActionReq) (s : State) : queueAfter (execCommission r s) = some s.pending :=
  congrArg some (State.action_pending r _ _ s (State.commissionRun_queue r))

@[simp] theorem execDecommission_queue (r : ActionReq) (s : State) : queueAfter (execDecommission r s) = some s.pending := by
  refine congrArg some (State.action_pending r _ _ s fun u => State.actRelease_queue ?_ ..)
  rfl

@[simp] theorem State.originateAll_pending (r : ActionReq) (code t : Nat) (body : Bytes) (l : List (ReplRec × List AncW))
    (s : State) :
    (s.originateAll r code t body l).pending = s.pending := by
  induction l generalizing s with
  | nil => rfl
  | cons x l ih => cases l <;> simp_all [State.originateAll]

theorem State.actOriginate_queue {s : State} {q : List Instr} (hs : s.pending = q) (r : ActionReq) (code t : Nat) (body : Bytes)
    (l : List (ReplRec × List AncW)) : (s.actOriginate r code t body l).Queue q := by
  unfold State.actOriginate
  dsimp only
  split <;> simp [ActRes.Queue, hs]

@[simp] theorem execOfficerTable_queue (r : ActionReq) (s : State) : queueAfter (execOfficerTable r s) = some s.pending := by
  refine congrArg some (State.action_pending r _ _ s fun u => ?_)
  dsimp only
  split
  · exact State.actOriginate_queue rfl ..
  · exact State.actRelease_queue rfl ..

@[simp] theorem execTenantCreate_queue (r : ActionReq) (s : State) : queueAfter (execTenantCreate r s) = some s.pending := by
  refine congrArg some (State.action_pending r _ _ s fun u => State.actDraw_queue _ _ u fun b t ht => ?_)
  dsimp only
  split
  · exact ht
  · rename_i crk v hc
    have hv : v.pending = u.pending := (State.crkFor_pending hc).trans ht
    split
    · exact State.actOriginate_queue (by simp [hv]) ..
    · exact State.actRelease_queue (by simp [hv]) ..

@[simp] theorem execTenantConfig_queue (r : ActionReq) (s : State) : queueAfter (execTenantConfig r s) = some s.pending := by
  refine congrArg some (State.action_pending r _ _ s fun u => ?_)
  dsimp only
  split
  · exact State.actOriginate_queue rfl ..
  · exact State.actRelease_queue rfl ..

@[simp] theorem execTenantRemove_queue (r : ActionReq) (s : State) : queueAfter (execTenantRemove r s) = some s.pending := by
  refine congrArg some (State.action_pending r _ _ s fun u => ?_)
  dsimp only
  split <;> rename_i hb <;> exact (snd_pending hb).trans (State.mssBeginJ_pending _ _ _ _ _ _ _ u fun v => by simp)

@[simp] theorem execCcImport_queue (r : ActionReq) (s : State) : queueAfter (execCcImport r s) = some s.pending := by
  refine congrArg some (State.action_pending r _ _ s fun u => ?_)
  simp [ActRes.Queue]

@[simp] theorem execDrkBackup_queue (r : ActionReq) (s : State) : queueAfter (execDrkBackup r s) = some s.pending := by
  refine congrArg some (State.action_pending r _ _ s fun u => State.actDraw_queue _ _ u fun b t ht => ?_)
  dsimp only
  split
  · exact ht
  · rename_i v hc
    have hv : v.pending = u.pending := (State.loadCrk_pending hc).trans ht
    simp [ActRes.Queue, hv]

@[simp] theorem execTamperPolicy_queue (r : ActionReq) (s : State) : queueAfter (execTamperPolicy r s) = some s.pending := by
  refine congrArg some (State.action_pending r _ _ s fun u => ?_)
  dsimp only
  split <;> rename_i hp <;> simp [ActRes.Queue, fst_pending hp]

@[simp] theorem execRecorderClear_queue (r : ActionReq) (s : State) : queueAfter (execRecorderClear r s) = some s.pending := by
  refine congrArg some (State.action_pending r _ _ s fun u => ?_)
  dsimp only
  split
  · trivial
  · split <;> simp [ActRes.Queue]

@[simp] theorem State.programBank_pending (image : Bytes) (s : State) :
    (s.programBank image).pending = s.pending := by simp [State.programBank]

@[simp] theorem State.firmware_pending (r : ActionReq) (image : HostRead) (s : State) :
    (s.firmware r image).pending = s.pending := by
  refine State.action_pending r _ _ s fun u => ?_
  dsimp only
  split
  · split
    · exact State.actRelease_queue rfl ..
    · exact State.actRelease_queue (by simp) ..
  · simp [ActRes.Queue]

@[simp] theorem execOverlaySelect_queue (r : ActionReq) (s : State) : queueAfter (execOverlaySelect r s) = some s.pending :=
  congrArg some (State.action_pending r _ _ s fun _ => State.actRelease_queue rfl ..)

theorem State.enrolAction_queue (r : ActionReq) (kind : Nat) (pre : State → Nat) (run : State → ActRes) (s : State)
    (hr : ∀ u, (run u).Queue u.pending) : queueAfter (s.enrolAction r kind pre run) = some s.pending := by
  simp [State.enrolAction, hr]

@[simp] theorem execClusterEnrolJoin_queue (r : ActionReq) (s : State) :
    queueAfter (execClusterEnrolJoin r s) = some s.pending := by
  refine State.enrolAction_queue r _ _ _ s fun u => ?_
  dsimp only
  split
  · exact State.actRelease_queue rfl ..
  · rfl

@[simp] theorem execClusterRemove_queue (r : ActionReq) (s : State) : queueAfter (execClusterRemove r s) = some s.pending := by
  refine State.enrolAction_queue r _ _ _ s fun u => ?_
  dsimp only
  split
  · exact State.actOriginate_queue (by simp) ..
  · simp [ActRes.Queue]

@[simp] theorem execCrkChange_queue (r : ActionReq) (s : State) : queueAfter (execCrkChange r s) = some s.pending := by
  refine State.enrolAction_queue r _ _ _ s fun u => State.actDraw_queue _ _ u fun b t ht => ?_
  simp [ActRes.Queue, ht]

@[simp] theorem execClusterParameters_queue (r : ActionReq) (s : State) : queueAfter (execClusterParameters r s) = some s.pending :=
  State.enrolAction_queue r _ _ _ s fun _ => State.actOriginate_queue rfl ..

/-! ### Anchor writes that complete -/

@[simp] theorem State.commitOwner_pending (o : Owner) (s : State) : (s.commitOwner o).pending = s.pending := by
  unfold State.commitOwner
  split <;> simp

@[simp] theorem State.keySeqPersist_pending (t seq : Nat) (s : State) :
    (s.keySeqPersist t seq).pending = s.pending := by simp [State.keySeqPersist]

@[simp] theorem State.commitRels_pending (eff : MssEff) (s : State) :
    (s.commitRels eff).pending = s.pending := by simp [State.commitRels]

@[simp] theorem State.afterAnchor_pending (e : Eff) (s : State) : (s.afterAnchor e).pending = s.pending := by
  unfold State.afterAnchor
  split <;> simp

@[simp] theorem State.anchorDone_pending (s : State) : s.anchorDone.pending = s.pending := by
  unfold State.anchorDone
  split <;> simp

@[simp] theorem execQuarantineCountAgeOut_queue (u : QUnit) (s : State) :
    queueAfter (execQuarantineCountAgeOut u s) = some s.pending := by
  unfold execQuarantineCountAgeOut
  split <;> simp

/-! ### Interconnect accesses -/

@[simp] theorem State.accHole_pending (a : Access) (s : State) : (s.accHole a).pending = s.pending := by simp [State.accHole]

@[simp] theorem State.captureSynd_pending (a : Access) (synd : Nat) (ue dram : Bool) (s : State) :
    (s.captureSynd a synd ue dram).pending = s.pending := by simp [State.captureSynd]

@[simp] theorem State.sramLost_pending (a : Access) (syn : Nat) (s : State) :
    (s.sramLost a syn).pending = s.pending := by simp [State.sramLost]

@[simp] theorem State.sramCorrected_pending (a : Access) (k syn : Nat) (s : State) :
    (s.sramCorrected a k syn).pending = s.pending := by simp [State.sramCorrected]

@[simp] theorem State.sramRead_pending (a : Access) (s : State) : (s.sramRead a).pending = s.pending := by
  simp only [State.sramRead]
  (repeat' split) <;> simp

@[simp] theorem putBytes_pending (bad : List Nat) (x : Nat) (bs : Bytes) (s : State) :
    (putBytes bad x bs s).pending = s.pending := by
  induction bs generalizing x s with
  | nil => rfl
  | cons b bs ih => simp [putBytes, ih]

@[simp] theorem State.sramWrite_pending (a : Access) (s : State) : (s.sramWrite a).pending = s.pending := by
  unfold State.sramWrite
  extract_lets ks full part lost bad t good u v w
  have ht : t.pending = s.pending := by
    unfold t
    split <;> simp
  have hv : v.pending = s.pending := by
    refine (foldl_pending _ _ _ fun x k => ?_).trans ((foldl_pending _ _ _ fun x k => ?_).trans ?_) <;> simp [ht]
  split
  · simp [hv]
  · simp [w, hv]

@[simp] theorem State.dramLost_pending (a : Access) (dies : Nat) (s : State) :
    (s.dramLost a dies).pending = s.pending := by simp [State.dramLost]

@[simp] theorem State.dramRead_pending (a : Access) (s : State) : (s.dramRead a).pending = s.pending := by
  simp only [State.dramRead]
  (repeat' split) <;> simp

@[simp] theorem State.dramWriteStripe_pending (a : Access) (i : Nat) (e : Ecc) (s : State) :
    (s.dramWriteStripe a i e).2.pending = s.pending := by
  simp only [State.dramWriteStripe]
  (repeat' split) <;> simp

@[simp] theorem State.dramWrite_pending (a : Access) (s : State) : (s.dramWrite a).pending = s.pending := by
  simp only [State.dramWrite, State.accAnswer_keeps]
  exact List.foldlRecOn (stripesOf a) _ (motive := fun u : Bool × State => u.2.pending = s.pending) rfl
    (fun u hu i _ => by simp [hu])

@[simp] theorem State.hostAcc_pending (a : Access) (s : State) : (s.hostAcc a).pending = s.pending := by simp [State.hostAcc]

@[simp] theorem State.accPass_pending (a : Access) (s : State) : (s.accPass a).pending = s.pending := by
  unfold State.accPass
  split <;> simp

@[simp] theorem State.faultEnds_pending (a : Access) (s : State) : (s.faultEnds a).pending = s.pending := by
  simp only [State.faultEnds]
  (repeat' split) <;> simp

@[simp] theorem State.accFault_pending (a : Access) (k : TgKind) (rule : Nat) (s : State) :
    (s.accFault a k rule).pending = s.pending := by simp [State.accFault]

@[simp] theorem State.accDefault_pending (a : Access) (s : State) :
    (s.accDefault a).pending = s.pending := by simp [State.accDefault]

@[simp] theorem State.ruleLost_pending (a : Access) (i : Nat) (s : State) :
    (s.ruleLost a i).pending = s.pending := by simp [State.ruleLost]

@[simp] theorem State.accRules_pending (a : Access) (s : State) : (s.accRules a).pending = s.pending := by
  unfold State.accRules
  split <;> simp

@[simp] theorem State.accDecide_pending (a : Access) (s : State) : (s.accDecide a).pending = s.pending := by
  unfold State.accDecide
  (repeat' split) <;> simp

@[simp] theorem State.accArrive_pending (a : Access) (s : State) :
    (s.accArrive a).pending = s.pending := by simp [State.accArrive]

@[simp] theorem State.tgEnableNow_pending (s : State) : s.tgEnableNow.pending = s.pending := by simp [State.tgEnableNow]

/-! ### Registers -/

@[simp] theorem State.qpField_pending (f q : Nat) (g : QP → QP) (s : State) :
    (s.qpField f q g).pending = s.pending := by simp [State.qpField]

@[simp] theorem State.writeQp_pending (f q : Nat) (r : Reg) (x : DWord) (s : State) :
    (s.writeQp f q r x).pending = s.pending := by
  unfold State.writeQp
  (repeat' split) <;> simp

@[simp] theorem State.writeMsix_pending (f v : Nat) (r : Reg) (x : DWord) (s : State) :
    (s.writeMsix f v r x).pending = s.pending := by
  unfold State.writeMsix
  (repeat' split) <;> simp

@[simp] theorem State.writeParLatch_pending (x : DWord) (s : State) :
    (s.writeParLatch x).pending = s.pending := by simp [State.writeParLatch]

@[simp] theorem State.writeMss_pending (r : Reg) (x : DWord) (s : State) : (s.writeMss r x).pending = s.pending := by
  cases r
  case parBlog i => exact State.ite_keeps (by simp) rfl
  case pksUcodeDigest i => exact State.ite_keeps rfl rfl
  case memErrInfo => exact State.ite_keeps rfl rfl
  case pwrMode => exact State.ite_keeps rfl rfl
  all_goals rfl

@[simp] theorem State.writePf_pending (r : Reg) (x : DWord) (s : State) : (s.writePf r x).pending = s.pending := by
  cases r
  all_goals rfl

@[simp] theorem State.writeVf_pending (f : Nat) (r : Reg) (x : DWord) (s : State) : (s.writeVf f r x).pending = s.pending := by
  unfold State.writeVf
  split <;> simp

@[simp] theorem State.writeRing_pending (r : Reg) (x : DWord) (s : State) : (s.writeRing r x).pending = s.pending := by
  unfold State.writeRing
  split <;> simp

@[simp] theorem State.writeReg_pending (v : View) (r : Reg) (x : DWord) (s : State) : (s.writeReg v r x).pending = s.pending := by
  unfold State.writeReg
  (repeat' split) <;> simp

/-! ### Power states -/

@[simp] theorem State.parkGroup_pending (g : Nat) (s : State) : (s.parkGroup g).pending = s.pending := by
  unfold State.parkGroup
  refine foldl_pending _ _ _ fun t p => ?_
  split <;> simp

@[simp] theorem State.unparkGroup_pending (g : Nat) (s : State) : (s.unparkGroup g).pending = s.pending := by
  simp only [State.unparkGroup]
  split <;> simp

@[simp] theorem State.groupSettle_pending (g : Nat) (s : State) :
    (s.groupSettle g).pending = s.pending := by simp [State.groupSettle]

@[simp] theorem State.allocate_pending (s : State) : s.allocate.pending = s.pending := by simp [State.allocate]

@[simp] theorem State.goOn_pending (s : State) : s.goOn.pending = s.pending := by simp [State.goOn]

@[simp] theorem State.abandonEntry_pending (m : BitVec 2) (ap : Nat) (s : State) :
    (s.abandonEntry m ap).pending = s.pending := by simp [State.abandonEntry]

@[simp] theorem State.powerOff_pending (s : State) : s.powerOff.pending = s.pending := by simp [State.powerOff]

@[simp] theorem State.entryStep_pending (m : BitVec 2) (k : Nat) (s : State) : (s.entryStep m k).pending = s.pending := by
  unfold State.entryStep
  split <;> simp

@[simp] theorem State.startWake_pending (s : State) : s.startWake.pending = s.pending := by simp [State.startWake]

@[simp] theorem execEntryStepEnd_queue (s : State) : queueAfter (execEntryStepEnd s) = some s.pending := by
  unfold execEntryStepEnd
  split <;> simp

@[simp] theorem State.wakeBy_pending (src : WakeSrc) (s : State) : (s.wakeBy src).pending = s.pending := by
  unfold State.wakeBy
  (repeat' split) <;> simp

@[simp] theorem State.wakeEnds_pending (old : BitVec 2) (bits : Word) (t0 : Nat) (s : State) :
    (s.wakeEnds old bits t0).pending = s.pending := by simp [State.wakeEnds]

@[simp] theorem execDrowseWakeDone_queue (first : PllName) (s : State) :
    queueAfter (execDrowseWakeDone first s) = some s.pending := by
  unfold execDrowseWakeDone
  split <;> simp

@[simp] theorem State.loadRules_pending (s : State) : s.loadRules.pending = s.pending := by simp [State.loadRules]

@[simp] theorem State.loadFw_pending (s : State) : s.loadFw.pending = s.pending := by simp [State.loadFw]

@[simp] theorem execDormantWakeDone_queue (s : State) : queueAfter (execDormantWakeDone s) = some s.pending := by
  simp only [execDormantWakeDone]
  (repeat' split) <;> simp

@[simp] theorem State.quiesceItem_pending (d : Nat) (e : Entry) (s : State) : (s.quiesceItem d e).pending = s.pending := by
  unfold State.quiesceItem
  split <;> simp

@[simp] theorem State.loseMain_pending (s : State) : s.loseMain.pending = s.pending := by
  unfold State.loseMain
  split
  · rfl
  · extract_lets t u _ _ _ _ v w x _ _ z y
    have ht : t.pending = s.pending := by
      unfold t
      split <;> simp
    have hv : v.pending = s.pending := by simp [v, u, ht]
    have hx : x.pending = s.pending := by simp [x, w, hv]
    split <;> simp [y, z, hv, hx]

/-! ### Boot -/

@[simp] theorem State.cold_pending (s : State) : s.cold.pending = s.pending := by simp [State.cold]

@[simp] theorem State.warm_pending (s : State) : s.warm.pending = s.pending := by simp [State.warm]

@[simp] theorem State.rebuildKet_pending (s : State) : s.rebuildKet.pending = s.pending := by
  unfold State.rebuildKet
  exact foldl_pending _ _ _ fun t x => State.setKeyWord_pending _ _ _ t

@[simp] theorem State.restoreEvr_pending (s : State) : s.restoreEvr.pending = s.pending := by simp [State.restoreEvr]

@[simp] theorem State.findings_pending (s : State) : s.findings.pending = s.pending := by simp [State.findings]

@[simp] theorem State.sameRecovery_pending (b : Bool) (flips : BitVec 16) (code : Nat) (s : State) :
    (s.sameRecovery b flips code).2.pending = s.pending := by
  simp only [State.sameRecovery]
  split <;> simp

@[simp] theorem State.pickRecovery_pending (b : Bool) (flips : BitVec 16) (code : Nat) (s : State) :
    (s.pickRecovery b flips code).2.pending = s.pending := by
  simp only [State.pickRecovery]
  (repeat' split) <;> simp

@[simp] theorem State.pickBank_pending (b : Bool) (flips : BitVec 16) (code cause : Nat) (s : State) :
    (s.pickBank b flips code cause).2.pending = s.pending := by
  unfold State.pickBank
  split <;> rename_i h <;> simp [snd_pending h]

@[simp] theorem State.rollBack_pending (b : Bool) (s : State) : (s.rollBack b).pending = s.pending := by simp [State.rollBack]

@[simp] theorem State.pick_pending (obs : BootObs) (s : State) : (s.pick obs).2.pending = s.pending := by
  unfold State.pick
  split
  extract_lets sel trial again b t _ u
  have ht : t.pending = s.pending := by simp [t]
  split
  · simp [ht]
  · split
    · simp [ht]
    · split <;> rename_i h <;> simp [snd_pending h, u, ht]

@[simp] theorem State.identify_pending (p : BootPick) (s : State) : (s.identify p).pending = s.pending := by simp [State.identify]

@[simp] theorem State.keystoneCheck_pending (s : State) : s.keystoneCheck.pending = s.pending := by simp [State.keystoneCheck]

@[simp] theorem State.bootStart_pending (cause : BitVec 4) (obs : BootObs) (s : State) :
    (s.bootStart cause obs).pending = s.pending := by simp [State.bootStart]

@[simp] theorem State.haltRom_pending (s : State) : s.haltRom.pending = s.pending := by simp [State.haltRom]

@[simp] theorem State.bootFirm_pending (s : State) : s.bootFirm.pending = s.pending := by simp [State.bootFirm]

@[simp] theorem State.bootFrom_pending (fresh : Bool) (cause : BitVec 4) (obs : BootObs) (s : State) :
    (s.bootFrom fresh cause obs).pending = s.pending := by simp [State.bootFrom]

@[simp] theorem drainAnchors_pending (n : Nat) (s : State) : (drainAnchors n s).pending = s.pending := by
  induction n generalizing s with
  | zero => rfl
  | succ n ih => simp [drainAnchors, ih]

@[simp] theorem execModuleReset_queue (obs : BootObs) (s : State) : queueAfter (execModuleReset obs s) = some s.pending := by
  unfold execModuleReset
  split <;> simp

@[simp] theorem State.bootVoid_pending (v : Nat × Nat × Nat) (s : State) :
    (s.bootVoid v).pending = s.pending := by simp [State.bootVoid]

@[simp] theorem State.bootReleases_pending (s : State) : s.bootReleases.pending = s.pending := by simp [State.bootReleases]

@[simp] theorem State.bootTrestle_pending (s : State) : s.bootTrestle.pending = s.pending := by simp [State.bootTrestle]

/-! ### Supplies and pins -/

@[simp] theorem State.powerGone_pending (s : State) : s.powerGone.pending = s.pending := by simp [State.powerGone]

@[simp] theorem State.openSwitch_pending (s : State) : s.openSwitch.pending = s.pending := by simp [State.openSwitch]

/-! ### All commands -/

/-- **Every command answers a next state and leaves the queue as it is.** A command whose meaning matches on what an operation answers
has its lemma above; each of those listed here by its unit is one operation, or a choice between updates, whose queue is known. -/
theorem exec_queue (c : Instr) (s : State) : queueAfter (exec c s) = some s.pending := by
  cases c
  all_goals simp [exec,
    -- configuration flash
    execCfgRead, execCfgProgram, execCfgErase, execCfgHash, execAncMarkWorn,
    -- dispatch, replay and piers
    execPierFault, execPierSelfTestEnd,
    -- random numbers
    execRngDraw, execRngRawRead, execSourceExclude, execExpanderReseedDue, execRngKat, execRawEnWrite,
    -- payment items
    execPinTranslate, execPinVerifyOffset, execPinGenerateOffset, execDukptPinTranslate, execDukptMacVerify, execMacGenerate,
    execMacVerify, execEmvArqcVerify, execEmvArpcGenerate, execCvcGenerate, execCvcVerify, execFpeFf1, execXtsSector,
    -- public-key items
    execPkSign, execPkVerify, execPkEcdh, execPkKeygen, execRsaDecrypt, execRandom, execKeyStateRead, execSessionCloseAll,
    -- key management items and the journal
    execKeyImportBlock, execKeyExportBlock, execKeyGenerate, execKeyReplaceStage, execKeyReplaceCommit, execKeyReplaceAbandon,
    execKeyReplaceStatus, execKeyRevoke, execKeyRewrap, execJournalHalfErase, execAnchorWindowExpiry, execKcFlush,
    execKcFlushDone, execGenerate, execClear,
    -- release of items
    execImodTimerExpiry,
    -- host link, queue pairs and functions
    execSqDoorbell, execCqHeadWrite, execQpEnable, execQpDisable, execMsixUnmask, execDescriptorReadError, execTenantSuspend,
    execVfFlr, execVfSessionsClear, execVfFlrReady, execVfEnableClear, execVfEnableSet, execPfFlr, execPfFlrReady, execHotReset,
    execDlDown, execConfigRequest,
    -- clocks, groups and bays
    execClockMonitorWindow, execFabricPllFail, execStandbyPllFail, execPllQuarantineEnd, execSecondPllLock, execMssPllLoss,
    execMssPllRelock, execPierGroupPowerUp, execBayPowerGate, execBayWake, execBayWakeDone,
    -- tollgate
    execTgHold, execTgDrained, execTgRuleWrite, execHoldLong, execTgFaultRearm,
    -- engines
    execEcbEncrypt, execEcbDecrypt, execCbcEncrypt, execCbcDecrypt, execCtr, execCfbEncrypt, execCfbDecrypt, execGcmEncrypt,
    execGcmDecrypt, execCmacGenerate, execCmacVerify, execAlg1MacGenerate, execAlg1MacVerify, execAlg3MacGenerate,
    execAlg3MacVerify, execEngineCvcGenerate, execEngineCvcVerify, execFf1Round, execXtsEncrypt, execXtsDecrypt,
    execDeriveToSlot, execDeriveOut, execPinOpen, execPinSeal, execPinOffsetGenerate, execPinOffsetVerify, execPinVvGenerate,
    execPinVvVerify, execSha256, execSha384, execSha512, execHmacGenerate, execHmacVerify, execRsaPrivateOp, execRsaPublicOp,
    execRsaOaepDecrypt, execRsaV15Decrypt, execRsaKeygen, execRsaPublicFromPrivate, execEcdsaSign, execEcdsaVerify, execEcdhKdf,
    execEcKeygen, execEcPublicFromScalar, execX25519Kdf, execEd25519Sign, execEd25519Verify, execCurve25519Keygen,
    execEngineFaultDetect, execEngineSelfTestEnd, execPksFaultDetect, execPksSelfTestEnd, execBayPark,
    -- public-key engines
    execLoad, execUcodeLoadDone, execLock, execPksScrub, execScrubEnd, execMulacc, execMulaccShift, execAccClear, execAccStore,
    execRamClear,
    -- draws, reports and requests of the MSS
    execTenantInfo, execVfMbxGo,
    -- cluster
    execHeartbeat, execAckOnly, execTrestleFrameDrop, execEnrolHelloTimer, execSakSet, execSakRollover, execSakPreviousExpiry,
    execRemove, execRepl, execReplAck, execPropose, execDecision, execWithdraw, execApply, execApplied, execResyncReq,
    execResyncData, execResync, execHeartbeatTimer, execTakeover, execCrkReady, execCrkCommit,
    -- event recorder
    execRecordOffer, execCeilingRaiseDone, execCeilingRetry, execSecondEnd, execEvrWrGo,
    -- memory integrity
    execDieMarkFailed, execEccTestMode, execDramKeyWrite, execZeroFillEnd,
    -- parapet
    execLoopCheck, execAlarmLatch, execParapetDecisionEnd, execSourceRearm, execPolicyOpen, execParPolicyWrite,
    execPolicyWindowClose, execAlarmClr, execBootHoldRelease,
    -- tickets and ceremonies
    execSmbStatus, execSmbTemp, execSmbV12, execSmbI12, execSmbPower, execSmbHoldup, execSmbSerial, execSmbVersions,
    execSmbAlertCause, execSmbusAlertResponse, execServiceFrame, execMssWatchdogExpiry, execWarmRestartEnd,
    -- actions
    execFirmwareStageActivate, execFirmwareActivateInactive, execFirmwareRaiseMinimums,
    -- anchor writes that complete
    execAnchorWriteComplete,
    -- interconnect accesses
    execInterconnectAccess, execTgEnable,
    -- registers
    execRegisterWrite,
    -- power states
    execEnvelopeWrite, execEnvelopeMet, execLinkL12Entry, execWait, execDrowseIdleExpiry, execWakeEvent, execWakeTimer,
    execPadRelease, execPerstAssert, execPerstDeassert, execMainPowerLoss, execQuiesceDone,
    -- boot
    execPowerOn, execMainPowerReturn, execBootComplete,
    -- supplies and pins
    execAuxPowerLoss, execAuxPowerReturn, execChargeUpdate, execBackupSupplyLoss, execSoftStartTrip, execReverseCurrentTrip,
    execSoftStartClose, execTemperatureAlert]

/-- Settles O3: no command faults or is refused, and none changes the queue. -/
theorem everyCommandCompletes : Obligations.EveryCommandCompletes := by
  unfold Obligations.EveryCommandCompletes
  exact fun c s => (queueAfter_eq_some (exec c s) s.pending).1 (exec_queue c s)

end Sys2Proof.Machine
end

section
/-! PROOFS. What recording and signalling an event changes (02_host_link_and_tenants.md, 14_event_recorder.md). -/

namespace Sys2Proof.Machine

/-! ## Reports (R70, R71, R540 to R551, R659) -/

/-- From `s` to `t` nothing happens but that events are recorded and signalled: of the host interface only MSI-X entries change, of
the power unit only the halt that an interrupt ends and NRG_EVT, and the recorder's input queue only grows. -/
structure Reported (s t : State) : Prop where
  frame : Frame (reports []) s t
  hiu : t.hiu = { s.hiu with msix := t.hiu.msix }
  pwr : t.pwr = { s.pwr with halted := t.pwr.halted, evt := t.pwr.evt }
  running : s.pwr.halted = false → t.pwr.halted = false
  queue : ∃ l, t.evr.queue = s.evr.queue ++ l

namespace Reported

theorem refl (s : State) : Reported s s := ⟨.refl _ s, rfl, rfl, id, [], (List.append_nil _).symm⟩

theorem trans {s t u : State} (h : Reported s t) (k : Reported t u) : Reported s u where
  frame := h.frame.trans k.frame
  hiu := by rw [k.hiu, h.hiu]
  pwr := by rw [k.pwr, h.pwr]
  running := fun hr => k.running (h.running hr)
  queue := by
    obtain ⟨l, hl⟩ := h.queue
    obtain ⟨m, hm⟩ := k.queue
    exact ⟨l ++ m, by rw [hm, hl, List.append_assoc]⟩

end Reported

theorem State.msix_reported (fn vec : Nat) (s : State) : Reported s (s.msix fn vec) where
  frame := by simp [Frame, reports]
  hiu := by
    simp only [State.msix]
    split <;> rfl
  pwr := by simp
  running := by simp
  queue := ⟨[], by simp⟩

theorem State.signal_reported (src : Nat) (s : State) : Reported s (s.signal src) where
  frame := by simp [Frame, reports]
  hiu := rfl
  pwr := rfl
  running := fun hr => by rw [State.signal, hr, Bool.false_and]
  queue := ⟨[], by simp⟩

/-- A report that begins with a change `u` of the recorder alone, which lets its queue only grow. -/
theorem Reported.of_evr {s u t : State} (h : Reported u t) (hu : u = { s with evr := u.evr })
    (hq : ∃ l, u.evr.queue = s.evr.queue ++ l) : Reported s t :=
  Reported.trans ⟨by rw [hu]; simp [Frame, reports], by rw [hu], by rw [hu], fun hr => by rw [hu]; exact hr, hq⟩ h

/-- The queue of the recorder is as before. -/
theorem queue_same {q r : List Offer} (h : r = q) : ∃ l, r = q ++ l := ⟨[], by rw [h, List.append_nil]⟩

theorem State.evrEvent_reported (bits : BitVec 5) (s : State) : Reported s (s.evrEvent bits) := by
  have start : Reported s { s with evr.evt := s.evr.evt ||| bits } := .of_evr (.refl _) rfl (queue_same rfl)
  simp only [State.evrEvent]
  split
  · exact start
  · exact (start.trans (State.msix_reported ..)).trans (State.signal_reported ..)

theorem State.evrDrop_reported (s : State) : Reported s s.evrDrop :=
  .of_evr (State.evrEvent_reported ..) rfl (queue_same rfl)

/-- An offered record is summarised, dropped or put at the queue's end (R541, R547 to R549). -/
theorem State.offer_reported (o : Offer) (s : State) : Reported s (s.offer o) := by
  unfold State.offer
  extract_lets n _ t
  have start : Reported s t := .of_evr (.refl _) rfl (queue_same rfl)
  refine start.trans ?_
  split
  · exact .of_evr (.refl _) rfl (queue_same rfl)
  · split
    · split
      · exact .of_evr (State.evrEvent_reported ..) rfl (queue_same rfl)
      · exact State.evrDrop_reported t
    · split
      · exact .of_evr (.refl _) rfl ⟨[o], rfl⟩
      · exact State.evrDrop_reported t

theorem State.event_reported (src code p0 p1 p2 p3 : Nat) (s : State) : Reported s (s.event src code p0 p1 p2 p3) :=
  State.offer_reported ..

theorem State.eventSig_reported (src code p0 p1 p2 p3 : Nat) (s : State) : Reported s (s.eventSig src code p0 p1 p2 p3) :=
  (State.event_reported ..).trans (State.signal_reported ..)

theorem State.nrgEvent_reported (bits : BitVec 4) (s : State) : Reported s (s.nrgEvent bits) := by
  have start : Reported s { s with pwr.evt := s.pwr.evt ||| bits } := ⟨by simp [Frame, reports], rfl, rfl, id, queue_same rfl⟩
  simp only [State.nrgEvent]
  split
  · exact start
  · exact (start.trans (State.msix_reported ..)).trans (State.signal_reported ..)

/-- An event that is recorded joins the recorder's queue (R541). -/
theorem State.event_recorded (src code p0 p1 p2 p3 : Nat) (s : State) :
    Recorded ⟨BitVec.ofNat 16 src, BitVec.ofNat 16 code, w32 p0, w32 p1, w32 p2, w32 p3⟩ s (s.event src code p0 p1 p2 p3) := by
  intro hf hc hq
  refine ⟨[_], ?_, List.mem_singleton_self _⟩
  rw [State.event, State.offer_joins _ s hf hc (by omega)]

/-- A record stays in the queue that it joined while nothing but reports follows. -/
theorem Recorded.reported {o : Offer} {s t u : State} (h : Recorded o s t) (k : ∃ l, u.evr.queue = t.evr.queue ++ l) : Recorded o s u := by
  intro hf hc hq
  obtain ⟨l, hl, ho⟩ := h hf hc hq
  obtain ⟨m, hm⟩ := k
  exact ⟨l ++ m, by rw [hm, hl, List.append_assoc], List.mem_append_left m ho⟩

/-- Whether a record joins the queue depends on the recorder alone. -/
theorem Recorded.of_evr_eq {o : Offer} {s s' t : State} (h : Recorded o s t) (e : s.evr = s'.evr) : Recorded o s' t := by
  unfold Recorded at h ⊢
  rwa [← e]

end Sys2Proof.Machine
end

section
/-! PROOFS. The frames of binding and starting an item (03_command_model.md, 06_key_hierarchy.md): its entry, the key cache and the
reads sent out. -/

namespace Sys2Proof.Machine

/-! ## Frames of binding and starting an item (R123, R276) -/

/-- Choosing between two states of one frame. -/
theorem Frame.ite {l : List Part} {s a b : State} {c : Prop} [Decidable c] (ha : Frame l s a) (hb : Frame l s b) :
    Frame l s (if c then a else b) := by
  split
  · exact ha
  · exact hb

theorem Frame.of_eq {l : List Part} {s t : State} (h : t = s) : Frame l s t := h ▸ Frame.refl l s

/-- The key cache, and the poison of the words that a fill writes. -/
abbrev cacheParts : List Part := [.keys, .mi]

/-- What binding and starting an item may change: its entry, the key cache and the reads sent out. -/
abbrev startParts : List Part := [.deck, .keys, .mi, .out]

theorem Frame.cache_start {s t : State} (h : Frame cacheParts s t) : Frame startParts s t := h.mono (by decide)

theorem State.install_frame {hdr mat : Bytes} {parent k : Nat} {s t : State} (h : s.install hdr mat parent = some (k, t)) :
    Frame cacheParts s t := by
  unfold State.install at h
  dsimp only at h
  split at h <;> cases h
  simp [Frame]

theorem State.pinSlot_frame (k : Nat) (s : State) : Frame cacheParts s (s.pinSlot k) := by simp [Frame]

theorem State.loadCrk_frame {s t : State} (h : s.loadCrk = some t) : Frame cacheParts s t := by
  unfold State.loadCrk at h
  extract_lets found b at h
  split at h
  · exact .of_eq (Option.some.inj h).symm
  · split at h
    · obtain ⟨m, -, rfl⟩ := Option.map_eq_some_iff.1 h
      simp [Frame]
    · cases h

theorem State.crkFor_frame {s t : State} {epoch : Nat} {crk : Bytes} (h : s.crkFor epoch = some (crk, t)) : Frame cacheParts s t := by
  unfold State.crkFor at h
  split at h
  · obtain ⟨u, hu, hx⟩ := Option.map_eq_some_iff.1 h
    cases hx
    exact State.loadCrk_frame hu
  · split at h
    · obtain ⟨m, -, hx⟩ := Option.map_eq_some_iff.1 h
      cases hx
      exact .refl _ s
    · cases h

/-- Whatever state a bind answers, it has the frame `l` from `s`. -/
def BRes.Framed (l : List Part) (s : State) : BRes → Prop
  | .ok _ t => Frame l s t
  | .fail _ t => Frame l s t
  | .need _ t => Frame l s t
  | .wait t => Frame l s t

theorem bindTdk_framed (c : BCtx) (s : State) : (bindTdk c s).Framed cacheParts s := by
  unfold bindTdk
  extract_lets ep slot hit
  iterate 9 (split; · exact Frame.refl _ s)
  rename_i hc
  have ht := State.crkFor_frame hc
  split
  · exact ht
  · exact ht.trans (by simp [Frame])

theorem installAll_frame {parent : Nat} {l : List (Bytes × Bytes)} {ks : List Nat} {s t : State}
    (h : installAll parent l s = some (ks, t)) : Frame cacheParts s t := by
  induction l generalizing s ks with
  | nil => cases h; exact .refl ..
  | cons x l ih =>
    simp only [installAll] at h
    split at h
    · cases h
    · split at h <;> cases h
      exact (State.install_frame ‹_›).trans (ih ‹_›)

/-- A bind goes up the key hierarchy one level per unit of fuel: binding the parent has the frame (`hparent`), and so has installing
the key below it. -/
theorem bindKey_framed (c : BCtx) (fuel level idx kid : Nat) (mode : BMode) (s : State) :
    (bindKey c fuel level idx kid mode s).Framed cacheParts s := by
  induction fuel generalizing level idx kid mode with
  | zero => exact Frame.refl _ s
  | succ fuel ih =>
    unfold bindKey
    extract_lets ep hit _ parent t2 t2' bs hd
    have hparent : ∀ h, (parent h).Framed cacheParts s := by
      intro h
      unfold parent
      split
      · exact bindTdk_framed c s
      · split
        · exact Frame.refl _ s
        · exact ih ..
    clear_value ep hit parent t2'
    split
    case h_1 =>
      split
      · exact Frame.refl _ s
      · exact Frame.ite (by simp [Frame]) (.refl _ s)
    case h_2 =>
      split; · exact Frame.refl _ s
      split
      case h_1 l =>
        split; · exact Frame.refl _ s
        have hp := hparent ((l.map (fun x => x.hdr)).headD [])
        split
        case h_1 ps u hb =>
          rw [hb] at hp
          split
          · exact Frame.trans (Frame.trans hp (installAll_frame ‹_›)) (Frame.ite (by simp [Frame]) (.refl _ _))
          · exact hp
        case h_2 => exact hp
      case h_2 =>
        iterate 3 (split; · exact Frame.refl _ s)
        split
        case h_2 => exact Frame.refl _ s
        have hp := hparent hd
        split
        case h_1 ps u hb =>
          rw [hb] at hp
          extract_lets pk pe
          iterate 3 (split; · exact hp)
          split
          · exact Frame.trans (Frame.trans hp (installAll_frame ‹_›)) (by simp [Frame])
          · exact hp
        case h_2 hb =>
          rw [hb] at hp
          exact hp
        case h_3 => exact hp

theorem bindRef_framed (c : BCtx) (r : KRef) (s : State) : (bindRef c r s).Framed cacheParts s := by
  have count : ∀ {t : State}, Frame cacheParts s t → Frame cacheParts s { t with keys.cntFillErr := t.keys.cntFillErr + 1 } :=
    fun h => h.trans (by simp [Frame])
  have ht := bindTdk_framed c s
  have hk := bindKey_framed c 5 0 r.idx r.kid r.mode s
  unfold bindRef
  split
  · split
    · rename_i hb
      rw [hb] at ht
      exact count ht
    · exact ht
  · iterate 2 (split; · exact Frame.refl _ s)
    split
    · rename_i hb
      rw [hb] at hk
      exact count hk
    · exact hk

theorem State.startInput_frame (d : Nat) (reads : List (Nat × Nat)) (s : State) : Frame startParts s (s.startInput d reads) := by
  simp [Frame]

theorem State.fail_frame (d status : Nat) (s : State) : Frame [.deck] s (s.fail d status) := by simp [Frame]

theorem State.fail_start (d status : Nat) (s : State) : Frame startParts s (s.fail d status) :=
  (State.fail_frame ..).mono (by decide)

theorem State.modEnt_start (d : Nat) (f : Entry → Entry) (s : State) : Frame startParts s (s.modEnt d f) :=
  (State.modEnt_frame ..).mono (by decide)

/-- The references are bound one after another; each step has the frame. -/
theorem State.bindFrom_frame (d : Nat) (t2ok : Bool) (reads : List (Nat × Nat)) (i : Nat) (rs : List KRef) (s : State) :
    Frame startParts s (s.bindFrom d t2ok reads i rs) := by
  induction rs generalizing t2ok i s with
  | nil => exact s.startInput_frame d reads
  | cons r rs ih =>
    unfold State.bindFrom
    split
    · exact .refl _ s
    · rename_i e _
      extract_lets old ctx
      split
      · exact ih ..
      · have h := bindRef_framed ctx r s
        split <;> rename_i hb <;> rw [hb] at h <;> replace h := Frame.cache_start h
        case h_1 ks u =>
          extract_lets hd _ v w
          split
          · exact (h.trans (.ite (.refl _ u) (by simp [Frame]))).trans (State.fail_start ..)
          · have pins : Frame startParts u v := .foldl _ (fun t k => (t.pinSlot_frame k).cache_start) ks u
            exact ((h.trans pins).trans (State.modEnt_start ..)).trans (ih ..)
        case h_2 => exact h.trans (State.fail_start ..)
        case h_3 => exact h.trans (State.modEnt_start ..)
        case h_4 => exact h.trans (State.modEnt_start ..)
        case h_5 =>
          split
          · exact h.trans (State.fail_start ..)
          · exact (h.trans (State.modEnt_start ..)).trans ((State.emit_frame ..).mono (by decide))

theorem State.bindOn_frame (d : Nat) (t2ok : Bool) (s : State) : Frame startParts s (s.bindOn d t2ok) := by
  unfold State.bindOn
  split
  · exact .refl _ s
  · exact State.bindFrom_frame ..

theorem State.stage8_frame (d : Nat) (e : Entry) (b : Body) (s : State) : Frame startParts s (s.stage8 d e b) := by
  unfold State.stage8
  extract_lets needs
  split
  · exact State.fail_start ..
  · split
    · exact State.bindOn_frame ..
    · split
      · exact State.fail_start ..
      · exact (State.modEnt_start ..).trans (.ite (State.fail_start ..) (State.bindOn_frame ..))

/-- An attempt begins with the item's own entry; then it fails or its keys are bound. -/
theorem State.startItem_frame (d : Nat) (s : State) : Frame startParts s (s.startItem d) := by
  unfold State.startItem
  split
  · exact .refl _ s
  · extract_lets e t b
    have ht : Frame startParts s t := (State.setEnt_frame ..).mono (by decide)
    refine ht.trans ?_
    split
    · split
      · split
        · exact State.fail_start ..
        · split
          · exact .ite ((State.modEnt_start ..).trans (State.fail_start ..)) (State.stage8_frame ..)
          · exact State.stage8_frame ..
      · exact State.fail_start ..
    · exact State.fail_start ..

end Sys2Proof.Machine
end

section
/-! PROOFS. The frames of replays and of the cluster's proposals (04_dispatch_and_release.md, 10_cluster.md). -/

namespace Sys2Proof.Machine

/-! ## Frames of replays (R169, R323, R435) -/

theorem State.cancelReqs_frame (d : Nat) (s : State) : Frame [.keys, .eng, .out] s (s.cancelReqs d) :=
  .foldl _ (fun t e => by simp [Frame]) _ s

theorem State.releasePier_frame (p : Option Nat) (s : State) : Frame [.dsp] s (s.releasePier p) := by simp [Frame]

theorem State.leave_frame (d : Nat) (s : State) : Frame [.dsp, .deck, .keys] s (s.leave d) := by simp [Frame]

theorem State.endPins_frame (d : Nat) (s : State) : Frame [.deck, .keys] s (s.endPins d) := by simp [Frame]

/-- What a replay may change: the items and what is done for them, the cluster's proposals, and what it reports. -/
abbrev replayParts : List Part := reports [.dsp, .deck, .keys, .eng, .trs, .mi]

/-- A frame of fewer parts is one of a replay. -/
theorem Frame.replay {l : List Part} {s t : State} (h : Frame l s t) (hl : ∀ p ∈ l, p ∈ replayParts := by decide) :
    Frame replayParts s t := h.mono hl

theorem State.dropAttempt_frame (d : Nat) (s : State) : Frame replayParts s (s.dropAttempt d) :=
  ((State.cancelReqs_frame ..).replay.trans (State.endPins_frame ..).replay).trans (State.modEnt_frame ..).replay

theorem State.holdItem_frame (d : Nat) (s : State) : Frame replayParts s (s.holdItem d) := by
  unfold State.holdItem
  split
  · exact .refl _ s
  · simp [Frame, reports]

/-- A replay is counted before the item's entry changes. -/
theorem State.countReplay_frame (s : State) : Frame replayParts s { s with dsp.cntReplay := s.dsp.cntReplay + 1 } := by
  simp [Frame, reports]

theorem State.restart_frame (d : Nat) (s : State) : Frame replayParts s (s.restart d) := by
  unfold State.restart
  split
  · exact .refl _ s
  · split
    · exact ((State.cancelReqs_frame ..).replay.trans (State.releasePier_frame ..).replay).trans (State.leave_frame ..).replay
    · refine (State.dropAttempt_frame d s).trans (.ite ?_ ?_)
      · exact (State.releasePier_frame ..).replay.trans (State.holdItem_frame ..)
      · exact ((State.countReplay_frame _).trans (State.modEnt_frame ..).replay).trans (State.startItem_frame ..).replay
    · exact .refl _ s

theorem State.replayMove_frame (p : Option Nat) (s : State) : Frame [.dsp] s (s.replayMove p) := by
  unfold State.replayMove
  split <;> simp [Frame]

theorem State.toReplay_frame (d : Nat) (s : State) : Frame [.dsp] s (s.toReplay d) := by simp [Frame]

theorem State.redispatch_frame (d : Nat) (s : State) : Frame replayParts s (s.redispatch d) := by
  unfold State.redispatch
  split
  · exact .refl _ s
  · split
    case h_1 => exact (State.cancelReqs_frame ..).replay.trans (State.leave_frame ..).replay
    case h_2 | h_3 =>
      refine (State.dropAttempt_frame d s).trans (.ite (State.holdItem_frame ..) ?_)
      exact (((State.countReplay_frame _).trans (State.modEnt_frame ..).replay).trans (State.replayMove_frame ..).replay).trans
        (State.toReplay_frame ..).replay
    case h_4 => exact .refl _ s

/-! ## Frames of proposals (R430, R432, R435) -/

/-- What the proposals of key changes may change. -/
abbrev proposalParts : List Part := [.deck, .trs, .out]

theorem State.sendDown_frame (tenant : Nat) (m : Msg) (s : State) : Frame proposalParts s (s.sendDown tenant m) := by simp [Frame]

theorem State.sendUp_frame (tenant : Nat) (m : Msg) (s : State) : Frame proposalParts s (s.sendUp tenant m) := by simp [Frame]

theorem State.sendDecision_frame (p : Proposal) (go : Bool) (excluded : List Nat) (s : State) :
    Frame proposalParts s (s.sendDecision p go excluded) := by simp [Frame]

theorem State.decideProp_frame (x : Held) (flip : Bool) (s : State) : Frame proposalParts s (s.decideProp x flip) := by
  unfold State.decideProp
  exact Frame.trans (by simp [Frame]) (State.sendDecision_frame ..)

theorem State.reserveProp_frame (x : Held) (own : Bool) (s : State) : Frame proposalParts s (s.reserveProp x own) := by
  unfold State.reserveProp
  exact Frame.trans (Frame.trans (by simp [Frame]) (State.sendDown_frame ..)) (.ite (State.decideProp_frame ..) (.refl ..))

theorem State.endReservation_frame (pid : BitVec 64) (s : State) : Frame proposalParts s (s.endReservation pid) := by
  unfold State.endReservation
  split
  · exact .refl _ s
  · extract_lets _ t
    refine Frame.trans (t := t) (by simp [Frame, t]) (.ite (.refl ..) ?_)
    split
    · exact State.reserveProp_frame ..
    · exact .refl ..

theorem State.unpropose_frame (d : Nat) (s : State) : Frame proposalParts s (s.unpropose d) := by
  unfold State.unpropose
  split
  · exact .refl _ s
  · refine Frame.trans ?_ ((State.modEnt_frame ..).mono (by decide))
    exact .ite (.refl ..) (.ite (State.endReservation_frame ..) (State.sendUp_frame ..))

end Sys2Proof.Machine
end

section
/-! PROOFS. The fabric PLLs (01_architecture.md, R21 to R26). -/

namespace Sys2Proof.Machine

/-! ## The fabric PLLs (R21 to R26) -/

theorem State.clockReplays_frame (s : State) : Frame replayParts s s.clockReplays :=
  Frame.trans (.foldl _ (fun t (x : Nat × Entry) => t.restart_frame x.1) _ s)
    (.foldl _ (fun t d => (t.unpropose_frame d).replay.trans (State.redispatch_frame ..)) _ _)

theorem otherPll_ne (p : PllName) : otherPll p ≠ p := by cases p <;> decide

theorem State.pll_setPll (p q : PllName) (x : Pll) (s : State) : (s.setPll p x).pll q = if p = q then x else s.pll q := by
  cases p <;> cases q <;> rfl

/-- Which PLL drives the fabric, and whether it runs at all, is not decided by writing a PLL. -/
@[simp] theorem State.setPll_active (p : PllName) (x : Pll) (s : State) : (s.setPll p x).clk.active = s.clk.active := by
  cases p <;> rfl

@[simp] theorem State.setPll_stopped (p : PllName) (x : Pll) (s : State) : (s.setPll p x).clk.stopped = s.clk.stopped := by
  cases p <;> rfl

theorem State.setPll_eq (p : PllName) (x : Pll) (s : State) : s.setPll p x = { s with clk := (s.setPll p x).clk } := by
  cases p <;> rfl

theorem Frame.with_clk (c : Clk) (s : State) : Frame [.clk] s { s with clk := c } := by simp [Frame]

theorem State.setPll_frame (p : PllName) (x : Pll) (s : State) : Frame [.clk] s (s.setPll p x) := by
  rw [s.setPll_eq p x]
  exact .with_clk ..

/-- A window of a quarantined PLL counts towards its return, or begins the count anew (R24). -/
theorem clockMonitorWindow_quarantined (p : PllName) (b : Bool) (s : State) (hr : (s.pll p).running = true)
    (hq : (s.pll p).quarantined = true) :
    exec (.clockMonitorWindow p b) s = .next (s.setPll p { s.pll p with
      locked := b, windows := if b then min 1000 ((s.pll p).windows + 1) else 0 }) := by
  simp [exec, execClockMonitorWindow, hr, hq]

/-- A window in tolerance of any other PLL changes nothing. -/
theorem clockMonitorWindow_good (p : PllName) (s : State) (hq : (s.pll p).quarantined = false) :
    exec (.clockMonitorWindow p true) s = .next s := by
  simp [exec, execClockMonitorWindow, hq]

/-- A window out of tolerance of the active PLL is its failure by frequency (R22). -/
theorem clockMonitorWindow_active (s : State) (hr : (s.pll s.clk.active).running = true)
    (hq : (s.pll s.clk.active).quarantined = false) :
    exec (.clockMonitorWindow s.clk.active false) s = exec (.fabricPllFail 1) s := by
  simp [exec, execClockMonitorWindow, execFabricPllFail, hr, hq]

/-- The failed PLL is quarantined, and the standby drives the fabric (R24). -/
def State.switched (cause : Nat) (s : State) : State :=
  { s.setPll s.clk.active ((s.pll s.clk.active).fail (cause != 0)) with clk.active := otherPll s.clk.active }

/-- With a standby the fabric switches to it, then the items affected are replayed and event 0x0408 recorded (R23, R24). -/
theorem State.activeFail_switch (cause : Nat) (s : State) (hr : (s.pll s.clk.active).running = true) (hs : s.clk.stopped = false)
    (hp : s.pwr.state = 0) (ho : (s.pll (otherPll s.clk.active)).standby = true) :
    s.activeFail cause = (s.switched cause).clockReplays.event 1145 0x0408 (pllNo s.clk.active) cause
      (s.executing.filter (fun y => y.2.st == .running)).length s.recentDone.length := by
  simp [State.activeFail, State.switched, hr, hs, hp, ho]

theorem State.switched_frame (cause : Nat) (s : State) : Frame [.clk] s (s.switched cause) :=
  (s.setPll_frame s.clk.active _).trans (.with_clk ..)

theorem State.pll_switched (cause : Nat) (q : PllName) (s : State) :
    (s.switched cause).pll q = (s.setPll s.clk.active ((s.pll s.clk.active).fail (cause != 0))).pll q := by
  cases q <;> rfl

/-- The PLLs are as the clock unit holds them. -/
theorem State.pll_of_clk {s t : State} (h : t.clk = s.clk) (p : PllName) : t.pll p = s.pll p := by
  cases p <;> simp [State.pll, h]

/-- Without a standby the fabric stops, and a module reset is requested, which issues no anchor write (R25, R663). -/
theorem State.activeFail_stop (cause : Nat) (s : State) (hr : (s.pll s.clk.active).running = true) (hs : s.clk.stopped = false)
    (hp : s.pwr.state = 0) (ho : (s.pll (otherPll s.clk.active)).standby = false) :
    s.activeFail cause = { s.setPll s.clk.active ((s.pll s.clk.active).fail (cause != 0)) with clk.stopped := true }.requestReset 1 := by
  simp [State.activeFail, hr, hs, hp, ho]

/-- A reset request while the fabric has no clock: the first one holds, and stops grants, releases and fetches (R663). -/
theorem State.requestReset_stopped (cause : BitVec 4) (s : State) (hs : s.clk.stopped = true) (hq : s.pwr.quiesce = false) :
    s.requestReset cause = if s.boot.request.isSome then s else
      { s with boot.request := some cause, dsp.noGrant := true, deck.noRelease := true, hiu.noFetch := true } := by
  simp [State.requestReset, hs, hq]

/-- The standby's failure quarantines it (R24). -/
theorem standbyPllFail_quarantines (s : State) (hr : (s.pll (otherPll s.clk.active)).running = true)
    (hq : (s.pll (otherPll s.clk.active)).quarantined = false) :
    exec .standbyPllFail s = .next (s.setPll (otherPll s.clk.active)
      { s.pll (otherPll s.clk.active) with locked := false, quarantined := true, windows := 0 }) := by
  simp [exec, execStandbyPllFail, State.standbyFail, Pll.fail, hr, hq]

/-- After 1,000 windows in tolerance a quarantined PLL returns as standby (R24). -/
theorem pllQuarantineEnd_returns (p : PllName) (s : State) (hq : (s.pll p).quarantined = true) (hw : 1000 ≤ (s.pll p).windows) :
    exec (.pllQuarantineEnd p true) s = .next ((s.setPll p
      { s.pll p with locked := true, quarantined := false, windows := 0 }).event 1145 0x0409 (pllNo p) 0 0 0) := by
  simp [exec, execPllQuarantineEnd, hq, Nat.not_lt.2 hw]

/-- A failed relock self-test leaves it in quarantine: the model's choice of log 81. -/
theorem pllQuarantineEnd_stays (p : PllName) (s : State) (hq : (s.pll p).quarantined = true) :
    exec (.pllQuarantineEnd p false) s =
      .next ((s.setPll p { s.pll p with windows := 0 }).event 1145 0x0409 (pllNo p) 1 0 0) := by
  simp [exec, execPllQuarantineEnd, hq]

/-- The second PLL to lock after a wake becomes standby (R26). -/
theorem secondPllLock_locks (s : State) (ho : (s.pll (otherPll s.clk.active)).on = true)
    (hl : (s.pll (otherPll s.clk.active)).locked = false) (hq : (s.pll (otherPll s.clk.active)).quarantined = false)
    (hp : s.pwr.state = 0) :
    exec .secondPllLock s = .next (s.setPll (otherPll s.clk.active) { s.pll (otherPll s.clk.active) with locked := true }) := by
  simp [exec, execSecondPllLock, ho, hl, hq, hp]

/-- Settles O5. -/
theorem fabricPllsFailAndReturn : Obligations.FabricPllsFailAndReturn := by
  unfold Obligations.FabricPllsFailAndReturn
  refine ⟨clockMonitorWindow_quarantined, fun p s _ hq => clockMonitorWindow_good p s hq, clockMonitorWindow_active,
    fun cause s hr hs hp ho => ?switch, fun cause s hr hs hp ho hq => ?stop, standbyPllFail_quarantines, pllQuarantineEnd_returns,
    pllQuarantineEnd_stays, secondPllLock_locks⟩
  case switch =>
    have hc : ∀ c : Fin 3, (c.val != 0) = (c != 0) := by decide
    have hf : Frame replayParts (s.switched cause) (s.activeFail cause) := by
      rw [s.activeFail_switch cause hr hs hp ho]
      exact (State.clockReplays_frame _).trans (State.event_frame ..).replay
    have hclk : (s.activeFail cause).clk = (s.switched cause).clk := hf.same .clk (by decide)
    refine ⟨_, rfl, by rw [hclk]; rfl, by rw [hclk]; simpa [State.switched] using hs, ?_, ?_, ?_⟩
    · rw [State.pll_of_clk hclk, State.pll_switched, State.pll_setPll, if_pos rfl, Pll.fail, hc]
    · rw [State.pll_of_clk hclk, State.pll_switched, State.pll_setPll, if_neg (otherPll_ne _).symm]
    · exact ((s.switched_frame cause).mono (by decide)).trans (hf.mono (by decide))
  case stop =>
    have hpll : ((s.setPll s.clk.active ((s.pll s.clk.active).fail (cause.val != 0))).pll s.clk.active).quarantined = true := by
      rw [State.pll_setPll, if_pos rfl, Pll.fail]
    refine ⟨_, rfl, ?_⟩
    rw [s.activeFail_stop cause hr hs hp ho, State.requestReset_stopped _ _ rfl (by rw [State.setPll_eq]; exact hq), State.setPll_eq]
    by_cases hb : s.boot.request.isSome = true
    · rw [if_pos hb]
      exact ⟨rfl, State.setPll_active .., hpll, (if_pos hb).symm, fun h => absurd hb (by simp [h]), rfl⟩
    · rw [if_neg hb]
      exact ⟨rfl, State.setPll_active .., hpll, (if_neg hb).symm, fun _ => ⟨rfl, rfl, rfl⟩, rfl⟩

end Sys2Proof.Machine
end

section
/-! PROOFS. The MSS PLL, the pier groups and the engine bays (01_architecture.md, R27 to R32; 07_cipher_engines.md). -/

namespace Sys2Proof.Machine

/-! ## The MSS PLL (R27) -/

theorem mssPllLoss_recorded (s : State) (hl : s.clk.mssLocked = true) (hp : s.pwr.state = 0) :
    exec .mssPllLoss s = .next ({ s with clk.mssLocked := false }.event 0xFFFF 0x040C 0 0 0 0) := by
  simp [exec, execMssPllLoss, hl, hp]

theorem mssPllRelock_recorded (s : State) (hl : s.clk.mssLocked = false) (hp : s.pwr.state = 0) :
    exec .mssPllRelock s = .next ({ s with clk.mssLocked := true }.event 0xFFFF 0x040C 1 0 0 0) := by
  simp [exec, execMssPllRelock, hl, hp]

/-! ## Pier groups (R29) -/

/-- One pier of a group that becomes powered: parked, it runs towards its take port; its local memory is cleared. -/
def State.powerPier (s : State) (p : Nat) : State :=
  (if s.pierOf p = .parked then s.setPier p .idle else s).clearInst .pierLocal p

theorem State.clearInst_frame (m : SramMem) (inst : Nat) (s : State) : Frame [.mi] s (s.clearInst m inst) := by simp [Frame]

theorem State.powerPier_frame (s : State) (p : Nat) : Frame [.dsp, .mi] s (s.powerPier p) :=
  (Frame.ite ((State.setPier_frame ..).mono (by decide)) (.refl _ s)).trans ((State.clearInst_frame ..).mono (by decide))

theorem State.powerPier_piers (s : State) (p : Nat) : (s.powerPier p).dsp = { s.dsp with piers := (s.powerPier p).dsp.piers } := by
  simp only [State.powerPier, State.clearInst_keeps]
  split <;> rfl

theorem State.powerPier_wf (s : State) (p : Nat) (h : tblWf .idle s.dsp.piers) : tblWf .idle (s.powerPier p).dsp.piers := by
  simp only [State.powerPier, State.clearInst_keeps]
  split
  · exact tblSet_wf PierSt.idle p .idle _ h
  · exact h

theorem State.pierOf_powerPier (s : State) (p q : Nat) (h : tblWf .idle s.dsp.piers) :
    (s.powerPier p).pierOf q = if p = q ∧ s.pierOf q = .parked then .idle else s.pierOf q := by
  have hc : (s.powerPier p).pierOf q = (if s.pierOf p = .parked then s.setPier p .idle else s).pierOf q := by
    simp only [State.powerPier, State.pierOf, State.clearInst_keeps]
  rw [hc]
  split
  · rename_i hp
    rw [State.pierOf_setPier p q .idle s h]
    by_cases hq : p = q
    · subst hq
      rw [if_pos rfl, if_pos ⟨rfl, hp⟩]
    · rw [if_neg hq, if_neg (fun h => hq h.1)]
  · rename_i hp
    rw [if_neg]
    rintro ⟨rfl, hq⟩
    exact hp hq

/-- The piers of a list power up one after another: of the dispatcher only their states change, each of them once. -/
theorem State.powerPiers (ps : List Nat) (s : State) (h : tblWf .idle s.dsp.piers) :
    (ps.foldl State.powerPier s).dsp = { s.dsp with piers := (ps.foldl State.powerPier s).dsp.piers } ∧
      ∀ q, (ps.foldl State.powerPier s).pierOf q = if q ∈ ps ∧ s.pierOf q = .parked then .idle else s.pierOf q := by
  induction ps generalizing s with
  | nil => exact ⟨rfl, fun q => by simp⟩
  | cons p ps ih =>
    obtain ⟨hd, hq⟩ := ih (s.powerPier p) (s.powerPier_wf p h)
    rw [List.foldl_cons]
    refine ⟨by rw [hd, s.powerPier_piers p], fun q => ?_⟩
    rw [hq q, s.pierOf_powerPier p q h]
    by_cases hpq : p = q
    · subst hpq
      by_cases hk : s.pierOf p = .parked <;> simp [hk]
    · simp [hpq, Ne.symm hpq]

theorem mem_groupPiers (g : Fin 16) (p : PierNo) : p.val ∈ groupPiers g ↔ p.val / 8 = g.val := by
  simp only [groupPiers, List.mem_map, List.mem_range]
  constructor
  · rintro ⟨i, hi, he⟩
    omega
  · intro h
    exact ⟨p.val % 8, Nat.mod_lt _ (by decide), by omega⟩

/-- A group that is powering up becomes powered, and its parked piers run towards their take ports (R29). -/
theorem pierGroupPowerUp_powers (g : Fin 16) (s : State) (hg : s.groupOf g = .powering) (hp : tblWf .idle s.dsp.piers)
    (hw : tblWf .powered s.clk.groups) :
    ∃ t : State, exec (.pierGroupPowerUp g) s = .next t ∧ t.groupOf g = .powered ∧
      (∀ p : PierNo, t.pierOf p = if p.val / 8 = g.val ∧ s.pierOf p = .parked then .idle else s.pierOf p) ∧
      t.clk = { s.clk with groups := t.clk.groups } ∧ t.dsp = { s.dsp with piers := t.dsp.piers } ∧
      Frame [.clk, .dsp, .mi] s t := by
  have hx : exec (.pierGroupPowerUp g) s = .next ((groupPiers g).foldl State.powerPier (s.setGroup g .powered)) := by
    simp only [exec, execPierGroupPowerUp, hg, ne_eq, not_true_eq_false, if_false]
    rfl
  obtain ⟨hd, hq⟩ := State.powerPiers (groupPiers g) (s.setGroup g .powered) hp
  have hf : Frame [.dsp, .mi] (s.setGroup g .powered) ((groupPiers g).foldl State.powerPier (s.setGroup g .powered)) :=
    .foldl _ State.powerPier_frame _ _
  have hc := hf.same .clk (by decide)
  refine ⟨_, hx, ?_, fun p => ?_, ?_, hd, ?_⟩
  · rw [State.groupOf, hc]
    exact tblGet_tblSet_same _ _ _ _ hw
  · rw [hq p]
    simp only [mem_groupPiers]
    rfl
  · rw [hc]
    rfl
  · exact (Frame.with_clk ..).mono (by decide) |>.trans (hf.mono (by decide))

/-! ## Engine bays (R30 to R32) -/

/-- A written value that is not the default reads back, whatever the table. -/
theorem tblGet_tblSet_listed {α : Type} [DecidableEq α] (d : α) (k : Nat) (v : α) (t : Tbl α) (hv : v ≠ d) :
    tblGet d (tblSet d k v t) k = v := by
  induction t with
  | nil => simp [tblSet, tblCons, hv, tblGet]
  | cons e t ih =>
    obtain ⟨a, w⟩ := e
    simp only [tblSet, tblCons, if_neg hv]
    split
    · simp [tblGet]
    · split
      · simp [tblGet]
      · rename_i he
        simp [tblGet, he, ih]

theorem State.bayOf_setBay_listed (b : Nat) (x : BaySt) (s : State) (hx : x ≠ .powered) : (s.setBay b x).bayOf b = x := by
  unfold State.bayOf
  exact tblGet_tblSet_listed .powered b x s.clk.bays hx

theorem State.bayOff_frame (b : Nat) (s : State) : Frame [.eng] s (s.bayOff b) := by simp [Frame]

theorem State.setBay_frame (b : Nat) (x : BaySt) (s : State) : Frame [.clk] s (s.setBay b x) := by simp [Frame]

/-- A powered idle bay that is not marked parked loses its power (R30). -/
theorem bayPowerGate_gates (b : Bay) (s : State) (hm : s.parkMarked (bayIx b) = false) (hp : s.bayOf (bayIx b) = .powered)
    (hi : s.bayIdle (bayIx b) = true) :
    ∃ t : State, exec (.bayPowerGate b) s = .next t ∧ t.bayOf (bayIx b) = .gated ∧
      t.clk = { s.clk with bays := t.clk.bays } ∧ Frame [.clk, .eng] s t := by
  have hx : exec (.bayPowerGate b) s = .next ((s.bayOff (bayIx b)).setBay (bayIx b) .gated) := by
    simp [exec, execBayPowerGate, hm, hp, hi]
  refine ⟨_, hx, State.bayOf_setBay_listed _ _ _ (by decide), by simp [State.setBay], ?_⟩
  exact ((State.bayOff_frame ..).mono (by decide)).trans ((State.setBay_frame ..).mono (by decide))

theorem bayWake_wakes (b : Bay) (s : State) (h : s.bayOf (bayIx b) = .gated) :
    exec (.bayWake b) s = .next { s with clk.bays := tblSet .powered (bayIx b) .waking s.clk.bays } := by
  simp [exec, execBayWake, h, State.setBay]

theorem bayWakeDone_powers (b : Bay) (s : State) (h : s.bayOf (bayIx b) = .waking) :
    exec (.bayWakeDone b) s = .next { s with clk.bays := tblSet .powered (bayIx b) .powered s.clk.bays } := by
  simp [exec, execBayWakeDone, h, State.setBay]

/-! ## Parking (R321, R328, R366) -/

/-- The engines' own records change, and nothing else of them. -/
theorem State.bayOff_engs (b : Nat) (s : State) : (s.bayOff b).eng = { s.eng with eng := (s.bayOff b).eng.eng } := by
  unfold State.bayOff
  generalize bayEngines b = l
  induction l generalizing s with
  | nil => rfl
  | cons e l ih =>
    rw [List.foldl_cons, ih]
    rfl

/-- From `s` to `t` bays are parked or gated: of the clocks and the engines only the bays and the engines' own records change. -/
structure Gated (s t : State) : Prop where
  frame : Frame [.clk, .eng] s t
  clk : t.clk = { s.clk with bays := t.clk.bays }
  eng : t.eng = { s.eng with eng := t.eng.eng }

namespace Gated

theorem refl (s : State) : Gated s s := ⟨.refl _ s, rfl, rfl⟩

theorem trans {s t u : State} (h : Gated s t) (k : Gated t u) : Gated s u where
  frame := h.frame.trans k.frame
  clk := by rw [k.clk, h.clk]
  eng := by rw [k.eng, h.eng]

theorem foldl {α : Type} (f : State → α → State) (h : ∀ s a, Gated s (f s a)) (l : List α) (s : State) : Gated s (l.foldl f s) := by
  induction l generalizing s with
  | nil => exact refl s
  | cons a l ih => exact (h s a).trans (ih (f s a))

end Gated

theorem State.bayOff_gated (b : Nat) (s : State) : Gated s (s.bayOff b) :=
  ⟨(State.bayOff_frame ..).mono (by decide), by simp, s.bayOff_engs b⟩

theorem State.setBay_gated (b : Nat) (x : BaySt) (s : State) : Gated s (s.setBay b x) :=
  ⟨(State.setBay_frame ..).mono (by decide), rfl, rfl⟩

theorem State.parkSettle_gated (b : Nat) (s : State) : Gated s (s.parkSettle b) := by
  unfold State.parkSettle
  split
  · exact (s.bayOff_gated b).trans (State.setBay_gated ..)
  · exact .refl s

/-- A write of a park register sets that register; then bays are parked or gated (R321). -/
theorem State.setPark_gated (pk : Bool) (v : BitVec 6) (s : State) :
    Gated (if pk then { s with eng.pksPark := v } else { s with eng.scePark := v }) (s.setPark pk v) := by
  refine .foldl _ (fun t b => ?_) _ _
  split
  · exact State.parkSettle_gated ..
  · split
    · exact State.setBay_gated ..
    · exact .refl t

theorem State.setPark_registers (pk : Bool) (v : BitVec 6) (s : State) :
    (s.setPark pk v).eng.pksPark = (if pk then v else s.eng.pksPark) ∧
      (s.setPark pk v).eng.scePark = (if pk then s.eng.scePark else v) ∧ Frame [.clk, .eng] s (s.setPark pk v) := by
  have h := s.setPark_gated pk v
  rw [h.eng]
  cases pk
  · exact ⟨rfl, rfl, Frame.trans (by simp [Frame]) h.frame⟩
  · exact ⟨rfl, rfl, Frame.trans (by simp [Frame]) h.frame⟩

/-- Settles O6. -/
theorem clocksBaysAndGroups : Obligations.ClocksBaysAndGroups := by
  unfold Obligations.ClocksBaysAndGroups
  exact ⟨mssPllLoss_recorded, mssPllRelock_recorded, pierGroupPowerUp_powers, bayPowerGate_gates, bayWake_wakes, bayWakeDone_powers,
    fun pk v s => ⟨_, rfl, s.setPark_registers pk (v.setWidth 6)⟩⟩

end Sys2Proof.Machine
end

section
/-! PROOFS. Placement of chains (01_architecture.md R31; 07_cipher_engines.md R308 to R321). -/

namespace Sys2Proof.Machine

/-! ## What an engine reads after it is changed -/

theorem State.engOf_setEng_listed (e : Nat) (x : Eng) (s : State) (hx : x ≠ {}) : (s.setEng e x).engOf e = x := by
  unfold State.engOf
  exact tblGet_tblSet_listed {} e x s.eng.eng hx

/-- An engine with a request in its queue is not at its reset values. -/
theorem Eng.ne_default {x : Eng} (h : x.q ≠ []) : x ≠ {} := fun he => h (by rw [he])

/-- The queue of an engine that is given one with requests. -/
theorem State.queue_setEng (e : Nat) (x : Eng) (s : State) {q : List QEnt} (hx : x.q = q) (hq : q ≠ []) :
    ((s.setEng e x).engOf e).q = q := by
  rw [State.engOf_setEng_listed e x s (Eng.ne_default (hx ▸ hq)), hx]

theorem State.engOf_setEng_same (e : Nat) (x : Eng) (s : State) (h : tblWf {} s.eng.eng) : (s.setEng e x).engOf e = x := by
  rw [State.engOf_setEng e e x s h, if_pos rfl]

theorem State.setEng_wf (e : Nat) (x : Eng) (s : State) (h : tblWf {} s.eng.eng) : tblWf {} (s.setEng e x).eng.eng :=
  tblSet_wf {} e x s.eng.eng h

theorem State.engOf_of_eng {s t : State} (e : Nat) (h : t.eng.eng = s.eng.eng) : t.engOf e = s.engOf e := by
  unfold State.engOf
  rw [h]

/-- Whether a bay is marked parked is in the park registers alone. -/
theorem State.parkMarked_of_registers {s t : State} (b : Nat) (hs : t.eng.scePark = s.eng.scePark)
    (hp : t.eng.pksPark = s.eng.pksPark) : t.parkMarked b = s.parkMarked b := by
  unfold State.parkMarked
  rw [hs, hp]

/-! ## Settling an engine (R306, R313, R321) -/

/-- An engine refuses none of its entries that it executes. -/
theorem State.refuseBadF_ok (e n : Nat) (s : State) (h : ∀ y ∈ (s.engOf e).q, y.out = none → reqOk e y.req = true) :
    s.refuseBadF e n = s := by
  cases n with
  | zero => rfl
  | succ n =>
    simp only [State.refuseBadF]
    split
    · rfl
    · rename_i i hi
      split
      · rfl
      · rename_i y hy
        have hn : y.out = none := by
          unfold runIx at hi
          split at hi
          · rename_i j hj
            have hij : j = i := by
              split at hi
              · cases hi
              · exact Option.some.inj hi
            obtain ⟨hlt, hout, -⟩ := List.findIdx?_eq_some_iff_getElem.1 hj
            subst hij
            rw [List.getElem?_eq_getElem hlt] at hy
            simpa [Option.some.inj hy] using hout
          · cases hi
        rw [if_pos (h y (List.mem_of_getElem? hy) hn)]

/-- While the outcome of the head is not known nothing is answered. -/
theorem State.drainF_waits (e n : Nat) (s : State) (h : ∀ y, (s.engOf e).q.head? = some y → y.out = none) : s.drainF e n = s := by
  cases n with
  | zero => rfl
  | succ n =>
    simp only [State.drainF]
    split
    · rfl
    · rename_i y l hq
      rw [h y (by rw [hq]; rfl)]

/-- A bay that is not marked parked keeps its power. -/
theorem State.parkSettle_unmarked (b : Nat) (s : State) (h : s.parkMarked b = false) : s.parkSettle b = s := by
  simp [State.parkSettle, h]

/-- An engine whose requests it executes and none of which has an outcome goes on as it is. -/
theorem State.settle_runs (e : Nat) (s : State) (hq : ∀ y ∈ (s.engOf e).q, y.out = none ∧ reqOk e y.req = true)
    (hp : s.parkMarked (Machine.bayOf e) = false) : s.settle e = s := by
  have hr : ∀ n, s.refuseBadF e n = s := fun n => s.refuseBadF_ok e n (fun y hy _ => (hq y hy).2)
  have hd : ∀ n, s.drainF e n = s := fun n => s.drainF_waits e n (fun y hy => (hq y (List.mem_of_mem_head? hy)).1)
  unfold State.settle
  rw [hr, hd, hr, hd, State.parkSettle_unmarked _ _ hp]

/-! ## Placement (R308, R319 to R321) -/

/-- A fold that keeps its choice or takes the next element ends with the choice it began with or an element of the list. -/
theorem foldl_picks {α : Type} (f : Option α → α → Option α) (hf : ∀ o x, f o x = some x ∨ f o x = o) (l : List α) (o : Option α)
    (e : α) (h : l.foldl f o = some e) : o = some e ∨ e ∈ l := by
  induction l generalizing o with
  | nil => exact .inl h
  | cons a l ih =>
    rcases ih (f o a) h with hc | hc
    · rcases hf o a with ha | ha
      · rw [ha] at hc
        exact .inr (Option.some.inj hc ▸ List.mem_cons_self)
      · exact .inl (ha ▸ hc)
    · exact .inr (List.mem_cons_of_mem a hc)

/-- The engine that a distributor picks is ready to take work. -/
theorem State.pickEng_ready (s : State) (b n tenant e : Nat) (h : s.pickEng b n tenant = some e) : s.engReady e = true := by
  have hm := (foldl_picks _ (fun o x => ?pick) _ _ _ h).resolve_left (by simp)
  case pick =>
    split
    · exact .inl rfl
    · dsimp only
      split
      · exact .inl rfl
      · exact .inr rfl
  exact (Bool.and_eq_true_iff.1 (List.mem_filter.1 hm).2).1

/-- The bay of an engine that takes work is not marked parked. -/
theorem State.parkMarked_of_ready (s : State) (e : Nat) (h : s.engReady e = true) : s.parkMarked (Machine.bayOf e) = false := by
  unfold State.engReady at h
  simpa using (Bool.and_eq_true_iff.1 h).2

/-- A chain as it enters a queue, from pier `p`. -/
abbrev chainEntries (p : PierNo) (l : List Req) : List QEnt := l.map (fun q => ⟨{ q with pier := p }, none, none, none, none, []⟩)

/-- A chain has an entry. -/
theorem chainEntries_ne_nil (p : PierNo) (k : EngKind) (l : List Req) (h : chainOk k l = true) : chainEntries p l ≠ [] := by
  rintro he
  rw [List.map_eq_nil_iff.1 he] at h
  exact absurd h (by simp [chainOk])

/-- The state in which a chain stands in the queue of engine `e` of bay `b`: a gated bay wakes and the pointers move on. -/
def State.placed (p : PierNo) (l : List Req) (b e : Nat) (s : State) : State :=
  let t := s.modEng e (fun x => { x with q := x.q ++ chainEntries p l })
  let t := if t.bayOf b = .gated then t.setBay b .waking else t
  { t with
    eng.engPtr := tblSet 0 b ((e + 1) % 8) t.eng.engPtr
    eng.pierPtr := tblSet 0 b ((p.val + 1) % 128) t.eng.pierPtr }

theorem chainPlace_places (p : PierNo) (k : EngKind) (l : List Req) (d b e : Nat) (s : State) (hp : s.pierOf p = .holding d)
    (hk : chainOk k l = true) (hs : s.clk.stopped = false)
    (hf : (baysFor k p).findSome? (fun b => (s.pickEng b l.length ((l.map (fun q => q.tenant)).headD 0)).map (fun e => (b, e))) =
      some (b, e)) : exec (.chainPlace p k l) s = .next ((s.placed p l b e).settle e) := by
  simp only [exec, execChainPlace, hp, hk, hs, hf]
  rfl

/-- What placing a chain sets: the engine's queue, its bay's power and the pointers, and nothing else. -/
theorem State.placed_spec (p : PierNo) (l : List Req) (b e : Nat) (s : State) (hl : chainEntries p l ≠ []) (hq : (s.engOf e).q = [])
    (he : tblWf 0 s.eng.engPtr) (hp : tblWf 0 s.eng.pierPtr) :
    ((s.placed p l b e).engOf e).q = chainEntries p l ∧ tblGet 0 (s.placed p l b e).eng.engPtr b = (e + 1) % 8 ∧
      tblGet 0 (s.placed p l b e).eng.pierPtr b = (p.val + 1) % 128 ∧
      (s.placed p l b e).bayOf b = (if s.bayOf b = .gated then .waking else s.bayOf b) ∧
      (∀ c, (s.placed p l b e).parkMarked c = s.parkMarked c) ∧ Frame [.clk, .eng] s (s.placed p l b e) := by
  have hx : ∀ t : State, t.eng.eng = (s.modEng e (fun x => { x with q := x.q ++ chainEntries p l })).eng.eng →
      (t.engOf e).q = chainEntries p l := by
    intro t ht
    rw [State.engOf_of_eng e ht]
    exact State.queue_setEng _ _ _ (congrArg (· ++ chainEntries p l) hq) hl
  have hb : (s.modEng e (fun x => { x with q := x.q ++ chainEntries p l })).bayOf b = s.bayOf b := rfl
  unfold State.placed
  dsimp only
  rw [hb]
  split
  · refine ⟨hx _ rfl, tblGet_tblSet_same _ _ _ _ he, tblGet_tblSet_same _ _ _ _ hp, State.bayOf_setBay_listed _ _ _ (by decide),
      fun c => State.parkMarked_of_registers c rfl rfl, ?_⟩
    simp [Frame]
  · refine ⟨hx _ rfl, tblGet_tblSet_same _ _ _ _ he, tblGet_tblSet_same _ _ _ _ hp, rfl,
      fun c => State.parkMarked_of_registers c rfl rfl, ?_⟩
    simp [Frame]

/-- A well-formed chain of executable requests joins the empty queue of the engine that its distributor picks (R308, R319). -/
theorem chainPlace_joins (p : PierNo) (k : EngKind) (l : List Req) (d b e : Nat) (s : State) (hp : s.pierOf p = .holding d)
    (hk : chainOk k l = true) (hs : s.clk.stopped = false)
    (hf : (baysFor k p).findSome? (fun b => (s.pickEng b l.length ((l.map (fun q => q.tenant)).headD 0)).map (fun e => (b, e))) =
      some (b, e)) (hq : (s.engOf e).q = []) (he : tblWf 0 s.eng.engPtr) (hi : tblWf 0 s.eng.pierPtr)
    (hr : ∀ q ∈ l, reqOk e { q with pier := p } = true) :
    ∃ t : State, exec (.chainPlace p k l) s = .next t ∧ (t.engOf e).q = chainEntries p l ∧
      tblGet 0 t.eng.engPtr b = (e + 1) % 8 ∧ tblGet 0 t.eng.pierPtr b = (p.val + 1) % 128 ∧
      t.bayOf b = (if s.bayOf b = .gated then .waking else s.bayOf b) ∧ Frame [.clk, .eng] s t := by
  obtain ⟨hqueue, hengPtr, hpierPtr, hbay, hmarked, hframe⟩ := s.placed_spec p l b e (chainEntries_ne_nil p k l hk) hq he hi
  have hready : s.engReady e = true := by
    obtain ⟨c, -, hc⟩ := List.exists_of_findSome?_eq_some hf
    obtain ⟨e', hpick, heq⟩ := Option.map_eq_some_iff.1 hc
    cases heq
    exact s.pickEng_ready _ _ _ _ hpick
  have hsettle : (s.placed p l b e).settle e = s.placed p l b e := by
    refine State.settle_runs _ _ (fun y hy => ?_) ((hmarked _).trans (s.parkMarked_of_ready e hready))
    rw [hqueue] at hy
    obtain ⟨q, hql, rfl⟩ := List.mem_map.1 hy
    exact ⟨rfl, hr q hql⟩
  exact ⟨_, (chainPlace_places p k l d b e s hp hk hs hf).trans (by rw [hsettle]), hqueue, hengPtr, hpierPtr, hbay, hframe⟩

end Sys2Proof.Machine
end

section
/-! PROOFS. The first decision of the key bus (06_key_hierarchy.md R280; 07_cipher_engines.md R311, R312). -/

namespace Sys2Proof.Machine

/-! ## The first decision of the key bus (R280, R311, R312) -/

/-- The engine has its turn on the key bus and begins the request (R312, R346). -/
def State.onBus (e : Nat) (y : QEnt) (s : State) : State :=
  { s with eng.busPtr := (e + 1) % 96 }.modEng e (Eng.begin e y.req)

/-- The first decision `ok` on the request that an engine runs, with the key that it receives. -/
def State.firstDecision (e : Nat) (y : QEnt) (ok : Bool) (key : Option CKey) (s : State) : State :=
  { s.onBus e y with
    eng.sceCntKbus := (s.onBus e y).eng.sceCntKbus + w64 (beats ((key.map (fun (c : CKey) => c.mat.length)).getD 0)) }.modEng e
      (Eng.modQ 0 (fun y => { y with first := some ok, key := key }))

/-- The engine's turn on the bus changes no slot, so that the permit and the key are those of the state before it. -/
theorem State.permit_onBus (e : Nat) (y : QEnt) (s : State) (hc : y.req.keyChain = false) :
    (s.onBus e y).permit e y.req = (reqSlots y.req).all (s.permitSlot y.req) ∧ (s.onBus e y).keyFor e y.req = s.keyFor e y.req := by
  unfold State.permit State.keyFor
  rw [hc]
  exact ⟨rfl, rfl⟩

/-- A request for a key of its slots is decided by the permit on them (R280). -/
theorem keyBusRequest_decides (e : Fin 96) (y : QEnt) (s : State) (hr : s.running e = some (0, y)) (hn : needsKey y.req = true)
    (hf : y.first = none) (hm : mustScrub e (s.engOf e) y.req = false) (hc : y.req.keyChain = false)
    (hl : ∀ k ∈ reqSlots y.req, (slotWords k).any s.poisoned = false) :
    exec (.keyBusRequest e) s = .next (if (reqSlots y.req).all (s.permitSlot y.req) = true
      then s.firstDecision e y true (s.keyFor e y.req)
      else (s.firstDecision e y false none).setOut e 0 (bareResp y.req 2) []) := by
  obtain ⟨hpermit, hkey⟩ := s.permit_onBus e y hc
  have hlost : (reqSlots y.req).filter (fun k => (slotWords k).any (s.onBus e y).poisoned) = [] :=
    List.filter_eq_nil_iff.2 (fun k hk => by rw [show (slotWords k).any (s.onBus e y).poisoned = false from hl k hk]; simp)
  rw [← hpermit, ← hkey]
  simp only [exec, execKeyBusRequest, hr, hn, hf, hm, hc, Option.isSome_none, Bool.not_true, Bool.not_false, Bool.or_self,
    Bool.false_eq_true, if_false, Bool.true_and, Bool.false_and]
  refine (if_neg ?lost).trans (congrArg Host.Outcome.next ?decision)
  case lost =>
    change ¬ (!((reqSlots y.req).filter (fun k => (slotWords k).any (s.onBus e y).poisoned)).isEmpty) = true
    rw [hlost]
    simp
  case decision =>
    change (if (s.onBus e y).permit e y.req = true then
      s.firstDecision e y ((s.onBus e y).permit e y.req) (if (s.onBus e y).permit e y.req = true then (s.onBus e y).keyFor e y.req else none)
      else (s.firstDecision e y ((s.onBus e y).permit e y.req)
        (if (s.onBus e y).permit e y.req = true then (s.onBus e y).keyFor e y.req else none)).setOut e 0 (bareResp y.req 2) []) = _
    by_cases h : (s.onBus e y).permit e y.req = true
    · rw [if_pos h, if_pos h, if_pos h, h]
    · rw [if_neg h, if_neg h, if_neg h, Bool.eq_false_iff.2 h]

/-- The only entry of a queue is changed. -/
theorem Eng.modQ_only (f : QEnt → QEnt) (y : QEnt) (x : Eng) (h : x.q = [y]) : (x.modQ 0 f).q = [f y] := by
  rw [Eng.modQ, h]
  rfl

/-- What the first decision leaves of an engine with one request: that request, decided. -/
theorem State.firstDecision_spec (e : Nat) (y : QEnt) (ok : Bool) (key : Option CKey) (s : State) (hq : (s.engOf e).q = [y]) :
    ((s.firstDecision e y ok key).engOf e).q = [{ y with first := some ok, key := key }] ∧
      (s.firstDecision e y ok key).eng.busPtr = (e + 1) % 96 ∧ Frame [.eng] s (s.firstDecision e y ok key) := by
  have hbegin : ∀ x : Eng, (Eng.begin e y.req x).q = x.q := fun x => by
    unfold Eng.begin
    split <;> rfl
  have hbus : ((s.onBus e y).engOf e).q = [y] := State.queue_setEng _ _ _ ((hbegin _).trans hq) (by simp)
  exact ⟨State.queue_setEng _ _ _ (Eng.modQ_only _ _ _ hbus) (by simp), rfl, by simp [Frame, State.firstDecision, State.onBus]⟩

/-- The outcome of an engine's only request is held, with no key left in the key register (R302, R310). -/
theorem State.setOut_only (e : Nat) (y : QEnt) (r : Resp) (data : Bytes) (s : State) (hq : (s.engOf e).q = [y]) :
    ((s.setOut e 0 r data).engOf e).q = [{ y with out := some (r, data), key := none }] := by
  have hx : (Eng.modQ 0 (fun y => { y with out := some (r, data), key := none }) (s.engOf e)).q =
      [{ y with out := some (r, data), key := none }] := Eng.modQ_only _ _ _ hq
  have hn : restOfChain ((s.engOf e).q.drop 0) = 0 := by
    rw [hq]
    simp [restOfChain]
  unfold State.setOut
  dsimp only
  rw [hn]
  split
  · exact State.queue_setEng _ _ _ hx (by simp)
  · exact State.queue_setEng _ _ _ hx (by simp)

theorem State.setOut_frame (e i : Nat) (r : Resp) (data : Bytes) (s : State) : Frame [.eng] s (s.setOut e i r data) := by simp [Frame]

end Sys2Proof.Machine
end

section
/-! PROOFS. The second decision of the key bus (06_key_hierarchy.md R280; 07_cipher_engines.md R305 to R313). -/

namespace Sys2Proof.Machine

/-! ## Answering the head of a queue (R305, R313) -/

/-- The head of a queue leaves it with the response `r`, which is counted and sent to its pier. -/
def State.popAnswer (e : Nat) (y : QEnt) (r : Resp) (s : State) : State :=
  ((s.modEng e (fun x => { x with q := x.q.drop 1 })).countResp e r.status).respond y.req.pier r

theorem State.answerHead_plain (e : Nat) (y : QEnt) (r : Resp) (data : Bytes) (s : State)
    (h : r.status = 0 → installs y.req = false ∧ y.req.dst = 0) : s.answerHead e y r data = some (s.popAnswer e y r) := by
  by_cases h0 : r.status = 0
  · obtain ⟨hi, hd⟩ := h h0
    simp [State.answerHead, State.popAnswer, h0, hi, hd]
  · simp [State.answerHead, State.popAnswer, h0]

/-- Counting a response changes a counter of the engines alone. -/
theorem State.countResp_engs (e st : Nat) (s : State) :
    (s.countResp e st).eng.eng = s.eng.eng ∧ (s.countResp e st).eng.ports = s.eng.ports ∧
      (s.countResp e st).eng.scePark = s.eng.scePark ∧ (s.countResp e st).eng.pksPark = s.eng.pksPark := by
  unfold State.countResp
  (repeat' split) <;> exact ⟨rfl, rfl, rfl, rfl⟩

/-- What the answer of an engine's only request leaves: an empty queue, the response on its pier's port, the bays as marked. -/
theorem State.popAnswer_spec (e : Nat) (y : QEnt) (r : Resp) (s : State) (hq : (s.engOf e).q.drop 1 = []) (hw : tblWf {} s.eng.eng) :
    Answered e y r s (s.popAnswer e y r) ∧ (∀ b, (s.popAnswer e y r).parkMarked b = s.parkMarked b) ∧
      Frame [.eng, .out] s (s.popAnswer e y r) := by
  obtain ⟨heng, hports, hsce, hpks⟩ := (s.modEng e (fun x => { x with q := x.q.drop 1 })).countResp_engs e r.status
  refine ⟨⟨?_, ?_, ?_⟩, fun b => State.parkMarked_of_registers b hsce hpks, by simp [Frame, State.popAnswer]⟩
  · have he : (s.popAnswer e y r).engOf e = (s.modEng e (fun x => { x with q := x.q.drop 1 })).engOf e :=
      State.engOf_of_eng e heng
    rw [he, State.modEng, State.engOf_setEng_same _ _ _ hw]
    exact hq
  · have hp : (s.popAnswer e y r).eng.ports = tblMod [] y.req.pier (fun l => l ++ [r])
        ((s.modEng e (fun x => { x with q := x.q.drop 1 })).countResp e r.status).eng.ports := rfl
    rw [hp, hports]
    exact tblGet_tblSet_listed _ _ _ _ (by simp)
  · simp [State.popAnswer, State.respond]

/-! ## The second decision of the key bus (R280, R313) -/

/-- A second decision that differs counts as a mismatch, in whose place no outcome is left (R313). -/
def State.countMismatch (e : Nat) (y : QEnt) (s : State) : State :=
  { s with keys.cntMismatch := s.keys.cntMismatch + 1 }.setOut e 0 (bareResp y.req 0x03) []

/-- One round of draining answers the head whose outcome is decided, when no scrub comes before it. -/
theorem State.drainF_answers (e n : Nat) (y : QEnt) (l : List QEnt) (o : Resp × Bytes) (r : Resp) (d : Bytes) (s : State)
    (hq : (s.engOf e).q = y :: l) (ho : y.out = some o) (hh : heldResp y o.1 o.2 = some (r, d))
    (hs : (decide (48 ≤ e) && y.req.aux.testBit 11) = false) (hi : r.status = 0 → installs y.req = false ∧ y.req.dst = 0) :
    s.drainF e (n + 1) = ((if r.status = 3 then s.countMismatch e y else s).popAnswer e y r).drainF e n := by
  have ha : ∀ t : State, t.answerHead e y r d = some (t.popAnswer e y r) := fun t => t.answerHead_plain e y r d hi
  simp only [State.drainF, hq, ho, hh, hs, Bool.false_and, Bool.false_eq_true, if_false, ha]
  rfl

/-- The state in which an outcome is answered: a mismatch has been counted first. -/
def State.answering (e : Nat) (y : QEnt) (r : Resp) (s : State) : State := if r.status = 3 then s.countMismatch e y else s

theorem State.answering_match (e : Nat) (y : QEnt) (r : Resp) (s : State) (h : r.status ≠ 3) : s.answering e y r = s := if_neg h

/-- Before an outcome is answered its engine still holds the one request, the bays are marked as before, and all but the engines and
the count of mismatches is as it was. -/
theorem State.answering_spec (e : Nat) (y : QEnt) (r : Resp) (s : State) (hq : (s.engOf e).q = [y]) (hw : tblWf {} s.eng.eng) :
    ((s.answering e y r).engOf e).q.drop 1 = [] ∧ tblWf {} (s.answering e y r).eng.eng ∧
      (∀ b, (s.answering e y r).parkMarked b = s.parkMarked b) ∧ (s.answering e y r).eng.ports = s.eng.ports ∧
      (s.answering e y r).keys = (if r.status = 3 then { s.keys with cntMismatch := s.keys.cntMismatch + 1 } else s.keys) ∧
      Frame [.keys, .eng] s (s.answering e y r) := by
  unfold State.answering
  by_cases h3 : r.status = 3
  · rw [if_pos h3, if_pos h3]
    have hq' : (({ s with keys.cntMismatch := s.keys.cntMismatch + 1 } : State).engOf e).q = [y] := hq
    have hset : ∃ x : Eng, s.countMismatch e y = { s with keys.cntMismatch := s.keys.cntMismatch + 1 }.setEng e x := ⟨_, rfl⟩
    obtain ⟨x, hx⟩ := hset
    refine ⟨?_, ?_, fun b => ?_, ?_, ?_, ?_⟩
    · rw [State.countMismatch, State.setOut_only e y _ _ _ hq']
      rfl
    · rw [hx]
      exact State.setEng_wf _ _ _ hw
    · rw [hx]
      exact State.parkMarked_of_registers b rfl rfl
    · rw [hx]
      rfl
    · rw [hx]
      rfl
    · rw [hx]
      simp [Frame]
  · rw [if_neg h3, if_neg h3]
    exact ⟨by rw [hq]; rfl, hw, fun _ => rfl, rfl, rfl, .refl _ s⟩

/-- An engine's only request, whose outcome is decided, is answered (R313). -/
theorem State.settle_answers (e : Nat) (y : QEnt) (o : Resp × Bytes) (r : Resp) (d : Bytes) (s : State)
    (hq : (s.engOf e).q = [y]) (ho : y.out = some o) (hh : heldResp y o.1 o.2 = some (r, d))
    (hs : (decide (48 ≤ e) && y.req.aux.testBit 11) = false) (hi : r.status = 0 → installs y.req = false ∧ y.req.dst = 0)
    (hp : s.parkMarked (Machine.bayOf e) = false) (hw : tblWf {} s.eng.eng) :
    s.settle e = (s.answering e y r).popAnswer e y r := by
  obtain ⟨hq', hw', hmarked, -, -, -⟩ := s.answering_spec e y r hq hw
  obtain ⟨⟨hempty, -, -⟩, hpark, -⟩ := (s.answering e y r).popAnswer_spec e y r hq' hw'
  have hhead : s.refuseBadF e 64 = s := by
    refine s.refuseBadF_ok e 64 (fun z hz hn => ?_)
    rw [hq, List.mem_singleton] at hz
    rw [hz, ho] at hn
    cases hn
  have hrest : ∀ n, ((s.answering e y r).popAnswer e y r).drainF e n = (s.answering e y r).popAnswer e y r :=
    fun n => State.drainF_waits e n _ (fun z hz => by rw [hempty] at hz; cases hz)
  have hdone : ((s.answering e y r).popAnswer e y r).refuseBadF e 64 = (s.answering e y r).popAnswer e y r :=
    State.refuseBadF_ok e 64 _ (fun z hz _ => by rw [hempty] at hz; cases hz)
  have hround : s.drainF e 64 = (s.answering e y r).popAnswer e y r :=
    (s.drainF_answers e 63 y [] o r d hq ho hh hs hi).trans (hrest 63)
  unfold State.settle
  rw [hhead, hround, hdone, hrest, State.parkSettle_unmarked _ _ ((hpark _).trans ((hmarked _).trans hp))]

/-- The entry whose second decision has been made. -/
abbrev secondDecided (b : Bool) (y : QEnt) : QEnt := { y with second := some b }

/-- The second decision on an engine's only request, on its slots (R280). -/
theorem keyBusSecondDecision_decides (e : Fin 96) (y : QEnt) (a b flip : Bool) (s : State) (hq : (s.engOf e).q = [y])
    (hf : y.first = some a) (hn : y.second = none) (hc : y.req.keyChain = false)
    (hb : (s.permit e y.req != flip) = b) :
    exec (.keyBusSecondDecision e flip) s =
      .next ((s.modEng e (Eng.modQ 0 (secondDecided b))).settle e) := by
  have hi : (s.engOf e).q.findIdx? (fun y => y.first.isSome && y.second.isNone) = some 0 := by
    rw [hq, List.findIdx?_cons, hf, hn]
    rfl
  have hy : (s.engOf e).q[0]? = some y := by rw [hq]; rfl
  subst hb
  simp only [exec, execKeyBusSecondDecision, hi, hy, hc]
  rfl

/-- A frame without a part that is the same. -/
theorem Frame.except {p : Part} {l : List Part} {s t : State} (h : Frame (p :: l) s t) (hp : p.Same s t) : Frame l s t := by
  refine (Frame.iff l s t).2 (fun q => ?_)
  rcases (Frame.iff _ s t).1 h q with hq | hq
  · rcases List.mem_cons.1 hq with rfl | hq
    · exact .inr hp
    · exact .inl hq
  · exact .inr hq

/-- A second decision that leaves the response `r` answers the engine's only request with it, and a mismatch is counted (R313). -/
theorem keyBusSecondDecision_answers (e : Fin 96) (y : QEnt) (o : Resp × Bytes) (a b flip : Bool) (r : Resp) (d : Bytes) (s : State)
    (hq : (s.engOf e).q = [y]) (ho : y.out = some o) (hf : y.first = some a) (hn : y.second = none) (hc : y.req.keyChain = false)
    (hb : (s.permit e y.req != flip) = b) (hh : heldResp (secondDecided b y) o.1 o.2 = some (r, d))
    (hi : r.status = 0 → installs y.req = false ∧ y.req.dst = 0) (hp : s.parkMarked (Machine.bayOf e) = false)
    (hs : 48 ≤ e.val → y.req.aux.testBit 11 = false) (hw : tblWf {} s.eng.eng) :
    ∃ t : State, exec (.keyBusSecondDecision e flip) s = .next t ∧ Answered e y r s t ∧
      t.keys = (if r.status = 3 then { s.keys with cntMismatch := s.keys.cntMismatch + 1 } else s.keys) ∧
      Frame [.keys, .eng, .out] s t := by
  have hq' : ((s.modEng e (Eng.modQ 0 (secondDecided b))).engOf e).q = [secondDecided b y] :=
    State.queue_setEng _ _ _ (Eng.modQ_only _ _ _ hq) (by simp)
  have hw' : tblWf {} (s.modEng e (Eng.modQ 0 (secondDecided b))).eng.eng := State.setEng_wf _ _ _ hw
  have hs' : (decide (48 ≤ e.val) && y.req.aux.testBit 11) = false := by simpa using hs
  obtain ⟨hone, hwf, -, hports, hkeys, hframe⟩ :=
    (s.modEng e (Eng.modQ 0 (secondDecided b))).answering_spec e (secondDecided b y) r hq' hw'
  obtain ⟨⟨hempty, hport, hout⟩, -, hpop⟩ :=
    ((s.modEng e (Eng.modQ 0 (secondDecided b))).answering e (secondDecided b y) r).popAnswer_spec e (secondDecided b y) r hone hwf
  refine ⟨_, (keyBusSecondDecision_decides e y a b flip s hq hf hn hc hb).trans (congrArg Host.Outcome.next
    (State.settle_answers e (secondDecided b y) o r d _ hq' ho hh hs' hi hp hw')), ⟨hempty, ?_, hout⟩, ?_, ?_⟩
  · rw [hport, hports]
    rfl
  · exact Eq.trans (hpop.same .keys (by decide)) hkeys
  · exact (((State.setEng_frame ..).mono (by decide)).trans (hframe.mono (by decide))).trans (hpop.mono (by decide))

/-- What the doubled decision makes of a held outcome: itself where the decisions agree, MISMATCH where they differ (R313). -/
theorem heldResp_decided (y : QEnt) (a b : Bool) (r : Resp) (d : Bytes) (hf : y.first = some a) (hr : r.status ∉ [6, 7, 0x14]) :
    heldResp (secondDecided b y) r d = some (if a == b then (r, d) else (bareResp y.req 3, [])) := by
  have hn : ¬ (r.status = 0x06 ∨ r.status = 0x07 ∨ r.status = 0x14) := by simpa using hr
  unfold heldResp
  rw [if_neg hn, hf]
  dsimp only
  split <;> rfl

/-- Settles O29: a chain is placed by the bay and engine that are picked, and each decision by what the only request of its engine becomes. -/
theorem placementAndKeyBus : Obligations.PlacementAndKeyBus := by
  unfold Obligations.PlacementAndKeyBus
  refine ⟨fun p k l d b e s hp hk hs hf hq _ he hi hr => chainPlace_joins p k l d b e s hp hk hs hf hq he hi hr,
    fun e y s hr hq hn hf hm hc hl hok => ?granted, fun e y s hr hq hn hf hm hc hl hok => ?refused,
    fun e y o a s hq ho hf hn hc hst hi hp hs hw => ?agrees, fun e y o a s hq ho hf hn hc hst hp hs hw => ?differs⟩
  case granted =>
    obtain ⟨hqueue, hbus, hframe⟩ := s.firstDecision_spec e y true (s.keyFor e y.req) hq
    refine ⟨_, ?_, hqueue, hbus, hframe.same .keys (by decide), hframe⟩
    rw [keyBusRequest_decides e y s hr hn hf hm hc hl, hok, if_pos rfl]
  case refused =>
    obtain ⟨hqueue, -, hframe⟩ := s.firstDecision_spec e y false none hq
    refine ⟨_, ?_, State.setOut_only e _ (bareResp y.req 2) [] _ hqueue, hframe.trans (State.setOut_frame ..)⟩
    rw [keyBusRequest_decides e y s hr hn hf hm hc hl, hok, if_neg (by decide)]
  case agrees =>
    have hagree : (a == (s.permit e y.req != (a != s.permit e y.req))) = true := by
      cases a <;> cases s.permit e y.req <;> rfl
    have hheld := heldResp_decided y a (s.permit e y.req != (a != s.permit e y.req)) o.1 o.2 hf (fun h => hst (by simp at h ⊢; omega))
    rw [if_pos hagree] at hheld
    have h3 : o.1.status ≠ 3 := fun h => hst (by rw [h]; decide)
    obtain ⟨t, hx, hans, hkeys, hframe⟩ := keyBusSecondDecision_answers e y o a _ _ o.1 o.2 s hq ho hf hn hc rfl hheld hi hp hs hw
    have hsame : t.keys = s.keys := hkeys.trans (if_neg h3)
    exact ⟨t, hx, hans, hsame, hframe.except hsame⟩
  case differs =>
    have hdiffer : ¬ (a == (s.permit e y.req != (a == s.permit e y.req))) = true := by
      cases a <;> cases s.permit e y.req <;> decide
    have hheld := heldResp_decided y a (s.permit e y.req != (a == s.permit e y.req)) o.1 o.2 hf hst
    rw [if_neg hdiffer] at hheld
    obtain ⟨t, hx, hans, hkeys, hframe⟩ := keyBusSecondDecision_answers e y o a _ _ (bareResp y.req 3) [] s hq ho hf hn hc rfl hheld
      (fun h => by cases h) hp hs hw
    exact ⟨t, hx, hans, hkeys, hframe.same .mem (by decide), hframe⟩

end Sys2Proof.Machine
end

section
/-! PROOFS. Waiting, and the wake sources (17_power_and_energy.md, R634, R635, R638 to R641, R645). -/

namespace Sys2Proof.Machine

/-! ## WAIT (R634, R635) -/

theorem wait_enters (s : State) (h : s.coreRuns = true) : exec .wait s = .next (if s.pwr.mode = 0 then
      { s with pwr.halted := true, pwr.aborted := false, pwr.forced := false }
    else { s with
      pwr.halted := true, pwr.aborted := false, pwr.forced := false, pwr.entry := some (s.pwr.mode, 0)
      pwr.saved := if s.pwr.mode = 2 then some s.savedNow else s.pwr.saved }) := by
  simp only [exec, execWait, h, if_true]
  rfl

theorem wait_ignored (s : State) (h : s.coreRuns = false) : exec .wait s = .next s ∧ exec .drowseIdleExpiry s = .next s := by
  simp [exec, execWait, execDrowseIdleExpiry, h]

/-- The conditions of DROWSE (R634). -/
theorem State.drowseOk_iff (s : State) : s.drowseOk = true ↔
    ((s.pwr.policy.setWidth 16 : BitVec 16) ≠ 0 ∧ s.held = [] ∧ s.anc.queue = [] ∧ s.keys.taken = [] ∧ s.mss.rels = [] ∧
      s.tg.holding = false ∧ s.eng.ucBusy = false) := by
  have hp : (s.pwr.policy.setWidth 16 : BitVec 16).toNat ≠ 0 ↔ (s.pwr.policy.setWidth 16 : BitVec 16) ≠ 0 :=
    (BitVec.toNat_ne (y := 0)).symm
  simp only [State.drowseOk, Bool.and_eq_true, bne_iff_ne, hp, List.isEmpty_iff, Bool.not_eq_true', and_assoc]

/-- The conditions of DORMANT, beside those of DROWSE (R634). -/
theorem State.dormantOk_iff (s : State) : s.dormantOk = true ↔ s.drowseOk = true ∧
    (s.pwr.policy.getLsbD 16 = true ∧ (s.hiu.l12 = true ∨ s.hiu.d3hot = true) ∧ s.mi.testEn = false ∧ s.rng.rawEn = false) := by
  simp only [State.dormantOk, Bool.and_eq_true, Bool.or_eq_true, Bool.not_eq_true', and_assoc]

theorem drowseIdleExpiry_enters (s : State) (quiet deep : Prop) (h : s.coreRuns = true)
    (hq : quiet = ((s.pwr.policy.setWidth 16 : BitVec 16) ≠ 0 ∧ s.held = [] ∧ s.anc.queue = [] ∧ s.keys.taken = [] ∧ s.mss.rels = [] ∧
      s.tg.holding = false ∧ s.eng.ucBusy = false))
    (hd : deep = (s.pwr.policy.getLsbD 16 = true ∧ (s.hiu.l12 = true ∨ s.hiu.d3hot = true) ∧ s.mi.testEn = false ∧ s.rng.rawEn = false)) :
    ∃ t : State, exec .drowseIdleExpiry s = .next t ∧ Frame [.pwr] s t ∧
      (quiet → deep → t.pwr.entry = some (2, 0) ∧ t.pwr.saved = some s.savedNow ∧ t.pwr.halted = true) ∧
      (quiet → ¬ deep → t.pwr.entry = some (1, 0) ∧ t.pwr.halted = true) ∧ (¬ quiet → t = s) := by
  have hdeep : s.dormantOk = true ↔ quiet ∧ deep := by rw [s.dormantOk_iff, s.drowseOk_iff, hq, hd]
  have hquiet : s.drowseOk = true ↔ quiet := by rw [s.drowseOk_iff, hq]
  by_cases hqt : quiet
  · by_cases hdt : deep
    · refine ⟨{ s with pwr.mode := 2 }.wait, ?_, by simp [Frame, State.wait], fun _ _ => ⟨rfl, rfl, rfl⟩, fun _ hn => absurd hdt hn,
        fun hn => absurd hqt hn⟩
      simp [exec, execDrowseIdleExpiry, h, hdeep.2 ⟨hqt, hdt⟩]
    · have hn : s.dormantOk = false := Bool.eq_false_iff.2 (fun hc => hdt (hdeep.1 hc).2)
      refine ⟨{ s with pwr.mode := 1 }.wait, ?_, by simp [Frame, State.wait], fun _ hc => absurd hc hdt, fun _ _ => ⟨rfl, rfl⟩,
        fun hn => absurd hqt hn⟩
      simp [exec, execDrowseIdleExpiry, h, hn, hquiet.2 hqt]
  · have hn : s.dormantOk = false := Bool.eq_false_iff.2 (fun hc => hqt (hdeep.1 hc).1)
    have hm : s.drowseOk = false := Bool.eq_false_iff.2 (fun hc => hqt (hquiet.1 hc))
    refine ⟨s, ?_, .refl _ s, fun hc => absurd hc hqt, fun hc => absurd hc hqt, fun _ => rfl⟩
    simp [exec, execDrowseIdleExpiry, h, hn, hm]

/-! ## The start of a wake (R397, R640, R641) -/

theorem State.rngStart_frame (all : Bool) (s : State) : Frame [.rng] s (s.rngStart all) := by
  unfold State.rngStart
  split <;> simp [Frame]

/-- A module in RUN, or one that wakes already, begins no wake. -/
theorem State.startWake_ignored (s : State) (h : s.pwr.state = 0 ∨ s.pwr.waking.isSome = true) : s.startWake = s := by
  rw [State.startWake, if_pos h]

/-- The wake is under way, from the state and for the latched sources, and WAIT returns. -/
def State.wakeUnderWay (s : State) : State :=
  { s with pwr.waking := some (s.pwr.state, s.pwr.wakePend.setWidth 32, s.now), pwr.halted := false }

/-- A wake that begins: after DORMANT the generator starts anew. -/
theorem State.startWake_begins (s : State) (hs : s.pwr.state ≠ 0) (hw : s.pwr.waking = none) :
    s.startWake = if s.pwr.state = 2 then s.wakeUnderWay.rngStart false else s.wakeUnderWay := by
  rw [State.startWake, if_neg (not_or.2 ⟨hs, by rw [hw]; decide⟩)]
  rfl

theorem State.startWake_frame (s : State) : Frame [.rng, .pwr] s s.startWake := by
  by_cases h : s.pwr.state = 0 ∨ s.pwr.waking.isSome = true
  · rw [s.startWake_ignored h]
    exact .refl _ s
  · rw [not_or, Bool.not_eq_true, Option.isSome_eq_false_iff, Option.isNone_iff_eq_none] at h
    have hp : Frame [.rng, .pwr] s s.wakeUnderWay := by simp [Frame, State.wakeUnderWay]
    rw [s.startWake_begins h.1 h.2]
    exact .ite (hp.trans ((State.rngStart_frame ..).mono (by decide))) hp

theorem State.startWake_waking (s : State) (hs : s.pwr.state ≠ 0) (hw : s.pwr.waking = none) :
    s.startWake.pwr = s.wakeUnderWay.pwr := by
  rw [s.startWake_begins hs hw]
  split
  · exact (State.rngStart_frame ..).same .pwr (by decide)
  · rfl

/-- After DORMANT the generator begins its start-up, unless its conditioner failed (R397). -/
theorem State.startWake_rng (s : State) (hs : s.pwr.state = 2) (hw : s.pwr.waking = none) (hc : s.rng.condFault = false) :
    s.startWake.rng.st = 0 := by
  rw [s.startWake_begins (by rw [hs]; decide) hw, if_pos hs]
  simp [State.rngStart, State.wakeUnderWay, hc]

/-- Of the power unit a wake's start changes only the wake and the halt. -/
theorem State.startWake_pwr (s : State) :
    s.startWake.pwr = { s.pwr with waking := s.startWake.pwr.waking, halted := s.startWake.pwr.halted } := by
  by_cases h : s.pwr.state = 0 ∨ s.pwr.waking.isSome = true
  · rw [s.startWake_ignored h]
  · rw [not_or, Bool.not_eq_true, Option.isSome_eq_false_iff, Option.isNone_iff_eq_none] at h
    rw [s.startWake_waking h.1 h.2]
    rfl

/-! ## Wake events (R638, R639) -/

/-- The host's activity takes the link out of L1.2 (R639). -/
def State.hostAwake (w : WakeSrc) (s : State) : State := if w = .host then { s with hiu.l12 := false } else s

theorem State.hostAwake_hiu (w : WakeSrc) (s : State) : (s.hostAwake w).hiu = { s.hiu with l12 := s.hiu.l12 && w != .host } := by
  have hb : (w != .host) = !decide (w = .host) := by cases w <;> rfl
  rw [hb, State.hostAwake]
  by_cases h : w = .host <;> simp [h]

theorem State.hostAwake_frame (w : WakeSrc) (s : State) : Frame [.hiu] s (s.hostAwake w) := .ite (by simp [Frame]) (.refl _ s)

/-- The event is latched (R638). -/
def State.latchWake (b : BitVec 5) (s : State) : State := { s with pwr.wakePend := s.pwr.wakePend ||| b }

/-- A wake event of a source that can be masked is latched where the source is enabled, and begins a wake. -/
theorem State.wakeBy_maskable (w : WakeSrc) (b : BitVec 5) (s : State) (hb : wakeBit w = some b) :
    s.wakeBy w = if s.pwr.wakeEn &&& b = 0 ∨ (w = .trestle ∧ s.pwr.state = 2) then s.hostAwake w
      else ((s.hostAwake w).latchWake b).startWake := by
  have hp : (s.hostAwake w).pwr = s.pwr := (State.hostAwake_frame ..).same .pwr (by decide)
  rw [← hp]
  unfold State.wakeBy
  rw [hb]
  rfl

/-- A wake event that cannot be masked ends an entry under way at its next abort point, or begins a wake. -/
theorem State.wakeBy_unmaskable (w : WakeSrc) (s : State) (hb : wakeBit w = none) :
    s.wakeBy w = if s.pwr.entry.isSome then { s with pwr.forced := true } else s.startWake := by
  have hw : w ≠ .host := fun h => by rw [h] at hb; cases hb
  simp only [State.wakeBy, if_neg hw, hb]

/-- A module that has booted, runs on main power and has not ended its quiesce takes wake events. -/
theorem wakeEvent_taken (w : WakeSrc) (s : State) (hb : s.boot.booting = false) (ho : s.backupOnly = false)
    (hq : s.pwr.quiesceStep ≠ 7) : exec (.wakeEvent w) s = .next (s.wakeBy w) := by
  simp [exec, execWakeEvent, hb, ho, hq]

theorem wakeEvent_latched (w : WakeSrc) (b : BitVec 5) (s : State) (hb : s.boot.booting = false) (ho : s.backupOnly = false)
    (hq : s.pwr.quiesceStep ≠ 7) (hw : wakeBit w = some b) (he : s.pwr.wakeEn &&& b ≠ 0) (ht : w = .trestle → s.pwr.state ≠ 2) :
    ∃ t : State, exec (.wakeEvent w) s = .next t ∧ t.pwr.wakePend = s.pwr.wakePend ||| b ∧
      t.hiu = { s.hiu with l12 := s.hiu.l12 && w != .host } ∧ t.pwr.state = s.pwr.state ∧
      (s.pwr.state ≠ 0 → s.pwr.waking = none → t.pwr.waking = some (s.pwr.state, (s.pwr.wakePend ||| b).setWidth 32, s.now) ∧
        t.pwr.halted = false ∧ (s.pwr.state = 2 → s.rng.condFault = false → t.rng.st = 0)) ∧
      (s.pwr.state = 0 → t.pwr.waking = s.pwr.waking ∧ t.rng = s.rng) ∧ Frame [.hiu, .rng, .pwr] s t := by
  have hn : ¬ (s.pwr.wakeEn &&& b = 0 ∨ (w = .trestle ∧ s.pwr.state = 2)) := fun h => h.elim he (fun h => ht h.1 h.2)
  have hx : exec (.wakeEvent w) s = .next ((s.hostAwake w).latchWake b).startWake := by
    rw [wakeEvent_taken w s hb ho hq, s.wakeBy_maskable w b hw, if_neg hn]
  have hh : Frame [.hiu] s (s.hostAwake w) := State.hostAwake_frame ..
  have hp : ((s.hostAwake w).latchWake b).pwr = { s.pwr with wakePend := s.pwr.wakePend ||| b } := by
    rw [State.latchWake, hh.same .pwr (by decide)]
  have hrng : ((s.hostAwake w).latchWake b).rng = s.rng := hh.same .rng (by decide)
  have hnow : ((s.hostAwake w).latchWake b).now = s.now := (hh.same .time (by decide)).1
  have hlatch : Frame [.pwr] (s.hostAwake w) ((s.hostAwake w).latchWake b) := by simp [Frame, State.latchWake]
  generalize (s.hostAwake w).latchWake b = u at hx hp hrng hnow hlatch
  have hf := u.startWake_frame
  refine ⟨_, hx, by rw [u.startWake_pwr, hp], ?_, by rw [u.startWake_pwr, hp], fun h0 hk => ⟨?_, ?_, fun h2 hc => ?_⟩, fun h0 => ?_, ?_⟩
  · exact Eq.trans (hf.same .hiu (by decide)) (Eq.trans (hlatch.same .hiu (by decide)) (s.hostAwake_hiu w))
  · rw [u.startWake_waking (by rw [hp]; exact h0) (by rw [hp]; exact hk), State.wakeUnderWay, hp, hnow]
  · rw [u.startWake_waking (by rw [hp]; exact h0) (by rw [hp]; exact hk), State.wakeUnderWay]
  · exact u.startWake_rng (by rw [hp]; exact h2) (by rw [hp]; exact hk) (by rw [hrng]; exact hc)
  · rw [u.startWake_ignored (.inl (by rw [hp]; exact h0)), hp]
    exact ⟨rfl, hrng⟩
  · exact ((hh.mono (by decide)).trans (hlatch.mono (by decide))).trans (hf.mono (by decide))

theorem wakeEvent_masked (w : WakeSrc) (b : BitVec 5) (s : State) (hw : wakeBit w = some b)
    (hm : s.pwr.wakeEn &&& b = 0 ∨ (w = .trestle ∧ s.pwr.state = 2)) :
    ∃ t : State, exec (.wakeEvent w) s = .next t ∧ Frame [.hiu] s t := by
  simp only [exec, execWakeEvent, s.wakeBy_maskable w b hw, if_pos hm]
  split
  · exact ⟨s, rfl, .refl _ s⟩
  · exact ⟨_, rfl, s.hostAwake_frame w⟩

theorem wakeEvent_unmaskable (w : WakeSrc) (s : State) (hw : wakeBit w = none) (hb : s.boot.booting = false)
    (ho : s.backupOnly = false) (hq : s.pwr.quiesceStep ≠ 7) :
    ∃ t : State, exec (.wakeEvent w) s = .next t ∧ t.pwr.wakePend = s.pwr.wakePend ∧
      (s.pwr.entry.isSome = true → t = { s with pwr.forced := true }) ∧
      (s.pwr.entry = none → s.pwr.state ≠ 0 → s.pwr.waking = none →
        t.pwr.waking = some (s.pwr.state, s.pwr.wakePend.setWidth 32, s.now)) ∧ Frame [.rng, .pwr] s t := by
  rw [wakeEvent_taken w s hb ho hq, s.wakeBy_unmaskable w hw]
  refine ⟨_, rfl, ?_⟩
  split
  case isTrue he =>
    exact ⟨rfl, fun _ => rfl, fun hn => absurd he (by rw [hn]; decide), by simp [Frame]⟩
  case isFalse he =>
    exact ⟨by rw [s.startWake_pwr], fun h => absurd h he, fun _ h0 hk => by rw [s.startWake_waking h0 hk]; rfl, s.startWake_frame⟩

/-! ## The wake timer (R639) -/

theorem State.now_advance (n : Nat) (s : State) (h : s.now ≤ n) : (s.advance n).now = n := by
  unfold State.advance
  split
  · rfl
  · exact Nat.le_antisymm h (not_lt.1 ‹_›)

theorem wakeTimer_wakes (s : State) (hb : s.boot.booting = false) (ho : s.backupOnly = false) (hn : s.now ≤ s.pwr.wakeTimer.toNat) :
    ∃ t : State, exec .wakeTimer s = .next t ∧ t.now = s.pwr.wakeTimer.toNat ∧
      (s.pwr.wakeEn.getLsbD 3 = true → t.pwr.wakePend = s.pwr.wakePend ||| 8) ∧ (s.pwr.wakeEn.getLsbD 3 = false → t.pwr = s.pwr) ∧
      Frame [.rng, .pwr, .time] s t := by
  have hbit : s.pwr.wakeEn &&& 8 = 0 ↔ s.pwr.wakeEn.getLsbD 3 = false := by
    generalize s.pwr.wakeEn = x
    revert x
    decide
  have ha : (s.advance s.pwr.wakeTimer.toNat).pwr = s.pwr := (State.advance_frame ..).same .pwr (by decide)
  have hx : exec .wakeTimer s = .next ((s.advance s.pwr.wakeTimer.toNat).wakeBy .timer) := by
    simp only [exec, execWakeTimer, hb, ho, Bool.false_eq_true, or_false, if_neg (not_lt.2 hn)]
  have hw : (s.advance s.pwr.wakeTimer.toNat).wakeBy .timer = if s.pwr.wakeEn.getLsbD 3 = false then s.advance s.pwr.wakeTimer.toNat
      else ((s.advance s.pwr.wakeTimer.toNat).latchWake 8).startWake := by
    rw [State.wakeBy_maskable .timer 8 _ rfl, ha]
    simp only [hbit, State.hostAwake, reduceCtorEq, false_and, or_false, if_false]
  have hadv : Frame [.rng, .pwr, .time] s (s.advance s.pwr.wakeTimer.toNat) := (State.advance_frame ..).mono (by decide)
  have hnow := State.now_advance s.pwr.wakeTimer.toNat s hn
  refine ⟨_, hx, ?_⟩
  rw [hw]
  generalize s.advance s.pwr.wakeTimer.toNat = u at ha hadv hnow
  split
  case isTrue he =>
    exact ⟨hnow, fun h => Bool.noConfusion (he.symm.trans h), fun _ => ha, hadv⟩
  case isFalse he =>
    have hf := (u.latchWake 8).startWake_frame
    refine ⟨(hf.same .time (by decide)).1.trans hnow, fun _ => ?_, fun h => absurd h he, ?_⟩
    · rw [State.startWake_pwr, State.latchWake, ha]
    · exact hadv.trans (Frame.trans (by simp [Frame, State.latchWake]) (hf.mono (by decide)))

theorem wakeTimer_past (s : State) (h : s.pwr.wakeTimer.toNat < s.now) : exec .wakeTimer s = .next s := by
  simp [exec, execWakeTimer, h]

/-! ## Latched pads (R645) -/

theorem padRelease_releases (g : BitVec 3) (s : State) : exec (.padRelease g) s = .next (
    if s.pwr.state = 0 ∧ s.pwr.entry = none ∧ s.pwr.quiesceStep ≠ 7 ∧ s.backupOnly = false then
      { s with pwr.pads := s.pwr.pads &&& ~~~g }
    else s) := by
  have hc : (s.pwr.state ≠ 0 ∨ s.pwr.entry.isSome ∨ s.pwr.quiesceStep = 7 ∨ s.backupOnly = true) ↔
      ¬ (s.pwr.state = 0 ∧ s.pwr.entry = none ∧ s.pwr.quiesceStep ≠ 7 ∧ s.backupOnly = false) := by
    rw [← Option.isNone_iff_eq_none, ← Option.isSome_eq_false_iff]
    simp only [not_and_or, Bool.not_eq_false, ne_eq, not_not]
  simp only [exec, execPadRelease, hc]
  split <;> simp_all

end Sys2Proof.Machine
end

section
/-! PROOFS. Entering a power state (17_power_and_energy.md, R636 to R638, R642 to R645). -/

namespace Sys2Proof.Machine

/-! ## The steps of an entry (R636, R644) -/

/-- No step before the last one decides whether the module wakes. -/
theorem State.entryStep_wakes (m : BitVec 2) (k : Nat) (s : State) (hk : k < 4) :
    (s.entryStep m (k + 1)).pwr.wakePend = s.pwr.wakePend ∧ (s.entryStep m (k + 1)).pwr.forced = s.pwr.forced := by
  obtain rfl | rfl | rfl | rfl : k = 0 ∨ k = 1 ∨ k = 2 ∨ k = 3 := by omega
  case inr.inr.inr =>
    simp only [State.entryStep]
    split <;> exact ⟨rfl, rfl⟩
  all_goals exact ⟨rfl, rfl⟩

theorem State.entryStep_frame (m : BitVec 2) (k : Nat) (s : State) (hk : k < 4) :
    Frame [.clk, .hiu, .dsp, .pwr] s (s.entryStep m (k + 1)) := by
  obtain rfl | rfl | rfl | rfl : k = 0 ∨ k = 1 ∨ k = 2 ∨ k = 3 := by omega
  case inr.inr.inr => exact .ite (by simp [Frame]) (.refl _ s)
  all_goals simp [Frame, State.entryStep]

/-- A wake is latched or forced, or after step 1 a condition of the state no longer holds (R637). -/
def State.abortsAt (m : BitVec 2) (k : Nat) (s : State) : Prop :=
  s.pwr.wakePend ≠ 0 ∨ s.pwr.forced = true ∨ (k = 0 ∧ s.stateOk m = false)

/-- The test of the abort point after a step but the last, on the state before the step. -/
theorem State.abort_test (m : BitVec 2) (k : Nat) (s : State) (hk : k < 4) :
    ((s.entryStep m (k + 1)).pwr.wakePend != 0 || (s.entryStep m (k + 1)).pwr.forced ||
      (k + 1 == 1 && !(s.entryStep m (k + 1)).stateOk m)) = true ↔ s.abortsAt m k := by
  obtain ⟨hp, hf⟩ := s.entryStep_wakes m k hk
  rw [hp, hf]
  cases k with
  | zero => simp [State.abortsAt, State.entryStep, or_assoc]
  | succ k => simp [State.abortsAt]

theorem entryStepEnd_none (s : State) (h : s.pwr.entry = none) : exec .entryStepEnd s = .next s := by
  simp [exec, execEntryStepEnd, h]

theorem entryStepEnd_aborts (m : BitVec 2) (k : Nat) (s : State) (h : s.pwr.entry = some (m, k)) (hk : k < 4) (ha : s.abortsAt m k) :
    exec .entryStepEnd s = .next ((s.entryStep m (k + 1)).abandonEntry m k) := by
  simp only [exec, execEntryStepEnd, h]
  rw [if_neg (by omega), if_pos ((s.abort_test m k hk).2 ha)]
  rfl

theorem entryStepEnd_goes_on (m : BitVec 2) (k : Nat) (s : State) (h : s.pwr.entry = some (m, k)) (hk : k < 4)
    (ha : ¬ s.abortsAt m k) : exec .entryStepEnd s = .next { s.entryStep m (k + 1) with pwr.entry := some (m, k + 1) } := by
  simp only [exec, execEntryStepEnd, h]
  rw [if_neg (by omega), if_neg (fun hc => ha ((s.abort_test m k hk).1 hc))]

/-- What each step of an entry but the last does (R636, R644). -/
theorem entryStepEnd_steps (m : BitVec 2) (k : Nat) (s : State) (h : s.pwr.entry = some (m, k)) (hk : k < 4)
    (hp : s.pwr.wakePend = 0) (hf : s.pwr.forced = false) (ho : k = 0 → s.stateOk m = true) :
    ∃ t : State, exec .entryStepEnd s = .next t ∧ t.pwr.entry = some (m, k + 1) ∧
      (k = 1 → t.hiu = { s.hiu with noFetch := true } ∧ t.dsp = { s.dsp with noGrant := true }) ∧ (k ≠ 1 → t.hiu = s.hiu ∧ t.dsp = s.dsp) ∧
      (k = 2 → t.clk.pllA.locked = false ∧ t.clk.pllB.locked = false ∧ t.clk.pllA.on = false ∧ t.clk.pllB.on = false ∧
        t.clk.mssLocked = false) ∧ (k ≠ 2 → t.clk = s.clk) ∧
      (k = 3 → m = 2 → t.pwr.pads = 7 ∧ t.pwr.padLed = s.led01) ∧ ((k ≠ 3 ∨ m ≠ 2) → t.pwr.pads = s.pwr.pads) ∧
      Frame [.clk, .hiu, .dsp, .pwr] s t := by
  have ha : ¬ s.abortsAt m k := by
    rintro (hc | hc | ⟨hk0, hc⟩)
    · exact hc hp
    · exact Bool.noConfusion (hf.symm.trans hc)
    · exact Bool.noConfusion ((ho hk0).symm.trans hc)
  have hframe : Frame [.clk, .hiu, .dsp, .pwr] s { s.entryStep m (k + 1) with pwr.entry := some (m, k + 1) } :=
    (s.entryStep_frame m k hk).trans (by simp [Frame])
  refine ⟨_, entryStepEnd_goes_on m k s h hk ha, rfl, ?_⟩
  simp only [hframe, and_true]
  obtain rfl | rfl | rfl | rfl : k = 0 ∨ k = 1 ∨ k = 2 ∨ k = 3 := by omega
  · simp [State.entryStep]
  · simp [State.entryStep]
  · simp [State.entryStep, Pll.stop]
  · by_cases hm : m = 2
    · simp [State.entryStep, hm]
    · have hnone : s.entryStep m (3 + 1) = s := if_neg hm
      rw [hnone]
      exact ⟨fun h => absurd h (by decide), fun _ => ⟨rfl, rfl⟩, fun h => absurd h (by decide), fun _ => rfl,
        fun _ h => absurd h hm, fun _ => rfl⟩

/-! ## An entry that is abandoned (R637, R645) -/

/-- The steps of an entry are undone and WAIT returns. -/
def State.entryUndone (ap : Nat) (s : State) : State :=
  let s := s.goOn
  let s := if 2 ≤ ap then { s with clk.pllA := s.clk.pllA.start, clk.pllB := s.clk.pllB.start, clk.mssLocked := true } else s
  { s with
    pwr.pads := s.pwr.pads &&& ~~~s.pwr.entryPads
    pwr.entryPads := 0
    pwr.entry := none
    pwr.saved := none
    pwr.halted := false
    pwr.forced := false
    pwr.aborted := true
    pwr.lastAbort := BitVec.ofNat 2 ap }

theorem State.abandonEntry_eq (m : BitVec 2) (ap : Nat) (s : State) :
    s.abandonEntry m ap = (s.entryUndone ap).event 1145 0x0507 m.toNat ap s.pwr.wakePend.toNat 0 := by
  unfold State.abandonEntry State.entryUndone State.goOn
  split <;> rfl

/-- What an abandoned entry leaves of the clocks. -/
theorem State.entryUndone_clk (ap : Nat) (s : State) : (s.entryUndone ap).clk =
    if 2 ≤ ap then { s.clk with pllA := s.clk.pllA.start, pllB := s.clk.pllB.start, mssLocked := true } else s.clk := by
  unfold State.entryUndone State.goOn
  split <;> rfl

/-- What an abandoned entry leaves of the power unit. -/
theorem State.entryUndone_pwr (ap : Nat) (s : State) : (s.entryUndone ap).pwr = { s.pwr with
    pads := s.pwr.pads &&& ~~~s.pwr.entryPads, entryPads := 0, entry := none, saved := none, halted := false, forced := false,
    aborted := true, lastAbort := BitVec.ofNat 2 ap } := by
  unfold State.entryUndone State.goOn
  split <;> rfl

/-- Fetches and grants go on, unless a reset or quiesce forbids them. -/
theorem State.entryUndone_goes_on (ap : Nat) (s : State) :
    (s.entryUndone ap).hiu.noFetch = (s.pwr.quiesce || s.boot.request.isSome) ∧
      (s.entryUndone ap).dsp.noGrant = (s.pwr.quiesce || s.boot.request.isSome) := by
  unfold State.entryUndone State.goOn
  split <;> exact ⟨rfl, rfl⟩

theorem State.entryUndone_frame (ap : Nat) (s : State) : Frame [.clk, .hiu, .dsp, .pwr] s (s.entryUndone ap) := by
  unfold State.entryUndone State.goOn
  split <;> simp [Frame]

/-- The pads that an entry latched before this point are released again, and no others. -/
theorem State.entryStep_pads_undone (m : BitVec 2) (k : Nat) (s : State) (hk : k < 4) (he : s.pwr.entryPads = 0) :
    (s.entryStep m (k + 1)).pwr.pads &&& ~~~(s.entryStep m (k + 1)).pwr.entryPads = s.pwr.pads := by
  have hzero : ∀ x : BitVec 3, x &&& ~~~0 = x := by decide
  have hseven : ∀ x : BitVec 3, 7 &&& ~~~(~~~x) = x := by decide
  obtain rfl | rfl | rfl | rfl : k = 0 ∨ k = 1 ∨ k = 2 ∨ k = 3 := by omega
  case inr.inr.inr =>
    simp only [State.entryStep]
    split
    · exact hseven _
    · rw [he]
      exact hzero _
  all_goals
    simp only [State.entryStep]
    rw [he]
    exact hzero _

/-- A step of an entry changes the clocks only when the PLLs are stopped (R644). -/
theorem State.entryStep_clk (m : BitVec 2) (k : Nat) (s : State) (hk : k < 4) : (s.entryStep m (k + 1)).clk =
    if k = 2 then { s.clk with pllA := s.clk.pllA.stop, pllB := s.clk.pllB.stop, mssLocked := false } else s.clk := by
  obtain rfl | rfl | rfl | rfl : k = 0 ∨ k = 1 ∨ k = 2 ∨ k = 3 := by omega
  case inr.inr.inr =>
    simp only [State.entryStep]
    split <;> rfl
  all_goals rfl

theorem State.entryStep_state (m : BitVec 2) (k : Nat) (s : State) (hk : k < 4) :
    (s.entryStep m (k + 1)).pwr.state = s.pwr.state ∧ (s.entryStep m (k + 1)).pwr.quiesce = s.pwr.quiesce := by
  obtain rfl | rfl | rfl | rfl : k = 0 ∨ k = 1 ∨ k = 2 ∨ k = 3 := by omega
  case inr.inr.inr =>
    simp only [State.entryStep]
    split <;> exact ⟨rfl, rfl⟩
  all_goals exact ⟨rfl, rfl⟩

theorem entryStepEnd_abandons (m : BitVec 2) (k : Nat) (s : State) (h : s.pwr.entry = some (m, k)) (hk : k < 4)
    (hpads : s.pwr.entryPads = 0) (hq : s.pwr.quiesce = false) (hr : s.boot.request = none) (ha : s.abortsAt m k) :
    ∃ t : State, exec .entryStepEnd s = .next t ∧ t.pwr.entry = none ∧ t.pwr.halted = false ∧ t.pwr.aborted = true ∧
      t.pwr.lastAbort = BitVec.ofNat 2 k ∧ t.pwr.pads = s.pwr.pads ∧ t.pwr.state = s.pwr.state ∧ t.hiu.noFetch = false ∧
      t.dsp.noGrant = false ∧ (k < 2 → t.clk = s.clk) ∧
      (2 ≤ k → t.clk.pllA.on = true ∧ t.clk.pllB.on = true ∧ t.clk.pllA.locked = !s.clk.pllA.quarantined ∧
        t.clk.pllB.locked = !s.clk.pllB.quarantined ∧ t.clk.mssLocked = true) ∧
      Recorded ⟨1145, 0x0507, w32 m.toNat, w32 k, w32 s.pwr.wakePend.toNat, 0⟩ s t ∧ Frame (reports [.clk, .dsp]) s t := by
  have hstep := s.entryStep_frame m k hk
  have hpads' := s.entryStep_pads_undone m k hk hpads
  have hclk := s.entryStep_clk m k hk
  obtain ⟨hstate, hquiesce⟩ := s.entryStep_state m k hk
  obtain ⟨hpend, -⟩ := s.entryStep_wakes m k hk
  have hx := entryStepEnd_aborts m k s h hk ha
  have hboot : (s.entryStep m (k + 1)).boot = s.boot := hstep.same .boot (by decide)
  generalize s.entryStep m (k + 1) = u at hstep hpads' hclk hstate hquiesce hpend hx hboot
  rw [u.abandonEntry_eq, hpend] at hx
  have hevr : (u.entryUndone k).evr = s.evr := Eq.trans ((u.entryUndone_frame k).same .evr (by decide)) (hstep.same .evr (by decide))
  have hrec := (u.entryUndone k).event_recorded 1145 0x0507 m.toNat k s.pwr.wakePend.toNat 0
  have hrep := (u.entryUndone k).event_reported 1145 0x0507 m.toNat k s.pwr.wakePend.toNat 0
  have hframe : Frame (reports [.clk, .dsp]) s (u.entryUndone k) :=
    (hstep.mono (by decide)).trans ((u.entryUndone_frame k).mono (by decide))
  obtain ⟨hfetch, hgrant⟩ := u.entryUndone_goes_on k
  rw [hquiesce, hboot, hq, hr] at hfetch hgrant
  have hpwr := u.entryUndone_pwr k
  have hclk' := u.entryUndone_clk k
  generalize (u.entryUndone k).event 1145 0x0507 m.toNat k s.pwr.wakePend.toNat 0 = t at hx hrec hrep
  have htclk : t.clk = (u.entryUndone k).clk := hrep.frame.same .clk (by decide)
  refine ⟨t, hx, ?_, hrep.running (by rw [hpwr]), ?_, ?_, ?_, ?_, ?_, ?_, fun hk2 => ?_, fun hk2 => ?_, hrec.of_evr_eq hevr,
    hframe.trans (hrep.frame.mono (by decide))⟩
  · rw [hrep.pwr, hpwr]
  · rw [hrep.pwr, hpwr]
  · rw [hrep.pwr, hpwr]
  · rw [hrep.pwr, hpwr]
    exact hpads'
  · rw [hrep.pwr, hpwr]
    exact hstate
  · rw [hrep.hiu]
    exact hfetch
  · rw [hrep.frame.same .dsp (by decide)]
    exact hgrant
  · rw [htclk, hclk', if_neg (by omega), hclk, if_neg (by omega)]
  · rw [htclk, hclk', if_pos hk2, hclk]
    split <;> exact ⟨rfl, rfl, rfl, rfl, rfl⟩

end Sys2Proof.Machine
end

section
/-! PROOFS. The last step of an entry, and the state that DORMANT loses (17_power_and_energy.md, R28, R33, R477, R638, R643). -/

namespace Sys2Proof.Machine

/-! ## The memories that DORMANT powers off -/

/-- The SRAM pool, the bays, the pier and operand memories and the control stores lose their contents. -/
def State.memoriesOff (s : State) : State :=
  let s := (List.range 12).foldl (fun (s : State) b => s.bayOff b) s.clearPool
  let s := (List.range 128).foldl (fun (s : State) p => s.clearInst .pierLocal p) s
  (List.range 48).foldl (fun (s : State) e => (s.clearInst .operand e).clearInst .controlStore e) s

/-- What is done to the other memories and to the bays touches no byte of the pool. -/
theorem State.memoriesOff_after_pool (s : State) : Frame [.eng, .mi] s.clearPool s.memoriesOff := by
  have hbays := Frame.foldl _ (fun (t : State) b => t.bayOff_frame b) (List.range 12) s.clearPool
  have hpiers := Frame.foldl _ (fun (t : State) p => t.clearInst_frame .pierLocal p) (List.range 128)
    ((List.range 12).foldl (fun (s : State) b => s.bayOff b) s.clearPool)
  exact ((hbays.mono (by decide)).trans (hpiers.mono (by decide))).trans
    (.foldl _ (fun t e => (((t.clearInst_frame .operand e).trans (State.clearInst_frame .controlStore e _)).mono (by decide))) _ _)

theorem State.memoriesOff_frame (s : State) : Frame [.eng, .mi, .mem] s s.memoriesOff :=
  Frame.trans (by simp [Frame, State.clearPool, State.clearRange]) (s.memoriesOff_after_pool.mono (by decide))

/-- Every byte outside the SRAM pool reads as before. -/
theorem State.memoriesOff_mem (a : Nat) (s : State) (ha : a < 0x40000000 ∨ 0x45000000 ≤ a) :
    byteAt 0 s.memoriesOff.mem a = byteAt 0 s.mem a := by
  have hm : s.memoriesOff.mem = clearBytes s.mem 0x40000000 0x5000000 := s.memoriesOff_after_pool.same .mem (by decide)
  rw [hm, byteAt_clearBytes, if_neg (by omega)]

/-! ## The power-off (R28, R33, R477, R643) -/

/-- An enrolled member is no abutment, and so has a parent to lose. -/
def State.hasParent (s : State) : Bool := s.enrolled && s.role != 1

/-- Whether a module has a parent is written in the anchors. -/
theorem State.hasParent_of_anc {s t : State} (h : t.anc = s.anc) : t.hasParent = s.hasParent := by
  simp only [State.hasParent, State.enrolled, State.member, State.role, State.ancGet, h]

/-- What the domains that DORMANT powers off lose, beside the contents of their memories. -/
def State.domainsOff (s : State) : State :=
  { s with
    pay.sess := []
    keys.t1 := []
    keys.flushing := none
    hiu := { s.hiu with qp := [], msix := [], grants := [], fnPtr := 0, qpPtr := [], dpUp := false }
    dsp := { s.dsp with turn := [], visited := [], deficit := [], pierPtr := 0, replayPtr := 0, flows := [],
                        piers := tblMap .idle (fun _ x => pierReset x) s.dsp.piers, parkNext := [] }
    deck.flowPtr := 0
    eng.eng := tblMap {} (fun _ (x : Eng) => { x with loaded := false, store := [] }) s.eng.eng
    eng.ports := []
    eng.engPtr := []
    eng.pierPtr := []
    eng.busPtr := 0
    tg := { s.tg with rules := [], en := false, boot := true, holding := false, drained := false, held := [], written := [] }
    trs.linkA := false
    trs.linkB := false
    trs.lostAt := if s.hasParent then some s.now else s.trs.lostAt
    trs.cstate := if s.hasParent then 4 else s.trs.cstate }

theorem State.powerOff_eq (s : State) : s.powerOff = s.memoriesOff.domainsOff := by
  unfold State.powerOff State.memoriesOff State.domainsOff State.hasParent
  rfl

theorem State.domainsOff_frame (s : State) : Frame [.hiu, .dsp, .deck, .keys, .pay, .eng, .trs, .tg] s s.domainsOff := by
  simp [Frame, State.domainsOff]

theorem State.powerOff_frame (s : State) :
    Frame [.hiu, .dsp, .deck, .keys, .pay, .eng, .trs, .tg, .mi, .mem] s s.powerOff := by
  rw [s.powerOff_eq]
  exact (s.memoriesOff_frame.mono (by decide)).trans (s.memoriesOff.domainsOff_frame.mono (by decide))

/-- DORMANT loses sessions, tier one, the pool, the rule table and the links, and an enrolled member its parent (R643). -/
structure Dormant (s t : State) : Prop where
  keys : t.keys = { s.keys with t1 := [], flushing := none }
  pay : t.pay = { s.pay with sess := [] }
  hiu : t.hiu.dpUp = false ∧ t.hiu.qp = []
  tg : t.tg.rules = [] ∧ t.tg.en = false
  links : t.trs.linkA = false ∧ t.trs.linkB = false
  parent : s.hasParent = true → t.trs.lostAt = some s.now ∧ t.trs.cstate = 4
  mem : ∀ a, a < 0x40000000 ∨ 0x45000000 ≤ a → byteAt 0 t.mem a = byteAt 0 s.mem a

theorem State.domainsOff_dormant (s : State) : Dormant s s.domainsOff :=
  ⟨rfl, rfl, ⟨rfl, rfl⟩, ⟨rfl, rfl⟩, ⟨rfl, rfl⟩, fun hp => ⟨if_pos hp, if_pos hp⟩, fun _ _ => rfl⟩

/-- What DORMANT loses is told from a state before, from which only reports and memories differ. -/
theorem Dormant.of_before {s u t : State} (h : Dormant u t) (hf : Frame (reports [.eng, .mi, .mem]) s u)
    (hm : ∀ a, a < 0x40000000 ∨ 0x45000000 ≤ a → byteAt 0 u.mem a = byteAt 0 s.mem a) : Dormant s t := by
  have hkeys : u.keys = s.keys := hf.same .keys (by decide)
  have hpay : u.pay = s.pay := hf.same .pay (by decide)
  have hnow : u.now = s.now := (hf.same .time (by decide)).1
  have hparent : u.hasParent = s.hasParent := State.hasParent_of_anc (hf.same .anc (by decide))
  refine ⟨hkeys ▸ h.keys, hpay ▸ h.pay, h.hiu, h.tg, h.links, fun hp => ?_, fun a ha => (h.mem a ha).trans (hm a ha)⟩
  rw [← hnow]
  exact h.parent (hparent.trans hp)

theorem State.powerOff_dormant (s : State) : Dormant s s.powerOff := by
  rw [s.powerOff_eq]
  exact s.memoriesOff.domainsOff_dormant.of_before (s.memoriesOff_frame.mono (by decide)) (fun a ha => s.memoriesOff_mem a ha)

/-- The start of a wake brings nothing back that DORMANT lost. -/
theorem Dormant.of_after {s t u : State} (h : Dormant s t) (hf : Frame [.rng, .pwr] t u) : Dormant s u where
  keys := Eq.trans (hf.same .keys (by decide)) h.keys
  pay := Eq.trans (hf.same .pay (by decide)) h.pay
  hiu := by rw [hf.same .hiu (by decide)]; exact h.hiu
  tg := by rw [hf.same .tg (by decide)]; exact h.tg
  links := by rw [hf.same .trs (by decide)]; exact h.links
  parent := by rw [hf.same .trs (by decide)]; exact h.parent
  mem := by rw [hf.same .mem (by decide)]; exact h.mem

/-! ## The last step (R638, R644) -/

/-- The module is in the state `m`, which the event 0x0501 says. -/
def State.entered (m : BitVec 2) (s : State) : State :=
  { s with pwr.state := m, pwr.entry := none, pwr.entryPads := 0 }.event 1145 0x0501 0 m.toNat 0 0

/-- The last step: the state is entered, and DORMANT loses what it powers off. -/
theorem State.entryStep_last (m : BitVec 2) (s : State) :
    s.entryStep m 5 = if m = 2 then (s.entered m).powerOff else s.entered m := rfl

theorem entryStepEnd_last (m : BitVec 2) (s : State) (h : s.pwr.entry = some (m, 4)) :
    exec .entryStepEnd s = .next (if (s.entryStep m 5).pwr.wakePend ≠ 0 ∨ (s.entryStep m 5).pwr.forced = true
      then (s.entryStep m 5).startWake else s.entryStep m 5) := by
  simp [exec, execEntryStepEnd, h]

theorem State.entered_reported (m : BitVec 2) (s : State) :
    Reported { s with pwr.state := m, pwr.entry := none, pwr.entryPads := 0 } (s.entered m) := State.event_reported ..

theorem State.entered_frame (m : BitVec 2) (s : State) : Frame (reports []) s (s.entered m) :=
  Frame.trans (by simp [Frame, reports]) (s.entered_reported m).frame

theorem State.entered_recorded (m : BitVec 2) (s : State) : Recorded ⟨1145, 0x0501, 0, w32 m.toNat, 0, 0⟩ s (s.entered m) :=
  (State.event_recorded 1145 0x0501 0 m.toNat 0 0 { s with pwr.state := m, pwr.entry := none, pwr.entryPads := 0 }).of_evr_eq rfl

/-- The last step of an entry changes of the power unit what `entered` says, and neither time nor the generator. -/
theorem State.entryStep_last_frame (m : BitVec 2) (s : State) :
    Frame [.hiu, .dsp, .deck, .keys, .pay, .eng, .trs, .tg, .mi, .mem] (s.entered m) (s.entryStep m 5) := by
  rw [s.entryStep_last]
  exact .ite (State.powerOff_frame _) (.refl _ _)

theorem State.entryStep_last_pwr (m : BitVec 2) (s : State) : (s.entryStep m 5).pwr = { s.pwr with
    state := m, entry := none, entryPads := 0, halted := (s.entered m).pwr.halted, evt := (s.entered m).pwr.evt } :=
  Eq.trans ((s.entryStep_last_frame m).same .pwr (by decide)) (s.entered_reported m).pwr

theorem entryStepEnd_enters (m : BitVec 2) (s : State) (h : s.pwr.entry = some (m, 4)) (_hs : s.pwr.state = 0)
    (hw : s.pwr.waking = none) (hm : m ≠ 0) :
    ∃ t : State, exec .entryStepEnd s = .next t ∧ t.pwr.entry = none ∧ t.pwr.state = m ∧
      ((s.pwr.wakePend = 0 ∧ s.pwr.forced = false) → t.pwr.waking = none ∧ t.rng = s.rng) ∧
      ((s.pwr.wakePend ≠ 0 ∨ s.pwr.forced = true) →
        t.pwr.waking = some (m, s.pwr.wakePend.setWidth 32, s.now) ∧ t.pwr.halted = false) ∧
      Recorded ⟨1145, 0x0501, 0, w32 m.toNat, 0, 0⟩ s t ∧
      (m = 1 → Frame (reports [.rng]) s t) ∧
      (m = 2 → t.keys.t1 = [] ∧ t.keys.t2 = s.keys.t2 ∧ t.keys.ket = s.keys.ket ∧ t.pay.sess = [] ∧ t.hiu.dpUp = false ∧ t.hiu.qp = [] ∧
        t.tg.rules = [] ∧ t.tg.en = false ∧ t.trs.linkA = false ∧ t.trs.linkB = false ∧
        (s.enrolled = true → s.role ≠ 1 → t.trs.lostAt = some s.now ∧ t.trs.cstate = 4) ∧
        (∀ a, 0x45000000 ≤ a → byteAt 0 t.mem a = byteAt 0 s.mem a) ∧ (∀ a, a < 0x40000000 → byteAt 0 t.mem a = byteAt 0 s.mem a) ∧
        Frame (reports [.dsp, .deck, .keys, .pay, .eng, .rng, .trs, .tg, .mi, .mem]) s t) := by
  have hpwr := s.entryStep_last_pwr m
  have hlast := s.entryStep_last m
  have hframe := s.entryStep_last_frame m
  have hent := s.entered_frame m
  have hx := entryStepEnd_last m s h
  have hnow : (s.entryStep m 5).now = s.now := ((hframe.same .time (by decide)).1).trans (hent.same .time (by decide)).1
  have hrng : (s.entryStep m 5).rng = s.rng := Eq.trans (hframe.same .rng (by decide)) (hent.same .rng (by decide))
  have hrec : Recorded ⟨1145, 0x0501, 0, w32 m.toNat, 0, 0⟩ s (s.entryStep m 5) :=
    (s.entered_recorded m).reported (queue_same (congrArg Evr.queue (hframe.same .evr (by decide))))
  generalize s.entryStep m 5 = v at hpwr hlast hframe hx hnow hrng hrec
  have hpend : v.pwr.wakePend = s.pwr.wakePend := by rw [hpwr]
  have hforced : v.pwr.forced = s.pwr.forced := by rw [hpwr]
  have hstate : v.pwr.state = m := by rw [hpwr]
  have hwaking : v.pwr.waking = none := by rw [hpwr]; exact hw
  have hwake := v.startWake_waking (by rw [hstate]; exact hm) hwaking
  rw [hpend, hforced] at hx
  have hafter : Frame [.rng, .pwr] v (if s.pwr.wakePend ≠ 0 ∨ s.pwr.forced = true then v.startWake else v) :=
    .ite v.startWake_frame (.refl _ v)
  refine ⟨_, hx, ?_, ?_, fun ⟨hp0, hf0⟩ => ?_, fun hp => ?_,
    hrec.reported (queue_same (congrArg Evr.queue (hafter.same .evr (by decide)))), fun h1 => ?_, fun h2 => ?_⟩
  · split
    · rw [v.startWake_pwr, hpwr]
    · rw [hpwr]
  · split
    · rw [v.startWake_pwr, hstate]
    · exact hstate
  · rw [if_neg (by simp [hp0, hf0])]
    exact ⟨hwaking, hrng⟩
  · rw [if_pos hp, hwake, State.wakeUnderWay, hpend, hstate, hnow]
    exact ⟨rfl, rfl⟩
  · rw [if_neg (by rw [h1]; decide)] at hlast
    rw [hlast] at hafter ⊢
    exact (hent.mono (by decide)).trans (hafter.mono (by decide))
  · rw [if_pos h2] at hlast
    have hd : Dormant s v := by
      rw [hlast]
      refine (State.powerOff_dormant _).of_before (hent.mono (by decide)) (fun a _ => ?_)
      rw [hent.same .mem (by decide)]
    obtain ⟨hkeys, hpay, ⟨hup, hqp⟩, ⟨hrules, hen⟩, ⟨hla, hlb⟩, hparent, hmem⟩ := hd.of_after hafter
    rw [hkeys, hpay]
    refine ⟨rfl, rfl, rfl, rfl, hup, hqp, hrules, hen, hla, hlb, fun he hr => hparent ?_, fun a ha => hmem a (.inr ha),
      fun a ha => hmem a (.inl ha), ?_⟩
    · simp [State.hasParent, he, hr]
    · exact ((hent.mono (by decide)).trans (hframe.mono (by decide))).trans (hafter.mono (by decide))

end Sys2Proof.Machine
end

section
/-! PROOFS. The allocation of power, and the end of a wake (17_power_and_energy.md, R29, R396, R477, R639 to R643, R655). -/

namespace Sys2Proof.Machine

/-! ## The allocation (R655, R656) -/

/-- From `s` to `t` units are powered and parked, and this is reported: of the clocks only groups and bays change, of the dispatcher
only the piers and their parking, and of the power unit the allocation beside what a report changes. -/
structure Allocated (s t : State) : Prop where
  frame : Frame (reports [.clk, .dsp, .eng]) s t
  clk : t.clk = { s.clk with groups := t.clk.groups, bays := t.clk.bays }
  dsp : t.dsp = { s.dsp with piers := t.dsp.piers, parkNext := t.dsp.parkNext }
  hiu : t.hiu = { s.hiu with msix := t.hiu.msix }
  pwr : t.pwr = { s.pwr with halted := t.pwr.halted, evt := t.pwr.evt, alloc := t.pwr.alloc, parking := t.pwr.parking }
  queue : ∃ l, t.evr.queue = s.evr.queue ++ l

namespace Allocated

theorem refl (s : State) : Allocated s s := ⟨.refl _ s, rfl, rfl, rfl, rfl, queue_same rfl⟩

theorem trans {s t u : State} (h : Allocated s t) (k : Allocated t u) : Allocated s u where
  frame := h.frame.trans k.frame
  clk := by rw [k.clk, h.clk]
  dsp := by rw [k.dsp, h.dsp]
  hiu := by rw [k.hiu, h.hiu]
  pwr := by rw [k.pwr, h.pwr]
  queue := by
    obtain ⟨l, hl⟩ := h.queue
    obtain ⟨m, hm⟩ := k.queue
    exact ⟨l ++ m, by rw [hm, hl, List.append_assoc]⟩

theorem foldl {α : Type} (f : State → α → State) (h : ∀ s a, Allocated s (f s a)) (l : List α) (s : State) :
    Allocated s (l.foldl f s) := by
  induction l generalizing s with
  | nil => exact refl s
  | cons a l ih => exact (h s a).trans (ih (f s a))

/-- Units change their state and nothing is reported. -/
theorem of_units {s t : State} (hf : Frame [.clk, .dsp, .eng] s t)
    (hc : t.clk = { s.clk with groups := t.clk.groups, bays := t.clk.bays })
    (hd : t.dsp = { s.dsp with piers := t.dsp.piers, parkNext := t.dsp.parkNext }) : Allocated s t where
  frame := hf.mono (by decide)
  clk := hc
  dsp := hd
  hiu := by rw [hf.same .hiu (by decide)]
  pwr := by rw [hf.same .pwr (by decide)]
  queue := queue_same (by rw [hf.same .evr (by decide)])

theorem of_reported {s t : State} (h : Reported s t) : Allocated s t where
  frame := h.frame.mono (by decide)
  clk := by rw [h.frame.same .clk (by decide)]
  dsp := by rw [h.frame.same .dsp (by decide)]
  hiu := h.hiu
  pwr := by rw [h.pwr]
  queue := h.queue

end Allocated

theorem State.setPier_allocated (p : Nat) (x : PierSt) (s : State) : Allocated s (s.setPier p x) :=
  .of_units ((State.setPier_frame ..).mono (by decide)) rfl rfl

theorem State.setGroup_allocated (g : Nat) (x : GroupSt) (s : State) : Allocated s (s.setGroup g x) :=
  .of_units ((Frame.with_clk ..).mono (by decide)) rfl rfl

theorem State.parkNext_allocated (p : Nat) (b : Bool) (s : State) :
    Allocated s { s with dsp.parkNext := tblSet false p b s.dsp.parkNext } := .of_units (by simp [Frame]) rfl rfl

theorem State.parkGroup_allocated (g : Nat) (s : State) : Allocated s (s.parkGroup g) := by
  refine .foldl _ (fun t p => ?_) _ s
  split
  · exact State.setPier_allocated ..
  · exact State.setPier_allocated ..
  · exact State.parkNext_allocated ..
  · exact .refl t

theorem State.unparkGroup_allocated (g : Nat) (s : State) : Allocated s (s.unparkGroup g) := by
  unfold State.unparkGroup
  extract_lets u
  have hu : Allocated s u := .foldl _ (fun t p => t.parkNext_allocated p false) (groupPiers g) s
  refine hu.trans ?_
  split
  · exact State.setGroup_allocated ..
  · exact .refl _
  · refine .foldl _ (fun t p => ?_) _ _
    split
    · exact State.setPier_allocated ..
    · exact .refl t

theorem State.groupSettle_allocated (g : Nat) (s : State) : Allocated s (s.groupSettle g) := by
  unfold State.groupSettle
  extract_lets
  split
  · exact State.setGroup_allocated ..
  · exact .refl s

theorem State.setPark_allocated (pk : Bool) (v : BitVec 6) (s : State) : Allocated s (s.setPark pk v) := by
  have h := s.setPark_gated pk v
  have hreg : Frame [.eng] s (if pk then { s with eng.pksPark := v } else { s with eng.scePark := v }) :=
    .ite (by simp [Frame]) (by simp [Frame])
  refine .of_units ((hreg.mono (by decide)).trans (h.frame.mono (by decide))) ?_ ?_
  · rw [h.clk, hreg.same .clk (by decide)]
  · rw [h.frame.same .dsp (by decide), hreg.same .dsp (by decide)]

theorem State.allocate_allocated (s : State) : Allocated s s.allocate := by
  unfold State.allocate
  generalize s.allocOf (20 * s.pwr.envelope) = a
  obtain ⟨l, used⟩ := a
  dsimp -zeta only
  extract_lets n on sce pks parks u v w p x
  have hgroups : Allocated s u := .foldl _ (fun t g => by
    split
    · exact t.unparkGroup_allocated g
    · exact (t.parkGroup_allocated g).trans (State.groupSettle_allocated ..)) _ s
  have hbays : Allocated u v := (State.setPark_allocated ..).trans (State.setPark_allocated ..)
  have hset : Allocated v { v with pwr.alloc := w32 w, pwr.parking := parks } := ⟨by simp [Frame, reports], rfl, rfl, rfl, rfl, queue_same rfl⟩
  have hx : Allocated s x := ((hgroups.trans hbays).trans hset).trans (.of_reported (State.event_reported ..))
  split
  · exact hx
  · exact hx.trans (.of_reported (State.nrgEvent_reported ..))

/-! ## The module is in RUN again (R641) -/

/-- The state at the end of a wake, before it is reported and power is allocated. -/
def State.inRun (s : State) : State := { s with pwr.state := 0, pwr.waking := none, pwr.saved := none }

/-- The end of a wake is recorded with event 0x0501. -/
def State.runReported (old : BitVec 2) (bits : Word) (t0 : Nat) (s : State) : State :=
  s.inRun.event 1145 0x0501 old.toNat 0 bits.toNat (s.now - t0)

theorem State.wakeEnds_eq (old : BitVec 2) (bits : Word) (t0 : Nat) (s : State) :
    s.wakeEnds old bits t0 = (s.runReported old bits t0).allocate := by
  unfold State.wakeEnds State.runReported State.inRun
  rfl

theorem State.wakeEnds_allocated (old : BitVec 2) (bits : Word) (t0 : Nat) (s : State) : Allocated s.inRun (s.wakeEnds old bits t0) := by
  rw [s.wakeEnds_eq]
  exact (Allocated.of_reported (State.event_reported ..)).trans (State.allocate_allocated _)

theorem State.wakeEnds_recorded (old : BitVec 2) (bits : Word) (t0 : Nat) (s : State) :
    Recorded ⟨1145, 0x0501, w32 old.toNat, 0, w32 bits.toNat, w32 (s.now - t0)⟩ s (s.wakeEnds old bits t0) := by
  have hrec : Recorded ⟨1145, 0x0501, w32 old.toNat, 0, w32 bits.toNat, w32 (s.now - t0)⟩ s (s.runReported old bits t0) :=
    (s.inRun.event_recorded 1145 0x0501 old.toNat 0 bits.toNat (s.now - t0)).of_evr_eq rfl
  rw [s.wakeEnds_eq]
  exact hrec.reported (State.allocate_allocated _).queue

theorem State.wakeEnds_pwr (old : BitVec 2) (bits : Word) (t0 : Nat) (s : State) :
    (s.wakeEnds old bits t0).pwr.state = 0 ∧ (s.wakeEnds old bits t0).pwr.waking = none ∧ (s.wakeEnds old bits t0).pwr.saved = none := by
  rw [(s.wakeEnds_allocated old bits t0).pwr]
  exact ⟨rfl, rfl, rfl⟩

theorem State.wakeEnds_frame (old : BitVec 2) (bits : Word) (t0 : Nat) (s : State) :
    Frame (reports [.clk, .dsp, .eng]) s (s.wakeEnds old bits t0) :=
  Frame.trans (by simp [Frame, State.inRun, reports]) (s.wakeEnds_allocated old bits t0).frame

/-! ## The wake from DROWSE (R26, R396, R640) -/

/-- A property of the default and of every value that `f` makes holds of every value of a table that `f` has changed. -/
theorem tblGet_tblMap_of {α : Type} [DecidableEq α] {P : α → Prop} (d : α) (f : Nat → α → α) (t : Tbl α) (i : Nat) (hd : P d)
    (hf : ∀ k x, P (f k x)) : P (tblGet d (tblMap d f t) i) := by
  induction t with
  | nil => exact hd
  | cons e t ih =>
    obtain ⟨k, v⟩ := e
    simp only [tblMap, tblCons]
    split
    · exact ih
    · simp only [tblGet]
      split
      · exact hf k v
      · exact ih

/-- The PLL `p` drives the fabric, the other one is starting, the MSS clock runs, and the sources count their runs anew (R26, R396,
R640). -/
def State.drowseWoken (p : PllName) (s : State) : State :=
  let s := s.setPll p { s.pll p with on := true, locked := true }
  let s := s.setPll (otherPll p) { s.pll (otherPll p) with on := true, locked := false }
  { s with
    clk.active := p
    clk.mssLocked := true
    rng.src := tblMap {} (fun _ (x : Src) => { x with run := (0, 0) }) s.rng.src }

theorem State.drowseWoken_frame (p : PllName) (s : State) : Frame [.clk, .rng] s (s.drowseWoken p) := by
  cases p <;> simp [State.drowseWoken, State.setPll, Frame, otherPll]

theorem State.drowseWoken_pll (p : PllName) (s : State) :
    ((s.drowseWoken p).pll p).on = true ∧ ((s.drowseWoken p).pll p).locked = true := by
  cases p <;> exact ⟨rfl, rfl⟩

theorem State.drowseWoken_runs (p : PllName) (i : Nat) (s : State) : (tblGet {} (s.drowseWoken p).rng.src i).run = (0, 0) :=
  tblGet_tblMap_of (P := fun (x : Src) => x.run = (0, 0)) {} _ _ i rfl (fun _ _ => rfl)

theorem drowseWakeDone_runs (p : PllName) (bits : Word) (t0 : Nat) (s : State) (hw : s.pwr.waking = some (1, bits, t0))
    (hq : (s.pll p).quarantined = false) :
    exec (.drowseWakeDone p) s = .next ((s.drowseWoken p).goOn.wakeEnds 1 bits t0) := by
  simp only [exec, execDrowseWakeDone, hw, hq, State.drowseWoken]
  rfl

theorem State.goOn_frame (s : State) : Frame [.hiu, .dsp] s s.goOn := by simp [Frame, State.goOn]

end Sys2Proof.Machine
end

section
/-! PROOFS. The wakes from DROWSE and from DORMANT (17_power_and_energy.md, R26, R396, R477, R639 to R643). -/

namespace Sys2Proof.Machine

/-! ## The wake from DROWSE (R26, R396, R640) -/

theorem Allocated.pll {s t : State} (h : Allocated s t) (p : PllName) : t.pll p = s.pll p := by
  cases p
  all_goals
    simp only [State.pll]
    rw [h.clk]

theorem drowseWakeDone_ends (p : PllName) (bits : Word) (t0 : Nat) (s : State) (hw : s.pwr.waking = some (1, bits, t0))
    (hq : (s.pll p).quarantined = false) :
    ∃ t : State, exec (.drowseWakeDone p) s = .next t ∧ t.pwr.state = 0 ∧ t.pwr.waking = none ∧ t.clk.active = p ∧
      t.clk.mssLocked = true ∧ (t.pll p).on = true ∧ (t.pll p).locked = true ∧
      t.hiu.noFetch = (s.pwr.quiesce || s.boot.request.isSome) ∧ (∀ i, (tblGet {} t.rng.src i).run = (0, 0)) ∧
      Recorded ⟨1145, 0x0501, 1, 0, w32 bits.toNat, w32 (s.now - t0)⟩ s t ∧ Frame (reports [.clk, .dsp, .eng, .rng]) s t := by
  have hframe := s.drowseWoken_frame p
  have hpll := s.drowseWoken_pll p
  have hruns := fun i => s.drowseWoken_runs p i
  have hclk : (s.drowseWoken p).clk.active = p ∧ (s.drowseWoken p).clk.mssLocked = true := ⟨rfl, rfl⟩
  have hx := drowseWakeDone_runs p bits t0 s hw hq
  generalize s.drowseWoken p = u at hframe hpll hruns hclk hx
  have hgo := u.goOn_frame
  have hfetch : u.goOn.hiu.noFetch = (s.pwr.quiesce || s.boot.request.isSome) := by
    rw [← hframe.same .pwr (by decide), ← hframe.same .boot (by decide)]
    rfl
  have hnow : u.goOn.now = s.now := (hframe.same .time (by decide)).1
  have hevr : u.goOn.evr = s.evr := hframe.same .evr (by decide)
  have hrec := u.goOn.wakeEnds_recorded 1 bits t0
  rw [hnow] at hrec
  obtain ⟨hstate, hwaking, -⟩ := u.goOn.wakeEnds_pwr 1 bits t0
  have hall := u.goOn.wakeEnds_allocated 1 bits t0
  have hend := u.goOn.wakeEnds_frame 1 bits t0
  generalize u.goOn.wakeEnds 1 bits t0 = t at hx hrec hstate hwaking hall hend
  have hrng : t.rng = u.rng := Eq.trans (hend.same .rng (by decide)) (hgo.same .rng (by decide))
  refine ⟨t, hx, hstate, hwaking, ?_, ?_, ?_, ?_, ?_, fun i => ?_, hrec.of_evr_eq hevr, ?_⟩
  · rw [hall.clk]
    exact hclk.1
  · rw [hall.clk]
    exact hclk.2
  · rw [hall.pll]
    exact hpll.1
  · rw [hall.pll]
    exact hpll.2
  · rw [hall.hiu]
    exact hfetch
  · rw [hrng]
    exact hruns i
  · exact ((hframe.mono (by decide)).trans (hgo.mono (by decide))).trans (hend.mono (by decide))

theorem drowseWakeDone_ignored (p : PllName) (s : State)
    (h : (∀ bits t0, s.pwr.waking ≠ some (1, bits, t0)) ∨ (s.pll p).quarantined = true) : exec (.drowseWakeDone p) s = .next s := by
  simp only [exec, execDrowseWakeDone]
  split
  · rename_i bits t0 hw
    rw [if_pos (h.resolve_left (fun hn => hn bits t0 hw))]
  · rfl

/-! ## The rule table is enabled (R470, R477) -/

/-- From `s` to `t` the gate changes, but no rule of it, and reports are made. -/
structure Gate (s t : State) : Prop where
  frame : Frame (reports [.tg]) s t
  hiu : t.hiu = { s.hiu with msix := t.hiu.msix }
  pwr : t.pwr = { s.pwr with halted := t.pwr.halted, evt := t.pwr.evt }
  rules : t.tg.rules = s.tg.rules

namespace Gate

theorem trans {s t u : State} (h : Gate s t) (k : Gate t u) : Gate s u where
  frame := h.frame.trans k.frame
  hiu := by rw [k.hiu, h.hiu]
  pwr := by rw [k.pwr, h.pwr]
  rules := k.rules.trans h.rules

theorem of_reported {s t : State} (h : Reported s t) : Gate s t :=
  ⟨h.frame.mono (by decide), h.hiu, h.pwr, by rw [h.frame.same .tg (by decide)]⟩

theorem of_tg {s : State} {x : Tg} (h : x.rules = s.tg.rules) : Gate s { s with tg := x } := ⟨by simp [Frame, reports], rfl, rfl, h⟩

theorem foldl {α : Type} (f : State → α → State) (h : ∀ s a, Gate s (f s a)) (l : List α) (s : State) : Gate s (l.foldl f s) := by
  induction l generalizing s with
  | nil => exact of_tg rfl
  | cons a l ih => exact (h s a).trans (ih (f s a))

end Gate

/-- Setting EN reports the inert rules and the end of a hold (R470, R472). -/
theorem State.tgSetEn_gate (s : State) : Gate s s.tgSetEn ∧ s.tgSetEn.tg.en = true := by
  unfold State.tgSetEn
  extract_lets bad u _ v hold ns written _ w
  have hu : Gate s u := .foldl _ (fun t i => .of_reported (State.eventSig_reported ..)) bad s
  have hv : Gate u v := by
    unfold v
    clear_value u bad
    cases bad with
    | nil => exact .of_tg rfl
    | cons i l => exact .of_tg rfl
  have hw : Gate s w := (hu.trans hv).trans (.of_tg rfl)
  split
  · have hend : Reported w (w.eventSig 1140 0x0703 ns written.length (written.foldl min (written.headD 0)) (written.foldl max 0)) :=
      State.eventSig_reported ..
    exact ⟨hw.trans (.of_reported hend), by rw [hend.frame.same .tg (by decide)]⟩
  · exact ⟨hw, rfl⟩

/-- With no access held EN is set and nothing more is decided (R477). -/
theorem State.tgEnableNow_gate (s : State) (h : s.tg.held = []) : Gate s s.tgEnableNow ∧ s.tgEnableNow.tg.en = true := by
  have hx : s.tgEnableNow = { s.tgSetEn with tg.held := [] } := by
    rw [State.tgEnableNow, h]
    rfl
  obtain ⟨hg, hen⟩ := s.tgSetEn_gate
  rw [hx]
  exact ⟨hg.trans (.of_tg rfl), hen⟩

/-! ## The merged configuration (R477, R607, R609, R610) -/

/-- The rule table of the configuration is told by the flash, the bank that runs and the overlay. -/
theorem State.cfgRules_of {s t : State} (hc : t.cfg = s.cfg) (hb : t.boot = s.boot) (ho : t.hiu.overlay = s.hiu.overlay) :
    t.cfgRules = s.cfgRules := by
  have hsrc : t.bankSrc = s.bankSrc := by
    funext b off n
    simp only [State.bankSrc, State.flashRead, hc]
  simp only [State.cfgRules, State.runSrc, hsrc, hb, ho]

theorem State.dpAllowed_of {s t : State} (hb : t.boot = s.boot) (hi : t.hiu.idState = s.hiu.idState)
    (ho : t.hiu.overlay = s.hiu.overlay) : t.dpAllowed = s.dpAllowed := by
  simp only [State.dpAllowed, State.dpEnabled, hb, hi, ho]

theorem State.loadFw_frame (s : State) : Frame [.eng] s s.loadFw :=
  .ite (.foldl _ (fun _ _ => State.setEng_frame ..) _ s) (.refl _ s)

/-- The table is loaded and in force; nothing else of the gate's rules is left (R477). -/
theorem State.loadRules_spec (s : State) (h : s.tg.held = []) :
    s.loadRules.tg.rules = s.cfgRules ∧ s.loadRules.tg.en = true ∧ s.loadRules.hiu = { s.hiu with msix := s.loadRules.hiu.msix } ∧
      s.loadRules.pwr.saved = s.pwr.saved ∧ Frame (reports [.tg]) s s.loadRules := by
  obtain ⟨hg, hen⟩ := State.tgEnableNow_gate { s with tg.rules := s.cfgRules } h
  exact ⟨hg.rules, hen, hg.hiu, by rw [State.loadRules, hg.pwr], Frame.trans (by simp [Frame, reports]) hg.frame⟩

/-! ## The wake from DORMANT (R641, R642) -/

/-- The clocks run again, with every group and bay powered. -/
def State.clocksRestarted (s : State) : State :=
  { s with
    clk.pllA := s.clk.pllA.start
    clk.pllB := s.clk.pllB.start
    clk.active := if s.clk.pllA.quarantined then .b else if s.clk.pllB.quarantined then .a else s.clk.active
    clk.mssLocked := true
    clk.groups := []
    clk.bays := [] }

/-- The saved state of the HIU and of the control registers is restored (R642). -/
def State.restored (v : Saved) (s : State) : State :=
  { s with
    hiu := { s.hiu with qp := v.hiu.qp, msix := v.hiu.msix, tn := v.hiu.tn }
    dsp.ctrl := v.dspCtrl
    keys.ctrl := v.kcCtrl.setWidth 2
    eng.scePark := v.scePark.setWidth 6
    eng.pksPark := v.pksPark.setWidth 6
    pay.inc := v.incarnations }

/-- The data plane accepts work and the links are up again (R641). -/
def State.linked (s : State) : State :=
  { s with
    hiu.dpUp := s.dpAllowed
    hiu.l12 := false
    trs.linkA := s.boot.enItem.getLsbD 1
    trs.linkB := s.boot.enItem.getLsbD 1
    trs.cstate := if s.hasParent then 2 else s.trs.cstate }

/-- The configuration is loaded, after the clocks run (R641). -/
def State.reloaded (s : State) : State := s.clocksRestarted.goOn.loadRules.loadFw

theorem State.reloaded_spec (s : State) (h : s.tg.held = []) :
    s.reloaded.tg.rules = s.cfgRules ∧ s.reloaded.tg.en = true ∧ s.reloaded.clk.mssLocked = true ∧
      s.reloaded.hiu.idState = s.hiu.idState ∧ s.reloaded.hiu.overlay = s.hiu.overlay ∧
      s.reloaded.pwr.saved = s.pwr.saved ∧ Frame (reports [.clk, .dsp, .eng, .tg]) s s.reloaded := by
  have hgo : Frame [.clk, .hiu, .dsp] s s.clocksRestarted.goOn := by simp [Frame, State.goOn, State.clocksRestarted]
  have hclk : s.clocksRestarted.goOn.clk.mssLocked = true := rfl
  have hhiu : s.clocksRestarted.goOn.hiu = { s.hiu with noFetch := s.clocksRestarted.goOn.hiu.noFetch } := rfl
  obtain ⟨hrules, hen, hmsix, hsaved, hload⟩ := s.clocksRestarted.goOn.loadRules_spec h
  have hcfg : s.clocksRestarted.goOn.cfgRules = s.cfgRules :=
    State.cfgRules_of (hgo.same .cfg (by decide)) (hgo.same .boot (by decide)) rfl
  have hfw := s.clocksRestarted.goOn.loadRules.loadFw_frame
  unfold State.reloaded
  generalize s.clocksRestarted.goOn = u at hgo hclk hhiu hrules hen hmsix hsaved hload hcfg hfw
  generalize u.loadRules = v at hrules hen hmsix hsaved hload hfw
  generalize v.loadFw = w at hfw
  rw [hfw.same .tg (by decide), hfw.same .clk (by decide), hfw.same .hiu (by decide), hfw.same .pwr (by decide)]
  refine ⟨hrules.trans hcfg, hen, ?_, ?_, ?_, ?_, ?_⟩
  · rw [hload.same .clk (by decide)]
    exact hclk
  · rw [hmsix, hhiu]
  · rw [hmsix, hhiu]
  · rw [hsaved, hgo.same .pwr (by decide)]
  · exact ((hgo.mono (by decide)).trans (hload.mono (by decide))).trans (hfw.mono (by decide))

theorem dormantWakeDone_runs (bits : Word) (t0 : Nat) (v : Saved) (s : State) (hw : s.pwr.waking = some (2, bits, t0))
    (hs : s.reloaded.pwr.saved = some v) :
    exec .dormantWakeDone s = .next ((s.reloaded.restored v).linked.wakeEnds 2 bits t0) := by
  have hr : s.clocksRestarted.goOn.loadRules.loadFw.pwr.saved = some v := hs
  unfold State.clocksRestarted at hr
  simp only [exec, execDormantWakeDone, hw]
  rw [hr]
  unfold State.reloaded State.restored State.linked State.clocksRestarted State.hasParent
  rfl

theorem dormantWakeDone_ends (bits : Word) (t0 : Nat) (v : Saved) (s : State) (hw : s.pwr.waking = some (2, bits, t0))
    (hh : s.tg.held = []) (hs : s.pwr.saved = some v) :
    ∃ t : State, exec .dormantWakeDone s = .next t ∧ t.pwr.state = 0 ∧ t.pwr.waking = none ∧ t.pwr.saved = none ∧
      t.clk.mssLocked = true ∧ t.tg.rules = s.cfgRules ∧ t.tg.en = true ∧ t.hiu.qp = v.hiu.qp ∧ t.hiu.tn = v.hiu.tn ∧
      t.hiu.dpUp = s.dpAllowed ∧ t.hiu.l12 = false ∧ t.dsp.ctrl = v.dspCtrl ∧ t.pay.inc = v.incarnations ∧
      t.trs.linkA = s.boot.enItem.getLsbD 1 ∧ t.trs.linkB = s.boot.enItem.getLsbD 1 ∧
      (s.enrolled = true → s.role ≠ 1 → t.trs.cstate = 2) ∧
      Frame (reports [.clk, .dsp, .keys, .pay, .eng, .trs, .tg]) s t := by
  obtain ⟨hrules, hen, hmss, hid, hoverlay, hsaved, hload⟩ := s.reloaded_spec hh
  have hx := dormantWakeDone_runs bits t0 v s hw (hsaved.trans hs)
  generalize s.reloaded = u at hrules hen hmss hid hoverlay hload hx
  have hboot : u.boot = s.boot := hload.same .boot (by decide)
  have hdp : (u.restored v).dpAllowed = s.dpAllowed := State.dpAllowed_of hboot hid hoverlay
  have hparent : (u.restored v).hasParent = s.hasParent := State.hasParent_of_anc (hload.same .anc (by decide))
  have hset : Frame [.hiu, .dsp, .keys, .eng, .pay, .trs] u (u.restored v).linked := by simp [Frame, State.restored, State.linked]
  obtain ⟨hstate, hwaking, hnone⟩ := (u.restored v).linked.wakeEnds_pwr 2 bits t0
  have hall := (u.restored v).linked.wakeEnds_allocated 2 bits t0
  have hend := (u.restored v).linked.wakeEnds_frame 2 bits t0
  generalize (u.restored v).linked.wakeEnds 2 bits t0 = t at hx hstate hwaking hnone hall hend
  have htrs : t.trs = (u.restored v).linked.trs := hend.same .trs (by decide)
  refine ⟨t, hx, hstate, hwaking, hnone, ?_⟩
  rw [hall.clk, hall.hiu, hall.dsp, hend.same .tg (by decide), hend.same .pay (by decide), htrs]
  refine ⟨hmss, hrules, hen, rfl, rfl, hdp, rfl, rfl, rfl, ?_, ?_, fun he hr => if_pos ?_, ?_⟩
  · exact congrArg (fun b : Boot => b.enItem.getLsbD 1) hboot
  · exact congrArg (fun b : Boot => b.enItem.getLsbD 1) hboot
  · rw [hparent]
    simp [State.hasParent, he, hr]
  · exact ((hload.mono (by decide)).trans (hset.mono (by decide))).trans (hend.mono (by decide))

theorem dormantWakeDone_ignored (s : State) (h : ∀ bits t0, s.pwr.waking ≠ some (2, bits, t0)) :
    exec .dormantWakeDone s = .next s := by
  simp only [exec, execDormantWakeDone]
  split
  · exact absurd ‹_› (h _ _)
  · rfl

/-- Settles O58: each event of a power state by the lemma that says what it does. -/
theorem powerStates : Obligations.PowerStates := by
  unfold Obligations.PowerStates
  exact ⟨wait_enters, wait_ignored, drowseIdleExpiry_enters, entryStepEnd_none, entryStepEnd_steps, entryStepEnd_abandons,
    entryStepEnd_enters, wakeEvent_latched, wakeEvent_masked, wakeEvent_unmaskable, wakeTimer_wakes, wakeTimer_past,
    drowseWakeDone_ends, drowseWakeDone_ignored, dormantWakeDone_ends, dormantWakeDone_ignored, padRelease_releases⟩

end Sys2Proof.Machine
end

section
/-! PROOFS. The state at reset, the doorbells and enables of queue pairs, tenant records, messages and configuration requests
(02_host_link_and_tenants.md R53 to R79, 17_power_and_energy.md R659 to R662, 18_startup_and_reset.md R666). -/

namespace Sys2Proof.Machine

/-! ## The state at reset -/

/-- An anchor store as at manufacture holds the shipped policy alone (R516, R619). -/
theorem reset_ancGet (w : Nat) : State.reset.ancGet w = if w = 0x0B then 0x01AA003F else 0 := by
  simp only [State.ancGet, State.reset, tblGet, eq_comm (a := 0x0B)]
  rfl

/-- The Keystone is empty at reset. -/
theorem reset_keystoneOk : KeystoneOk State.reset.ks := ⟨fun _ => ⟨rfl, rfl⟩, fun h => nomatch h⟩

/-- Every queue pair is disabled at reset. -/
theorem reset_qpOf_en (f q : Nat) : (State.reset.qpOf f q).en = false := by
  rw [show State.reset.qpOf f q = {} from rfl]
  decide

/-- Settles O2. -/
theorem resetValues : Obligations.ResetValues := by
  unfold Obligations.ResetValues
  exact ⟨rfl, rfl, rfl, rfl, rfl, fun f q => ⟨rfl, rfl, reset_qpOf_en f q⟩, fun _ => rfl, fun _ => ⟨rfl, rfl⟩, rfl, rfl, rfl, rfl,
    reset_ancGet, rfl, rfl, rfl, rfl, rfl, rfl, rfl, rfl, reset_keystoneOk, reset_mem_wf, reset_flash_wf⟩

/-! ## Errors of a queue pair (R57, R75) -/

/-- A message that is due changes MSI-X entries or is sent, and does nothing else (R71). -/
theorem State.msix_eq (fn vec : Nat) (s : State) :
    s.msix fn vec = { s with hiu.msix := (s.msix fn vec).hiu.msix, out := (s.msix fn vec).out } := by
  unfold State.msix
  extract_lets k e
  split <;> rfl

/-- A tenant event changes the record's HIU_TN_EVT, and may make a message of the PF due (R75). -/
theorem State.tnEvent_eq (t : Nat) (bits : BitVec 3) (s : State) :
    s.tnEvent t bits = { s with
      hiu.tn := tblMod {} t (fun r => { r with evt := (s.tnOf t).evt ||| bits }) s.hiu.tn
      hiu.msix := (s.tnEvent t bits).hiu.msix
      out := (s.tnEvent t bits).out } := by
  unfold State.tnEvent
  extract_lets old u
  split
  · rfl
  · rw [u.msix_eq]
    rfl

/-- The bits of a tenant event are set, in any table of records: a record with an event is listed. -/
theorem State.tnEvent_tnOf (t : Nat) (bits : BitVec 3) (s : State) (hb : bits ≠ 0) :
    (s.tnEvent t bits).tnOf t = { s.tnOf t with evt := (s.tnOf t).evt ||| bits } := by
  rw [State.tnEvent_eq]
  refine tblGet_tblSet_listed _ _ _ _ fun h => hb ?_
  exact (BitVec.or_eq_zero_iff.1 (congrArg Tn.evt h)).2

/-- A tenant event leaves the queue pairs alone. -/
theorem State.tnEvent_qpOf (t : Nat) (bits : BitVec 3) (f q : Nat) (s : State) : (s.tnEvent t bits).qpOf f q = s.qpOf f q := by
  rw [State.tnEvent_eq]
  rfl

theorem State.modQp_qpOf_listed (f q : Nat) (g : QP → QP) (s : State) (h : g (s.qpOf f q) ≠ {}) :
    (s.modQp f q g).qpOf f q = g (s.qpOf f q) := tblGet_tblSet_listed _ _ _ _ h

/-- An error of a queue pair sets its bit, stops the queue pair where the rule says so, and raises QP_ERR; no other register of
the queue pair or of the record changes. -/
theorem State.qpError_raises (f q : Nat) (bit : BitVec 3) (stop : Bool) (s : State) (hb : bit ≠ 0) :
    (s.qpError f q bit stop).qpOf f q =
        { s.qpOf f q with err := (s.qpOf f q).err ||| bit, stopped := (s.qpOf f q).stopped || stop } ∧
      (s.qpError f q bit stop).tnOf f = { s.tnOf f with evt := (s.tnOf f).evt ||| 2 } ∧
      s.qpError f q bit stop = { s with
        hiu.qp := (s.qpError f q bit stop).hiu.qp, hiu.tn := (s.qpError f q bit stop).hiu.tn
        hiu.msix := (s.qpError f q bit stop).hiu.msix, out := (s.qpError f q bit stop).out } := by
  unfold State.qpError
  refine ⟨?_, State.tnEvent_tnOf f 2 _ (by decide), ?_⟩
  · rw [State.tnEvent_qpOf]
    refine State.modQp_qpOf_listed _ _ _ _ fun h => hb ?_
    exact (BitVec.or_eq_zero_iff.1 (congrArg QP.err h)).2
  · rw [State.tnEvent_eq]
    rfl

/-! ## Doorbells (R62) -/

section
variable (f : Fn) (q : Fin 64) (v : Word) (s : State) (hb : s.barOk f = true) (hq : q.val < qpCount f)
include hb hq

theorem sqDoorbell_running (he : (s.qpOf f q).en = true) (hs : (s.qpOf f q).stopped = false) :
    exec (.sqDoorbell f q v) s = if (v - (s.qpOf f q).sqHead).toNat ≤ 2 ^ (s.qpOf f q).sqLog ∧
        (v - (s.qpOf f q).sqTail).toNat ≤ 2 ^ (s.qpOf f q).sqLog then .next (s.setQp f q { s.qpOf f q with sqTail := v })
      else .next (s.qpError f q 2 true) := by
  simp [exec, execSqDoorbell, hb, hq, he, hs]

theorem cqHeadWrite_running (he : (s.qpOf f q).en = true) (hs : (s.qpOf f q).stopped = false) :
    exec (.cqHeadWrite f q v) s = if ((s.qpOf f q).cqTail - v).toNat ≤ 2 ^ (s.qpOf f q).cqLog ∧
        (v - (s.qpOf f q).cqHead).toNat ≤ 2 ^ (s.qpOf f q).cqLog then .next (s.setQp f q { s.qpOf f q with cqHead := v })
      else .next (s.qpError f q 2 true) := by
  simp [exec, execCqHeadWrite, hb, hq, he, hs]

/-! ## Enables (R58 to R60, R63) -/

theorem qpEnable_disabled (he : (s.qpOf f q).en = false) (c : Word) :
    exec (.qpEnable f q c) s = if s.enableOk f { s.qpOf f q with cfg := c &&& 0x7FFFF } then
        .next (s.setQp f q { s.qpOf f q with
          cfg := c &&& 0x7FFFF ||| 0x80000000, sqTail := 0, sqHead := 0, cqHead := 0, cqTail := 0, stopped := false
          uncovered := 0 })
      else .next ((s.setQp f q { s.qpOf f q with cfg := c &&& 0x7FFFF }).qpError f q 1 false) := by
  simp [exec, execQpEnable, hb, hq, he]

theorem qpDisable_reached :
    exec (.qpDisable f q) s = .next (s.setQp f q { s.qpOf f q with cfg := (s.qpOf f q).cfg &&& 0x7FFFF }) := by
  simp [exec, execQpDisable, hb, hq, State.modQp]

end

/-- A refused doorbell: DB_ERR and STOPPED are set and QP_ERR is raised (R62). -/
theorem State.qpError_doorbell (f q : Nat) (s : State) :
    ∃ t : State, (.next (s.qpError f q 2 true) : Host.Outcome State Fault Refusal) = .next t ∧
      t.qpOf f q = { s.qpOf f q with err := (s.qpOf f q).err ||| 2, stopped := true } ∧
      t.tnOf f = { s.tnOf f with evt := (s.tnOf f).evt ||| 2 } ∧
      t = { s with hiu.qp := t.hiu.qp, hiu.tn := t.hiu.tn, hiu.msix := t.hiu.msix, out := t.out } := by
  obtain ⟨hq, ht, hs⟩ := s.qpError_raises f q 2 true (by decide)
  rw [Bool.or_true] at hq
  exact ⟨_, rfl, hq, ht, hs⟩

/-- Settles O8. -/
theorem doorbellsAcceptedOrRefused : Obligations.DoorbellsAcceptedOrRefused := by
  unfold Obligations.DoorbellsAcceptedOrRefused
  intro f q v s hb hq he hs
  rw [sqDoorbell_running f q v s hb hq he hs, cqHeadWrite_running f q v s hb hq he hs]
  constructor
  · split
    · rfl
    · exact s.qpError_doorbell f q
  · split
    · rfl
    · exact s.qpError_doorbell f q

/-- An enable that fails a condition of R59 leaves EN at 0, sets CFG_ERR and raises QP_ERR (R60). -/
theorem qpEnable_fails (f : Fn) (q : Fin 64) (c : Word) (s : State) (hb : s.barOk f = true) (hq : q.val < qpCount f)
    (he : (s.qpOf f q).en = false) (hf : s.enableOk f { s.qpOf f q with cfg := c &&& 0x7FFFF } = false) (hw : tblWf {} s.hiu.qp) :
    ∃ t : State, exec (.qpEnable f q c) s = .next t ∧ (t.qpOf f q).en = false ∧ (t.qpOf f q).err = (s.qpOf f q).err ||| 1 ∧
      (t.tnOf f).evt = (s.tnOf f).evt ||| 2 ∧
      t = { s with hiu.qp := t.hiu.qp, hiu.tn := t.hiu.tn, hiu.msix := t.hiu.msix, out := t.out } := by
  rw [qpEnable_disabled f q s hb hq he c, hf]
  obtain ⟨hqp, htn, hs⟩ := (s.setQp f q { s.qpOf f q with cfg := c &&& 0x7FFFF }).qpError_raises f q 1 false (by decide)
  have hset : (s.setQp f q { s.qpOf f q with cfg := c &&& 0x7FFFF }).qpOf f q = { s.qpOf f q with cfg := c &&& 0x7FFFF } :=
    tblGet_tblSet_same _ _ _ _ hw
  rw [hset] at hqp
  refine ⟨_, rfl, ?_, congrArg QP.err hqp, congrArg Tn.evt htn, hs⟩
  rw [hqp]
  simp [QP.en]

/-- Settles O9. -/
theorem enableZeroesCounters : Obligations.EnableZeroesCounters := by
  unfold Obligations.EnableZeroesCounters
  refine ⟨fun f q c s hb hq he ho => ?_, qpEnable_fails, qpDisable_reached⟩
  rw [qpEnable_disabled f q s hb hq he c, if_pos ho]

/-! ## Tenant records (R74, R76, R77) -/

/-- A field takes a value that passes its check, and otherwise keeps its own with CFG_REFUSED set. -/
theorem State.modTn_checked (f : Nat) (ok : Bool) (c : Prop) [Decidable c] (hc : ok = true ↔ c) (g : Tn → Tn) (s : State) :
    (if ok then .next (s.modTn f g) else .next (s.tnRefuse f) : Host.Outcome State Fault Refusal) =
      .next (s.modTn f (fun r => if c then g r else { r with err := true })) := by
  by_cases h : c
  · simp only [hc.2 h, if_true, if_pos h]
  · simp only [mt hc.1 h, if_neg h]
    rfl

/-- Changing a record keeps the table of records canonical. -/
theorem State.modTn_wf (t : Nat) (f : Tn → Tn) (s : State) (h : tblWf {} s.hiu.tn) : tblWf {} (s.modTn t f).hiu.tn :=
  tblMod_wf {} t f s.hiu.tn h

/-- A refused record keeps everything but CFG_REFUSED. -/
theorem State.tnRefuse_tnOf (f j : Nat) (s : State) (h : tblWf {} s.hiu.tn) :
    (s.tnRefuse f).tnOf j = if f = j then { s.tnOf f with err := true } else s.tnOf j := State.tnOf_modTn f j _ s h

/-- PRIO_MAX is taken whatever WEIGHT is; a WEIGHT of 0 keeps the field's own (R74, R76). -/
theorem tenantRecordWrite_sched (f : Fn) (v : DWord) (s : State) (hb : s.pfBar = true) (hw : tblWf {} s.hiu.tn) :
    ∃ t : State, exec (.tenantRecordWrite f .sched v) s = .next t ∧
      t.tnOf f = (if v.toNat % 256 = 0 then
        { s.tnOf f with sched := ((s.tnOf f).sched &&& 0xFF) ||| (v.setWidth 32 &&& 0x300), err := true }
        else { s.tnOf f with sched := v.setWidth 32 &&& 0x3FF }) ∧
      (∀ g, g ≠ f.val → t.tnOf g = s.tnOf g) ∧ t = { s with hiu.tn := t.hiu.tn } := by
  simp only [exec, execTenantRecordWrite, hb, Bool.not_true, Bool.false_eq_true, if_false]
  have hr : tblWf {} (s.tnRefuse f).hiu.tn := s.modTn_wf f _ hw
  split
  · refine ⟨_, rfl, ?_, fun g hg => ?_, rfl⟩
    · rw [State.tnOf_modTn _ _ _ _ hr, if_pos rfl, s.tnRefuse_tnOf f f hw, if_pos rfl, BitVec.and_assoc]
      rfl
    · rw [State.tnOf_modTn _ _ _ _ hr, if_neg (Ne.symm hg), s.tnRefuse_tnOf f g hw, if_neg (Ne.symm hg)]
  · refine ⟨_, rfl, ?_, fun g hg => ?_, rfl⟩
    · rw [State.tnOf_modTn _ _ _ _ hw, if_pos rfl]
    · rw [State.tnOf_modTn _ _ _ _ hw, if_neg (Ne.symm hg)]

/-- Settles O13. -/
theorem tenantRecordWrites : Obligations.TenantRecordWrites := by
  unfold Obligations.TenantRecordWrites
  intro f v s hb
  refine ⟨?_, ?_, ?_, ?_, ?_, tenantRecordWrite_sched f v s hb⟩
  all_goals
    simp only [exec, execTenantRecordWrite, hb, Bool.not_true, Bool.false_eq_true, if_false]
    exact State.modTn_checked _ _ _ (by simp [and_assoc]) _ s

/-! ## Messages and configuration requests (R71, R79, R87, R666, R712) -/

/-- A moderation timer covers the completions it finds and makes the message due, unless INT_OFF is set (R71). -/
theorem imodTimerExpiry_covers (f : Fn) (q : Fin 64) (s : State) (h : (s.qpOf f q).uncovered ≠ 0) :
    exec (.imodTimerExpiry f q) s = .next (
      let u := s.setQp f q { s.qpOf f q with uncovered := 0 }
      if (s.qpOf f q).imod.getLsbD 31 then u else u.msix f (s.qpOf f q).vec) := by
  simp only [exec, execImodTimerExpiry, if_neg h]

/-- An unmask clears the mask and the pending bit and sends the message that was pending (R71). -/
theorem msixUnmask_sends (f : Fn) (v : Fin 2048) (s : State) (hb : s.barOk f = true) (hv : f.val = 0 ∨ v.val < 16) :
    exec (.msixUnmask f v) s = .next (
      let e := tblGet ({} : Msix) s.hiu.msix (2048 * f.val + v.val)
      { s with
        hiu.msix := tblSet {} (2048 * f.val + v.val) { e with masked := false, pending := false } s.hiu.msix
        out := s.out ++ if e.pending && e.masked then [.msix f v e.addr e.data] else [] }) := by
  have hr : ¬ (1 ≤ f.val ∧ 16 ≤ v.val) := by omega
  simp only [exec, execMsixUnmask, hb, ← Bool.decide_and, hr, decide_false, Bool.not_true, Bool.or_false, Bool.false_eq_true,
    if_false]
  split
  · rfl
  · rw [List.append_nil]

theorem tenantSuspend_writes (f : Fn) (on : Bool) (s : State) (h : s.pfBar = true) :
    exec (.tenantSuspend f on) s = .next (s.modTn f (fun r => { r with suspend := on })) := by
  simp [exec, execTenantSuspend, h]

/-- A configuration request to the PF gets retry status until the PF is ready. -/
theorem configRequest_pf_retry (d3 : Option Bool) (s : State) (hl : s.hiu.linkUp = true)
    (h : s.hiu.pfFlr = true ∨ s.cfgNormal = false) :
    exec (.configRequest 0 d3) s = .next { s with out := s.out ++ [.config 0 .retry] } := by
  have hr : (s.hiu.pfFlr || !s.cfgNormal) = true := by simpa using h
  simp only [exec, execConfigRequest, hl, hr]
  rfl

theorem configRequest_pf_normal (d3 : Option Bool) (s : State) (hl : s.hiu.linkUp = true) (hp : s.hiu.pfFlr = false)
    (hn : s.cfgNormal = true) :
    exec (.configRequest 0 d3) s = .next { s with
      hiu.cfgReset := false, hiu.d3hot := d3.getD s.hiu.d3hot, out := s.out ++ [.config 0 .normal] } := by
  simp only [exec, execConfigRequest, hl, hp, hn]
  rfl

/-- A configuration request to a VF is unsupported where the VF does not exist, and gets retry status until it is ready. -/
theorem configRequest_vf (f : Fn) (d3 : Option Bool) (s : State) (hf : f ≠ 0) (hl : s.hiu.linkUp = true) :
    exec (.configRequest f d3) s = .next { s with
      out := s.out ++ [.config f (if !s.vfExists f then .unsupported else if !s.vfReady f then .retry else .normal)] } := by
  have h0 : f.val ≠ 0 := fun h => hf (Fin.ext h)
  simp only [exec, execConfigRequest, hl, if_neg h0, Bool.not_true, Bool.false_eq_true, if_false]
  split
  · rfl
  · split <;> rfl

/-- Settles O12. -/
theorem messagesAndConfigRequests : Obligations.MessagesAndConfigRequests := by
  unfold Obligations.MessagesAndConfigRequests
  refine ⟨fun f q s h => ?_, msixUnmask_sends, tenantSuspend_writes, configRequest_pf_retry,
    configRequest_pf_normal, configRequest_vf⟩
  rw [imodTimerExpiry_covers f q s h]
  rfl

end Sys2Proof.Machine
end

section
/-! PROOFS. Function-level resets of virtual functions (02_host_link_and_tenants.md, R47, R82 to R90, R712; 04_dispatch_and_release.md
R166). -/

namespace Sys2Proof.Machine

/-! ## Frames of the steps of a VF FLR (R87) -/

theorem State.present_frame (idx fn q : Nat) (d : Bytes) (s : State) : Frame [.dsp, .deck] s (s.present idx fn q d) := by simp [Frame]

/-- Presenting what has returned changes of the host interface the grants alone (R96). -/
theorem State.presentReady_hiu (gs : List Grant) (s : State) :
    (s.presentReady gs).hiu = { s.hiu with grants := (s.presentReady gs).hiu.grants } := by
  induction gs generalizing s with
  | nil => rfl
  | cons g gs ih =>
    unfold State.presentReady
    split
    · rfl
    · rw [ih]
      simp

theorem State.presentReady_frame (gs : List Grant) (s : State) : Frame [.hiu, .dsp, .deck] s (s.presentReady gs) := by
  induction gs generalizing s with
  | nil => simp [State.presentReady, Frame]
  | cons g gs ih =>
    unfold State.presentReady
    split
    · simp [Frame]
    · exact Frame.trans (.foldl _ (fun t x => (t.present_frame ..).mono (by decide)) _ s) (ih _)

theorem State.dropGrant_frame (g : Grant) (s : State) : Frame [.hiu, .deck] s (s.dropGrant g) := by simp [Frame]

/-- Dropped grants leave the rest of the host interface alone. -/
theorem State.dropGrants_hiu (gs : List Grant) (s : State) :
    (gs.foldl (fun s g => s.dropGrant g) s).hiu =
      { s.hiu with grants := (gs.foldl (fun s g => s.dropGrant g) s).hiu.grants } := by
  induction gs generalizing s with
  | nil => rfl
  | cons g gs ih =>
    rw [List.foldl_cons, ih]
    rfl

theorem State.dropFetches_hiu (f : Nat) (s : State) : (s.dropFetches f).hiu = { s.hiu with grants := (s.dropFetches f).hiu.grants } := by
  unfold State.dropFetches
  extract_lets u
  rw [u.presentReady_hiu, s.dropGrants_hiu]

theorem State.dropFetches_frame (f : Nat) (s : State) : Frame [.hiu, .dsp, .deck] s (s.dropFetches f) :=
  Frame.trans (.foldl _ (fun t g => (t.dropGrant_frame g).mono (by decide)) _ s) (State.presentReady_frame ..)

theorem State.withdrawOf_frame (e : Entry) (s : State) : Frame proposalParts s (s.withdrawOf e) :=
  .ite (.refl _ s) (.ite (State.endReservation_frame ..) (State.sendUp_frame ..))

theorem State.withdrawAll_frame (f : Nat) (s : State) : Frame proposalParts s (s.withdrawAll f) :=
  .foldl (fun (t : State) (x : Nat × Entry) => t.withdrawOf x.2) (fun t x => t.withdrawOf_frame x.2) _ s

theorem State.moveGen_frame (f : Nat) (s : State) : Frame [.hiu, .dsp, .deck, .keys] s (s.moveGen f) := by simp [Frame]

theorem State.moveGen_hiu (f : Nat) (s : State) : (s.moveGen f).hiu = { s.hiu with tn := (s.moveGen f).hiu.tn } := by
  unfold State.moveGen
  extract_lets mine g
  rw [foldl_hiu _ _ _ (by simp)]
  rfl

theorem State.nextGen_frame (f : Nat) (s : State) : Frame [.hiu, .dsp, .deck, .keys, .trs, .out] s (s.nextGen f) :=
  ((s.withdrawAll_frame f).mono (by decide)).trans ((State.moveGen_frame ..).mono (by decide))

theorem State.nextGen_hiu (f : Nat) (s : State) : (s.nextGen f).hiu = { s.hiu with tn := (s.nextGen f).hiu.tn } := by
  unfold State.nextGen
  rw [State.moveGen_hiu, (s.withdrawAll_frame f).same .hiu (by decide)]

theorem State.resetFn_frame (f : Nat) (s : State) : Frame [.hiu, .mss] s (s.resetFn f) := by simp [Frame]

/-- What a VF FLR may change. -/
abbrev vfResetParts : List Part := [.hiu, .dsp, .deck, .keys, .trs, .mss, .pwr, .irq, .out]

theorem State.vfReset_frame (f : Nat) (s : State) : Frame vfResetParts s (s.vfReset f) := by
  have start : Frame [.hiu] s ((s.setReady f false).setFence f true) := by simp [Frame, State.setReady, State.setFence]
  have fetches := ((s.setReady f false).setFence f true).dropFetches_frame f
  have gen := (((s.setReady f false).setFence f true).dropFetches f).nextGen_frame f
  exact ((((start.mono (by decide)).trans (fetches.mono (by decide))).trans (gen.mono (by decide))).trans
    ((State.resetFn_frame ..).mono (by decide))).trans ((State.signal_frame ..).mono (by decide))

/-- Of the host interface a VF FLR changes READY, the fence, the function's queue pairs and MSI-X entries, its tenant record and the
grants. -/
theorem State.vfReset_hiu (f : Nat) (s : State) :
    (s.vfReset f).hiu = { s.hiu with
      ready := tblSet false f false s.hiu.ready
      fence := tblSet false f true s.hiu.fence
      qp := tblDrop (fun k => k / 64 == f) s.hiu.qp
      msix := tblDrop (fun k => k / 2048 == f) s.hiu.msix
      tn := (s.vfReset f).hiu.tn
      grants := (s.vfReset f).hiu.grants } := by
  unfold State.vfReset
  rw [State.signal_hiu]
  unfold State.resetFn
  dsimp only
  rw [State.nextGen_hiu, State.dropFetches_hiu]
  rfl

/-! ## The clauses of a VF FLR, of its step 5 and of VF Enable (R87, R166, R198, R712) -/

/-- A written value that is not the default leaves what every other index reads, whatever the table. -/
theorem tblGet_tblSet_listed_other {α : Type} [DecidableEq α] (d : α) (k j : Nat) (v : α) (t : Tbl α) (hv : v ≠ d) (hk : k ≠ j) :
    tblGet d (tblSet d k v t) j = tblGet d t j := by
  induction t with
  | nil => simp [tblSet, tblCons, hv, tblGet, hk]
  | cons e t ih =>
    obtain ⟨a, w⟩ := e
    simp only [tblSet, tblCons, if_neg hv]
    split
    · simp [tblGet, hk]
    · split
      · rename_i _ ha
        simp [tblGet, hk, ha ▸ hk]
      · simp only [tblGet, ih]

theorem State.vfReset_fenced (f : Nat) (s : State) : (s.vfReset f).fenced f = true := by
  unfold State.fenced
  rw [s.vfReset_hiu f]
  exact tblGet_tblSet_listed false f true _ (by decide)

theorem State.vfReset_fenced_other (f g : Nat) (s : State) (h : f ≠ g) : (s.vfReset f).fenced g = s.fenced g := by
  unfold State.fenced
  rw [s.vfReset_hiu f]
  exact tblGet_tblSet_listed_other false f g true _ (by decide) h

theorem State.vfReset_ready (f : Nat) (s : State) (h : tblWf false s.hiu.ready) : (s.vfReset f).vfReady f = false := by
  unfold State.vfReady
  rw [s.vfReset_hiu f]
  exact tblGet_tblSet_same false f false _ h

theorem State.vfReset_qpOf (f q : Nat) (s : State) (hq : q < 64) : (s.vfReset f).qpOf f q = {} := by
  have hk : (64 * f + q) / 64 = f := by omega
  unfold State.qpOf
  rw [s.vfReset_hiu f, tblGet_tblDrop, hk]
  simp

theorem State.vfReset_msix (f v : Nat) (s : State) (hv : v < 2048) :
    tblGet ({} : Msix) (s.vfReset f).hiu.msix (2048 * f + v) = {} := by
  have hk : (2048 * f + v) / 2048 = f := by omega
  rw [s.vfReset_hiu f, tblGet_tblDrop, hk]
  simp

theorem vfFlr_starts (f : Fn) (s : State) (hl : s.hiu.linkUp = true) (hp : s.hiu.pfFlr = false) (hf : s.vfExists f = true) :
    exec (.vfFlr f) s = .next (s.vfReset f) := by
  simp [exec, execVfFlr, hl, hp, hf]

/-- Steps 1 to 3 of R87. -/
theorem vfFlr_resets (f : Fn) (s : State) (hl : s.hiu.linkUp = true) (hp : s.hiu.pfFlr = false) (hf : s.vfExists f = true)
    (hr : tblWf false s.hiu.ready) :
    ∃ t : State, exec (.vfFlr f) s = .next t ∧ t.vfReady f = false ∧ t.fenced f = true ∧
      (∀ q < 64, t.qpOf f q = {}) ∧ (∀ v < 2048, tblGet ({} : Msix) t.hiu.msix (2048 * f.val + v) = {}) ∧
      tblGet false t.irq (f.val - 1) = true ∧ Frame vfResetParts s t :=
  ⟨_, vfFlr_starts f s hl hp hf, s.vfReset_ready f hr, s.vfReset_fenced f, fun q => s.vfReset_qpOf f q,
    fun v => s.vfReset_msix f v, tblGet_tblSet_listed false _ true _ (by decide), s.vfReset_frame f⟩

theorem vfSessionsClear_closes (f : Fn) (s : State) (hf : s.fenced f = true) (h0 : f ≠ 0) :
    exec (.vfSessionsClear f) s = .next { s with pay.sess := s.pay.sess.filter (fun x => x.1 / 4096 != f.val) } := by
  have hn : 1 ≤ f.val := Nat.one_le_iff_ne_zero.2 fun h => h0 (Fin.ext h)
  simp [exec, execVfSessionsClear, hf, hn, State.closeFnSess]

/-- The FRS message of a VF, where it exists on a link that is up. -/
def State.frsOf (f : Fn) (s : State) : State := if s.vfExists f && s.hiu.linkUp then s.emit (.frs f) else s

/-- The end of a VF FLR before its event: sessions closed, fence ended, READY set and the FRS message sent. -/
def State.vfRestored (f : Fn) (s : State) : State := (((s.closeFnSess f).setFence f false).setReady f true).frsOf f

theorem State.frsOf_eq (f : Fn) (s : State) : s.frsOf f = { s with out := (s.frsOf f).out } := by
  unfold State.frsOf
  split <;> rfl

theorem State.frsOf_sent (f : Fn) (s : State) (hf : s.vfExists f = true) (hl : s.hiu.linkUp = true) : .frs f ∈ (s.frsOf f).out := by
  simp [State.frsOf, hf, hl]

theorem State.tnEvent_sends (t : Nat) (bits : BitVec 3) (o : Out) (s : State) (h : o ∈ s.out) : o ∈ (s.tnEvent t bits).out := by
  unfold State.tnEvent State.msix
  extract_lets old u k e
  split
  · exact h
  · split
    · exact h
    · exact List.mem_append_left _ h

/-- Step 5 of R87. -/
theorem vfFlrReady_restores (f : Fn) (s : State) (h0 : f ≠ 0) (hp : s.hiu.pfFlr = false) (hf : s.fenced f = true)
    (hw : tblWf false s.hiu.fence) :
    ∃ t : State, exec (.vfFlrReady f) s = .next t ∧ t.vfReady f = true ∧ t.fenced f = false ∧
      (t.tnOf f).evt = (s.tnOf f).evt ||| 1 ∧ t.pay.sess = s.pay.sess.filter (fun x => x.1 / 4096 != f.val) ∧
      (s.vfExists f = true → s.hiu.linkUp = true → .frs f ∈ t.out) ∧ Frame [.hiu, .pay, .out] s t := by
  have hn : ¬ (f.val = 0 ∨ s.hiu.pfFlr = true) := by
    rw [hp]
    simpa using fun h => h0 (Fin.ext h)
  have hx : exec (.vfFlrReady f) s = .next ((s.vfRestored f).tnEvent f 1) := by
    simp only [exec, execVfFlrReady, if_neg hn, hf, if_true]
    rfl
  have he : s.vfRestored f = { ((s.closeFnSess f).setFence f false).setReady f true with out := (s.vfRestored f).out } :=
    State.frsOf_eq ..
  refine ⟨_, hx, ?_, ?_, ?_, ?_, fun hv hl => ?_, ?_⟩
  · rw [State.vfReady, State.tnEvent_eq, he]
    exact tblGet_tblSet_listed false _ true _ (by decide)
  · rw [State.fenced, State.tnEvent_eq, he]
    exact tblGet_tblSet_same false _ false _ hw
  · rw [State.tnEvent_tnOf _ _ _ (by decide), he]
    rfl
  · rw [(State.tnEvent_frame ..).same .pay (by decide), he]
    rfl
  · exact State.tnEvent_sends _ _ _ _ (State.frsOf_sent f _ hv hl)
  · refine Frame.trans (t := s.vfRestored f) ?_ ((State.tnEvent_frame ..).mono (by decide))
    rw [he]
    simp [Frame, State.setReady, State.setFence]

/-- VF FLRs one after another fence every function of the list. -/
theorem vfResets_fenced (l : List Nat) (g : Nat) (s : State) (h : g ∈ l ∨ s.fenced g = true) :
    (l.foldl (fun s f => s.vfReset f) s).fenced g = true := by
  induction l generalizing s with
  | nil => exact h.resolve_left (List.not_mem_nil)
  | cons f l ih =>
    refine ih _ ?_
    by_cases hf : f = g
    · exact .inr (hf ▸ s.vfReset_fenced f)
    · rw [s.vfReset_fenced_other f g hf]
      exact h.imp_left fun hg => (List.mem_cons.1 hg).resolve_left (Ne.symm hf)

/-- NumVFs stays through VF FLRs. -/
theorem vfResets_numVfs (l : List Nat) (s : State) : (l.foldl (fun s f => s.vfReset f) s).hiu.numVfs = s.hiu.numVfs :=
  foldl_keep (fun s => s.hiu.numVfs) _ l s fun t f => by rw [t.vfReset_hiu f]

/-- Clearing VF Enable does a VF FLR of every VF (R712). -/
theorem vfEnableClear_resets (s : State) (hl : s.hiu.linkUp = true) (hp : s.hiu.pfFlr = false) (he : s.hiu.vfEnable = true) :
    ∃ t : State, exec .vfEnableClear s = .next t ∧ t.hiu.vfEnable = false ∧
      (∀ f : Fn, 1 ≤ f.val → f.val ≤ s.hiu.numVfs → t.fenced f = true) ∧ t.hiu.numVfs = s.hiu.numVfs ∧ Frame vfResetParts s t := by
  refine ⟨_, by simp only [exec, execVfEnableClear, hl, hp, he]; rfl, rfl, fun f h1 hn => ?_, ?_, ?_⟩
  · refine vfResets_fenced _ f s (.inl ?_)
    exact List.mem_map.2 ⟨f - 1, List.mem_range.2 (by omega), Nat.sub_add_cancel h1⟩
  · exact vfResets_numVfs _ s
  · refine Frame.trans (.foldl (fun s f => s.vfReset f) (fun t f => t.vfReset_frame f)
      ((List.range s.hiu.numVfs).map (· + 1)) s) (by simp [Frame])

theorem vfEnableSet_takes (n : Nat) (s : State) (hl : s.hiu.linkUp = true) (hp : s.hiu.pfFlr = false) (hc : s.cfgNormal = true)
    (he : s.hiu.vfEnable = false) (h1 : 1 ≤ n) (hn : n ≤ 1024) :
    exec (.vfEnableSet n) s = .next { s with hiu.vfEnable := true, hiu.numVfs := n, hiu.ready := [] } := by
  have h0 : n ≠ 0 := by omega
  simp [exec, execVfEnableSet, hl, hp, hc, he, h0, hn]

end Sys2Proof.Machine
end

section
/-! PROOFS. The items of a function at its next generation (02_host_link_and_tenants.md R83, R84; 04_dispatch_and_release.md R166;
10_cluster.md R435). -/

namespace Sys2Proof.Machine

/-! ## The held entries of the Deck -/

/-- In a canonical table the held entries are those that are read. -/
theorem mem_heldOf (lo : Option Nat) (t : Tbl (Option Entry)) (h : tblOk none lo t = true) (d : Nat) (e : Entry) :
    (d, e) ∈ heldOf t ↔ tblGet none t d = some e := by
  induction t generalizing lo with
  | nil => simp [heldOf]
  | cons x t ih =>
    obtain ⟨a, v⟩ := x
    obtain ⟨-, hv, ht⟩ := (tblOk_cons none lo a v t).1 h
    obtain ⟨w, rfl⟩ := Option.ne_none_iff_exists'.1 hv
    simp only [heldOf, List.mem_cons, Prod.mk.injEq, ih _ ht, tblGet]
    by_cases ha : a = d
    · subst ha
      simp [tblGet_below none a a t ht (Nat.le_refl a), eq_comm]
    · simp [ha, Ne.symm ha]

theorem State.mem_held (s : State) (h : tblWf none s.deck.ent) (d : Nat) (e : Entry) : (d, e) ∈ s.held ↔ s.entOf d = some e :=
  mem_heldOf none s.deck.ent h d e

/-- What the generation of a function depends on: whose an item is, its state and the generation it carries. -/
def Entry.tag (e : Entry) : Nat × ISt × BitVec 16 := (e.fn, e.st, e.gen)

/-- A held entry that is changed in place keeps its place among the held ones. -/
theorem heldOf_tblSet_tags (lo : Option Nat) (t : Tbl (Option Entry)) (h : tblOk none lo t = true) (d : Nat) (e e' : Entry)
    (hd : tblGet none t d = some e) (he : e'.tag = e.tag) :
    (heldOf (tblSet none d (some e') t)).map (fun x => x.2.tag) = (heldOf t).map (fun x => x.2.tag) := by
  induction t generalizing lo with
  | nil => cases hd
  | cons x t ih =>
    obtain ⟨a, v⟩ := x
    obtain ⟨-, hv, ht⟩ := (tblOk_cons none lo a v t).1 h
    simp only [tblGet] at hd
    by_cases ha : a = d
    · subst ha
      simp only [if_true] at hd
      simp [tblSet, tblCons, heldOf, hd, he]
    · rw [if_neg ha] at hd
      have hlt : ¬ d < a := fun hlt => by
        rw [tblGet_below none d a t ht (Nat.le_of_lt hlt)] at hd
        cases hd
      simp only [tblSet, if_neg hlt, if_neg ha]
      cases v with
      | none => exact absurd rfl hv
      | some w => simp only [heldOf, List.map_cons, ih _ ht hd]

/-- From `s` to `t` the items stay what they are, but for what is known of their proposals. -/
structure ItemsKept (s t : State) : Prop where
  wf : tblWf none s.deck.ent → tblWf none t.deck.ent
  tags : tblWf none s.deck.ent → t.held.map (fun x => x.2.tag) = s.held.map (fun x => x.2.tag)

namespace ItemsKept

theorem of_deck {s t : State} (h : t.deck = s.deck) : ItemsKept s t :=
  ⟨fun hw => by rwa [h], fun _ => by rw [State.held, State.held, h]⟩

theorem refl (s : State) : ItemsKept s s := of_deck rfl

theorem trans {s t u : State} (h : ItemsKept s t) (k : ItemsKept t u) : ItemsKept s u :=
  ⟨fun hw => k.wf (h.wf hw), fun hw => (k.tags (h.wf hw)).trans (h.tags hw)⟩

theorem ite {s a b : State} {c : Prop} [Decidable c] (ha : ItemsKept s a) (hb : ItemsKept s b) :
    ItemsKept s (if c then a else b) := by
  split
  · exact ha
  · exact hb

theorem foldl {α : Type} (f : State → α → State) (h : ∀ s a, ItemsKept s (f s a)) (l : List α) (s : State) :
    ItemsKept s (l.foldl f s) := by
  induction l generalizing s with
  | nil => exact refl s
  | cons a l ih => exact (h s a).trans (ih (f s a))

end ItemsKept

/-! ## Withdrawn proposals (R432, R435) -/

theorem State.gotDecision_kept (pid : BitVec 64) (go : Bool) (excluded : List Nat) (s : State) :
    ItemsKept s (s.gotDecision pid go excluded) := by
  unfold State.gotDecision
  split
  · rename_i d e hf
    have hm : (d, e) ∈ s.held := List.mem_of_find?_eq_some hf
    exact ⟨s.setEnt_wf d _, fun hw => heldOf_tblSet_tags none s.deck.ent hw d e _ ((s.mem_held hw d e).1 hm) rfl⟩
  · exact .refl s

theorem State.sendDown_kept (tenant : Nat) (m : Msg) (s : State) : ItemsKept s (s.sendDown tenant m) := .of_deck (by simp)

theorem State.decideProp_kept (x : Held) (flip : Bool) (s : State) : ItemsKept s (s.decideProp x flip) := by
  unfold State.decideProp State.sendDecision
  extract_lets go excl _ u
  exact ItemsKept.trans (t := u) (.of_deck rfl) (.ite (State.gotDecision_kept ..) (.of_deck (by simp)))

theorem State.reserveProp_kept (x : Held) (own : Bool) (s : State) : ItemsKept s (s.reserveProp x own) := by
  unfold State.reserveProp
  extract_lets y _ u v
  exact ItemsKept.trans (t := v) (.of_deck (by simp [v, u])) (.ite (State.decideProp_kept ..) (.refl _))

theorem State.endReservation_kept (pid : BitVec 64) (s : State) : ItemsKept s (s.endReservation pid) := by
  unfold State.endReservation
  split
  · exact .refl s
  · extract_lets _ u
    refine ItemsKept.trans (t := u) (.of_deck rfl) (.ite (.refl _) ?_)
    split
    · exact State.reserveProp_kept ..
    · exact .refl _

theorem State.withdrawAll_kept (f : Nat) (s : State) : ItemsKept s (s.withdrawAll f) :=
  .foldl (fun (t : State) (x : Nat × Entry) => t.withdrawOf x.2)
    (fun t x => .ite (.refl t) (.ite (State.endReservation_kept ..) (.of_deck (by simp)))) _ s

/-! ## A fresh generation (R84) -/

/-- A value that is still in use after `n` steps has `n` values in use before it. -/
theorem freshGen_used (used : List (BitVec 16)) (n : Nat) (g : BitVec 16) (h : freshGen used n g ∈ used) (i : Nat) (hi : i ≤ n) :
    g + BitVec.ofNat 16 i ∈ used := by
  induction n generalizing g i with
  | zero =>
    obtain rfl : i = 0 := Nat.le_zero.1 hi
    simpa [freshGen] using h
  | succ n ih =>
    have hg : g ∈ used := by
      by_contra hg
      simp [freshGen, hg] at h
    have hn : freshGen used n (g + 1) ∈ used := by simpa [freshGen, hg] using h
    cases i with
    | zero => simpa using hg
    | succ i =>
      have hs := ih (g + 1) hn i (by omega)
      have hi : BitVec.ofNat 16 (i + 1) = BitVec.ofNat 16 i + 1 := BitVec.ofNat_add i 1
      rwa [BitVec.add_assoc, BitVec.add_comm 1, ← hi] at hs

/-- **A fresh generation is in use by no item**, where the values in use are fewer than those that are tried (R84). -/
theorem freshGen_fresh (used : List (BitVec 16)) (n : Nat) (g : BitVec 16) (hu : used.length ≤ n) (hn : n < 2 ^ 16) :
    freshGen used n g ∉ used := by
  intro h
  have hnodup : ((List.range (n + 1)).map (fun i => g + BitVec.ofNat 16 i)).Nodup := by
    refine List.Nodup.map_on (fun i hi j hj he => ?_) List.nodup_range
    have hi := List.mem_range.1 hi
    have hj := List.mem_range.1 hj
    have he := congrArg BitVec.toNat (add_left_cancel he)
    simp only [BitVec.toNat_ofNat] at he
    omega
  have hsub : (List.range (n + 1)).map (fun i => g + BitVec.ofNat 16 i) ⊆ used := by
    intro x hx
    obtain ⟨i, hi, rfl⟩ := List.mem_map.1 hx
    exact freshGen_used used n g h i (Nat.lt_succ_iff.1 (List.mem_range.1 hi))
  have := (List.subperm_of_subset hnodup hsub).length_le
  rw [List.length_map, List.length_range] at this
  omega

/-! ## Discarded items (R166) -/

/-- What becomes of a Deck entry that its function's next generation discards. -/
def discarded : Option Entry → Option Entry
  | none => none
  | some e => match e.st with
    | .releasing | .orphan => some e
    | .running => some { e with st := .orphan }
    | _ => none

theorem discarded_discarded (x : Option Entry) : discarded (discarded x) = discarded x := by
  cases x with
  | none => rfl
  | some e => cases he : e.st <;> simp [discarded, he]

theorem discarded_state {x : Option Entry} {e : Entry} (h : discarded x = some e) : e.st = .orphan ∨ e.st = .releasing := by
  cases x with
  | none => cases h
  | some e' =>
    cases he : e'.st <;> simp only [discarded, he, reduceCtorEq, Option.some.injEq] at h <;> simp [← h, he]

theorem State.freeEnt_ent (d : Nat) (e : Entry) (s : State) (h : s.entOf d = some e) :
    (s.freeEnt d).deck.ent = tblSet none d none s.deck.ent := by
  unfold State.freeEnt
  rw [h]
  dsimp only
  split
  · rfl
  · split <;> rfl

theorem State.leave_ent (d : Nat) (e : Entry) (s : State) (h : s.entOf d = some e) :
    (s.leave d).deck.ent = tblSet none d none s.deck.ent := by
  unfold State.leave
  rw [h]
  exact State.freeEnt_ent d e (s.unpin e.binds) h

/-- A discard rewrites the entry of its item and no other. -/
theorem State.discard_ent (d : Nat) (s : State) :
    (s.discard d).deck.ent = s.deck.ent ∧ discarded (s.entOf d) = s.entOf d ∨
      (s.discard d).deck.ent = tblSet none d (discarded (s.entOf d)) s.deck.ent := by
  cases h : s.entOf d with
  | none => exact .inl ⟨by simp [State.discard, h], rfl⟩
  | some e =>
    cases he : e.st with
    | releasing | orphan => exact .inl ⟨by simp [State.discard, h, he], by simp [discarded, he]⟩
    | running => exact .inr (by simp [State.discard, h, he, discarded, State.setEnt])
    | reserved | ready | done | held =>
      have hleave := State.leave_ent d e { s with deck.cntDiscard := s.deck.cntDiscard + 1 } h
      simp only [State.discard, h, he, discarded]
      exact .inr hleave

theorem State.discard_wf (d : Nat) (s : State) (h : tblWf none s.deck.ent) : tblWf none (s.discard d).deck.ent := by
  rcases s.discard_ent d with ⟨he, -⟩ | he <;> rw [he]
  · exact h
  · exact tblSet_wf none d _ s.deck.ent h

theorem State.entOf_discard (d j : Nat) (s : State) (h : tblWf none s.deck.ent) :
    (s.discard d).entOf j = if d = j then discarded (s.entOf d) else s.entOf j := by
  unfold State.entOf
  rcases s.discard_ent d with ⟨he, hd⟩ | he <;> rw [he]
  · split
    · rename_i hj
      exact hj ▸ hd.symm
    · rfl
  · exact tblGet_tblSet none d j _ s.deck.ent h

/-- A list of discards rewrites the entries of its items, each of them once. -/
theorem State.entOf_discards (l : List (Nat × Entry)) (j : Nat) (s : State) (h : tblWf none s.deck.ent) :
    (l.foldl (fun s x => s.discard x.1) s).entOf j = if j ∈ l.map Prod.fst then discarded (s.entOf j) else s.entOf j := by
  induction l generalizing s with
  | nil => simp
  | cons x l ih =>
    obtain ⟨d, e⟩ := x
    rw [List.foldl_cons, ih _ (s.discard_wf d h), s.entOf_discard d j h]
    by_cases hd : d = j
    · subst hd
      simp [discarded_discarded]
    · have hm : j ∈ ((d, e) :: l).map Prod.fst ↔ j ∈ l.map Prod.fst := by simp [Ne.symm hd]
      rw [if_neg hd]
      exact if_congr hm.symm rfl rfl

theorem State.discards_wf (l : List (Nat × Entry)) (s : State) (h : tblWf none s.deck.ent) :
    tblWf none (l.foldl (fun s x => s.discard x.1) s).deck.ent := by
  induction l generalizing s with
  | nil => exact h
  | cons x l ih => exact ih _ (s.discard_wf x.1 h)

/-! ## The next generation (R83, R84, R166) -/

/-- The items of a function whose descriptors have arrived. -/
def State.arrived (s : State) (f : Nat) : List (Nat × Entry) := s.held.filter (fun x => x.2.fn == f && x.2.st != .reserved)

theorem State.mem_arrived (s : State) (f : Nat) (x : Nat × Entry) :
    x ∈ s.arrived f ↔ x ∈ s.held ∧ x.2.fn = f ∧ x.2.st ≠ .reserved := by
  simp [State.arrived]

/-- The generation that a function moves to. -/
def State.genAfter (s : State) (f : Nat) : BitVec 16 :=
  freshGen ((s.arrived f).map (fun x => x.2.gen)) 32769 ((s.tnOf f).gen + 1)

theorem State.moveGen_eq (f : Nat) (s : State) :
    s.moveGen f = (s.arrived f).foldl (fun s x => s.discard x.1) (s.modTn f (fun r => { r with gen := s.genAfter f })) := rfl

/-- No arrived item of the function carries the generation that it moves to, while the module's items are within the Deck (R84, R136). -/
theorem State.genAfter_fresh (s : State) (f : Nat) (h : s.held.length ≤ 32768) (x : Nat × Entry) (hx : x ∈ s.arrived f) :
    x.2.gen ≠ s.genAfter f := by
  intro he
  have hl : (s.arrived f).length ≤ s.held.length := List.length_filter_le _ _
  refine freshGen_fresh ((s.arrived f).map (fun x => x.2.gen)) 32769 ((s.tnOf f).gen + 1) ?_ (by decide) ?_
  · rw [List.length_map]
    omega
  · exact List.mem_map.2 ⟨x, hx, he⟩

theorem State.moveGen_gen (f : Nat) (s : State) (h : tblWf {} s.hiu.tn) : ((s.moveGen f).tnOf f).gen = s.genAfter f := by
  rw [State.moveGen_eq, State.tnOf, foldl_hiu _ _ _ (by simp)]
  exact congrArg Tn.gen ((s.tnOf_modTn f f _ h).trans (if_pos rfl))

/-- Of the function's items only those that have not arrived, have left flow order or are released stay. -/
theorem State.moveGen_stays (f : Nat) (s : State) (h : tblWf none s.deck.ent) (x : Nat × Entry) (hx : x ∈ (s.moveGen f).held)
    (hf : x.2.fn = f) : x.2.st = .reserved ∨ x.2.st = .orphan ∨ x.2.st = .releasing := by
  obtain ⟨d, e⟩ := x
  rw [State.moveGen_eq, State.mem_held _ (State.discards_wf _ _ (by exact h)), State.entOf_discards _ _ _ (by exact h)] at hx
  split at hx
  · exact .inr (discarded_state hx)
  · rename_i hn
    by_contra hst
    exact hn (List.mem_map.2 ⟨(d, e), (s.mem_arrived f _).2 ⟨(s.mem_held h d e).2 hx, hf, fun hr => hst (.inl hr)⟩, rfl⟩)

/-! ## The items of a function through a VF FLR (R84, R85, R87) -/

/-- With no descriptor read outstanding there is nothing to drop. -/
theorem State.dropFetches_idle (f : Nat) (s : State) (h : s.hiu.grants = []) : s.dropFetches f = { s with hiu.grants := [] } := by
  unfold State.dropFetches
  rw [h]
  simp only [List.filter_nil, List.foldl_nil, h]
  rfl

/-- The state in which a VF FLR moves the generation on: READY is clear, the fence is up, the proposals of the items are withdrawn. -/
def State.vfStopped (f : Nat) (s : State) : State :=
  (((s.setReady f false).setFence f true).dropFetches f).withdrawAll f

theorem State.vfReset_eq (f : Nat) (s : State) : s.vfReset f = (((s.vfStopped f).moveGen f).resetFn f).signal (f - 1) := rfl

theorem State.vfReset_tnOf (f g : Nat) (s : State) : (s.vfReset f).tnOf g = ((s.vfStopped f).moveGen f).tnOf g := by
  rw [s.vfReset_eq f]
  generalize (s.vfStopped f).moveGen f = u
  rfl

theorem State.vfReset_held (f : Nat) (s : State) : (s.vfReset f).held = ((s.vfStopped f).moveGen f).held := by
  rw [s.vfReset_eq f]
  generalize (s.vfStopped f).moveGen f = u
  rfl

theorem State.vfStopped_kept (f : Nat) (s : State) (h : s.hiu.grants = []) : ItemsKept s (s.vfStopped f) := by
  have start : ItemsKept s (((s.setReady f false).setFence f true).dropFetches f) :=
    .of_deck (by rw [State.dropFetches_idle f ((s.setReady f false).setFence f true) h]; rfl)
  exact start.trans (State.withdrawAll_kept ..)

theorem State.vfStopped_tn (f : Nat) (s : State) : (s.vfStopped f).hiu.tn = s.hiu.tn := by
  unfold State.vfStopped
  rw [(State.withdrawAll_frame ..).same .hiu (by decide), State.dropFetches_hiu]
  rfl

/-- **A VF FLR tells a function's items apart from its next ones**, where the table of tenant records is canonical: no arrived
item carries the generation that the function moves to, and only those that have left flow order, or are released, stay. -/
theorem vfFlr_movesGeneration (f : Fn) (s : State) (hl : s.hiu.linkUp = true) (hp : s.hiu.pfFlr = false)
    (hf : s.vfExists f = true) (hg : s.hiu.grants = []) (hn : s.held.length ≤ 32768) (hw : tblWf none s.deck.ent)
    (ht : tblWf {} s.hiu.tn) :
    ∃ t : State, exec (.vfFlr f) s = .next t ∧
      (∀ x ∈ s.held, x.2.fn = f.val → x.2.st ≠ .reserved → x.2.gen ≠ (t.tnOf f).gen) ∧
      (∀ x ∈ t.held, x.2.fn = f.val → x.2.st = .reserved ∨ x.2.st = .orphan ∨ x.2.st = .releasing) := by
  have hk := s.vfStopped_kept f hg
  have htags := hk.tags hw
  have hlen : (s.vfStopped f).held.length ≤ 32768 := by
    have := congrArg List.length htags
    rw [List.length_map, List.length_map] at this
    omega
  refine ⟨_, vfFlr_starts f s hl hp hf, fun x hx hxf hst => ?_, fun x hx => ?_⟩
  · obtain ⟨y, hy, hyx⟩ := List.mem_map.1 (htags ▸ List.mem_map.2 ⟨x, hx, rfl⟩ : x.2.tag ∈ _)
    simp only [Entry.tag, Prod.mk.injEq] at hyx
    obtain ⟨hfn, hyst, hgen⟩ := hyx
    have hfresh := (s.vfStopped f).genAfter_fresh f hlen y ((State.mem_arrived ..).2 ⟨hy, hfn.trans hxf, hyst ▸ hst⟩)
    rw [s.vfReset_tnOf f f, State.moveGen_gen _ _ (by rwa [s.vfStopped_tn f]), ← hgen]
    exact hfresh
  · rw [s.vfReset_held f] at hx
    exact (s.vfStopped f).moveGen_stays f (hk.wf hw) x hx

/-! ## A record that is listed twice -/

/-- VF 1 exists on a link that is up and has one item in the module, an orphan of generation 7. Its tenant record is listed twice, as
no table in canonical form has it: the first entry, of generation 0xFFFF, is the one that is read. -/
def recordListedTwice : State :=
  { hiu := { linkUp := true, vfEnable := true, numVfs := 1, tn := [(1, { gen := 0xFFFF }), (1, { gen := 7 })] }
    deck := { ent := [(0, some { fn := 1, gen := 7, st := .orphan })] } }

/-- With its new generation 0 the first entry holds the reset values, so that it is listed no more and the second one is read. -/
theorem recordListedTwice_gen : ((recordListedTwice.vfReset 1).tnOf 1).gen = 7 := by decide +kernel

/-- Refutes O14: its second clause does not ask that the table of tenant records be canonical, and after a VF FLR the orphan of
`recordListedTwice` carries the generation that is then read. With that premise the clause is `vfFlr_movesGeneration`; the other five
clauses hold as they stand: `vfFlr_resets`, `vfSessionsClear_closes`, `vfFlrReady_restores`, `vfEnableClear_resets` and
`vfEnableSet_takes`. -/
theorem not_vfResets : ¬ Obligations.VfResets := by
  unfold Obligations.VfResets
  rintro ⟨-, hgen, -⟩
  obtain ⟨t, ht, hne, -⟩ := hgen 1 recordListedTwice rfl rfl rfl rfl (by decide) (by decide)
  have hx : exec (.vfFlr 1) recordListedTwice = .next (recordListedTwice.vfReset 1) := vfFlr_starts 1 recordListedTwice rfl rfl rfl
  obtain rfl : recordListedTwice.vfReset 1 = t := Host.Outcome.next.inj (hx.symm.trans ht)
  exact hne (0, { fn := 1, gen := 7, st := .orphan }) (List.mem_singleton_self _) rfl (by decide) recordListedTwice_gen.symm

end Sys2Proof.Machine
end

section
/-! PROOFS. The arrival of an item: its checks, its filing in a flow and its place in no flow (03_command_model.md R96, R108 to R124;
04_dispatch_and_release.md R138, R142). -/

namespace Sys2Proof.Machine

/-! ## What the arrival of a descriptor writes (R117, R118, R123, R124) -/

/-- An entry reads as it was written, whatever the table. -/
theorem State.entOf_setEnt_same (d : Nat) (e : Entry) (s : State) : (s.setEnt d e).entOf d = some e :=
  tblGet_tblSet_listed none d (some e) s.deck.ent (Option.some_ne_none e)

/-- The sequence number that the flow of an arriving descriptor last accepted (R117). -/
def State.lastSeq (s : State) (fn : Nat) (b : Bytes) : Option Word :=
  (tblGet none s.dsp.flows (flowKey (flowOf fn b))).bind (fun r => r.seq)

/-- What the entry of an arriving item holds whatever its checks say. -/
def State.arrivedEntry (s : State) (fn q : Nat) (b : Bytes) : Entry :=
  { fn := fn, q := q, gen := (s.tnOf fn).gen, desc := b, arrival := s.dsp.arrivals
    expiry := if deadlineOf b = 0 then none else some (s.now + deadlineOf b) }

/-- The entry of an item that a check refuses with a status: DONE, in no flow (R124). -/
def State.refusedEntry (s : State) (fn q : Nat) (b : Bytes) (st : Nat) : Entry :=
  { s.arrivedEntry fn q b with st := .done, post := ⟨st, [], [], []⟩, postedAt := s.now }

/-- The ORDER of an item as CTRL gives it, where FREE is STRICT in a key-ID flow (R114). -/
def orderOf (b : Bytes) : Nat := if keyFlowOp (opcodeOf b) && ctrlOf b % 4 == 1 then 0 else ctrlOf b % 4

/-- The entry of an item that is filed: READY in its flow, its priority clamped to PRIO_MAX (R118, R142, R144). -/
def State.filedEntry (s : State) (fn q : Nat) (b : Bytes) : Entry :=
  { s.arrivedEntry fn q b with
    st := .ready
    flow := some (flowOf fn b)
    order := orderOf b
    prio := min (ctrlOf b / 4 % 4) ((s.tnOf fn).sched.toNat / 256 % 4)
    clamped := decide ((s.tnOf fn).sched.toNat / 256 % 4 < ctrlOf b / 4 % 4)
    cls := (costOf b).1
    cost := (costOf b).2
    policy := s.ancGet (0x1100 + 3 * fn + 1)
    dectab := s.ancGet (0x1100 + 3 * fn + 2)
    sess := s.resolveSess fn (s.tnOf fn).gen b }

/-- The flow entry once the item is filed: a checked sequence number is recorded, a BARRIER is listed (R110, R117). -/
def State.filedFlow (s : State) (fn : Nat) (b : Bytes) : Flow :=
  let f := (tblGet none s.dsp.flows (flowKey (flowOf fn b))).getD ⟨none, []⟩
  ⟨if seqCheckOf b then some (w32 (seqOf b)) else f.seq,
    if orderOf b = 2 then f.barriers ++ [s.dsp.arrivals] else f.barriers⟩

/-! ## The branches of an arrival -/

section
variable (idx fn q : Nat) (b : Bytes) (s : State)

/-- The first failing check of 1 to 3 places the item in no flow with its status (R123, R124). -/
theorem State.present_refused (hc : arrivalCheck fn b ≠ 0) :
    s.present idx fn q b =
      ({ s with dsp.arrivals := s.dsp.arrivals + 1 }).setEnt idx (s.refusedEntry fn q b (arrivalCheck fn b)) := by
  simp only [State.present, hc, false_and, if_false]
  exact if_pos hc

/-- An item that passes checks 1 to 3 and is out of sequence is placed in no flow with SEQ_ERROR (R117, R124). -/
theorem State.present_outOfSequence (hc : arrivalCheck fn b = 0) (hs : seqCheckOf b = true) (v : Word)
    (hv : s.lastSeq fn b = some v) (hne : w32 (seqOf b) ≠ v + 1) :
    s.present idx fn q b = ({ s with dsp.arrivals := s.dsp.arrivals + 1 }).setEnt idx (s.refusedEntry fn q b 0x1004) := by
  unfold State.lastSeq at hv
  simp only [State.present, hc, hs, hv, bne_iff_ne.2 hne, Bool.true_and, and_self, if_true]
  exact if_pos (by decide)

/-- An item that passes checks 1 to 3, and the sequence check where it asks for one, is filed in its flow (R117, R118). -/
theorem State.present_filed (hc : arrivalCheck fn b = 0)
    (hs : seqCheckOf b = true → ∀ v, s.lastSeq fn b = some v → w32 (seqOf b) = v + 1) :
    s.present idx fn q b = ({ s with
      dsp.arrivals := s.dsp.arrivals + 1
      dsp.flows := tblSet none (flowKey (flowOf fn b)) (some (s.filedFlow fn b)) s.dsp.flows }).setEnt idx
        (s.filedEntry fn q b) := by
  unfold State.present
  extract_lets gen arr dsp u exp fl r st seqBad st'
  have hbad : seqBad = false := by
    cases hq : seqCheckOf b with
    | false => simp [seqBad, hq]
    | true =>
      cases hr : r.bind (fun x => x.seq) with
      | none => simp [seqBad, hr]
      | some v => simp [seqBad, hr, hs hq v hr]
  have hst : st' = 0 := by simp [st', hbad, st, hc]
  rw [if_neg (not_not_intro hst)]
  rfl

/-- The flow of a filed item whose sequence number was checked records that number (R117). -/
theorem State.lastSeq_present_filed (hc : arrivalCheck fn b = 0) (hs : seqCheckOf b = true)
    (hv : ∀ v, s.lastSeq fn b = some v → w32 (seqOf b) = v + 1) :
    (s.present idx fn q b).lastSeq fn b = some (w32 (seqOf b)) := by
  rw [s.present_filed idx fn q b hc (fun _ => hv)]
  simp only [State.lastSeq, State.setEnt_dsp, tblGet_tblSet_listed none _ _ _ (Option.some_ne_none _), Option.bind_some]
  exact if_pos hs

end

/-- The descriptor of the only grant, of one entry, is presented when its data returns (R96). -/
theorem descriptorArrival_single (g : Grant) (i : Nat) (b : Bytes) (s : State) (hg : s.hiu.grants = [g]) (hd : g.data = none)
    (hi : g.idxs = [i]) (hb : b.length = 128) :
    exec (.descriptorArrival g.tag [b]) s = .next { s.present i g.fn g.q b with hiu.grants := [] } := by
  simp [exec, execDescriptorArrival, hg, hd, hi, hb, setGrant, State.presentReady]

/-- The arrival of the only grant's descriptor changes the host interface, the dispatcher and the Deck alone. -/
theorem State.presented_frame (i fn q : Nat) (b : Bytes) (s : State) :
    Frame [.hiu, .dsp, .deck] s { s.present i fn q b with hiu.grants := [] } :=
  ((s.present_frame i fn q b).mono (by decide)).trans (by simp [Frame])

/-- Settles O11. -/
theorem arrivalChecksAndFiling : Obligations.ArrivalChecksAndFiling := by
  unfold Obligations.ArrivalChecksAndFiling
  refine ⟨fun g i b s hg hd hi hb hc hs => ?_, fun g i b s hg hd hi hb hc => ?_, fun g i b v s hg hd hi hb hc hs hv => ?_⟩ <;>
    have frame := s.presented_frame i g.fn g.q b
  · have filed := s.present_filed i g.fn g.q b hc (fun h => nomatch hs.symm.trans h)
    refine ⟨_, s.filedEntry g.fn g.q b, descriptorArrival_single g i b s hg hd hi hb, ?_, rfl, rfl, rfl, rfl, rfl, rfl, rfl, rfl, rfl,
      rfl, rfl, frame⟩
    rw [filed]
    exact State.entOf_setEnt_same ..
  · have refused := s.present_refused i g.fn g.q b hc
    refine ⟨_, s.refusedEntry g.fn g.q b (arrivalCheck g.fn b), descriptorArrival_single g i b s hg hd hi hb, ?_, rfl, rfl, rfl, ?_,
      frame⟩
    · rw [refused]
      exact State.entOf_setEnt_same ..
    · rw [refused]
      rfl
  · by_cases h : w32 (seqOf b) = v + 1
    · have next : ∀ x, s.lastSeq g.fn b = some x → w32 (seqOf b) = x + 1 := fun x hx => by
        rw [h, Option.some.inj (hv.symm.trans hx)]
      have filed := s.present_filed i g.fn g.q b hc (fun _ => next)
      have recorded := s.lastSeq_present_filed i g.fn g.q b hc hs next
      refine ⟨_, s.filedEntry g.fn g.q b, descriptorArrival_single g i b s hg hd hi hb, ?_, ?_, frame⟩
      · rw [filed]
        exact State.entOf_setEnt_same ..
      · rw [if_pos h, ← h]
        exact ⟨rfl, recorded⟩
    · have refused := s.present_outOfSequence i g.fn g.q b hc hs v hv h
      refine ⟨_, s.refusedEntry g.fn g.q b 0x1004, descriptorArrival_single g i b s hg hd hi hb, ?_, ?_, frame⟩
      · rw [refused]
        exact State.entOf_setEnt_same ..
      · rw [if_neg h, refused]
        exact ⟨rfl, rfl, rfl⟩

end Sys2Proof.Machine
end

section
/-! PROOFS. Stage 10 of an item, and the PIN commands (03_command_model.md R129, R133; 05_payment_functions.md R203 to R219;
09_random_numbers.md R385). -/

namespace Sys2Proof.Machine

/-! ## An item at stage 10 -/

theorem State.runItem_ready {d op : Nat} {e : Entry} {s : State} (he : s.entOf d = some e) (ha : e.active = true)
    (hp : e.phase = .exec) (ho : opcodeOf e.desc = op) (f : Entry → State → State) : s.runItem d op f = .next (f e s) := by
  simp [State.runItem, he, ha, hp, ho]

section
variable {d : Nat} {e : Entry} {s : State} (he : s.entOf d = some e)
include he

theorem State.fail_held (st : Nat) : s.fail d st = s.setEnt d { e with phase := .finished ⟨st, [], [], e.post.guards⟩ } := by
  simp only [State.fail, State.modEnt, he]

theorem State.done_held (st : Nat) (b : Bytes) :
    s.done d st b = s.setEnt d { e with phase := .finished ⟨st, b, [], e.post.guards⟩ } := by
  simp only [State.done, State.modEnt, he]

theorem State.doneWith_held (st : Nat) (b : Bytes) (l : List Intent) :
    s.doneWith d st b l = s.setEnt d { e with phase := .finished ⟨st, b, l, e.post.guards⟩ } := by
  simp only [State.doneWith, State.modEnt, he]

theorem State.answer_held (yes : Bool) :
    s.answer d yes = s.setEnt d { e with phase := .finished ⟨if yes then 0 else 1, [], [], e.post.guards⟩ } :=
  State.done_held he _ _

end

/-! ## Draws of an item (R385) -/

/-- A draw changes the generator alone. -/
theorem Drawn.frame {n : Nat} {s u : State} {r : Bytes} (h : Drawn n s r u) : Frame [.rng] s u := by
  obtain ⟨-, -, rfl⟩ | ⟨-, h⟩ := h
  · exact .refl _ u
  · exact State.rngTake_frame n s u r h

theorem Drawn.entOf {n : Nat} {s u : State} {r : Bytes} (h : Drawn n s r u) (d : Nat) : u.entOf d = s.entOf d :=
  congrArg (fun x : Deck => tblGet none x.ent d) (h.frame.same .deck (by decide))

/-- The cipher of a bound key rests on the key cache alone. -/
theorem State.ciphFor_congr {s u : State} (h : u.keys = s.keys) (e : Entry) (i : Nat) : u.ciphFor e i = s.ciphFor e i := by
  have hm : u.slotMat = s.slotMat := funext fun k => by simp only [State.slotMat, h]
  simp only [State.ciphFor, State.algOf, State.slotHdr, State.matOf, hm, h]

theorem Drawn.ciphFor {n : Nat} {s u : State} {r : Bytes} (h : Drawn n s r u) (e : Entry) (i : Nat) : u.ciphFor e i = s.ciphFor e i :=
  State.ciphFor_congr (h.frame.same .keys (by decide)) e i

theorem State.withDraw_drawn {n : Nat} {s u : State} {r : Bytes} (h : Drawn n s r u) (d : Nat) (f : Bytes → State → State) :
    s.withDraw n d f = f r u := by
  obtain ⟨rfl, rfl, rfl⟩ | ⟨hn, h⟩ := h
  · rfl
  · simp only [State.withDraw, hn, h, if_false]

/-- A draw that fails ends the attempt with RNG_UNAVAILABLE (R385). -/
theorem State.withDraw_failed {n d : Nat} {e : Entry} {s u : State} (he : s.entOf d = some e) (hn : n ≠ 0) (h : s.rngTake n = .fail u)
    (f : Bytes → State → State) :
    s.withDraw n d f = u.setEnt d { e with phase := .finished ⟨0x4101, [], [], e.post.guards⟩ } := by
  have hu : u.entOf d = some e := by
    rw [(State.rngTake_failed n s u h).2]
    exact he
  simp only [State.withDraw, hn, h, if_false]
  exact State.fail_held hu _

/-! ## PIN_TRANSLATE (R203 to R209) -/

section
variable {d : Nat} {e : Entry} {s : State} (he : s.entOf d = some e)
include he

theorem State.pinTranslate_malformed
    (hpin : pinOpenB (u8 e.desc 48) (s.ciphFor e 0) (sub e.desc 56 16) (panOf e.desc 72 (u8 e.desc 50)) = none) :
    s.pinTranslate d e = s.setEnt d { e with phase := .finished ⟨0x1003, [], [], e.post.guards⟩ } := by
  simp only [State.pinTranslate, hpin]
  exact State.fail_held he _

theorem State.pinTranslate_drawn {pin : List Nat} {r : Bytes} {u : State} (hr : Drawn (if u8 e.desc 49 = 0 then 0 else 8) s r u)
    (hpin : pinOpenB (u8 e.desc 48) (s.ciphFor e 0) (sub e.desc 56 16) (panOf e.desc 72 (u8 e.desc 50)) = some pin) :
    s.pinTranslate d e = u.setEnt d { e with phase := .finished ⟨0,
      pinSealB (u8 e.desc 49) (s.ciphFor e 1) pin (panOf e.desc 82 (u8 e.desc 51)) r, [], e.post.guards⟩ } := by
  simp only [State.pinTranslate, hpin, State.withDraw_drawn hr, hr.ciphFor]
  exact State.done_held ((hr.entOf d).trans he) _ _

theorem State.pinTranslate_undrawn {pin : List Nat} {u : State} (hb : u8 e.desc 49 ≠ 0) (hr : s.rngTake 8 = .fail u)
    (hpin : pinOpenB (u8 e.desc 48) (s.ciphFor e 0) (sub e.desc 56 16) (panOf e.desc 72 (u8 e.desc 50)) = some pin) :
    s.pinTranslate d e = u.setEnt d { e with phase := .finished ⟨0x4101, [], [], e.post.guards⟩ } := by
  simp only [State.pinTranslate, hpin, if_neg hb]
  exact State.withDraw_failed he (by decide) hr _

/-! ## PIN_VERIFY_OFFSET and PIN_GENERATE_OFFSET (R205, R213 to R215) -/

/-- The answer is yes where the block is well formed and its value agrees with the body's digits. -/
theorem State.pinVerify_answers :
    ∃ ok : Bool, s.pinVerify d e = s.setEnt d { e with phase := .finished ⟨if ok then 0 else 1, [], [], e.post.guards⟩ } ∧
      (ok = true ↔ ∃ v, s.pinReference e = some v ∧ u8 e.desc 51 ≤ v.length ∧
        v.take (u8 e.desc 51) = bcd (sub e.desc 98 6) (u8 e.desc 51)) := by
  cases hv : s.pinReference e with
  | none =>
    refine ⟨false, ?_, by simp⟩
    simp only [State.pinVerify, hv]
    exact State.answer_held he false
  | some v =>
    refine ⟨decide (u8 e.desc 51 ≤ v.length) && v.take (u8 e.desc 51) == bcd (sub e.desc 98 6) (u8 e.desc 51), ?_, by simp⟩
    simp only [State.pinVerify, hv]
    exact State.answer_held he _

theorem State.pinGenerate_malformed (hv : s.pinReference e = none) :
    s.pinGenerate d e = s.setEnt d { e with phase := .finished ⟨0x1003, [], [], e.post.guards⟩ } := by
  simp only [State.pinGenerate, hv]
  exact State.fail_held he _

theorem State.pinGenerate_digits {v : List Nat} (hv : s.pinReference e = some v) :
    s.pinGenerate d e =
      s.setEnt d { e with phase := .finished ⟨0, bcdEnc 6 v ++ [byteOf v.length, 0], [], e.post.guards⟩ } := by
  simp only [State.pinGenerate, hv]
  exact State.done_held he _ _

/-! ## DUKPT_PIN_TRANSLATE (R216 to R218) -/

theorem State.dukptPin_malformed
    (hpin : pinOpenB (u8 e.desc 50)
      ⟨u8 e.desc 48 == 1, (dukptKeys (u8 e.desc 48) (u8 e.desc 49) (s.matOf e 0) (sub e.desc 56 12)).1⟩
      (sub e.desc 72 16) (panOf e.desc 88 (u8 e.desc 52)) = none) :
    s.dukptPin d e = s.setEnt d { e with phase := .finished ⟨0x1003, [], [], e.post.guards⟩ } := by
  simp only [State.dukptPin, hpin]
  exact State.fail_held he _

/-- The translation ends OK; with KEEP, and only then, it opens a session (R197). -/
theorem State.dukptPin_drawn {pin : List Nat} {r : Bytes} {u : State} (hr : Drawn (if u8 e.desc 51 = 0 then 0 else 8) s r u)
    (hpin : pinOpenB (u8 e.desc 50)
      ⟨u8 e.desc 48 == 1, (dukptKeys (u8 e.desc 48) (u8 e.desc 49) (s.matOf e 0) (sub e.desc 56 12)).1⟩
      (sub e.desc 72 16) (panOf e.desc 88 (u8 e.desc 52)) = some pin) :
    ∃ p : Post, s.dukptPin d e = u.setEnt d { e with phase := .finished p } ∧ p.status = 0 ∧
      p.result = fit 16 (pinSealB (u8 e.desc 51) (s.ciphFor e 1) pin (panOf e.desc 98 (u8 e.desc 53)) r) ++ noHandle ∧
      (p.intents ≠ [] ↔ (u8 e.desc 54).testBit 0 = true) ∧ p.guards = e.post.guards := by
  simp only [State.dukptPin, hpin, State.withDraw_drawn hr, hr.ciphFor]
  refine ⟨_, State.doneWith_held ((hr.entOf d).trans he) _ _ _, rfl, rfl, ?_, rfl⟩
  simp

end

/-- Settles O20. -/
theorem pinCommands : Obligations.PinCommands := by
  unfold Obligations.PinCommands
  intro d e s he ha hp
  have translate (ho : opcodeOf e.desc = 0x0101) : exec (.pinTranslate d) s = .next (s.pinTranslate d e) :=
    State.runItem_ready he ha hp ho _
  have dukpt (ho : opcodeOf e.desc = 0x0201) : exec (.dukptPinTranslate d) s = .next (s.dukptPin d e) :=
    State.runItem_ready he ha hp ho _
  refine ⟨fun ho hpin => ?_, fun pin r u ho hr hpin => ?_, fun pin u ho hb hr hpin => ?_, fun ho => ?_, fun ho => ?_,
    fun ho hpin => ?_, fun pin r u ho hr hpin => ?_⟩
  · rw [translate ho, State.pinTranslate_malformed he hpin]
  · rw [translate ho, State.pinTranslate_drawn he hr hpin]
  · rw [translate ho, State.pinTranslate_undrawn he hb hr hpin]
  · have verify : exec (.pinVerifyOffset d) s = .next (s.pinVerify d e) := State.runItem_ready he ha hp ho _
    obtain ⟨ok, hok, hiff⟩ := State.pinVerify_answers he
    exact ⟨ok, verify.trans (congrArg _ hok), hiff⟩
  · have generate : exec (.pinGenerateOffset d) s = .next (s.pinGenerate d e) := State.runItem_ready he ha hp ho _
    rw [generate]
    cases hv : s.pinReference e with
    | none => rw [State.pinGenerate_malformed he hv]
    | some v => rw [State.pinGenerate_digits he hv]
  · rw [dukpt ho, State.dukptPin_malformed he hpin]
  · obtain ⟨p, hpost, hpart⟩ := State.dukptPin_drawn he hr hpin
    exact ⟨p, (dukpt ho).trans (congrArg _ hpost), hpart⟩

end Sys2Proof.Machine
end

section
/-! PROOFS. The MAC, EMV and card-code commands at stage 10 (03_command_model.md R133; 05_payment_functions.md R195 to R197, R219 to
R228). -/

namespace Sys2Proof.Machine

/-- A verification's answer, by the equality that it tests. -/
theorem State.answer_beq {d : Nat} {e : Entry} {s : State} (he : s.entOf d = some e) {α : Type} [DecidableEq α] [BEq α] [LawfulBEq α]
    (x y : α) :
    s.answer d (x == y) =
      s.setEnt d { e with phase := .finished ⟨if x = y then 0 else 1, [], [], e.post.guards⟩ } := by
  simp only [State.answer_held he, beq_iff_eq]

/-! ## DUKPT_MAC_VERIFY (R216 to R219) -/

/-- The PIN and request MAC keys that a DUKPT_MAC_VERIFY works with: those of its session, or those that its KSN derives. -/
def State.macKeys (s : State) (e : Entry) : Bytes × Bytes :=
  match e.sess with
  | some (_, x) => if (u8 e.desc 35).testBit 1 then (x.data.keys.getD 0 [], x.data.keys.getD 1 []) else ([], [])
  | none => dukptKeys (u8 e.desc 32) (u8 e.desc 33) (s.matOf e 0) (sub e.desc 36 12)

/-- The leftmost bytes of the MAC that a DUKPT_MAC_VERIFY compares. -/
def State.dukptMacValue (s : State) (e : Entry) : Bytes :=
  (if u8 e.desc 32 = 0 then mac3 (s.macKeys e).2 1 (e.inputs.headD []) else cmacB ⟨true, (s.macKeys e).2⟩ (e.inputs.headD [])).take
    (u8 e.desc 34)

theorem State.dukptMac_held {d : Nat} {e : Entry} {s : State} (he : s.entOf d = some e) :
    s.dukptMac d e = s.setEnt d { e with phase := .finished ⟨
        if s.dukptMacValue e == sub e.desc 56 (u8 e.desc 34) then 0 else 1, noHandle,
        if s.dukptMacValue e == sub e.desc 56 (u8 e.desc 34) && (u8 e.desc 35).testBit 0
          then [keepIntent e [(s.macKeys e).1, (s.macKeys e).2] (u8 e.desc 32) (u8 e.desc 33) []] else [],
        e.post.guards⟩ } :=
  State.doneWith_held he _ _ _

/-- A MAC that agrees under KEEP, and only that, opens a session (R197, R219). -/
theorem State.dukptMac_answers {d : Nat} {e : Entry} {s : State} (he : s.entOf d = some e) :
    ∃ p : Post, s.dukptMac d e = s.setEnt d { e with phase := .finished p } ∧
      p.status = (if s.dukptMacValue e = sub e.desc 56 (u8 e.desc 34) then 0 else 1) ∧ p.result = noHandle ∧
      p.guards = e.post.guards ∧ (p.intents ≠ [] ↔ p.status = 0 ∧ (u8 e.desc 35).testBit 0 = true) := by
  refine ⟨_, State.dukptMac_held he, ?_, rfl, rfl, ?_⟩
  · simp only [beq_iff_eq]
  · by_cases h : s.dukptMacValue e = sub e.desc 56 (u8 e.desc 34) <;> simp [h]

theorem State.dukptMacValue_derived (s : State) {e : Entry} (h : e.sess = none) (hv : u8 e.desc 32 ≠ 0) :
    s.dukptMacValue e = (cmacB ⟨true, (dukptKeys (u8 e.desc 32) (u8 e.desc 33) (s.matOf e 0) (sub e.desc 36 12)).2⟩
      (e.inputs.headD [])).take (u8 e.desc 34) := by
  simp only [State.dukptMacValue, State.macKeys, h, if_neg hv]

theorem State.dukptMacValue_derivedTdea (s : State) {e : Entry} (h : e.sess = none) (hv : u8 e.desc 32 = 0) :
    s.dukptMacValue e = (mac3 (dukptKeys 0 (u8 e.desc 33) (s.matOf e 0) (sub e.desc 36 12)).2 1
      (e.inputs.headD [])).take (u8 e.desc 34) := by
  simp only [State.dukptMacValue, State.macKeys, h, hv, if_true]

theorem State.dukptMacValue_session (s : State) {e : Entry} {i : Nat} {x : Sess} (h : e.sess = some (i, x))
    (hf : (u8 e.desc 35).testBit 1 = true) (hv : u8 e.desc 32 ≠ 0) :
    s.dukptMacValue e = (cmacB ⟨true, x.data.keys.getD 1 []⟩ (e.inputs.headD [])).take (u8 e.desc 34) := by
  simp only [State.dukptMacValue, State.macKeys, h, hf, if_neg hv, if_true]

/-! ## EMV_ARQC_VERIFY (R222 to R226) -/

/-- An ARQC that agrees is answered by the ARPC and, under KEEP, opens a session; one that does not is answered by zeros. -/
theorem State.emvVerify_answers {d : Nat} {e : Entry} {s : State} (he : s.entOf d = some e) :
    ∃ p : Post, s.emvVerify d e = s.setEnt d { e with phase := .finished p } ∧ p.guards = e.post.guards ∧
      (if emvMac (s.emvParts e).1 (s.emvParts e).2.1 (e.inputs.headD []) = (s.emvParts e).2.2
        then p.status = 0 ∧ p.result = s.arpc e ++ noHandle ∧ (p.intents ≠ [] ↔ (u8 e.desc 34).testBit 0 = true)
        else p.status = 1 ∧ p.result = zeros 8 ++ noHandle ∧ p.intents = []) := by
  by_cases h : emvMac (s.emvParts e).1 (s.emvParts e).2.1 (e.inputs.headD []) = (s.emvParts e).2.2
  · simp only [if_pos h]
    refine ⟨_, (if_pos h).trans (State.doneWith_held he _ _ _), rfl, rfl, rfl, ?_⟩
    simp
  · simp only [if_neg h]
    exact ⟨_, (if_neg h).trans (State.done_held he _ _), rfl, rfl, rfl, rfl⟩

/-- Settles O21. -/
theorem macEmvAndCardCodes : Obligations.MacEmvAndCardCodes := by
  unfold Obligations.MacEmvAndCardCodes
  intro d e s he ha hp
  refine ⟨fun ho => ?_, fun ho => ?_, fun ho => ?_, fun ho => ?_, fun ho => ?_, fun ho => ?_, fun ho => ?_⟩
  · have run : exec (.dukptMacVerify d) s = .next (s.dukptMac d e) := State.runItem_ready he ha hp ho _
    obtain ⟨p, hpost, hst, hres, hg, hint⟩ := State.dukptMac_answers he
    exact ⟨p, s.dukptMacValue e, run.trans (congrArg _ hpost), hst, hres, hg, s.dukptMacValue_derived,
      s.dukptMacValue_derivedTdea, fun _ _ => s.dukptMacValue_session, hint⟩
  · change execMacGenerate d s = _
    rw [execMacGenerate, State.runItem_ready he ha hp ho, State.done_held he]
  · change execMacVerify d s = _
    rw [execMacVerify, State.runItem_ready he ha hp ho, State.answer_beq he]
  · have run : exec (.emvArqcVerify d) s = .next (s.emvVerify d e) := State.runItem_ready he ha hp ho _
    obtain ⟨p, hpost, hpart⟩ := State.emvVerify_answers he
    exact ⟨p, run.trans (congrArg _ hpost), hpart⟩
  · change execEmvArpcGenerate d s = _
    rw [execEmvArpcGenerate, State.runItem_ready he ha hp ho, State.done_held he]
  · change execCvcGenerate d s = _
    rw [execCvcGenerate, State.runItem_ready he ha hp ho, State.done_held he]
  · change execCvcVerify d s = _
    rw [execCvcVerify, State.runItem_ready he ha hp ho, State.answer_beq he]

end Sys2Proof.Machine
end

section
/-! PROOFS. The start of an attempt as the dispatcher sees it, and the take port and the grants (03_command_model.md R123;
04_dispatch_and_release.md R142 to R152, R169). -/

namespace Sys2Proof.Machine

/-! ## The start of an attempt (R123, R150) -/

/-- What the dispatcher knows of an item: its state, its pier, whether it is on the replay list, and its attempt number. -/
def Entry.dispatch (e : Entry) : ISt × Option Nat × Bool × Nat := (e.st, e.pier, e.onReplay, e.attempt)

/-- From `s` to `t` the attempt of item `d` goes on: to the dispatcher the item is what it was, and what was sent stays sent. -/
structure Starts (d : Nat) (s t : State) : Prop where
  item : (t.entOf d).map Entry.dispatch = (s.entOf d).map Entry.dispatch
  sent : s.out <+: t.out

namespace Starts

variable {d : Nat} {s t u : State}

theorem refl (s : State) : Starts d s s := ⟨rfl, List.prefix_refl _⟩

theorem trans (h : Starts d s t) (k : Starts d t u) : Starts d s u := ⟨k.item.trans h.item, h.sent.trans k.sent⟩

theorem ite {c : Prop} [Decidable c] (ht : Starts d s t) (hu : Starts d s u) : Starts d s (if c then t else u) := by
  split
  · exact ht
  · exact hu

/-- What changes neither the Deck nor the messages sent. -/
theorem of_frame {l : List Part} (h : Frame l s t) (hd : .deck ∉ l := by decide) (ho : .out ∉ l := by decide) : Starts d s t := by
  have deck : t.deck = s.deck := h.same .deck hd
  have out : t.out = s.out := h.same .out ho
  exact ⟨by rw [State.entOf, deck, State.entOf], out ▸ List.prefix_refl _⟩

theorem setEnt {e e' : Entry} (he : s.entOf d = some e) (h : e'.dispatch = e.dispatch := by rfl) :
    Starts d s (s.setEnt d e') :=
  ⟨by rw [State.entOf_setEnt_same, he, Option.map_some, Option.map_some, h], List.prefix_refl _⟩

theorem modEnt (f : Entry → Entry) (s : State) (h : ∀ e, (f e).dispatch = e.dispatch := by intro; rfl) :
    Starts d s (s.modEnt d f) := by
  unfold State.modEnt
  split
  · exact setEnt ‹_› (h _)
  · exact refl s

theorem fail (st : Nat) (s : State) : Starts d s (s.fail d st) := modEnt ..

theorem emit (o : Out) (s : State) : Starts d s (s.emit o) := ⟨rfl, List.prefix_append ..⟩

end Starts

section
variable (d : Nat)

theorem State.startInput_starts (reads : List (Nat × Nat)) (s : State) : Starts d s (s.startInput d reads) := by
  unfold State.startInput
  split
  · exact .refl s
  · rename_i he
    split
    · exact .setEnt he
    · exact .ite (.fail ..) (.trans (.setEnt he) (.emit ..))

/-- The references are bound one after another (R276); a binding changes the key cache alone. -/
theorem State.bindFrom_starts (t2ok : Bool) (reads : List (Nat × Nat)) (i : Nat) (rs : List KRef) (s : State) :
    Starts d s (s.bindFrom d t2ok reads i rs) := by
  induction rs generalizing t2ok i s with
  | nil => exact s.startInput_starts d reads
  | cons r rs ih =>
    unfold State.bindFrom
    split
    · exact .refl s
    · extract_lets old ctx
      split
      · exact ih ..
      · have h := bindRef_framed ctx r s
        split <;> rename_i hb <;> rw [hb] at h <;> replace h := Starts.of_frame (d := d) h
        case h_1 ks u =>
          extract_lets hd _ v w
          split
          · exact (h.trans (.ite (.refl u) (.of_frame (l := [.keys]) (by simp [Frame])))).trans (.fail ..)
          · have pins : Starts d u v := .of_frame (Frame.foldl _ (fun t k => t.pinSlot_frame k) ks u)
            exact ((h.trans pins).trans (.modEnt ..)).trans (ih ..)
        case h_2 => exact h.trans (.fail ..)
        case h_3 | h_4 => exact h.trans (.modEnt ..)
        case h_5 => exact h.trans (.ite (.fail ..) (.trans (.modEnt ..) (.emit ..)))

theorem State.bindOn_starts (t2ok : Bool) (s : State) : Starts d s (s.bindOn d t2ok) := by
  unfold State.bindOn
  split
  · exact .refl s
  · exact State.bindFrom_starts ..

theorem State.stage8_starts (e : Entry) (b : Body) (s : State) : Starts d s (s.stage8 d e b) := by
  unfold State.stage8
  extract_lets
  refine .ite (.fail ..) ?_
  split
  · exact State.bindOn_starts ..
  · exact .ite (.fail ..) (.trans (.modEnt ..) (.ite (.fail ..) (State.bindOn_starts ..)))

/-- An attempt begins with the item's own entry; then it fails or its keys are bound. -/
theorem State.startItem_starts (s : State) : Starts d s (s.startItem d) := by
  unfold State.startItem
  split
  · exact .refl s
  · rename_i he
    extract_lets e t b
    refine .trans (t := t) (.setEnt he) ?_
    split
    · split
      · refine .ite (.fail ..) ?_
        split
        · exact .ite (.trans (.modEnt ..) (.fail ..)) (State.stage8_starts ..)
        · exact State.stage8_starts ..
      · exact .fail ..
    · exact .fail ..

end

/-! ## A grant (R149, R150) -/

/-- A pier reads as it was set, whatever the table. -/
theorem State.pierOf_setPier_listed (p : Nat) (x : PierSt) (s : State) (hx : x ≠ .idle) : (s.setPier p x).pierOf p = x := by
  unfold State.pierOf
  exact tblGet_tblSet_listed .idle p x s.dsp.piers hx

theorem State.pierOf_setPier_other (p q : Nat) (x : PierSt) (s : State) (hx : x ≠ .idle) (hq : p ≠ q) :
    (s.setPier p x).pierOf q = s.pierOf q := by
  unfold State.pierOf
  exact tblGet_tblSet_listed_other .idle p q x s.dsp.piers hx hq

/-- What a grant of item `d`, with entry `e`, to pier `p` makes of `s`. -/
structure Granted (p d : Nat) (e : Entry) (s t : State) : Prop where
  pier : t.pierOf p = .holding d
  pointer : t.dsp.pierPtr = (p + 1) % 128
  list : t.dsp.replayList = s.dsp.replayList
  item : ∃ e', t.entOf d = some e' ∧ e'.st = .running ∧ e'.pier = some p ∧ e'.onReplay = false ∧ e'.attempt = e.attempt
  handle : .handle p (handleOf d e) ∈ t.out
  frame : Frame [.dsp, .deck, .keys, .mi, .out] s t

/-- The pier holds the item before its attempt starts, and the start keeps what the dispatcher knows. -/
theorem State.grantTo_granted (p d : Nat) {e : Entry} {s : State} (he : s.entOf d = some e) : Granted p d e s (s.grantTo p d) := by
  simp only [State.grantTo, he]
  generalize hu : ((_ : State).setPier p _).emit _ = u
  have start : Frame startParts u (u.startItem d) := u.startItem_frame d
  have dsp : (u.startItem d).dsp = u.dsp := start.same .dsp (by decide)
  obtain ⟨item, sent⟩ := u.startItem_starts d
  have held : u.entOf d = some { e with st := .running, pier := some p, onReplay := false } := hu ▸ State.entOf_setEnt_same ..
  rw [held, Option.map_some, Option.map_eq_some_iff] at item
  obtain ⟨e', he', hd⟩ := item
  simp only [Entry.dispatch, Prod.mk.injEq] at hd
  refine ⟨?_, ?_, ?_, ⟨e', he', hd⟩, sent.subset ?_, Frame.trans (t := u) ?_ (start.mono (by decide))⟩
  · rw [State.pierOf, dsp, ← hu]
    exact State.pierOf_setPier_listed p _ _ nofun
  · rw [dsp, ← hu]
    rfl
  · rw [dsp, ← hu]
    rfl
  · rw [← hu]
    exact List.mem_append_right _ (List.mem_singleton_self _)
  · rw [← hu]
    simp [Frame]

/-! ## The pier and the item that a grant chooses (R142 to R146, R151) -/

/-- The pier granted is the first waiting one at or after the pointer (R151). -/
theorem rotPier_first {p i : Nat} {s : State} (hi : i < 128) (hp : (s.dsp.pierPtr + i) % 128 = p) (hw : s.pierOf p = .waiting)
    (first : ∀ j < i, s.pierOf ((s.dsp.pierPtr + j) % 128) ≠ .waiting) : execItemGrant.rotPier s = some p := by
  rw [execItemGrant.rotPier, List.find?_map, Option.map_eq_some_iff]
  refine ⟨i, List.find?_range_eq_some.2 ⟨?_, List.mem_range.2 hi, fun j hj => ?_⟩, hp⟩
  · simp [hp, hw]
  · simpa using first j hj

theorem earlier_either {a : Option (Nat × Entry)} {x y : Nat × Entry} (h : earlier a (some y) = some x) : a = some x ∨ x = y := by
  cases a with
  | none => exact .inr (Option.some.inj h).symm
  | some z =>
    simp only [earlier] at h
    split at h
    · exact .inr (Option.some.inj h).symm
    · exact .inl h

theorem foldl_earlier_mem (l : List (Nat × Entry)) (a : Option (Nat × Entry)) {x : Nat × Entry}
    (h : l.foldl (fun a x => earlier a (some x)) a = some x) : a = some x ∨ x ∈ l := by
  induction l generalizing a with
  | nil => exact .inl h
  | cons y l ih =>
    obtain hy | hl := ih _ h
    · exact (earlier_either hy).imp_right (List.mem_cons.2 ∘ .inl)
    · exact .inr (List.mem_cons_of_mem y hl)

theorem earliest_mem {l : List (Nat × Entry)} {x : Nat × Entry} (h : earliest l = some x) : x ∈ l :=
  (foldl_earlier_mem l none h).resolve_left nofun

/-- The loop of R145 takes an item of its own level. -/
theorem selectAt_level {items : List (Nat × Entry)} {weight : Nat → Nat} {lvl fuel : Nat} {sel sel' : Sel} {h : Nat × Entry}
    (hs : selectAt items weight lvl fuel sel = some (h, sel')) : h ∈ items ∧ h.2.prio = lvl := by
  induction fuel generalizing sel with
  | zero => cases hs
  | succ fuel ih =>
    unfold selectAt at hs
    extract_lets t k x at hs
    clear_value x
    split at hs
    · exact ih hs
    · rename_i hh
      split at hs
      · cases hs
        have hm := earliest_mem hh
        simp only [List.mem_filter, Bool.and_eq_true, beq_iff_eq] at hm
        exact ⟨hm.1, hm.2.1⟩
      · exact ih hs

/-- The first of the four levels that holds an item is the highest one. -/
theorem level_highest {items : List (Nat × Entry)} {l : Nat}
    (hl : [3, 2, 1, 0].find? (fun l => items.any (fun x => x.2.prio == l)) = some l) {y : Nat × Entry} (hy : y ∈ items)
    (h3 : y.2.prio ≤ 3) : y.2.prio ≤ l := by
  have any : items.any (fun x => x.2.prio == y.2.prio) = true := List.any_eq_true.2 ⟨y, hy, beq_self_eq_true _⟩
  generalize y.2.prio = n at any h3
  simp only [List.find?_cons, List.find?_nil] at hl
  grind

/-- A ready item that is taken has the highest level that a possible head has; taking it moves the selection's own state alone. -/
theorem State.selectReady_highest {d : Nat} {s u : State} (h : s.selectReady = some (d, u)) :
    (∃ x ∈ s.readyItems, x.1 = d ∧
      ∀ y ∈ s.readyItems, headAllowed (decide (s.longPiers < s.longMax)) y = true → y.2.prio ≤ 3 → y.2.prio ≤ x.2.prio) ∧
    Frame [.dsp] s u := by
  unfold State.selectReady at h
  extract_lets long items at h
  split at h
  · cases h
  · rename_i hl
    extract_lets sel at h
    split at h
    · cases h
    · rename_i x _ hsel
      cases h
      obtain ⟨hx, hlvl⟩ := selectAt_level hsel
      refine ⟨⟨x, (List.mem_filter.1 hx).1, rfl, fun y hy ha h3 => ?_⟩, by simp [Frame]⟩
      rw [hlvl]
      exact level_highest hl (List.mem_filter.2 ⟨hy, ha⟩) h3

/-! ## ITEM_GRANT and TAKE_PORT_READ (R149 to R152) -/

section
variable {p : Nat} {s : State} (hg : s.granting = true)
include hg

theorem execItemGrant_replay {d : Nat} {rest : List Nat} (hp : execItemGrant.rotPier s = some p) (hr : s.dsp.replayList = d :: rest) :
    exec .itemGrant s = .next (({ s with dsp.replayList := rest }).grantTo p d) := by
  change execItemGrant s = _
  simp [execItemGrant, hg, hp, hr]

theorem execItemGrant_ready {d : Nat} {u : State} (hp : execItemGrant.rotPier s = some p) (hr : s.dsp.replayList = [])
    (hw : s.reserve < s.waitingPiers) (hs : s.selectReady = some (d, u)) : exec .itemGrant s = .next (u.grantTo p d) := by
  change execItemGrant s = _
  simp [execItemGrant, hg, hp, hr, hs, Nat.not_le.2 hw]

/-- Piers in reserve are kept for replays (R151). -/
theorem execItemGrant_reserved (hr : s.dsp.replayList = []) (hw : s.waitingPiers ≤ s.reserve) : exec .itemGrant s = .next s := by
  change execItemGrant s = _
  cases hp : execItemGrant.rotPier s <;> simp [execItemGrant, hg, hp, hr, hw]

end

theorem takePortRead_waits (p : PierNo) (s : State) (hp : s.pierOf p = .idle) (hk : tblGet false s.dsp.parkNext p = false) :
    exec (.takePortRead p) s = .next (s.setPier p .waiting) := by
  simp [exec, execTakePortRead, hp, hk]

theorem takePortRead_parks (p : PierNo) (s : State) (hp : s.pierOf p = .idle) (hk : tblGet false s.dsp.parkNext p = true) :
    exec (.takePortRead p) s = .next { s with
      dsp.parkNext := tblSet false p false s.dsp.parkNext, dsp.piers := tblSet .idle p .parked s.dsp.piers } := by
  simp [exec, execTakePortRead, hp, hk, State.setPier]

/-- Settles O16. -/
theorem takePortsAndGrants : Obligations.TakePortsAndGrants := by
  unfold Obligations.TakePortsAndGrants
  refine ⟨takePortRead_waits, takePortRead_parks, fun p i d rest e s hg hi hp hw first hr he => ?replay,
    fun p i d e u s hg hi hp hw first hr hres hs he => ?ready, fun s hg hr hw => execItemGrant_reserved hg hr hw⟩
  case replay =>
    obtain ⟨pier, pointer, list, ⟨e', he', hrun, hpier, hlist, hatt⟩, handle, frame⟩ :=
      State.grantTo_granted p d (s := { s with dsp.replayList := rest }) he
    exact ⟨_, e', execItemGrant_replay hg (rotPier_first hi hp hw first) hr, pier, pointer, list, he', hrun, hpier, hlist, hatt,
      handle, Frame.trans (by simp [Frame]) frame⟩
  case ready =>
    obtain ⟨highest, taken⟩ := State.selectReady_highest hs
    have deck : u.deck = s.deck := taken.same .deck (by decide)
    have hu : u.entOf d = some e := by rw [State.entOf, deck, ← State.entOf, he]
    obtain ⟨pier, -, -, ⟨e', he', hrun, -⟩, handle, frame⟩ := State.grantTo_granted p d hu
    exact ⟨_, e', execItemGrant_ready hg (rotPier_first hi hp hw first) hr hres hs, pier, he', hrun, handle,
      (taken.mono (by decide)).trans frame, highest⟩

end Sys2Proof.Machine
end

section
/-! PROOFS. Faults and quarantine of piers, the replay of the item that a faulty pier held, and the monitors
(04_dispatch_and_release.md R153 to R156, R167, R169, R172, R175, R176). -/

namespace Sys2Proof.Machine

/-! ## An attempt that is dropped (R169, R170, R277) -/

/-- The entry of an item whose attempt is dropped: its pins are ended and its results gone, its staged inputs stay. -/
def Entry.dropped (e : Entry) : Entry :=
  { e with
    binds := e.binds.map (fun b => { b with slots := [] })
    phase := .idle, post := ⟨0, [], [], []⟩, fetched := [] }

section
variable {d : Nat} {e : Entry} {s : State} (he : s.entOf d = some e)
include he

theorem State.modEnt_held (f : Entry → Entry) : s.modEnt d f = s.setEnt d (f e) := by
  simp only [State.modEnt, he]

theorem State.entOf_modEnt_held (f : Entry → Entry) : (s.modEnt d f).entOf d = some (f e) := by
  rw [State.modEnt_held he]
  exact State.entOf_setEnt_same ..

theorem State.entOf_dropAttempt : (s.dropAttempt d).entOf d = some e.dropped := by
  have deck : (s.cancelReqs d).deck = s.deck := (s.cancelReqs_frame d).same .deck (by decide)
  have cancelled : (s.cancelReqs d).entOf d = some e := by rw [State.entOf, deck, ← State.entOf, he]
  have unpinned : ((s.cancelReqs d).endPins d).entOf d = some { e with binds := e.binds.map (fun b => { b with slots := [] }) } := by
    simp only [State.endPins, cancelled]
    exact State.entOf_setEnt_same ..
  exact State.entOf_modEnt_held unpinned _

end

/-- What the replay of an item without a proposal may change. -/
abbrev redispatchParts : List Part := reports [.dsp, .deck, .keys, .eng, .mi]

theorem State.dropAttempt_narrow (d : Nat) (s : State) : Frame [.deck, .keys, .eng, .out] s (s.dropAttempt d) :=
  (((s.cancelReqs_frame d).mono (by decide)).trans ((State.endPins_frame ..).mono (by decide))).trans
    ((State.modEnt_frame ..).mono (by decide))

/-! ## Re-dispatch and HELD (R169, R172) -/

/-- The entry of an item that is replayed by re-dispatch (R169). -/
def Entry.replayed (e : Entry) : Entry :=
  { e.dropped with attempt := e.attempt + 1, st := .ready, onReplay := true, replay := true, pier := none }

/-- A re-dispatched item stands at the tail of the replay list with one more attempt. -/
structure Redispatched (d : Nat) (e : Entry) (s t : State) : Prop where
  item : t.entOf d = some e.replayed
  dsp : t.dsp = { s.dsp with
    replayList := s.dsp.replayList ++ [d], cntReplay := s.dsp.cntReplay + 1, replayPtr := t.dsp.replayPtr }
  frame : Frame redispatchParts s t

theorem State.replayMove_eq (p : Option Nat) (s : State) :
    s.replayMove p = { s with dsp.replayPtr := (s.replayMove p).dsp.replayPtr } := by
  cases p <;> rfl

/-- An item that becomes HELD on what would be its third replay (R172). -/
structure HeldBack (d : Nat) (e : Entry) (s t : State) : Prop where
  item : ∃ e', t.entOf d = some e' ∧ e'.st = .held
  last : t.deck.heldLast = w32 (d + e.fn * 2 ^ 15 + 2 ^ 31)
  dsp : t.dsp = s.dsp

section
variable {d : Nat} {e : Entry} {s : State} (he : s.entOf d = some e)
include he

theorem State.entOf_holdItem : (s.holdItem d).entOf d = some { e with st := .held, pier := none, onReplay := false } := by
  have entries : (s.holdItem d).deck.ent = (s.setEnt d { e with st := .held, pier := none, onReplay := false }).deck.ent := by
    simp only [State.holdItem, he, State.event_keeps]
  rw [State.entOf, entries]
  exact State.entOf_setEnt_same ..

theorem State.holdItem_heldBack : HeldBack d e s (s.holdItem d) := by
  refine ⟨⟨_, State.entOf_holdItem he, rfl⟩, ?_, ?_⟩ <;> simp only [State.holdItem, he]
  simp only [State.event_keeps, State.setEnt_dsp]

theorem State.redispatch_replays (hr : e.st = .running) (ha : e.attempt < 2) : Redispatched d e s (s.redispatch d) := by
  have dropped := State.entOf_dropAttempt he
  have drop := s.dropAttempt_narrow d
  have dsp : (s.dropAttempt d).dsp = s.dsp := drop.same .dsp (by decide)
  simp only [State.redispatch, he, hr, if_neg (Nat.ne_of_lt ha)]
  generalize s.dropAttempt d = u at dropped drop dsp
  rw [State.modEnt_held (s := { u with dsp.cntReplay := u.dsp.cntReplay + 1 }) dropped, State.replayMove_eq]
  refine ⟨State.entOf_setEnt_same d _ u, ?_, ?_⟩
  · simp only [State.toReplay, State.setEnt_dsp, dsp]
  · refine (drop.mono (by decide)).trans (u := _) ?_
    simp [Frame, reports, State.toReplay]

/-- The attempt that a third replay would follow was the last (R172). -/
theorem State.redispatch_heldBack (hr : e.st = .running) (ha : e.attempt = 2) : HeldBack d e s (s.redispatch d) := by
  have dsp : (s.dropAttempt d).dsp = s.dsp := (s.dropAttempt_narrow d).same .dsp (by decide)
  simp only [State.redispatch, he, hr, ha, if_true]
  obtain ⟨item, last, hdsp⟩ := State.holdItem_heldBack (State.entOf_dropAttempt he)
  exact ⟨item, last, hdsp.trans dsp⟩

end

/-! ## Quarantine (R175, R176) -/

/-- A faulty pier is quarantined and counted, the event recorded and its local memory cleared. `item` is what the event names. -/
def State.quarantinePier (p cause item : Nat) (s : State) : State :=
  ((({ s with dsp.quar := tblSet 0 p (tblGet 0 s.dsp.quar p + 1) s.dsp.quar }).setPier p .quarantined).event
    (1024 + p / 8) 0x0401 p cause item (tblGet 0 s.dsp.quar p + 1)).clearInst .pierLocal p

section
variable (p cause item : Nat) (s : State)

theorem State.quarantinePier_dsp : (s.quarantinePier p cause item).dsp = { s.dsp with
    quar := tblSet 0 p (tblGet 0 s.dsp.quar p + 1) s.dsp.quar, piers := tblSet .idle p .quarantined s.dsp.piers } := by
  simp [State.quarantinePier]

theorem State.quarantinePier_deck : (s.quarantinePier p cause item).deck = s.deck := by
  simp [State.quarantinePier]

theorem State.quarantinePier_frame : Frame (reports [.dsp, .mi]) s (s.quarantinePier p cause item) := by
  simp [Frame, reports, State.quarantinePier]

theorem State.pierOf_quarantinePier : (s.quarantinePier p cause item).pierOf p = .quarantined := by
  rw [State.pierOf, State.quarantinePier_dsp]
  exact State.pierOf_setPier_listed p _ s nofun

theorem State.pierOf_quarantinePier_other {q : Nat} (h : p ≠ q) : (s.quarantinePier p cause item).pierOf q = s.pierOf q := by
  rw [State.pierOf, State.quarantinePier_dsp]
  exact State.pierOf_setPier_other p q _ s nofun h

theorem State.quar_quarantinePier : tblGet 0 (s.quarantinePier p cause item).dsp.quar p = tblGet 0 s.dsp.quar p + 1 := by
  rw [State.quarantinePier_dsp]
  exact tblGet_tblSet_listed 0 p _ _ (Nat.succ_ne_zero _)

end

/-- A fault of a pier that holds an item, before its third quarantine, quarantines it and re-dispatches the item (R167, R175). -/
theorem State.pierFails_holding {p d : Nat} (cause : Nat) {s : State} (hp : s.pierOf p = .holding d) (hq : tblGet 0 s.dsp.quar p < 2) :
    s.pierFails p cause = (s.quarantinePier p cause d).redispatch d := by
  simp only [State.pierFails, hp]
  exact if_neg (by omega)

/-- The third quarantine of a pier without an item keeps it out (R176). -/
theorem State.pierFails_third {p : Nat} (cause : Nat) {s : State} (hp : s.pierOf p = .idle ∨ s.pierOf p = .waiting)
    (hq : tblGet 0 s.dsp.quar p = 2) :
    s.pierFails p cause = (s.quarantinePier p cause 0xFFFFFFFF).keepOutPier p 2 := by
  obtain hp | hp := hp <;>
  · simp only [State.pierFails, hp]
    exact if_pos (by omega)

/-! ## Piers kept out (R176, R177) -/

/-- At most one pier more is out where no other pier changed. -/
theorem State.piersOut_le {s t : State} (p : Nat) (h : ∀ q, p ≠ q → t.pierOf q = s.pierOf q) : t.piersOut ≤ s.piersOut + 1 := by
  have sub : (List.range 128).filter (fun q => t.pierOf q == .out) ⊆ p :: (List.range 128).filter (fun q => s.pierOf q == .out) := by
    intro q hq
    by_cases hpq : p = q
    · exact hpq ▸ List.mem_cons_self
    · exact List.mem_cons_of_mem p (by simpa [h q hpq] using hq)
  exact ((List.nodup_range.filter _).subperm sub).length_le

/-- While another pier is left, a pier is kept out without a module reset (R177). -/
theorem State.keepOutPier_out {p cause : Nat} {s : State} (h : (s.setPier p .out).piersOut < 128) :
    s.keepOutPier p cause = (s.setPier p .out).event (1024 + p / 8) 0x0403 p cause 0 0 := by
  have count : ((s.setPier p .out).event (1024 + p / 8) 0x0403 p cause 0 0).piersOut = (s.setPier p .out).piersOut := by
    simp only [State.piersOut, State.pierOf, State.event_keeps]
  exact if_neg (by omega)

/-- What keeping pier `p` out does to `s` while another pier is left. -/
structure KeptOut (p : Nat) (s t : State) : Prop where
  pier : t.pierOf p = .out
  deck : t.deck = s.deck
  frame : Frame (reports [.dsp]) s t

theorem State.keepOutPier_keptOut {p cause : Nat} {s : State} (h : (s.setPier p .out).piersOut < 128) :
    KeptOut p s (s.keepOutPier p cause) := by
  rw [State.keepOutPier_out h]
  refine ⟨?_, by simp, ((s.setPier_frame p .out).mono (by decide)).trans ((State.event_frame ..).mono (by decide))⟩
  simp only [State.pierOf, State.event_keeps]
  exact State.pierOf_setPier_listed p .out s nofun

/-- The bound that R177 counts against, for a pier that is kept out of `t` when only that pier has changed since `s`. -/
theorem State.piersOut_setPier {p : Nat} {s t : State} (h : ∀ q, p ≠ q → t.pierOf q = s.pierOf q) (hs : s.piersOut < 127) :
    (t.setPier p .out).piersOut < 128 := by
  have := State.piersOut_le p fun q hq => (t.pierOf_setPier_other p q .out nofun hq).trans (h q hq)
  omega

/-! ## PIER_FAULT (R167, R172, R175, R176) -/

section
variable {p : PierNo} {d : Nat} {e : Entry} {s : State}

/-- The item of a pier that is quarantined is still in the Deck. -/
theorem State.entOf_quarantinePier (p cause item : Nat) (he : s.entOf d = some e) :
    (s.quarantinePier p cause item).entOf d = some e := by
  rw [State.entOf, State.quarantinePier_deck, ← State.entOf, he]

theorem pierFault_replays (m : Bool) (hp : s.pierOf p = .holding d) (he : s.entOf d = some e) (hr : e.st = .running)
    (ha : e.attempt < 2) (hq : tblGet 0 s.dsp.quar p < 2) :
    ∃ (t : State) (e' : Entry), exec (.pierFault p m) s = .next t ∧ t.pierOf p = .quarantined ∧
      tblGet 0 t.dsp.quar p = tblGet 0 s.dsp.quar p + 1 ∧ t.entOf d = some e' ∧ e'.st = .ready ∧ e'.onReplay = true ∧
      e'.replay = true ∧ e'.attempt = e.attempt + 1 ∧ e'.desc = e.desc ∧ t.dsp.replayList = s.dsp.replayList ++ [d] ∧
      t.dsp.cntReplay = s.dsp.cntReplay + 1 ∧ Frame (reports [.dsp, .deck, .keys, .eng, .mi]) s t := by
  obtain ⟨item, dsp, frame⟩ := State.redispatch_replays (State.entOf_quarantinePier p (b2n m) d he) hr ha
  refine ⟨_, e.replayed, congrArg Host.Outcome.next (State.pierFails_holding _ hp hq), ?_, ?_, item, rfl, rfl, rfl, rfl, rfl, ?_, ?_,
    ((State.quarantinePier_frame ..).mono (by decide)).trans frame⟩
  · rw [State.pierOf, dsp]
    exact State.pierOf_quarantinePier ..
  · rw [dsp]
    exact State.quar_quarantinePier ..
  · rw [dsp, State.quarantinePier_dsp]
  · rw [dsp, State.quarantinePier_dsp]

theorem pierFault_heldBack (m : Bool) (hp : s.pierOf p = .holding d) (he : s.entOf d = some e) (hr : e.st = .running)
    (ha : e.attempt = 2) (hq : tblGet 0 s.dsp.quar p < 2) :
    ∃ (t : State) (e' : Entry), exec (.pierFault p m) s = .next t ∧ t.pierOf p = .quarantined ∧ t.entOf d = some e' ∧ e'.st = .held ∧
      t.dsp.replayList = s.dsp.replayList ∧ t.deck.heldLast = w32 (d + e.fn * 2 ^ 15 + 2 ^ 31) := by
  obtain ⟨⟨e', he', held⟩, last, dsp⟩ := State.redispatch_heldBack (State.entOf_quarantinePier p (b2n m) d he) hr ha
  refine ⟨_, e', congrArg Host.Outcome.next (State.pierFails_holding _ hp hq), ?_, he', held, ?_, last⟩
  · rw [State.pierOf, dsp]
    exact State.pierOf_quarantinePier ..
  · rw [dsp, State.quarantinePier_dsp]

theorem pierFault_keptOut (m : Bool) (hp : s.pierOf p = .idle ∨ s.pierOf p = .waiting) (hq : tblGet 0 s.dsp.quar p = 2)
    (ho : s.piersOut < 127) :
    ∃ t : State, exec (.pierFault p m) s = .next t ∧ t.pierOf p = .out ∧ t.deck = s.deck ∧ Frame (reports [.dsp, .mi]) s t := by
  have bound := State.piersOut_setPier (fun _ => s.pierOf_quarantinePier_other p (b2n m) 0xFFFFFFFF) ho
  obtain ⟨pier, deck, frame⟩ := State.keepOutPier_keptOut (cause := 2) bound
  exact ⟨_, congrArg Host.Outcome.next (State.pierFails_third _ hp hq), pier, deck.trans (State.quarantinePier_deck ..),
    (State.quarantinePier_frame ..).trans (frame.mono (by decide))⟩

/-! ## The monitors and the self-test (R153 to R156, R175, R176) -/

/-- Outside monitored waits the watchdog and the stall monitor are pier faults, counted (R153, R155). -/
theorem monitors_fault (hp : s.pierOf p = .holding d) (he : s.entOf d = some e) (h3 : e.cls ≠ 3) (h4 : e.cls ≠ 4)
    (hb : ∀ a, e.phase ≠ .binding a) (hi : ∀ l, e.phase ≠ .input l) :
    exec (.itemWatchdogExpiry p) s = .next (s.countWdog.pierFails p 3) ∧
    exec (.pierStallDetect p) s = .next (s.countWdog.pierFails p 2) := by
  change execItemWatchdogExpiry p s = _ ∧ execPierStallDetect p s = _
  simp only [execItemWatchdogExpiry, execPierStallDetect, hp, he, h3, h4]
  cases hph : e.phase with
  | binding a => exact absurd hph (hb a)
  | input l => exact absurd hph (hi l)
  | _ => simp

/-- In the wait of a binding neither monitor acts (R154). -/
theorem monitors_wait {a : Option Nat} (hp : s.pierOf p = .holding d) (he : s.entOf d = some e) (hb : e.phase = .binding a) :
    exec (.itemWatchdogExpiry p) s = .next s ∧ exec (.pierStallDetect p) s = .next s := by
  simp [exec, execItemWatchdogExpiry, execPierStallDetect, hp, he, hb]

theorem pierSelfTestEnd_passed (hp : s.pierOf p = .quarantined) :
    exec (.pierSelfTestEnd p true) s = .next ((s.event (1024 + p.val / 8) 0x0402 p 0 0 0).setPier p .idle) := by
  simp [exec, execPierSelfTestEnd, hp, b2n]

theorem pierSelfTestEnd_failed (hp : s.pierOf p = .quarantined) (ho : s.piersOut < 127) :
    ∃ t : State, exec (.pierSelfTestEnd p false) s = .next t ∧ t.pierOf p = .out ∧ Frame (reports [.dsp]) s t := by
  have hx : exec (.pierSelfTestEnd p false) s = .next ((s.event (1024 + p.val / 8) 0x0402 p 1 0 0).keepOutPier p 1) := by
    simp [exec, execPierSelfTestEnd, hp, b2n]
  have piers : ∀ q, (s.event (1024 + p.val / 8) 0x0402 p 1 0 0).pierOf q = s.pierOf q := fun q => by
    simp only [State.pierOf, State.event_keeps]
  obtain ⟨pier, -, frame⟩ := State.keepOutPier_keptOut (cause := 1) (State.piersOut_setPier (fun q _ => piers q) ho)
  exact ⟨_, hx, pier, ((State.event_frame ..).mono (by decide)).trans frame⟩

end

section
variable {d : Idx} {e : Entry} {s : State} (he : s.entOf d = some e) (ha : e.active = true)
include he ha

/-- The step monitor's fault of a bulk item is an overrun of its pier (R156). -/
theorem stepMonitorFault_bulk {p : Nat} (hc : e.cls = 4) (hp : e.pier = some p) :
    exec (.stepMonitorFault d) s = .next (s.countWdog.pierFails p 3) := by
  simp [exec, execStepMonitorFault, he, ha, hc, hp]

/-- Of a public-key item it is a fault of the engine that holds the item's request (R156). -/
theorem stepMonitorFault_engine {n : Nat} (hc : e.cls = 3)
    (hn : (List.range 48).find? (fun n => (s.engOf (48 + n)).q.any (fun y => y.req.deckIdx == d.val)) = some n) :
    exec (.stepMonitorFault d) s = .next (s.engFails (48 + n) 4) := by
  simp [exec, execStepMonitorFault, he, ha, hc, hn]

end

/-- Settles O19. -/
theorem pierFaultsAndMonitors : Obligations.PierFaultsAndMonitors := by
  unfold Obligations.PierFaultsAndMonitors
  exact ⟨fun _ m _ _ _ hp he hr ha hq => pierFault_replays m hp he hr ha hq,
    fun _ m _ _ _ hp he hr ha hq => pierFault_heldBack m hp he hr ha hq,
    fun _ m _ hp hq ho => pierFault_keptOut m hp hq ho,
    fun _ _ _ _ hp he h3 h4 hb hi => monitors_fault hp he h3 h4 hb hi,
    fun _ _ _ _ _ hp he hb => monitors_wait hp he hb,
    fun _ _ hp => pierSelfTestEnd_passed hp,
    fun _ _ hp ho => pierSelfTestEnd_failed hp ho,
    fun _ _ _ _ he ha hc hp => stepMonitorFault_bulk he ha hc hp,
    fun _ _ _ _ he ha hc hn => stepMonitorFault_engine he ha hc hn⟩

end Sys2Proof.Machine
end

section
/-! PROOFS. FPE_FF1, XTS_SECTOR and the expiry of sessions at stage 10 (05_payment_functions.md R198, R229 to R233). -/

namespace Sys2Proof.Machine

/-! ## Numeral strings (R230) -/

/-- The number of a numeral string is the library's, whose digits stand least significant first. -/
theorem numR_eq_ofDigits (radix : Nat) (x : List Nat) : numR radix x = Nat.ofDigits radix x.reverse := by
  simp only [numR, Nat.ofDigits_eq_foldr, List.foldr_reverse, Nat.cast_id, Nat.add_comm, Nat.mul_comm]

theorem numR_lt {radix : Nat} (hr : 2 ≤ radix) {x : List Nat} (hx : ∀ c ∈ x, c < radix) : numR radix x < radix ^ x.length := by
  rw [numR_eq_ofDigits, ← List.length_reverse]
  exact Nat.ofDigits_lt_base_pow_length hr fun c hc => hx c (List.mem_reverse.1 hc)

@[simp] theorem strR_length (radix n a : Nat) : (strR radix n a).length = n := by
  induction n generalizing a with
  | zero => rfl
  | succ n ih => rw [strR, List.length_cons, ih]

theorem strR_ofDigits {radix : Nat} (x : List Nat) (hx : ∀ c ∈ x, c < radix) :
    strR radix x.length (Nat.ofDigits radix x) = x := by
  induction x with
  | nil => rfl
  | cons c x ih =>
    obtain ⟨hc, hx⟩ := List.forall_mem_cons.1 hx
    have hmod : (c + radix * Nat.ofDigits radix x) % radix = c := by rw [Nat.add_mul_mod_self_left, Nat.mod_eq_of_lt hc]
    have hdiv : (c + radix * Nat.ofDigits radix x) / radix = Nat.ofDigits radix x := by
      rw [Nat.add_mul_div_left _ _ (Nat.zero_lt_of_lt hc), Nat.div_eq_of_lt hc, Nat.zero_add]
    rw [Nat.ofDigits_cons, List.length_cons, strR, hmod, hdiv, ih hx]

theorem ofDigits_strR {radix : Nat} (n a : Nat) (ha : a < radix ^ n) : Nat.ofDigits radix (strR radix n a) = a := by
  induction n generalizing a with
  | zero => exact (Nat.lt_one_iff.1 ha).symm
  | succ n ih =>
    rw [strR, Nat.ofDigits_cons, ih _ (Nat.div_lt_of_lt_mul (by rwa [← Nat.pow_succ'])), Nat.mod_add_div]

/-- A string of digits is the string of its number. -/
theorem strR_numR {radix : Nat} (x : List Nat) (hx : ∀ c ∈ x, c < radix) : (strR radix x.length (numR radix x)).reverse = x := by
  have h := strR_ofDigits x.reverse fun c hc => hx c (List.mem_reverse.1 hc)
  rw [List.length_reverse] at h
  rw [numR_eq_ofDigits, h, List.reverse_reverse]

/-- A number that fits in `n` digits is the number of its string. -/
theorem numR_strR {radix n a : Nat} (ha : a < radix ^ n) : numR radix (strR radix n a).reverse = a := by
  rw [numR_eq_ofDigits, List.reverse_reverse, ofDigits_strR n a ha]

/-! ## The rounds of FF1 (R230) -/

/-- The length of the half that round `i` replaces. -/
def ff1Half (n i : Nat) : Nat := if i % 2 = 0 then n / 2 else n - n / 2

theorem ff1Half_add_two (n i : Nat) : ff1Half n (i + 1 + 1) = ff1Half n i := by
  simp only [ff1Half, Nat.add_assoc, Nat.add_mod_right]

/-- The halves before round `i` fit their lengths. -/
def HalvesFit (radix n i : Nat) (ab : Nat × Nat) : Prop := ab.1 < radix ^ ff1Half n i ∧ ab.2 < radix ^ ff1Half n (i + 1)

/-- Taking y away mod m undoes adding it. -/
theorem add_sub_mod_undo {m a : Nat} (y : Nat) (ha : a < m) : ((a + y) % m + (m - y % m)) % m = a := by
  have hy : y % m < m := Nat.mod_lt _ (Nat.zero_lt_of_lt ha)
  have hsum : a + y + (m - y % m) = a + m * (y / m + 1) := by
    have := Nat.mod_add_div y m
    rw [Nat.mul_add, Nat.mul_one]
    omega
  rw [Nat.mod_add_mod, hsum, Nat.add_mul_mod_self_left, Nat.mod_eq_of_lt ha]

section
variable (key tweak : Bytes) {radix n : Nat}

theorem ff1Step_fits {i : Nat} {ab : Nat × Nat} (h : HalvesFit radix n i ab) :
    HalvesFit radix n (i + 1) (ff1Step true key tweak radix n ab i) := by
  obtain ⟨ha, hb⟩ := h
  refine ⟨hb, ?_⟩
  rw [ff1Half_add_two]
  exact Nat.mod_lt _ (Nat.zero_lt_of_lt ha)

/-- A round of decryption undoes the same round of encryption: the half that it needs for y is left alone. -/
theorem ff1Step_undoes {i : Nat} {ab : Nat × Nat} (h : HalvesFit radix n i ab) :
    ff1Step false key tweak radix n (ff1Step true key tweak radix n ab i) i = ab := by
  obtain ⟨ha, -⟩ := h
  exact Prod.ext (add_sub_mod_undo (ff1Y key tweak radix n i ab.2) ha) rfl

/-- The halves of a string before or after `k` rounds of encryption, and their decryption in the reverse order. -/
theorem ff1Rounds_undo (k : Nat) {ab : Nat × Nat} (h : HalvesFit radix n 0 ab) :
    HalvesFit radix n k ((List.range k).foldl (ff1Step true key tweak radix n) ab) ∧
      (List.range k).reverse.foldl (ff1Step false key tweak radix n)
        ((List.range k).foldl (ff1Step true key tweak radix n) ab) = ab := by
  induction k with
  | zero => exact ⟨h, rfl⟩
  | succ k ih =>
    obtain ⟨fits, undone⟩ := ih
    simp only [List.range_succ, List.foldl_append, List.foldl_cons, List.foldl_nil, List.reverse_append, List.reverse_cons,
      List.reverse_nil, List.nil_append, ff1Step_undoes key tweak fits]
    exact ⟨ff1Step_fits key tweak fits, undone⟩

end

/-- The halves of a string of digits. -/
theorem halvesFit_numR {radix : Nat} (hr : 2 ≤ radix) {x : List Nat} (hx : ∀ c ∈ x, c < radix) :
    HalvesFit radix x.length 0 (numR radix (x.take (x.length / 2)), numR radix (x.drop (x.length / 2))) := by
  have htake := numR_lt hr fun c hc => hx c (List.mem_of_mem_take (i := x.length / 2) hc)
  have hdrop := numR_lt hr fun c hc => hx c (List.mem_of_mem_drop (i := x.length / 2) hc)
  rw [List.length_take_of_le (Nat.div_le_self _ _)] at htake
  rw [List.length_drop] at hdrop
  exact ⟨htake, hdrop⟩

/-- The string of two halves as numbers, the first of half the length. -/
def joinHalves (radix n : Nat) (ab : Nat × Nat) : List Nat :=
  (strR radix (n / 2) ab.1).reverse ++ (strR radix (n - n / 2) ab.2).reverse

theorem joinHalves_length (radix n : Nat) (ab : Nat × Nat) : (joinHalves radix n ab).length = n := by
  simp only [joinHalves, List.length_append, List.length_reverse, strR_length]
  omega

theorem numR_take_joinHalves {radix n : Nat} {ab : Nat × Nat} (h : ab.1 < radix ^ (n / 2)) :
    numR radix ((joinHalves radix n ab).take (n / 2)) = ab.1 := by
  rw [joinHalves, List.take_left' (by simp), numR_strR h]

theorem numR_drop_joinHalves {radix n : Nat} {ab : Nat × Nat} (h : ab.2 < radix ^ (n - n / 2)) :
    numR radix ((joinHalves radix n ab).drop (n / 2)) = ab.2 := by
  rw [joinHalves, List.drop_left' (by simp), numR_strR h]

theorem joinHalves_numR {radix : Nat} {x : List Nat} (hx : ∀ c ∈ x, c < radix) :
    joinHalves radix x.length (numR radix (x.take (x.length / 2)), numR radix (x.drop (x.length / 2))) = x := by
  have htake := strR_numR _ fun c hc => hx c (List.mem_of_mem_take (i := x.length / 2) hc)
  have hdrop := strR_numR _ fun c hc => hx c (List.mem_of_mem_drop (i := x.length / 2) hc)
  rw [List.length_take_of_le (Nat.div_le_self _ _)] at htake
  rw [List.length_drop] at hdrop
  rw [joinHalves, htake, hdrop, List.take_append_drop]

/-- FF1 decryption undoes FF1 encryption (R230). -/
theorem ff1_undoes (key tweak : Bytes) {radix : Nat} (hr : 2 ≤ radix) {x : List Nat} (hx : ∀ c ∈ x, c < radix) :
    ff1 false key tweak radix (ff1 true key tweak radix x) = x := by
  obtain ⟨⟨hfst, hsnd⟩, undone⟩ := ff1Rounds_undo key tweak 10 (halvesFit_numR hr hx)
  have henc : ff1 true key tweak radix x = joinHalves radix x.length ((List.range 10).foldl (ff1Step true key tweak radix x.length)
      (numR radix (x.take (x.length / 2)), numR radix (x.drop (x.length / 2)))) := rfl
  have hdec (y : List Nat) (hy : y.length = x.length) : ff1 false key tweak radix y =
      joinHalves radix x.length ((List.range 10).reverse.foldl (ff1Step false key tweak radix x.length)
        (numR radix (y.take (x.length / 2)), numR radix (y.drop (x.length / 2)))) := by
    rw [← hy]
    rfl
  rw [henc, hdec _ (joinHalves_length ..), numR_take_joinHalves hfst, numR_drop_joinHalves hsnd, undone, joinHalves_numR hx]

/-! ## FPE_FF1 and XTS_SECTOR (R229 to R233) -/

/-- XTS_SECTOR refuses a key with equal halves; otherwise it returns the body's data units (R233). -/
theorem State.xtsSector_held {d : Nat} {e : Entry} {s : State} (he : s.entOf d = some e) :
    s.xtsSector d e = s.setEnt d { e with phase := .finished (if equalHalves (s.matOf e 0)
      then ⟨stKeyUsage, [], [], e.post.guards⟩
      else ⟨0, xtsUnits (u8 e.desc 32 == 0) (s.matOf e 0) (fld e.desc 40 16) (blocks (fld e.desc 36 4) (e.inputs.headD [])), [],
        e.post.guards⟩) } := by
  cases h : equalHalves (s.matOf e 0)
  · simp only [State.xtsSector, h, Bool.false_eq_true, if_false, State.done_held he]
  · simp only [State.xtsSector, h, if_true, State.fail_held he]

/-! ## The expiry of a session (R198) -/

theorem State.closeSess_frame (k : Nat) (s : State) : Frame [.pay] s (s.closeSess k) := by simp [Frame]

theorem execSessionExpiry_open {f : Fn} {i : Fin 4096} {x : Sess} {s : State}
    (h : tblGet none s.pay.sess (4096 * f.val + i.val) = some x) :
    exec (.sessionExpiry f i) s = .next ((s.advance x.expiry).closeSess (4096 * f.val + i.val)) := by
  change execSessionExpiry f i s = _
  simp only [execSessionExpiry, h]

/-- The session closes, at its expiry time, and no other does. -/
theorem sessionExpiry_closes {f : Fn} {i : Fin 4096} {x : Sess} {s : State}
    (h : tblGet none s.pay.sess (4096 * f.val + i.val) = some x) (hw : tblWf none s.pay.sess) :
    ∃ t : State, exec (.sessionExpiry f i) s = .next t ∧ tblGet none t.pay.sess (4096 * f.val + i.val) = none ∧
      (∀ k, k ≠ 4096 * f.val + i.val → tblGet none t.pay.sess k = tblGet none s.pay.sess k) ∧ t.pay.inc = s.pay.inc ∧
      t.now = max s.now x.expiry ∧ Frame [.pay, .time] s t := by
  have hpay : (s.advance x.expiry).pay = s.pay := (s.advance_frame _).same .pay (by decide)
  refine ⟨_, execSessionExpiry_open h, ?_, fun k hk => ?_, ?_, ?_, ?_⟩
  · rw [State.closeSess_pay, hpay, tblGet_tblSet_same _ _ _ _ hw]
  · rw [State.closeSess_pay, hpay, tblGet_tblSet _ _ _ _ _ hw, if_neg hk.symm]
  · rw [State.closeSess_pay, hpay]
  · rw [State.closeSess_now, State.advance_now]
  · exact ((s.advance_frame _).mono (by decide)).trans ((State.closeSess_frame ..).mono (by decide))

/-- Settles O22. -/
theorem formatPreservingXtsAndSessions : Obligations.FormatPreservingXtsAndSessions := by
  unfold Obligations.FormatPreservingXtsAndSessions
  refine ⟨fun d e s he ha hp ho => ?_, fun d e s he ha hp ho => ?_, fun key tweak _ _ hr _ hx => ff1_undoes key tweak hr hx,
    fun _ _ _ _ h hw => sessionExpiry_closes h hw⟩
  · have run : exec (.fpeFf1 d) s = .next (s.fpe d e) := State.runItem_ready he ha hp ho _
    exact run.trans (congrArg _ (State.done_held he _ _))
  · have run : exec (.xtsSector d) s = .next (s.xtsSector d e) := State.runItem_ready he ha hp ho _
    exact run.trans (congrArg _ (State.xtsSector_held he))

end Sys2Proof.Machine
end

section
/-! PROOFS. The public-key, random and administration items at stage 10 (05_payment_functions.md R234 to R239; 06_key_hierarchy.md
R259, R285; 08_public_key_engines.md R343; 09_random_numbers.md R394; 15_management_and_officers.md R597). -/

namespace Sys2Proof.Machine

/-! ## What a draw leaves of an operation's inputs -/

/-- The material of a bound key rests on the key cache alone. -/
theorem State.matOf_congr {s u : State} (h : u.keys = s.keys) (e : Entry) (i : Nat) : u.matOf e i = s.matOf e i := by
  have hm : u.slotMat = s.slotMat := funext fun k => by simp only [State.slotMat, h]
  simp only [State.matOf, hm]

section
variable {n : Nat} {s u : State} {r : Bytes} (hr : Drawn n s r u) (e : Entry)
include hr

theorem Drawn.matOf (i : Nat) : u.matOf e i = s.matOf e i := State.matOf_congr (hr.frame.same .keys (by decide)) e i

theorem Drawn.signature (b : Bytes) : u.signature e b = s.signature e b := by simp only [State.signature, hr.matOf]

theorem Drawn.agreement : u.agreement e = s.agreement e := by simp only [State.agreement, hr.matOf]

end

/-! ## The end of a public-key operation (R343, R353) -/

theorem State.pkEnd_posts {d : Nat} {e : Entry} {s : State} (he : s.entOf d = some e) {r : PkRes} {p : Post}
    (h : pkPost e.post.guards r = some p) : s.pkEnd d r = s.setEnt d { e with phase := .finished p } := by
  cases r with
  | out b =>
    cases h
    exact State.done_held he 0 b
  | key mat pub =>
    cases h
    exact State.done_held he 0 []
  | verdict yes =>
    cases h
    exact State.answer_held he yes
  | check st =>
    cases h
    exact State.fail_held he st
  | retry => cases h

/-- A request that is placed again leaves the item as it is (R353). -/
theorem State.pkEnd_again {g : List Guard} {r : PkRes} (h : pkPost g r = none) (d : Nat) (s : State) : s.pkEnd d r = s := by
  cases r with
  | retry => rfl
  | _ => cases h

/-! ## New blobs (R259, R285) -/

theorem State.nextIv_frame (s : State) : Frame (reports [.keys, .anc]) s s.nextIv.2 := by
  have count : Frame [.keys] s { s with keys.ivCount := s.keys.ivCount + 1 } := by simp [Frame]
  unfold State.nextIv
  dsimp only
  split
  · exact (count.mono (by decide)).trans ((State.ancWrite_frame ..).mono (by decide))
  · exact count.mono (by decide)

theorem State.sealParts_frame (h : HdrNew) (parent : Bytes) (i : Nat) (ms : List Bytes) (s : State) :
    Frame (reports [.keys, .anc]) s (s.sealParts h parent i ms).2 := by
  induction ms generalizing i s with
  | nil => exact .refl _ s
  | cons m ms ih => exact s.nextIv_frame.trans (ih (i + 1) s.nextIv.2)

theorem State.newBlob_frame (e : Entry) (ref pidx : Nat) (h : HdrNew) (mat : Bytes) (s : State) :
    Frame (reports [.keys, .anc]) s (s.newBlob e ref pidx h mat).2 := State.sealParts_frame ..

/-- An item that draws and seals a new key, and then ends with OK and the result `b`. -/
theorem State.newBlob_done {n d : Nat} {e : Entry} {s u : State} {r : Bytes} (hr : Drawn n s r u) (he : s.entOf d = some e)
    (ref pidx : Nat) (h : HdrNew) (mat b : Bytes) :
    ∃ p : Post, ((u.newBlob e ref pidx h mat).2.done d 0 b).entOf d = some { e with phase := .finished p } ∧ p.status = 0 ∧
      p.intents = [] ∧ p.result = b ∧ Frame (reports [.deck, .keys, .rng, .anc]) s ((u.newBlob e ref pidx h mat).2.done d 0 b) := by
  have blob := u.newBlob_frame e ref pidx h mat
  have held : (u.newBlob e ref pidx h mat).2.entOf d = some e := by
    rw [State.entOf, blob.same .deck (by decide)]
    exact (hr.entOf d).trans he
  rw [State.done_held held]
  exact ⟨_, State.entOf_setEnt_same .., rfl, rfl, rfl,
    (hr.frame.mono (by decide)).trans ((blob.mono (by decide)).trans ((State.setEnt_frame ..).mono (by decide)))⟩

/-! ## The items that draw (R235 to R239) -/

section
variable {d : Nat} {e : Entry} {s u : State} {r : Bytes}

theorem State.pkSign_drawn (hr : Drawn (signDraw e.desc) s r u) : s.pkSign d e = u.pkEnd d (s.signature e r) := by
  rw [State.pkSign, State.withDraw_drawn hr, hr.signature]

theorem State.pkEcdh_key {mat pub : Bytes} (hr : Drawn (blindLen (u8 e.desc 32)) s r u) (hk : s.agreement e = .key mat pub) :
    s.pkEcdh d e = (u.newBlob e 1 0 (newHdr e (ecdhOut (u8 e.desc 34)).1 (u8 e.desc 35) 2 (fld e.desc 36 8) 0
        (kcvSym (ecdhOut (u8 e.desc 34)).1 mat)) mat).2.done d 0
      (u.newBlob e 1 0 (newHdr e (ecdhOut (u8 e.desc 34)).1 (u8 e.desc 35) 2 (fld e.desc 36 8) 0
        (kcvSym (ecdhOut (u8 e.desc 34)).1 mat)) mat).1 := by
  rw [State.pkEcdh, State.withDraw_drawn hr, hr.agreement, hk]

theorem State.pkEcdh_noKey (hr : Drawn (blindLen (u8 e.desc 32)) s r u) (hk : ∀ m q, s.agreement e ≠ .key m q) :
    s.pkEcdh d e = u.pkEnd d (s.agreement e) := by
  rw [State.pkEcdh, State.withDraw_drawn hr, hr.agreement]
  cases ha : s.agreement e with
  | key m q => exact absurd ha (hk m q)
  | _ => rfl

theorem State.pkKeygen_key {mat pub : Bytes} (hr : Drawn (genDraw (u8 e.desc 16)) s r u)
    (hk : pkGen (u8 e.desc 16) r = .key mat pub) :
    s.pkKeygen d e = (u.newBlob e 0 0 (newHdr e (u8 e.desc 16) (u8 e.desc 17) 2 (fld e.desc 24 8) 0 (kcvPk pub)) mat).2.done d 0
      ((u.newBlob e 0 0 (newHdr e (u8 e.desc 16) (u8 e.desc 17) 2 (fld e.desc 24 8) 0 (kcvPk pub)) mat).1 ++ pub) := by
  rw [State.pkKeygen, State.withDraw_drawn hr, hk]

theorem State.rsaDecrypt_drawn (hr : Drawn (blindLen (u8 e.desc 32)) s r u) :
    s.rsaDecrypt d e = u.pkEnd d (if u8 e.desc 33 = 1 then rsaV15 (rsaLen (u8 e.desc 32)) (s.matOf e 0) (e.inputs.headD [])
      else rsaOaep (rsaLen (u8 e.desc 32)) (s.matOf e 0) (hashOf (u8 e.desc 34)) (e.inputs.headD [])
        (sub e.desc 56 (u8 e.desc 35))) := by
  rw [State.rsaDecrypt, State.withDraw_drawn hr, hr.matOf]

end

/-- Settles O23. -/
theorem publicKeyRandomAndAdminItems : Obligations.PublicKeyRandomAndAdminItems := by
  unfold Obligations.PublicKeyRandomAndAdminItems
  intro d e s he ha hp
  have drawn {n : Nat} {r : Bytes} {u : State} (hr : Drawn n s r u) : u.entOf d = some e := (hr.entOf d).trans he
  have ecdh (ho : opcodeOf e.desc = 0x0603) : exec (.pkEcdh d) s = .next (s.pkEcdh d e) := State.runItem_ready he ha hp ho _
  refine ⟨fun r u ho hr => ?_, fun ho => ?_, fun r u mat pub ho hr hk => ?_, fun r u p ho hr hk hpost => ?_,
    fun r u mat pub ho hr hk => ?_, fun r u ho hr => ?_, fun r u ho hr => ?_, fun ho => ?_, fun ho => ?_⟩
  · have run : exec (.pkSign d) s = .next (s.pkSign d e) := State.runItem_ready he ha hp ho _
    rw [run, State.pkSign_drawn hr]
    cases hpost : pkPost e.post.guards (s.signature e r) with
    | some p => rw [State.pkEnd_posts (drawn hr) hpost]
    | none => rw [State.pkEnd_again hpost]
  · change execPkVerify d s = _
    rw [execPkVerify, State.runItem_ready he ha hp ho]
    cases hpost : pkPost e.post.guards (s.verification e) with
    | some p => rw [State.pkEnd_posts he hpost]
    | none => rw [State.pkEnd_again hpost]
  · obtain ⟨p, held, hpost⟩ := State.newBlob_done hr he 1 0 _ mat _
    exact ⟨_, p, (ecdh ho).trans (congrArg _ (State.pkEcdh_key hr hk)), held, hpost⟩
  · rw [ecdh ho, State.pkEcdh_noKey hr hk, State.pkEnd_posts (drawn hr) hpost]
  · have run : exec (.pkKeygen d) s = .next (s.pkKeygen d e) := State.runItem_ready he ha hp ho _
    obtain ⟨p, held, hpost⟩ := State.newBlob_done hr he 0 0 _ mat _
    exact ⟨_, p, run.trans (congrArg _ (State.pkKeygen_key hr hk)), held, hpost⟩
  · have run : exec (.rsaDecrypt d) s = .next (s.rsaDecrypt d e) := State.runItem_ready he ha hp ho _
    rw [run, State.rsaDecrypt_drawn hr]
    cases hpost : pkPost e.post.guards _ with
    | some p => rw [State.pkEnd_posts (drawn hr) hpost]
    | none => rw [State.pkEnd_again hpost]
  · change execRandom d s = _
    rw [execRandom, State.runItem_ready he ha hp ho, State.withDraw_drawn hr, State.done_held (drawn hr)]
  · change execKeyStateRead d s = _
    rw [execKeyStateRead, State.runItem_ready he ha hp ho, State.done_held he, State.stateWord]
  · change execSessionCloseAll d s = _
    rw [execSessionCloseAll, State.runItem_ready he ha hp ho, State.doneWith_held he]

end Sys2Proof.Machine
end

section
/-! PROOFS. The Keystone's commands, and the draws of random data (06_key_hierarchy.md R251; 09_random_numbers.md R381 to R385, R393,
R401). -/

namespace Sys2Proof.Machine

/-! ## The Keystone's commands (R251) -/

/-- Settles O28. -/
theorem keystoneCommands : Obligations.KeystoneCommands := by
  unfold Obligations.KeystoneCommands
  refine ⟨fun s hl hg => ?_, fun s hl => ?_, fun s hc => ?_, fun s hc => ?_⟩
  · change execGenerate s = _
    rw [execGenerate, if_neg (by simp [hl, hg])]
  · change execGenerate s = _
    rw [execGenerate, if_pos (by simp [hl])]
  · change execClear s = _
    rw [execClear, if_pos hc, State.ksClear]
  · change execClear s = _
    rw [execClear, if_neg (by simp [hc])]

/-! ## Requests (R382, R385) -/

/-- A request of the wrong size, and one on a port whose last request still waits, are ignored. -/
theorem execRngDraw_free {p : Fin 214} {n : Nat} {s : State} (h1 : 1 ≤ n) (h2 : n ≤ 65536) (hp : tblGet 0 s.rng.waiting p = 0) :
    execRngDraw p n s = .next (if s.rng.st = 3 then s.drawError p else { s with rng.waiting := tblSet 0 p n s.rng.waiting }) := by
  rw [execRngDraw, if_neg (by omega)]
  split <;> rfl

theorem State.pierDrawFail_frame (p : Nat) (s : State) : Frame [.deck] s (s.pierDrawFail p) := by
  unfold State.pierDrawFail
  split
  · exact State.modEnt_frame ..
  · exact .refl _ s

/-- A draw on the port `p` has failed: it is counted, waits no longer and is answered without data (R385). -/
def State.drawFailed (p : Nat) (s : State) : State := { s with
  rng := { s.rng with cntErrDraw := s.rng.cntErrDraw + 1, waiting := tblSet 0 p 0 s.rng.waiting }
  out := s.out ++ [.draw p true []] }

theorem State.drawFailed_frame (p : Nat) (s : State) : Frame [.rng, .deck, .out] s (s.drawFailed p) := by simp [Frame, State.drawFailed]

/-- Every port but RNG_DATA's has this answer; a pier's item ends with it (R385, R401). -/
theorem State.drawError_eq {p : Nat} (hp : p ≠ 213) (s : State) :
    s.drawError p = if p < 128 then (s.drawFailed p).pierDrawFail p else s.drawFailed p := by
  rw [State.drawError, if_neg hp]
  rfl

theorem State.drawError_port {p : Nat} (hp : p ≠ 213) (s : State) :
    (s.drawError p).out = s.out ++ [.draw p true []] ∧
    (s.drawError p).rng = { s.rng with cntErrDraw := s.rng.cntErrDraw + 1, waiting := tblSet 0 p 0 s.rng.waiting } ∧
    Frame [.rng, .deck, .out] s (s.drawError p) := by
  rw [State.drawError_eq hp]
  split
  · have hf := (s.drawFailed p).pierDrawFail_frame p
    exact ⟨hf.same .out (by decide), hf.same .rng (by decide), (s.drawFailed_frame p).trans (hf.mono (by decide))⟩
  · exact ⟨rfl, rfl, s.drawFailed_frame p⟩

/-! ## Serving a draw (R251, R383) -/

/-- What serving the port `p` with the bytes `b` gives, once the generator has moved on to `u`: the Keystone loads them, RNG_DATA reads
them, and any other port is sent them. -/
def State.served (p : Nat) (b : Bytes) (u : State) : State :=
  let v := { u with rng.waiting := tblSet 0 p 0 u.rng.waiting, rng.portPtr := (p + 1) % 214 }
  if p = 212 then v.loadDrk b else if p = 213 then v.emit (.readData (w64 (leNat b))) else v.emit (.draw p false b)

theorem execDrawServed_ok {p : Nat} {b : Bytes} {s u : State}
    (hp : rotFind 214 s.rng.portPtr (fun p => tblGet 0 s.rng.waiting p != 0) = some p) (hs : s.rng.st = 1)
    (hd : s.rngTake (tblGet 0 s.rng.waiting p) = .ok b u) : execDrawServed s = .next (u.served p b) := by
  have h3 : ¬ s.rng.st = 3 := by rw [hs]; decide
  simp only [execDrawServed, hp, hd, if_neg h3, State.served]
  split
  · rfl
  · split <;> rfl

/-- One generate request moves the expanders on, counts the bytes it gives and leaves the waiting draws alone (R383, R402). -/
theorem State.rngTake_counts {n : Nat} {b : Bytes} {s u : State} (h : s.rngTake n = .ok b u) :
    u.rng.waiting = s.rng.waiting ∧ u.rng.cntBytes = s.rng.cntBytes + w64 n := by
  unfold State.rngTake at h
  split at h
  · cases h
  · split at h
    · cases h
    · split at h <;> cases h
      exact ⟨rfl, rfl⟩

theorem State.served_frame (p : Nat) (b : Bytes) (u : State) : Frame [.rng, .ks, .out] u (u.served p b) := by
  unfold State.served
  dsimp only
  split
  · simp [Frame, State.loadDrk]
  · split <;> simp [Frame]

theorem State.served_rng (p : Nat) (b : Bytes) (u : State) :
    (u.served p b).rng = { u.rng with waiting := tblSet 0 p 0 u.rng.waiting, portPtr := (p + 1) % 214 } := by
  unfold State.served
  dsimp only
  split
  · rfl
  · split <;> rfl

/-- Settles O38. -/
theorem randomDraws : Obligations.RandomDraws := by
  unfold Obligations.RandomDraws
  refine ⟨fun p n s h1 h2 hp h3 => ?_, fun p n s h1 h2 hp h3 hport => ?_, fun p b u s hp hs hd => ?_, fun b u s hd => ?_, fun s h3 => ?_,
    fun s hd => ?_, fun x s => rfl⟩
  · exact (execRngDraw_free h1 h2 hp).trans (by rw [if_neg h3])
  · refine ⟨s.drawError p, (execRngDraw_free h1 h2 hp).trans (by rw [if_pos h3]), ?_⟩
    exact State.drawError_port hport s
  · have hu := State.rngTake_frame _ s u b hd
    obtain ⟨hw, hc⟩ := State.rngTake_counts hd
    have hr := u.served_rng p b
    refine ⟨u.served p b, execDrawServed_ok hp hs hd, by rw [hr, hw], by rw [hr], by rw [hr, hc], ?_,
      (hu.mono (by decide)).trans (u.served_frame p b)⟩
    have hks : u.ks = s.ks := hu.same .ks (by decide)
    have hout : u.out = s.out := hu.same .out (by decide)
    unfold State.served
    dsimp only
    split
    · rw [← hks, ← hout]
      exact ⟨rfl, rfl⟩
    · rw [← hks, ← hout]
      split <;> exact ⟨rfl, rfl⟩
  · have hu := State.rngTake_frame 8 s u b hd
    have hout : u.out = s.out := hu.same .out (by decide)
    refine ⟨u.emit (.readData (w64 (leNat b))), ?_, by rw [State.emit_out, hout], rfl,
      (hu.mono (by decide)).trans ((State.emit_frame ..).mono (by decide))⟩
    change execRngDataRead s = _
    rw [execRngDataRead, hd]
  · change execRngDataRead s = _
    have hd : s.rngTake 8 = .fail { s with rng.cntErrDraw := s.rng.cntErrDraw + 1 } := by rw [State.rngTake, if_pos h3]
    rw [execRngDataRead, hd]
    rfl
  · change execRngDataRead s = _
    rw [execRngDataRead, hd]

end Sys2Proof.Machine
end

section
/-! PROOFS. The key-block commands at stage 10 (06_key_hierarchy.md R253, R258, R259, R283 to R285, R289, R290). -/

namespace Sys2Proof.Machine

section
variable {d : Nat} {e : Entry} {s : State}

/-! ## What a draw leaves of a generation's inputs -/

theorem Drawn.newEpoch {n : Nat} {u : State} {r : Bytes} (h : Drawn n s r u) (e : Entry) : u.newEpoch e = s.newEpoch e := by
  have hk : u.keys = s.keys := h.frame.same .keys (by decide)
  simp only [State.newEpoch, State.keyWord, hk]

/-! ## KEY_IMPORT_BLOCK (R283, R290) -/

/-- The header and the version are good, and the block opens with `mat`: what is left is the key type, the class and the KCV. -/
theorem State.keyImport_opened {mat : Bytes} {alg cls : Nat} (hh : kbHeadOk (e.inputs.headD []) = true)
    (hv : (((e.inputs.headD []).getD 0 0).toNat == 0x44) = aesAlgs.contains (s.algOf e 0))
    (hm : kbOpen (s.matOf e 0) (e.inputs.headD []) = some mat) (ha : kbAlg ((e.inputs.headD []).getD 7 0) mat.length = some alg)
    (hc : kbClass (sub (e.inputs.headD []) 5 2) ((e.inputs.headD []).getD 8 0) = some cls) :
    s.keyImport d e = if u8 e.desc 25 = 1 ∧ kcvSym alg mat ≠ sub e.desc 28 3 then s.fail d 0x2007
      else (s.newBlob e 1 (fld e.desc 48 3) (newHdr e alg cls (b2n (((e.inputs.headD []).getD 11 0).toNat == 0x45))
          (targetOf e.desc) (s.newEpoch e) (kcvSym alg mat)) mat).2.done d 0
        (s.newBlob e 1 (fld e.desc 48 3) (newHdr e alg cls (b2n (((e.inputs.headD []).getD 11 0).toNat == 0x45))
          (targetOf e.desc) (s.newEpoch e) (kcvSym alg mat)) mat).1 := by
  simp only [State.keyImport, hh, hv, hm, ha, hc, bne_self_eq_false, Bool.not_true, Bool.false_eq_true, if_false]

/-! ## New blobs without a draw (R259, R283, R289) -/

/-- An item that seals a key and then ends with OK and the result `b`, leaving the KET as it is. -/
theorem State.newBlob_ends (he : s.entOf d = some e) (ref pidx : Nat) (h : HdrNew) (mat b : Bytes) :
    ∃ p : Post, ((s.newBlob e ref pidx h mat).2.done d 0 b).entOf d = some { e with phase := .finished p } ∧ p.status = 0 ∧
      p.intents = [] ∧ p.result = b ∧ Frame (reports [.deck, .keys, .anc]) s ((s.newBlob e ref pidx h mat).2.done d 0 b) := by
  have blob := s.newBlob_frame e ref pidx h mat
  have held : (s.newBlob e ref pidx h mat).2.entOf d = some e := by
    rw [State.entOf, blob.same .deck (by decide)]
    exact he
  rw [State.done_held held]
  exact ⟨_, State.entOf_setEnt_same .., rfl, rfl, rfl, (blob.mono (by decide)).trans ((State.setEnt_frame ..).mono (by decide))⟩

theorem State.nextIv_ket (s : State) : s.nextIv.2.keys.ket = s.keys.ket := by
  unfold State.nextIv
  dsimp only
  split
  · rw [(State.ancWrite_frame ..).same .keys (by decide)]
  · rfl

theorem State.sealParts_ket (h : HdrNew) (parent : Bytes) (i : Nat) (ms : List Bytes) (s : State) :
    (s.sealParts h parent i ms).2.keys.ket = s.keys.ket := by
  induction ms generalizing i s with
  | nil => rfl
  | cons m ms ih => exact (ih (i + 1) s.nextIv.2).trans s.nextIv_ket

/-- A new blob takes an IV and no key state word (R259). -/
theorem State.newBlob_ket (e : Entry) (ref pidx : Nat) (h : HdrNew) (mat : Bytes) (s : State) :
    (s.newBlob e ref pidx h mat).2.keys.ket = s.keys.ket := State.sealParts_ket ..

end

/-- Settles O24. -/
theorem keyBlockCommands : Obligations.KeyBlockCommands := by
  unfold Obligations.KeyBlockCommands
  intro d e s he ha hp
  have import_ (ho : opcodeOf e.desc = 0x0501) : exec (.keyImportBlock d) s = .next (s.keyImport d e) := State.runItem_ready he ha hp ho _
  refine ⟨fun ho hh => ?_, fun ho hh hv => ?_, fun ho hh hv hm => ?_, fun mat alg cls ho hh hv hm hal hc h25 hk => ?_,
    fun mat alg cls ho hh hv hm hal hc hk => ?_, fun r u ho hr => ?_, fun r u ho hr => ?_, fun ho => ?_⟩
  · rw [import_ ho, State.keyImport, if_pos (by rw [hh]; rfl), State.fail_held he]
  · rw [import_ ho, State.keyImport, if_neg (by rw [hh]; decide), if_pos hv, State.fail_held he]
  · rw [import_ ho, State.keyImport, if_neg (by rw [hh]; decide), if_neg (by rw [hv]; simp), hm, State.fail_held he]
  · rw [import_ ho, State.keyImport_opened hh hv hm hal hc, if_pos ⟨h25, hk⟩, State.fail_held he]
  · have run := (import_ ho).trans (congrArg _ ((State.keyImport_opened hh hv hm hal hc).trans (if_neg fun h => h.2 (hk h.1))))
    obtain ⟨p, held, hst, hin, hres, hf⟩ := State.newBlob_ends he 1 (fld e.desc 48 3) _ mat _
    refine ⟨_, p, run, held, hst, hin, hres, ?_, hf⟩
    exact (congrArg Keys.ket ((State.modEnt_frame ..).same .keys (by decide))).trans (State.newBlob_ket ..)
  · have run : exec (.keyExportBlock d) s = .next (s.keyExport d e) := State.runItem_ready he ha hp ho _
    rw [run, State.keyExport, State.withDraw_drawn hr, hr.matOf, State.done_held ((hr.entOf d).trans he)]
  · have run : exec (.keyGenerate d) s = .next (s.keyGenerate d e) := State.runItem_ready he ha hp ho _
    rw [State.keyGenerate, State.withDraw_drawn hr, hr.newEpoch] at run
    obtain ⟨p, held, hpost⟩ := State.newBlob_done hr he 0 (fld e.desc 32 3) _ r _
    exact ⟨_, p, run, held, hpost⟩
  · have run : exec (.keyRewrap d) s = .next (s.keyRewrap d e) := State.runItem_ready he ha hp ho _
    obtain ⟨p, held, hpost⟩ := State.newBlob_ends he 1 (fld e.desc 40 3) _ (s.matOf e 0) _
    exact ⟨_, p, run, held, hpost⟩

end Sys2Proof.Machine
end

section
/-! PROOFS. The key journal and the flush of a tenant's slots (06_key_hierarchy.md R263 to R272, R300). -/

namespace Sys2Proof.Machine

/-! ## A tenant's coalesced anchor write (R265) -/

/-- With nothing to cover no write is issued. -/
theorem State.issueKeySeq_idle {t : Nat} {s : State} (h : coverable t s.keys.taken = []) : s.issueKeySeq t = s := by
  rw [State.issueKeySeq, h]
  rfl

/-- The coalesced write that covers the persistent record `x` alone is issued, with the CKSEQ `ck`; it opens the tenant's window. -/
def State.covers (x : Taken) (ck : Nat) (s : State) : State := { s with
  keys.taken := [{ x with issued := true }]
  keys.windows := tblSet false x.tenant true s.keys.windows
  anc.queue := s.anc.queue ++ [⟨0x400 + x.tenant, [w64 (ck % 2 ^ 32 * 2 ^ 32 + x.seq % 2 ^ 32)], 30, .keySeq x.tenant x.seq⟩] }

theorem State.covers_frame (x : Taken) (ck : Nat) (s : State) : Frame [.keys, .anc] s (s.covers x ck) := by simp [Frame, State.covers]

theorem State.issueKeySeq_one {x : Taken} {s : State} (hx : s.keys.taken = [x]) (hp : x.persistent = true) (hi : x.issued = false) :
    ∃ ck : Nat, s.issueKeySeq x.tenant = s.covers x ck := by
  have hc : coverable x.tenant s.keys.taken = [x] := by simp [coverable, hx, hp, hi]
  refine ⟨(([x] : List Taken).filterMap (fun y => y.ck)).getLastD ((s.ancLatest (0x400 + x.tenant)).toNat / 2 ^ 32), ?_⟩
  rw [State.issueKeySeq, hc, hx]
  simp [State.covers, State.ancIssue]

/-- A sequence word holds SEQ in its low half (R265). -/
theorem seqWord_low (a b : Nat) : (w64 (a % 2 ^ 32 * 2 ^ 32 + b % 2 ^ 32)).toNat % 2 ^ 32 = b % 2 ^ 32 := by
  rw [w64, BitVec.toNat_ofNat]
  omega

/-! ## JOURNAL_RECORD_PERSISTENT (R263, R265, R268) -/

/-- The state once the record `x` stands at the journal's fill point, with `l` the records taken. -/
def State.recordWritten (x : Taken) (l : List Taken) (s : State) : State := { s with
  cfg.flash := setBytes 0xFF s.cfg.flash (jAddr s.keys.jHalf s.keys.jFill) x.bytes
  keys.taken := l
  keys.jFill := s.keys.jFill + 1
  keys.jCount := s.keys.jCount + 1
  keys.jSnap := s.keys.jSnap || decide (196608 ≤ s.keys.jFill + 1)
  pwr.outstanding := s.pwr.outstanding - 12000 }

theorem State.recordWritten_frame (x : Taken) (l : List Taken) (s : State) : Frame [.keys, .anc, .cfg, .pwr] s (s.recordWritten x l) := by
  simp [Frame, State.recordWritten]

theorem execJournalRecordPersistent_front {x : Taken} {l : List Taken} {s : State} (h : s.keys.taken = x :: l)
    (hx : x.persistent = false) :
    execJournalRecordPersistent s = .next ((s.recordWritten x ({ x with persistent := true } :: l)).tryKeySeq x.tenant) := by
  simp only [execJournalRecordPersistent, h, persistFirst, hx, Bool.false_eq_true, if_false]
  rfl

theorem State.tryKeySeq_elim {t : Nat} {s : State} {P : State → Prop} (hs : P s) (hi : P (s.issueKeySeq t)) : P (s.tryKeySeq t) := by
  unfold State.tryKeySeq
  split
  · exact hs
  · exact hi

/-- The coalesced write touches neither the journal's place nor the KET. -/
theorem State.tryKeySeq_journal (t : Nat) (s : State) :
    (s.tryKeySeq t).keys.jFill = s.keys.jFill ∧ (s.tryKeySeq t).keys.jCount = s.keys.jCount ∧ (s.tryKeySeq t).keys.ket = s.keys.ket := by
  refine State.tryKeySeq_elim (P := fun u => u.keys.jFill = _ ∧ u.keys.jCount = _ ∧ u.keys.ket = _) ⟨rfl, rfl, rfl⟩ ?_
  unfold State.issueKeySeq
  split <;> exact ⟨rfl, rfl, rfl⟩

theorem State.tryKeySeq_frame (t : Nat) (s : State) : Frame [.keys, .anc] s (s.tryKeySeq t) := by simp [Frame]

/-! ## ANCHOR_WINDOW_EXPIRY (R265) -/

/-- The tenant's window of 50 ms is over. -/
def State.windowOver (t : Nat) (s : State) : State := { s with keys.windows := tblSet false t false s.keys.windows }

theorem State.windowOver_frame (t : Nat) (s : State) : Frame [.keys] s (s.windowOver t) := by simp [Frame, State.windowOver]

theorem execAnchorWindowExpiry_open {f : Fn} {s : State} (h : tblGet false s.keys.windows f = true) :
    execAnchorWindowExpiry f s = .next ((s.windowOver f).issueKeySeq f) := by
  rw [execAnchorWindowExpiry, if_pos h, State.windowOver]

/-! ## JOURNAL_HALF_ERASE (R267, R269) -/

theorem State.jrnWear_frame (s : State) : Frame (reports [.anc]) s s.jrnWear := by
  unfold State.jrnWear
  extract_lets old n u v
  have hu : Frame (reports [.anc]) s u := State.ancWrite_frame ..
  have hv : Frame (reports [.anc]) u v := by
    unfold v
    split
    · exact (State.event_frame ..).mono (by decide)
    · exact .refl _ u
  split
  · exact (hu.trans hv).trans (by simp [Frame, reports])
  · exact hu.trans hv

/-- The KET's snapshot stands in the other half, which is the active one, and the old half is erased (R267). -/
def State.halfSwitched (s : State) : State := { s with
  cfg.flash := clearBytes (setBytes 0xFF s.cfg.flash (jAddr (!s.keys.jHalf) 0) (snapBytes s.keys.ket)) (jAddr s.keys.jHalf 0) 0x800000
  keys.jHalf := !s.keys.jHalf
  keys.jFill := s.keys.ket.length + 1
  keys.jCount := s.keys.jCount + (s.keys.ket.length + 1)
  keys.jSnap := false }

theorem State.halfSwitched_frame (s : State) : Frame [.keys, .cfg] s s.halfSwitched := by simp [Frame, State.halfSwitched]

theorem execJournalHalfErase_due {s : State} (h : s.keys.jSnap = true) : execJournalHalfErase s = .next s.halfSwitched.jrnWear := by
  rw [execJournalHalfErase, if_neg (by simp [h])]
  rfl

/-! ## KC_FLUSH (R272, R296, R300) -/

/-- An index that reads another value than the default is listed with it. -/
theorem mem_of_tblGet {α : Type} {d v : α} {t : Tbl α} {k : Nat} (h : tblGet d t k = v) (hv : v ≠ d) : (k, v) ∈ t := by
  induction t with
  | nil => exact absurd h.symm hv
  | cons e t ih =>
    obtain ⟨a, w⟩ := e
    simp only [tblGet] at h
    split at h
    · subst h
      simp [*]
    · exact List.mem_cons_of_mem _ (ih h)

section
variable {t : Tbl (Option Slot)} (hw : tblWf none t)
include hw

theorem dropSlot_wf (k : Nat) : tblWf none (dropSlot t k) := by
  have h := tblSet_wf none k none t hw
  unfold dropSlot
  dsimp only
  split
  · split
    · exact tblSet_wf none (k + 1) none _ h
    · exact h
  · exact h

/-- A slot that is still held after another is freed was held before, and is not that one. -/
theorem dropSlot_held {k j : Nat} {x : Slot} (h : tblGet none (dropSlot t k) j = some x) : j ≠ k ∧ tblGet none t j = some x := by
  have hs := tblSet_wf none k none t hw
  have one : tblGet none (tblSet none k none t) j = some x → j ≠ k ∧ tblGet none t j = some x := by
    intro h
    rw [tblGet_tblSet none k j none t hw] at h
    split at h
    · cases h
    · exact ⟨fun e => absurd e.symm ‹_›, h⟩
  unfold dropSlot at h
  dsimp only at h
  split at h
  · split at h
    · rw [tblGet_tblSet none (k + 1) j none _ hs] at h
      split at h
      · cases h
      · exact one h
    · exact one h
  · exact one h

theorem staleSlot_wf (k : Nat) : tblWf none (staleSlot t k) := by
  unfold staleSlot
  split
  · exact hw
  · split
    · exact dropSlot_wf hw k
    · exact tblSet_wf none k _ t hw

/-- A slot that is held after slot `k` was made STALE or freed was held as it is, or is slot `k` and STALE (R272). -/
theorem staleSlot_held {k j : Nat} {x : Slot} (h : tblGet none (staleSlot t k) j = some x) :
    x.st = .stale ∨ (j ≠ k ∧ tblGet none t j = some x) := by
  unfold staleSlot at h
  split at h
  · refine .inr ⟨fun e => ?_, h⟩
    subst e
    simp_all
  · split at h
    · exact .inr (dropSlot_held hw h)
    · rw [tblGet_tblSet none k j _ t hw] at h
      split at h
      · cases h
        exact .inl rfl
      · exact .inr ⟨fun e => absurd e.symm ‹_›, h⟩

end

/-- After every slot of a list was made STALE or freed, a slot that is held was held as it is and is not on the list, or is STALE. -/
theorem staleSlots_held {t : Tbl (Option Slot)} (hw : tblWf none t) (l : List Nat) {j : Nat} {x : Slot}
    (h : tblGet none (l.foldl staleSlot t) j = some x) : x.st = .stale ∨ (j ∉ l ∧ tblGet none t j = some x) := by
  induction l generalizing t with
  | nil => exact .inr ⟨List.not_mem_nil, h⟩
  | cons k l ih =>
    obtain hs | ⟨hj, hx⟩ := ih (staleSlot_wf hw k) h
    · exact .inl hs
    · obtain hs | ⟨hk, hx⟩ := staleSlot_held hw hx
      · exact .inl hs
      · exact .inr ⟨fun hm => (List.mem_cons.1 hm).elim hk hj, hx⟩

/-- No tier-one slot that `p` selects is left usable (R291, R296). -/
theorem State.staleWhere_stale {p : Slot → Bool} {s : State} (hw : tblWf none s.keys.t1) {k : Nat} {x : Slot}
    (h : tblGet none (s.staleWhere p).keys.t1 k = some x) (h2 : x.second = false) (hp : p x = true) : x.st = .stale := by
  obtain hs | ⟨hk, hx⟩ := staleSlots_held hw _ h
  · exact hs
  · refine absurd (List.mem_map_of_mem (f := Prod.fst) (List.mem_filter.2 ⟨mem_of_tblGet hx (by simp), ?_⟩)) hk
    simp [hp, h2]

theorem State.flushTenant_frame (t : Nat) (s : State) : Frame [.keys] s (s.flushTenant t) := by simp [Frame, State.flushTenant]

/-- Settles O27. -/
theorem journalAndFlush : Obligations.JournalAndFlush := by
  unfold Obligations.JournalAndFlush
  refine ⟨fun x l s hl hx => ?record, fun f s hw hc => ?idle, fun f x s hw hx hf hp hi => ?window, fun s hs => ?erase, fun f s hf hw => ?flush,
    fun f s hf => ?busy, fun s => rfl⟩
  case record =>
    obtain ⟨fill, count, ket⟩ := (s.recordWritten x ({ x with persistent := true } :: l)).tryKeySeq_journal x.tenant
    have hf := (s.recordWritten x ({ x with persistent := true } :: l)).tryKeySeq_frame x.tenant
    have flash := congrArg Cfg.flash (hf.same .cfg (by decide))
    have cost := congrArg Pwr.outstanding (hf.same .pwr (by decide))
    refine ⟨_, execJournalRecordPersistent_front hl hx, flash, fill, count, ket, cost, fun hw hu => ?_, fun hw hl hi => ?_,
      (s.recordWritten_frame x _).trans (hf.mono (by decide))⟩
    · rw [State.tryKeySeq, if_pos (by simp [State.recordWritten, hw, hu])]
      rfl
    · subst hl
      obtain ⟨ck, he⟩ := State.issueKeySeq_one (s := s.recordWritten x [{ x with persistent := true }]) rfl rfl hi
      rw [State.tryKeySeq, if_neg (by simp [State.recordWritten, hw]), he]
      exact ⟨_, rfl, rfl, rfl, congrArg (· :: []) (seqWord_low ck x.seq)⟩
  case idle => exact (execAnchorWindowExpiry_open hw).trans (congrArg _ (State.issueKeySeq_idle hc))
  case window =>
    obtain ⟨ck, he⟩ := State.issueKeySeq_one (s := s.windowOver f) hx hp hi
    rw [hf] at he
    refine ⟨_, _, (execAnchorWindowExpiry_open hw).trans (congrArg _ he), rfl, by rw [hf], by rw [hf], ?_, rfl,
      ((s.windowOver_frame f).mono (by decide)).trans (State.covers_frame ..)⟩
    rw [← hf]
    exact tblGet_tblSet_listed false x.tenant true _ (by decide)
  case erase =>
    have hf := s.halfSwitched.jrnWear_frame
    have hk : s.halfSwitched.jrnWear.keys = s.halfSwitched.keys := hf.same .keys (by decide)
    have hc : s.halfSwitched.jrnWear.cfg = s.halfSwitched.cfg := hf.same .cfg (by decide)
    exact ⟨_, execJournalHalfErase_due hs, by rw [hk]; rfl, by rw [hk]; rfl, by rw [hk]; rfl, by rw [hk]; rfl, by rw [hc]; rfl,
      (s.halfSwitched_frame.mono (by decide)).trans (hf.mono (by decide))⟩
  case flush =>
    refine ⟨{ s with keys.flushing := some f.val }.flushTenant f, ?_, rfl, rfl, fun k x h h2 ht hk => ?_, ?_⟩
    · change execKcFlush f s = _
      rw [execKcFlush, if_neg (by simp [hf])]
    · exact State.staleWhere_stale (s := { s with keys.flushing := some f.val }) hw h h2 (by simp [ht, hk])
    · exact Frame.trans (by simp [Frame]) (State.flushTenant_frame ..)
  case busy =>
    change execKcFlush f s = _
    rw [execKcFlush, if_pos hf]

end Sys2Proof.Machine
end

section
/-! PROOFS. What the invariant of the Keystone and the memories speaks of. -/

namespace Sys2Proof.Machine

/-! ## The Keystone, the memories and the flash controller -/

/-- The Keystone, the byte memories and the configuration flash with its controller. -/
structure Stores where
  ks : Keystone
  mem : List Host.Cell
  cfg : Cfg

/-- The Keystone is sound, and the memories and the flash are canonical. -/
structure Stores.Ok (x : Stores) : Prop where
  ks : KeystoneOk x.ks
  mem : Memory.wf 0 x.mem
  flash : Memory.wf 0xFF x.cfg.flash

def State.stores (s : State) : Stores := ⟨s.ks, s.mem, s.cfg⟩

/-! ### The plain updates and the shared operations -/

@[simp] theorem State.emit_stores (o : Out) (s : State) : (s.emit o).stores = s.stores := rfl

@[simp] theorem State.signal_stores (src : Nat) (s : State) : (s.signal src).stores = s.stores := rfl

@[simp] theorem State.modTn_stores (t : Nat) (f : Tn → Tn) (s : State) : (s.modTn t f).stores = s.stores := rfl

@[simp] theorem State.admitCost_stores (c : Nat) (s : State) : (s.admitCost c).stores = s.stores := rfl

@[simp] theorem State.repay_stores (c : Nat) (s : State) : (s.repay c).stores = s.stores := rfl

@[simp] theorem State.ancIssue_stores (w : Nat) (vals : List DWord) (cost : Nat) (e : Eff) (s : State) :
    (s.ancIssue w vals cost e).stores = s.stores := rfl

@[simp] theorem State.ancPersist_stores (a : AncWrite) (rest : List AncWrite) (s : State) : (s.ancPersist a rest).stores = s.stores := rfl

@[simp] theorem State.setEng_stores (e : Nat) (x1 : Eng) (s : State) : (s.setEng e x1).stores = s.stores := rfl

@[simp] theorem State.setBay_stores (b : Nat) (x1 : BaySt) (s : State) : (s.setBay b x1).stores = s.stores := rfl

@[simp] theorem State.setEnt_stores (d : Nat) (e : Entry) (s : State) : (s.setEnt d e).stores = s.stores := rfl

@[simp] theorem State.setPier_stores (p : Nat) (x1 : PierSt) (s : State) : (s.setPier p x1).stores = s.stores := rfl

@[simp] theorem State.setGroup_stores (g : Nat) (x1 : GroupSt) (s : State) : (s.setGroup g x1).stores = s.stores := rfl

@[simp] theorem State.setFence_stores (f : Nat) (b : Bool) (s : State) : (s.setFence f b).stores = s.stores := rfl

@[simp] theorem State.setReady_stores (f : Nat) (b : Bool) (s : State) : (s.setReady f b).stores = s.stores := rfl

@[simp] theorem State.modVfMbx_stores (t : Nat) (f : VfMbx → VfMbx) (s : State) : (s.modVfMbx t f).stores = s.stores := rfl

@[simp] theorem State.setKeyWord_stores (t kid : Nat) (w : DWord) (s : State) : (s.setKeyWord t kid w).stores = s.stores := rfl

@[simp] theorem State.closeSess_stores (k : Nat) (s : State) : (s.closeSess k).stores = s.stores := rfl

@[simp] theorem State.setTestBits_stores (a : Access) (k : Nat) (s : State) : (s.setTestBits a k).stores = s.stores := rfl

@[simp] theorem State.dropSlots_stores (ks : List Nat) (s : State) : (s.dropSlots ks).stores = s.stores := rfl

@[simp] theorem State.unpin_stores (bs : List Bind) (s : State) : (s.unpin bs).stores = s.stores := rfl

@[simp] theorem State.takeInbox_stores (typ : Nat) (tag : Word) (s : State) : (s.takeInbox typ tag).stores = s.stores := rfl

@[simp] theorem State.msix_stores (fn vec : Nat) (s : State) : (s.msix fn vec).stores = s.stores := by simp [State.stores]

@[simp] theorem State.tnEvent_stores (t : Nat) (bits : BitVec 3) (s : State) :
    (s.tnEvent t bits).stores = s.stores := by simp [State.stores]

@[simp] theorem State.ancError_stores (bits : BitVec 3) (w : Nat) (s : State) :
    (s.ancError bits w).stores = s.stores := by simp [State.stores]

@[simp] theorem State.nrgEvent_stores (bits : BitVec 4) (s : State) : (s.nrgEvent bits).stores = s.stores := by simp [State.stores]

@[simp] theorem State.evrEvent_stores (bits : BitVec 5) (s : State) : (s.evrEvent bits).stores = s.stores := by simp [State.stores]

@[simp] theorem State.evrDrop_stores (s : State) : (s.evrDrop).stores = s.stores := by simp [State.stores]

@[simp] theorem State.offer_stores (o : Offer) (s : State) : (s.offer o).stores = s.stores := by simp [State.stores]

@[simp] theorem State.event_stores (src code p0 p1 p2 p3 : Nat) (s : State) :
    (s.event src code p0 p1 p2 p3).stores = s.stores := by simp [State.stores]

@[simp] theorem State.advance_stores (t : Nat) (s : State) : (s.advance t).stores = s.stores := by simp [State.stores]

@[simp] theorem State.refuse_stores (c : Nat) (s : State) : (s.refuse c).stores = s.stores := by simp [State.stores]

@[simp] theorem State.ancRefuse_stores (w cause : Nat) (s : State) : (s.ancRefuse w cause).stores = s.stores := by simp [State.stores]

@[simp] theorem State.eventSig_stores (src code p0 p1 p2 p3 : Nat) (s : State) :
    (s.eventSig src code p0 p1 p2 p3).stores = s.stores := by simp [State.stores]

@[simp] theorem State.draw_stores (n : Nat) (s : State) : ((s.draw n).2).stores = s.stores := by simp [State.stores]

@[simp] theorem State.ancWrite_stores (w : Nat) (vals : List DWord) (e : Eff) (s : State) :
    ((s.ancWrite w vals e).1).stores = s.stores := by simp [State.stores]

@[simp] theorem State.freeEnt_stores (d : Nat) (s : State) : (s.freeEnt d).stores = s.stores := by simp [State.stores]

@[simp] theorem State.leave_stores (d : Nat) (s : State) : (s.leave d).stores = s.stores := by simp [State.stores]

@[simp] theorem State.endPins_stores (d : Nat) (s : State) : (s.endPins d).stores = s.stores := by simp [State.stores]

@[simp] theorem State.discard_stores (d : Nat) (s : State) : (s.discard d).stores = s.stores := by simp [State.stores]

@[simp] theorem State.moveGen_stores (fn : Nat) (s : State) : (s.moveGen fn).stores = s.stores := by simp [State.stores]

@[simp] theorem State.releasePier_stores (p : Option Nat) (s : State) : (s.releasePier p).stores = s.stores := by simp [State.stores]

@[simp] theorem State.modEnt_stores (d : Nat) (f : Entry → Entry) (s : State) : (s.modEnt d f).stores = s.stores := by simp [State.stores]

@[simp] theorem State.evict_stores (k : Nat) (s : State) : (s.evict k).stores = s.stores := by simp [State.stores]

@[simp] theorem State.issueKeySeq_stores (t : Nat) (s : State) : (s.issueKeySeq t).stores = s.stores := by simp [State.stores]

@[simp] theorem State.putSlot_stores (k : Nat) (hdr mat : Bytes) (parent : Nat) (s : State) :
    (s.putSlot k hdr mat parent).stores = s.stores := by simp [State.stores]

@[simp] theorem State.staleWhere_stores (p : Slot → Bool) (s : State) : (s.staleWhere p).stores = s.stores := by simp [State.stores]

@[simp] theorem State.flushTenant_stores (t : Nat) (s : State) : (s.flushTenant t).stores = s.stores := by simp [State.stores]

@[simp] theorem State.tryKeySeq_stores (t : Nat) (s : State) : (s.tryKeySeq t).stores = s.stores := by simp [State.stores]

@[simp] theorem State.flushKeySeq_stores (s : State) : (s.flushKeySeq).stores = s.stores := by simp [State.stores]

@[simp] theorem State.pinSlot_stores (k : Nat) (s : State) : (s.pinSlot k).stores = s.stores := by simp [State.stores]

@[simp] theorem State.takeSeq_stores (o : Owner) (kind : JKind) (t kid : Nat) (w : DWord) (ck : Option Nat) (s : State) :
    (s.takeSeq o kind t kid w ck).stores = s.stores := by simp [State.stores]

@[simp] theorem State.staleKey_stores (t kid : Nat) (s : State) : (s.staleKey t kid).stores = s.stores := by simp [State.stores]

@[simp] theorem State.fail_stores (d status : Nat) (s : State) : (s.fail d status).stores = s.stores := by simp [State.stores]

@[simp] theorem State.startInput_stores (d : Nat) (reads : List (Nat × Nat)) (s : State) :
    (s.startInput d reads).stores = s.stores := by simp [State.stores]

@[simp] theorem State.readFailed_stores (d what : Nat) (r : ReadErr) (s : State) :
    (s.readFailed d what r).stores = s.stores := by simp [State.stores]

@[simp] theorem State.clearInst_stores (m : SramMem) (inst : Nat) (s : State) :
    (s.clearInst m inst).stores = s.stores := by simp [State.stores]

@[simp] theorem State.markValid_stores (k : Nat) (s : State) : (s.markValid k).stores = s.stores := by simp [State.stores]

@[simp] theorem State.modEng_stores (e : Nat) (f : Eng → Eng) (s : State) : (s.modEng e f).stores = s.stores := by simp [State.stores]

@[simp] theorem State.respond_stores (pier : Nat) (r : Resp) (s : State) : (s.respond pier r).stores = s.stores := by simp [State.stores]

@[simp] theorem State.cancelIn_stores (d e : Nat) (s : State) : (s.cancelIn d e).stores = s.stores := by simp [State.stores]

@[simp] theorem State.bayOff_stores (b : Nat) (s : State) : (s.bayOff b).stores = s.stores := by simp [State.stores]

@[simp] theorem State.scrub_stores (e : Nat) (s : State) : (s.scrub e).stores = s.stores := by simp [State.stores]

@[simp] theorem State.toReplay_stores (d : Nat) (s : State) : (s.toReplay d).stores = s.stores := by simp [State.stores]

@[simp] theorem State.requestReset_stores (cause : BitVec 4) (s : State) :
    (s.requestReset cause).stores = s.stores := by simp [State.stores]

@[simp] theorem State.keepOutPier_stores (p cause : Nat) (s : State) : (s.keepOutPier p cause).stores = s.stores := by simp [State.stores]

@[simp] theorem State.setSrc_stores (n : Nat) (x1 : Src) (s : State) : (s.setSrc n x1).stores = s.stores := by simp [State.stores]

@[simp] theorem State.setExp_stores (i : Nat) (x1 : Exp) (s : State) : (s.setExp i x1).stores = s.stores := by simp [State.stores]

@[simp] theorem State.pierDrawFail_stores (port : Nat) (s : State) : (s.pierDrawFail port).stores = s.stores := by simp [State.stores]

@[simp] theorem State.drawError_stores (port : Nat) (s : State) : (s.drawError port).stores = s.stores := by simp [State.stores]

@[simp] theorem State.rngEvent_stores (bits : BitVec 6) (s : State) : (s.rngEvent bits).stores = s.stores := by simp [State.stores]

@[simp] theorem State.rngSettle_stores (s : State) : (s.rngSettle).stores = s.stores := by simp [State.stores]

@[simp] theorem State.done_stores (d status : Nat) (result : Bytes) (s : State) :
    (s.done d status result).stores = s.stores := by simp [State.stores]

@[simp] theorem State.answer_stores (d : Nat) (yes : Bool) (s : State) : (s.answer d yes).stores = s.stores := by simp [State.stores]

@[simp] theorem State.doneWith_stores (d status : Nat) (result : Bytes) (intents : List Intent) (s : State) :
    (s.doneWith d status result intents).stores = s.stores := by simp [State.stores]

@[simp] theorem State.mssRefuse_stores (st : Nat) (ws : List AncW) (s : State) :
    (s.mssRefuse st ws).stores = s.stores := by simp [State.stores]

@[simp] theorem State.newRel_stores (reply : Option (Path × Word × Nat × Bytes)) (act : Option (Nat × BitVec 64 × Word × Nat))
    (eff : MssEff) (s : State) :
    (s.newRel reply act eff).stores = s.stores := by simp [State.stores]

@[simp] theorem State.takeRel_stores (id : Nat) (s : State) : ((s.takeRel id).2).stores = s.stores := by simp [State.stores]

@[simp] theorem State.transmit_stores (n : Nat) (x1 : Nat × Nat × Msg) (s : State) :
    (s.transmit n x1).stores = s.stores := by simp [State.stores]

@[simp] theorem State.setAssoc_stores (n : Nat) (a : Assoc) (s : State) : (s.setAssoc n a).stores = s.stores := by simp [State.stores]

@[simp] theorem State.send_stores (n tenant : Nat) (m : Msg) (s : State) : (s.send n tenant m).stores = s.stores := by simp [State.stores]

@[simp] theorem State.sendDown_stores (tenant : Nat) (m : Msg) (s : State) :
    (s.sendDown tenant m).stores = s.stores := by simp [State.stores]

@[simp] theorem State.gotDecision_stores (pid : BitVec 64) (go : Bool) (excluded : List Nat) (s : State) :
    (s.gotDecision pid go excluded).stores = s.stores := by simp [State.stores]

@[simp] theorem State.sendDecision_stores (p : Proposal) (go : Bool) (excluded : List Nat) (s : State) :
    (s.sendDecision p go excluded).stores = s.stores := by simp [State.stores]

@[simp] theorem State.sendUp_stores (tenant : Nat) (m : Msg) (s : State) : (s.sendUp tenant m).stores = s.stores := by simp [State.stores]

@[simp] theorem State.trsEvent_stores (bits : BitVec 7) (s : State) : (s.trsEvent bits).stores = s.stores := by simp [State.stores]

@[simp] theorem State.event06_stores (s : State) : (s.event06).stores = s.stores := by simp [State.stores]

@[simp] theorem State.sendEnrol_stores (dst : Nat) (m : Msg) (s : State) : (s.sendEnrol dst m).stores = s.stores := by simp [State.stores]

@[simp] theorem State.sendOn_stores (n : Nat) (p : Port) (m : Msg) (s : State) :
    (s.sendOn n p m).stores = s.stores := by simp [State.stores]

@[simp] theorem State.setQp_stores (fn q : Nat) (x2 : QP) (s : State) : (s.setQp fn q x2).stores = s.stores := by simp [State.stores]

@[simp] theorem State.resetFn_stores (f : Nat) (s : State) : (s.resetFn f).stores = s.stores := by simp [State.stores]

@[simp] theorem State.modQp_stores (f q : Nat) (g : QP → QP) (s : State) : (s.modQp f q g).stores = s.stores := by simp [State.stores]

@[simp] theorem State.qpError_stores (f q : Nat) (bit : BitVec 3) (stop : Bool) (s : State) :
    (s.qpError f q bit stop).stores = s.stores := by simp [State.stores]

@[simp] theorem State.dropGrant_stores (g : Grant) (s : State) : (s.dropGrant g).stores = s.stores := by simp [State.stores]

@[simp] theorem State.present_stores (idx fn q : Nat) (d : Bytes) (s : State) :
    (s.present idx fn q d).stores = s.stores := by simp [State.stores]

@[simp] theorem State.setIdState_stores (x0 : BitVec 3) (s : State) : (s.setIdState x0).stores = s.stores := by simp [State.stores]

@[simp] theorem State.closeFnSess_stores (f : Nat) (s : State) : (s.closeFnSess f).stores = s.stores := by simp [State.stores]

@[simp] theorem State.keepOutEng_stores (e cause : Nat) (s : State) : (s.keepOutEng e cause).stores = s.stores := by simp [State.stores]

@[simp] theorem State.faultLast_stores (e kind : Nat) (out : Bool) (s : State) :
    (s.faultLast e kind out).stores = s.stores := by simp [State.stores]

@[simp] theorem State.setOut_stores (e i : Nat) (r : Resp) (data : Bytes) (s : State) :
    (s.setOut e i r data).stores = s.stores := by simp [State.stores]

@[simp] theorem State.refuseEntry_stores (e i : Nat) (q : Req) (s : State) :
    (s.refuseEntry e i q).stores = s.stores := by simp [State.stores]

@[simp] theorem State.countResp_stores (e st : Nat) (s : State) : (s.countResp e st).stores = s.stores := by simp [State.stores]

@[simp] theorem State.reply_stores (p : Path) (typ : Nat) (tag : Word) (status : Nat) (body : Bytes) (s : State) :
    (s.reply p typ tag status body).stores = s.stores := by simp [State.stores]

@[simp] theorem State.takeReq_stores (p : Path) (typ : Nat) (tag : Word) (s : State) :
    (s.takeReq p typ tag).stores = s.stores := by simp [State.stores]

@[simp] theorem State.dropKet_stores (t : Nat) (s : State) : (s.dropKet t).stores = s.stores := by simp [State.stores]

@[simp] theorem State.evrRaise_stores (s : State) : (s.evrRaise).stores = s.stores := by simp [State.stores]

@[simp] theorem State.memCapture_stores (info addr : Nat) (s : State) : (s.memCapture info addr).stores = s.stores := by simp [State.stores]

@[simp] theorem State.memEvent_stores (code info addr p3 : Nat) (s : State) :
    (s.memEvent code info addr p3).stores = s.stores := by simp [State.stores]

@[simp] theorem State.setBlog_stores (n : Nat) (v : DWord) (s : State) : (s.setBlog n v).stores = s.stores := by simp [State.stores]

@[simp] theorem State.accAnswer_stores (a : Access) (error : Bool) (data : Bytes) (s : State) :
    (s.accAnswer a error data).stores = s.stores := by simp [State.stores]

@[simp] theorem State.wait_stores (s : State) : (s.wait).stores = s.stores := by simp [State.stores]

@[simp] theorem State.stores_eta (s : State) : Stores.mk s.ks s.mem s.cfg = s.stores := rfl

@[simp] theorem State.stores_mk (clk hiu dsp deck keys pay eng rng trs mss tg mi par ks evr anc cfg pwr boot hw mem now backupUs irq free
    out pending) :
    (State.mk clk hiu dsp deck keys pay eng rng trs mss tg mi par ks evr anc cfg pwr boot hw mem now backupUs irq free out pending).stores =
      ⟨ks, mem, cfg⟩ := rfl

@[simp] theorem State.ite_stores (c : Prop) [Decidable c] (a b : State) :
    (if c then a else b).stores = if c then a.stores else b.stores := apply_ite State.stores c a b

/-- Both branches of a choice have the stores `x`. -/
theorem State.ite_stores_eq {c : Prop} [Decidable c] {a b : State} {x : Stores} (ha : a.stores = x) (hb : b.stores = x) :
    (if c then a else b).stores = x := by rw [State.ite_stores, ha, hb, ite_self]

theorem snd_stores {α : Type} {p : α × State} {a : α} {t : State} (h : p = (a, t)) : t.stores = p.2.stores := by rw [h]

theorem fst_stores {α : Type} {p : State × α} {a : α} {t : State} (h : p = (t, a)) : t.stores = p.1.stores := by rw [h]

@[simp] theorem foldl_stores {α : Type} (f : State → α → State) (l : List α) (s : State) (h : ∀ s a, (f s a).stores = s.stores) :
    (l.foldl f s).stores = s.stores := foldl_keep State.stores f l s h

theorem State.setTrs_stores (x : Trs) (s : State) : ({ s with trs := x }).stores = s.stores := rfl

theorem State.setPwr_stores (x : Pwr) (s : State) : ({ s with pwr := x }).stores = s.stores := rfl

theorem State.setNow_stores (n : Nat) (s : State) : ({ s with now := n }).stores = s.stores := rfl

theorem State.setTg_stores (x : Tg) (s : State) : ({ s with tg := x }).stores = s.stores := rfl

theorem State.setMi_stores (x : Mi) (s : State) : ({ s with mi := x }).stores = s.stores := rfl

theorem State.setRng_stores (x : Rng) (s : State) : ({ s with rng := x }).stores = s.stores := rfl

theorem State.setMss_stores (x : Mss) (s : State) : ({ s with mss := x }).stores = s.stores := rfl

theorem State.setHw_stores (x : Hw) (s : State) : ({ s with hw := x }).stores = s.stores := rfl

theorem State.setHiu_stores (x : Hiu) (s : State) : ({ s with hiu := x }).stores = s.stores := rfl

theorem State.setEvr_stores (x : Evr) (s : State) : ({ s with evr := x }).stores = s.stores := rfl

theorem State.setBoot_stores (x : Boot) (s : State) : ({ s with boot := x }).stores = s.stores := rfl

/-! ## Outcomes -/

/-- The stores that a step leaves behind: none where it stops. -/
def storesAfter : Host.Outcome State Fault Refusal → Option Stores
  | .next t => some t.stores
  | _ => none

@[simp] theorem storesAfter_next (t : State) : storesAfter (.next t) = some t.stores := rfl

@[simp] theorem storesAfter_ite (c : Prop) [Decidable c] (a b : Host.Outcome State Fault Refusal) :
    storesAfter (if c then a else b) = if c then storesAfter a else storesAfter b := apply_ite storesAfter c a b

/-- Whatever state a draw answers has the stores `x`. -/
def DrawRes.Stores (x : Stores) : DrawRes → Prop
  | .ok _ t => t.stores = x
  | .stall => True
  | .fail t => t.stores = x

def BRes.Stores (x : Stores) : BRes → Prop
  | .ok _ t => t.stores = x
  | .fail _ t => t.stores = x
  | .need _ t => t.stores = x
  | .wait t => t.stores = x

def ActRes.Stores (x : Stores) : ActRes → Prop
  | .done _ t => t.stores = x
  | .begun t => t.stores = x
  | .refuse _ t => t.stores = x
  | .stall => True

/-! ## Operations and commands, unit by unit -/

/-! ## Operations and commands, unit by unit -/

/-! ### Anchor store -/

@[simp] theorem State.anchorsCut_stores (s : State) : s.anchorsCut.stores = s.stores := by
  unfold State.anchorsCut
  split <;> simp

@[simp] theorem State.anchorsRepair_stores (s : State) : s.anchorsRepair.stores = s.stores := by
  unfold State.anchorsRepair
  split <;> simp

/-! ### Memories -/

@[simp] theorem State.poison_stores (k : Nat) (s : State) : (s.poison k).stores = s.stores := by simp [State.poison]

/-! ### Configuration flash -/

/-! ### Key cache and blobs -/

@[simp] theorem State.nextIv_stores (s : State) : (s.nextIv).2.stores = s.stores := by simp [State.nextIv]

@[simp] theorem State.sealParts_stores (n : HdrNew) (parent : Bytes) (i : Nat) (ms : List Bytes) (s : State) :
    (s.sealParts n parent i ms).2.stores = s.stores := by
  induction ms generalizing i s with
  | nil => rfl
  | cons m ms ih => simp [State.sealParts, ih]

theorem State.install_stores {hdr mat : Bytes} {parent k : Nat} {s t : State} (h : s.install hdr mat parent = some (k, t)) :
    t.stores = s.stores := by
  unfold State.install at h
  dsimp only at h
  split at h <;> cases h
  simp

/-! ### Binding of keys -/

theorem State.loadCrk_stores {s t : State} (h : s.loadCrk = some t) : t.stores = s.stores := by
  unfold State.loadCrk at h
  extract_lets found b at h
  by_cases hf : found = true
  · rw [if_pos hf] at h
    cases h
    rfl
  · rw [if_neg hf] at h
    by_cases hl : s.ks.loaded = true
    · rw [if_pos hl] at h
      obtain ⟨m, -, rfl⟩ := Option.map_eq_some_iff.1 h
      simp
    · rw [if_neg hl] at h
      cases h

theorem State.crkFor_stores {s t : State} {epoch : Nat} {crk : Bytes} (h : s.crkFor epoch = some (crk, t)) :
    t.stores = s.stores := by
  unfold State.crkFor at h
  split at h
  · obtain ⟨u, hu, hx⟩ := Option.map_eq_some_iff.1 h
    cases hx
    exact State.loadCrk_stores hu
  · split at h
    · obtain ⟨m, -, hx⟩ := Option.map_eq_some_iff.1 h
      cases hx
      rfl
    · cases h

theorem bindTdk_stores (c : BCtx) (s : State) : (bindTdk c s).Stores s.stores := by
  unfold bindTdk
  extract_lets ep slot hit
  split; · rfl
  split; · rfl
  split; · rfl
  split; · rfl
  split; · rfl
  split; · rfl
  split; · rfl
  split; · rfl
  split; · rfl
  rename_i hc
  have ht := State.crkFor_stores hc
  split
  · exact ht
  · simpa [BRes.Stores] using ht

theorem installAll_stores {parent : Nat} {l : List (Bytes × Bytes)} {ks : List Nat} {s t : State}
    (h : installAll parent l s = some (ks, t)) : t.stores = s.stores := by
  induction l generalizing s ks with
  | nil => cases h; rfl
  | cons x l ih =>
    simp only [installAll] at h
    split at h
    · cases h
    · split at h <;> cases h
      exact (ih ‹_›).trans (State.install_stores ‹_›)

theorem bindKey_stores (c : BCtx) (fuel level idx kid : Nat) (mode : BMode) (s : State) :
    (bindKey c fuel level idx kid mode s).Stores s.stores := by
  induction fuel generalizing level idx kid mode with
  | zero => rfl
  | succ fuel ih =>
    unfold bindKey
    extract_lets ep hit _ parent t2 t2' bs hd
    have hparent : ∀ h, (parent h).Stores s.stores := by
      intro h
      unfold parent
      split
      · exact bindTdk_stores c s
      · split
        · rfl
        · exact ih ..
    clear_value ep hit parent t2'
    split
    · split
      · rfl
      · exact State.ite_stores_eq rfl rfl
    · split
      · rfl
      · split
        · split
          · rfl
          · rename_i l _
            have hp := hparent ((l.map (fun x => x.hdr)).headD [])
            split
            · rename_i ps u hb
              rw [hb] at hp
              split
              · rename_i hi
                have hv := (installAll_stores hi).trans hp
                exact State.ite_stores_eq hv hv
              · exact hp
            · exact hp
        · split; · rfl
          split; · rfl
          split; · rfl
          split
          · have hp := hparent hd
            split
            · rename_i ps u hb
              rw [hb] at hp
              extract_lets pk pe
              split; · exact hp
              split; · exact hp
              split; · exact hp
              split
              · rename_i hi
                exact (installAll_stores hi).trans hp
              · exact hp
            · rename_i hb
              rw [hb] at hp
              exact hp
            · exact hp
          · rfl

theorem bindRef_stores (c : BCtx) (r : KRef) (s : State) : (bindRef c r s).Stores s.stores := by
  have ht := bindTdk_stores c s
  have hk := bindKey_stores c 5 0 r.idx r.kid r.mode s
  unfold bindRef
  (repeat' split) <;> simp_all [BRes.Stores]

/-! ### Start of items -/

@[simp] theorem State.bindFrom_stores (d : Nat) (t2ok : Bool) (reads : List (Nat × Nat)) (i : Nat) (rs : List KRef) (s : State) :
    (s.bindFrom d t2ok reads i rs).stores = s.stores := by
  induction rs generalizing t2ok i s with
  | nil => simp [State.bindFrom]
  | cons r rs ih =>
    unfold State.bindFrom
    split
    · rfl
    · rename_i e _
      dsimp only
      split
      · exact ih ..
      · have h := bindRef_stores ⟨e.fn, e.fetched, t2ok, ((bindOf e.binds i).map (fun b => (b.keyId, b.epoch) :: b.anc)).getD []⟩ r s
        split <;> simp_all [BRes.Stores]

@[simp] theorem State.bindOn_stores (d : Nat) (t2ok : Bool) (s : State) : (s.bindOn d t2ok).stores = s.stores := by
  unfold State.bindOn
  split <;> simp

@[simp] theorem State.stage8_stores (d : Nat) (e : Entry) (b : Body) (s : State) : (s.stage8 d e b).stores = s.stores := by
  unfold State.stage8
  split <;> simp

@[simp] theorem State.startItem_stores (d : Nat) (s : State) : (s.startItem d).stores = s.stores := by
  simp only [State.startItem]
  (repeat' split) <;> simp

@[simp] theorem execKeyFillComplete_storesAfter (d : Idx) (r : HostRead) (s : State) :
    storesAfter (execKeyFillComplete d r s) = some s.stores := by
  unfold execKeyFillComplete
  (repeat' split) <;> simp

@[simp] theorem execInputReadComplete_storesAfter (d : Idx) (n : Nat) (r : HostRead) (s : State) :
    storesAfter (execInputReadComplete d n r s) = some s.stores := by
  unfold execInputReadComplete
  (repeat' split) <;> simp

/-! ### Engines' shared operations -/

@[simp] theorem State.cancelReqs_stores (d : Nat) (s : State) :
    (s.cancelReqs d).stores = s.stores := by simp [State.cancelReqs]

/-! ### Dispatch, replay and piers -/

@[simp] theorem State.dropAttempt_stores (d : Nat) (s : State) :
    (s.dropAttempt d).stores = s.stores := by simp [State.dropAttempt]

@[simp] theorem State.holdItem_stores (d : Nat) (s : State) : (s.holdItem d).stores = s.stores := by
  unfold State.holdItem
  split <;> simp

@[simp] theorem State.restart_stores (d : Nat) (s : State) : (s.restart d).stores = s.stores := by
  unfold State.restart
  (repeat' split) <;> simp

@[simp] theorem State.replayMove_stores (p : Option Nat) (s : State) : (s.replayMove p).stores = s.stores := by
  unfold State.replayMove
  split <;> simp

@[simp] theorem State.redispatch_stores (d : Nat) (s : State) : (s.redispatch d).stores = s.stores := by
  unfold State.redispatch
  (repeat' split) <;> simp

@[simp] theorem State.pierFails_stores (p cause : Nat) (s : State) : (s.pierFails p cause).stores = s.stores := by
  unfold State.pierFails
  (repeat' split) <;> simp

theorem State.selectReady_stores {s t : State} {d : Nat} (h : s.selectReady = some (d, t)) : t.stores = s.stores := by
  simp only [State.selectReady] at h
  split at h
  · cases h
  · split at h <;> cases h
    rfl

@[simp] theorem State.grantTo_stores (p d : Nat) (s : State) : (s.grantTo p d).stores = s.stores := by
  unfold State.grantTo
  split <;> simp

@[simp] theorem execItemGrant_storesAfter (s : State) : storesAfter (execItemGrant s) = some s.stores := by
  unfold execItemGrant
  (repeat' split) <;> try simp
  rename_i hsel
  exact State.selectReady_stores hsel

@[simp] theorem execTakePortRead_storesAfter (p : PierNo) (s : State) : storesAfter (execTakePortRead p s) = some s.stores := by
  unfold execTakePortRead
  split <;> simp

@[simp] theorem State.countWdog_stores (s : State) : s.countWdog.stores = s.stores := by simp [State.countWdog]

@[simp] theorem execItemWatchdogExpiry_storesAfter (p : PierNo) (s : State) :
    storesAfter (execItemWatchdogExpiry p s) = some s.stores := by
  unfold execItemWatchdogExpiry
  (repeat' split) <;> simp

@[simp] theorem execPierStallDetect_storesAfter (p : PierNo) (s : State) : storesAfter (execPierStallDetect p s) = some s.stores := by
  unfold execPierStallDetect
  split <;> simp

/-! ### Random numbers -/

@[simp] theorem State.seedExp_stores (i a b : Nat) (seed : Bytes) (s : State) :
    (s.seedExp i a b seed).stores = s.stores := by simp [State.seedExp]

theorem State.rngTake_stores (n : Nat) (s : State) : (s.rngTake n).Stores s.stores := by
  unfold State.rngTake
  (repeat' split) <;> simp [DrawRes.Stores]

@[simp] theorem execRngDataRead_storesAfter (s : State) : storesAfter (execRngDataRead s) = some s.stores := by
  have h := s.rngTake_stores 8
  unfold execRngDataRead
  split <;> simp_all [DrawRes.Stores]

@[simp] theorem State.dropSeeds_stores (p : Nat × Nat → Bool) (s : State) :
    (s.dropSeeds p).stores = s.stores := by simp [State.dropSeeds]

@[simp] theorem State.excludeSrc_stores (n test : Nat) (s : State) :
    (s.excludeSrc n test).stores = s.stores := by simp [State.excludeSrc]

@[simp] theorem execAdaptiveWindowEnd_storesAfter (n : Fin 4) (samples : List (BitVec 4)) (s : State) :
    storesAfter (execAdaptiveWindowEnd n samples s) = some s.stores := by
  simp only [execAdaptiveWindowEnd]
  (repeat' split) <;> simp

@[simp] theorem execSourceStartupTestEnd_storesAfter (n : Fin 4) (samples : List (BitVec 4)) (s : State) :
    storesAfter (execSourceStartupTestEnd n samples s) = some s.stores := by
  unfold execSourceStartupTestEnd
  split <;> simp

@[simp] theorem execSeedReady_storesAfter (s : State) : storesAfter (execSeedReady s) = some s.stores := by
  unfold execSeedReady
  (repeat' split) <;> simp

@[simp] theorem State.katResult_stores (unit : Nat) (pass : Bool) (startup : Bool) (s : State) :
    (s.katResult unit pass startup).stores = s.stores := by simp [State.katResult]

@[simp] theorem execRngKatEnd_storesAfter (pass : Bool) (s : State) : storesAfter (execRngKatEnd pass s) = some s.stores := by
  unfold execRngKatEnd
  split <;> simp

@[simp] theorem State.rngStart_stores (all : Bool) (s : State) : (s.rngStart all).stores = s.stores := by simp [State.rngStart]

/-! ### Payment items -/

@[simp] theorem State.runItem_storesAfter (d op : Nat) (f : Entry → State → State) (s : State)
    (hf : ∀ e t, (f e t).stores = t.stores) :
    storesAfter (s.runItem d op f) = some s.stores := by
  unfold State.runItem
  split <;> simp [hf]

@[simp] theorem State.withDraw_stores (n d : Nat) (f : Bytes → State → State) (s : State)
    (hf : ∀ b t, (f b t).stores = t.stores) : (s.withDraw n d f).stores = s.stores := by
  have h := s.rngTake_stores n
  unfold State.withDraw
  split
  · exact hf [] s
  · split <;> simp_all [DrawRes.Stores]

@[simp] theorem State.pinTranslate_stores (d : Nat) (e : Entry) (s : State) : (s.pinTranslate d e).stores = s.stores := by
  simp only [State.pinTranslate]
  split <;> simp

@[simp] theorem State.pinVerify_stores (d : Nat) (e : Entry) (s : State) : (s.pinVerify d e).stores = s.stores := by
  unfold State.pinVerify
  split <;> simp

@[simp] theorem State.pinGenerate_stores (d : Nat) (e : Entry) (s : State) : (s.pinGenerate d e).stores = s.stores := by
  unfold State.pinGenerate
  split <;> simp

@[simp] theorem State.dukptPin_stores (d : Nat) (e : Entry) (s : State) : (s.dukptPin d e).stores = s.stores := by
  simp only [State.dukptPin]
  split <;> simp

@[simp] theorem State.dukptMac_stores (d : Nat) (e : Entry) (s : State) :
    (s.dukptMac d e).stores = s.stores := by simp [State.dukptMac]

@[simp] theorem State.emvVerify_stores (d : Nat) (e : Entry) (s : State) :
    (s.emvVerify d e).stores = s.stores := by simp [State.emvVerify]

@[simp] theorem State.fpe_stores (d : Nat) (e : Entry) (s : State) : (s.fpe d e).stores = s.stores := by simp [State.fpe]

@[simp] theorem State.xtsSector_stores (d : Nat) (e : Entry) (s : State) :
    (s.xtsSector d e).stores = s.stores := by simp [State.xtsSector]

@[simp] theorem execSessionExpiry_storesAfter (f : Fn) (i : Fin 4096) (s : State) :
    storesAfter (execSessionExpiry f i s) = some s.stores := by
  unfold execSessionExpiry
  split <;> simp

/-! ### Public-key items -/

@[simp] theorem State.newBlob_stores (e : Entry) (ref pidx : Nat) (h : HdrNew) (mat : Bytes) (s : State) :
    (s.newBlob e ref pidx h mat).2.stores = s.stores := by simp [State.newBlob]

@[simp] theorem State.pkEnd_stores (d : Nat) (r : PkRes) (s : State) : (s.pkEnd d r).stores = s.stores := by
  unfold State.pkEnd
  split <;> simp

@[simp] theorem State.pkSign_stores (d : Nat) (e : Entry) (s : State) :
    (s.pkSign d e).stores = s.stores := by simp [State.pkSign]

@[simp] theorem State.pkEcdh_stores (d : Nat) (e : Entry) (s : State) : (s.pkEcdh d e).stores = s.stores := by
  refine State.withDraw_stores _ d _ s fun b t => ?_
  dsimp only
  split <;> simp

@[simp] theorem State.pkKeygen_stores (d : Nat) (e : Entry) (s : State) : (s.pkKeygen d e).stores = s.stores := by
  refine State.withDraw_stores _ d _ s fun b t => ?_
  dsimp only
  split <;> simp

@[simp] theorem State.rsaDecrypt_stores (d : Nat) (e : Entry) (s : State) :
    (s.rsaDecrypt d e).stores = s.stores := by simp [State.rsaDecrypt]

/-! ### Key management items and the journal -/

@[simp] theorem State.keyImport_stores (d : Nat) (e : Entry) (s : State) : (s.keyImport d e).stores = s.stores := by
  simp only [State.keyImport]
  (repeat' split) <;> simp

@[simp] theorem State.keyExport_stores (d : Nat) (e : Entry) (s : State) :
    (s.keyExport d e).stores = s.stores := by simp [State.keyExport]

@[simp] theorem State.keyGenerate_stores (d : Nat) (e : Entry) (s : State) :
    (s.keyGenerate d e).stores = s.stores := by simp [State.keyGenerate]

@[simp] theorem State.keyStage_stores (d : Nat) (e : Entry) (s : State) : (s.keyStage d e).stores = s.stores := by
  refine State.withDraw_stores _ d _ s fun b t => ?_
  dsimp only
  split <;> simp

@[simp] theorem State.runAction_storesAfter (d act : Nat) (f : Entry → State → State) (s : State)
    (hf : ∀ e t, (f e t).stores = t.stores) : storesAfter (s.runAction d act f) = some s.stores := by
  simp [State.runAction, hf]

@[simp] theorem State.keyRewrap_stores (d : Nat) (e : Entry) (s : State) :
    (s.keyRewrap d e).stores = s.stores := by simp [State.keyRewrap]

@[simp] theorem State.jrnWear_stores (s : State) : s.jrnWear.stores = s.stores := by simp [State.jrnWear]

/-! ### Releases of the MSS -/

@[simp] theorem State.issueAll_stores (id : Nat) (ws : List AncW) (s : State) : (s.issueAll id ws).stores = s.stores := by
  induction ws generalizing s with
  | nil => rfl
  | cons w ws ih => cases ws <;> simp_all [State.issueAll]

@[simp] theorem State.mssBegin_stores (ws : List AncW) (reply : Option (Path × Word × Nat × Bytes))
    (act : Option (Nat × BitVec 64 × Word × Nat)) (eff : MssEff) (s : State) :
    (s.mssBegin ws reply act eff).2.stores = s.stores := by
  unfold State.mssBegin
  split <;> simp

@[simp] theorem State.mssJournal_stores (kind : JKind) (t kid : Nat) (w : DWord) (ck : Option Nat) (eff : MssEff) (s : State) :
    (s.mssJournal kind t kid w ck eff).2.stores = s.stores := by
  unfold State.mssJournal
  (repeat' split) <;> simp

@[simp] theorem State.applyDrop_stores (t kid : Nat) (closes : Bool) (s : State) :
    (s.applyDrop t kid closes).stores = s.stores := by simp [State.applyDrop]

/-! ### Trestle: proposals and key changes -/

@[simp] theorem State.modAssoc_stores (n : Nat) (f : Assoc → Assoc) (s : State) : (s.modAssoc n f).stores = s.stores := by
  unfold State.modAssoc
  split <;> simp

@[simp] theorem State.quarEnter_stores (t : Nat) (s : State) : (s.quarEnter t).stores = s.stores := by simp [State.quarEnter]

@[simp] theorem State.markQuar_stores (t : Nat) (pid : Option (BitVec 64)) (s : State) :
    (s.markQuar t pid).stores = s.stores := by simp [State.markQuar]

@[simp] theorem State.decideProp_stores (x : Held) (flip : Bool) (s : State) :
    (s.decideProp x flip).stores = s.stores := by simp [State.decideProp]

@[simp] theorem State.reserveProp_stores (x : Held) (own : Bool) (s : State) :
    (s.reserveProp x own).stores = s.stores := by simp [State.reserveProp]

@[simp] theorem State.abutPropose_stores (p : Proposal) (own : Bool) (s : State) :
    (s.abutPropose p own).stores = s.stores := by simp [State.abutPropose]

@[simp] theorem State.endReservation_stores (pid : BitVec 64) (s : State) : (s.endReservation pid).stores = s.stores := by
  simp only [State.endReservation]
  (repeat' split) <;> simp

@[simp] theorem State.memberApply_stores (a : ApplyMsg) (s : State) : (s.memberApply a).stores = s.stores := by
  simp only [State.memberApply]
  split
  · simp
  · split
    · simp
    · split <;> rename_i h <;> simp [snd_stores h]

@[simp] theorem State.abutApply_stores (a : ApplyMsg) (s : State) :
    (s.abutApply a).stores = s.stores := by simp [State.abutApply]

@[simp] theorem State.originApply_stores (pid : BitVec 64) (t : Nat) (kid : BitVec 64) (w : DWord) (excl : List Nat) (s : State) :
    (s.originApply pid t kid w excl).stores = s.stores := by
  simp [State.originApply]

@[simp] theorem State.withdrawOf_stores (e : Entry) (s : State) :
    (s.withdrawOf e).stores = s.stores := by simp [State.withdrawOf]

@[simp] theorem State.unpropose_stores (d : Nat) (s : State) : (s.unpropose d).stores = s.stores := by
  unfold State.unpropose
  split <;> simp

@[simp] theorem State.withdrawAll_stores (fn : Nat) (s : State) :
    (s.withdrawAll fn).stores = s.stores := by simp [State.withdrawAll]

@[simp] theorem State.nextGen_stores (fn : Nat) (s : State) : (s.nextGen fn).stores = s.stores := by simp [State.nextGen]

@[simp] theorem State.originPropose_stores (d : Nat) (e : Entry) (k : ChangeKind) (t : Nat) (kid : BitVec 64) (w : DWord)
    (s : State) :
    (s.originPropose d e k t kid w).stores = s.stores := by
  simp [State.originPropose]

/-! ### Release of items -/

@[simp] theorem execItemPost_storesAfter (p : PierNo) (s : State) : storesAfter (execItemPost p s) = some s.stores := by
  unfold execItemPost
  (repeat' split) <;> simp

@[simp] theorem State.openSess_stores (fn : Nat) (n : SessNew) (s : State) : (s.openSess fn n).2.stores = s.stores := by
  simp only [State.openSess]
  split <;> simp

@[simp] theorem State.closeResolved_stores (e : Entry) (s : State) : (s.closeResolved e).stores = s.stores := by
  unfold State.closeResolved
  split <;> simp

@[simp] theorem State.imodCount_stores (fn q : Nat) (s : State) :
    (s.imodCount fn q).stores = s.stores := by simp [State.imodCount]

@[simp] theorem State.hostOut_stores (e : Entry) (status : Nat) (result : Bytes) (s : State) :
    (s.hostOut e status result).stores = s.stores := by simp [State.hostOut]

@[simp] theorem State.applyIntent_stores (e : Entry) (all : List Intent) (x : Intent) (rs : Bytes × State) :
    (State.applyIntent e all x rs).2.stores = rs.2.stores := by
  cases x <;> simp [State.applyIntent]

@[simp] theorem State.applyRel_stores (d : Nat) (s : State) : (s.applyRel d).stores = s.stores := by
  unfold State.applyRel
  split
  · rfl
  · split
    · rfl
    · rename_i e _ _
      have h : ∀ (all xs : List Intent) (rs : Bytes × State),
          (xs.foldl (fun rs x => State.applyIntent e all x rs) rs).2.stores = rs.2.stores := fun all xs rs =>
        List.foldlRecOn xs _ (motive := fun u : Bytes × State => u.2.stores = rs.2.stores) rfl (fun u hu x _ => by simp [hu])
      simp [h]

@[simp] theorem State.itemRefused_stores (e : Entry) (v : Nat) (s : State) :
    (s.itemRefused e v).stores = s.stores := by simp [State.itemRefused]

@[simp] theorem State.beginRelease_stores (d : Nat) (e : Entry) (v : Nat) (s : State) :
    (s.beginRelease d e v).stores = s.stores := by
  simp only [State.beginRelease]
  split <;> simp

@[simp] theorem State.deadline_stores (d : Nat) (e : Entry) (s : State) :
    (s.deadline d e).stores = s.stores := by simp [State.deadline]

@[simp] theorem State.guardFail_stores (d : Nat) (e : Entry) (s : State) :
    (s.guardFail d e).stores = s.stores := by simp [State.guardFail]

@[simp] theorem State.admissionMismatch_stores (d : Nat) (e : Entry) (s : State) :
    (s.admissionMismatch d e).stores = s.stores := by simp [State.admissionMismatch]

@[simp] theorem execReleaseTest_storesAfter (d : Idx) (entryLost flip : Bool) (s : State) :
    storesAfter (execReleaseTest d entryLost flip s) = some s.stores := by
  unfold execReleaseTest
  (repeat' split) <;> simp

@[simp] theorem execReleaseEnd_storesAfter (d : Idx) (s : State) : storesAfter (execReleaseEnd d s) = some s.stores := by
  unfold execReleaseEnd
  split <;> simp

@[simp] theorem execDeadlineExpiry_storesAfter (d : Idx) (s : State) : storesAfter (execDeadlineExpiry d s) = some s.stores := by
  unfold execDeadlineExpiry
  (repeat' split) <;> simp

/-! ### Host link, queue pairs and functions -/

@[simp] theorem execFetchGrant_storesAfter (s : State) : storesAfter (execFetchGrant s) = some s.stores := by
  unfold execFetchGrant
  dsimp only
  split
  · rfl
  · split
    · rfl
    · exact congrArg some (foldl_stores _ _ _ fun t d => State.setEnt_stores d _ t)

@[simp] theorem State.presentReady_stores (gs : List Grant) (s : State) : (s.presentReady gs).stores = s.stores := by
  induction gs generalizing s with
  | nil => rfl
  | cons g gs ih =>
    unfold State.presentReady
    split <;> simp [ih]

@[simp] theorem execDescriptorArrival_storesAfter (tag : Nat) (descs : List Bytes) (s : State) :
    storesAfter (execDescriptorArrival tag descs s) = some s.stores := by
  unfold execDescriptorArrival
  split <;> simp

@[simp] theorem State.descError_stores (tag : Nat) (e : ReadErr) (s : State) : (s.descError tag e).stores = s.stores := by
  unfold State.descError
  split <;> simp

@[simp] theorem execHostCompletionTimeout_storesAfter (r : ReadFor) (s : State) :
    storesAfter (execHostCompletionTimeout r s) = some s.stores := by
  unfold execHostCompletionTimeout
  (repeat' split) <;> simp

@[simp] theorem State.tnRefuse_stores (f : Nat) (s : State) : (s.tnRefuse f).stores = s.stores := by simp [State.tnRefuse]

@[simp] theorem execTenantRecordWrite_storesAfter (f : Fn) (fld : TnField) (value : DWord) (s : State) :
    storesAfter (execTenantRecordWrite f fld value s) = some s.stores := by
  unfold execTenantRecordWrite
  (repeat' split) <;> simp

@[simp] theorem State.dropFetches_stores (f : Nat) (s : State) :
    (s.dropFetches f).stores = s.stores := by simp [State.dropFetches]

@[simp] theorem State.vfReset_stores (f : Nat) (s : State) : (s.vfReset f).stores = s.stores := by simp [State.vfReset]

@[simp] theorem State.abandonItems_stores (s : State) : s.abandonItems.stores = s.stores := by simp [State.abandonItems]

@[simp] theorem State.moveAllGens_stores (s : State) : s.moveAllGens.stores = s.stores := by simp [State.moveAllGens]

/-! ### Clocks, groups and bays -/

@[simp] theorem State.setPll_stores (p : PllName) (x : Pll) (s : State) : (s.setPll p x).stores = s.stores := by
  unfold State.setPll
  split <;> simp

@[simp] theorem State.clockReplays_stores (s : State) : s.clockReplays.stores = s.stores := by simp [State.clockReplays]

@[simp] theorem State.activeFail_stores (cause : Nat) (s : State) :
    (s.activeFail cause).stores = s.stores := by simp [State.activeFail]

@[simp] theorem State.standbyFail_stores (locked : Bool) (s : State) :
    (s.standbyFail locked).stores = s.stores := by simp [State.standbyFail]

@[simp] theorem State.parkSettle_stores (b : Nat) (s : State) :
    (s.parkSettle b).stores = s.stores := by simp [State.parkSettle]

/-! ### Tollgate -/

@[simp] theorem State.tgFault_stores (a : Access) (kind : TgKind) (rule : Nat) (s : State) :
    (s.tgFault a kind rule).stores = s.stores := by
  unfold State.tgFault
  refine ((State.eventSig_stores ..).trans (State.setTg_stores ..)).trans ?_
  exact State.ite_stores_eq (State.setTg_stores ..) (State.setTg_stores ..)

@[simp] theorem State.tgHoldAccess_stores (a : Access) (s : State) :
    (s.tgHoldAccess a).stores = s.stores := by simp [State.tgHoldAccess]

@[simp] theorem State.tgChangePoint_stores (s : State) : s.tgChangePoint.stores = s.stores := by simp [State.tgChangePoint]

@[simp] theorem State.tgSetEn_stores (s : State) : s.tgSetEn.stores = s.stores := by
  simp only [State.tgSetEn]
  split <;> simp

/-! ### Engines -/

@[simp] theorem State.failQueue_stores (e : Nat) (s : State) : (s.failQueue e).stores = s.stores := by simp [State.failQueue]

@[simp] theorem State.engFails_stores (e kind : Nat) (s : State) :
    (s.engFails e kind).stores = s.stores := by simp [State.engFails]

theorem State.installParts_stores {q : Req} {parent : Nat} {ms : List Bytes} {ks : List Nat} {s t : State}
    (h : s.installParts q parent ms = some (ks, t)) : t.stores = s.stores := by
  induction ms generalizing s ks with
  | nil => cases h; rfl
  | cons m ms ih =>
    simp only [State.installParts] at h
    split at h
    · cases h
    · split at h <;> cases h
      exact (ih ‹_›).trans (by simp [State.install_stores ‹_›])

@[simp] theorem State.pinFor_stores (d : Nat) (ks : List Nat) (s : State) : (s.pinFor d ks).stores = s.stores := by
  unfold State.pinFor
  split <;> simp

@[simp] theorem State.refuseBadF_stores (e n : Nat) (s : State) : (s.refuseBadF e n).stores = s.stores := by
  induction n generalizing s with
  | zero => rfl
  | succ n ih =>
    simp only [State.refuseBadF]
    (repeat' split) <;> simp [ih]

@[simp] theorem State.addrTest_stores (s : State) (e : Nat) (k : AccKind) (d a n : Nat) :
    (s.addrTest e k d a n).2.stores = s.stores := by
  simp only [State.addrTest]
  (repeat' split) <;> simp

@[simp] theorem State.finishReq_stores (e i : Nat) (q : Req) (key : Option CKey) (o : EngOut) (s : State) :
    (s.finishReq e i q key o).stores = s.stores := by
  unfold State.finishReq
  split <;> simp

@[simp] theorem State.pierActs_stores (p d : Nat) (e : Entry) (st : Nat) (s : State) :
    (s.pierActs p d e st).stores = s.stores := by
  unfold State.pierActs
  split <;> simp

@[simp] theorem execEngineResponse_storesAfter (p : PierNo) (s : State) : storesAfter (execEngineResponse p s) = some s.stores := by
  simp only [execEngineResponse]
  (repeat' split) <;> simp

@[simp] theorem execStepMonitorFault_storesAfter (d : Idx) (s : State) : storesAfter (execStepMonitorFault d s) = some s.stores := by
  unfold execStepMonitorFault
  (repeat' split) <;> simp

@[simp] theorem State.setPark_stores (pk : Bool) (v : BitVec 6) (s : State) :
    (s.setPark pk v).stores = s.stores := by simp [State.setPark]

/-! ### Public-key engines -/

@[simp] theorem State.endLoad_stores (e : Nat) (dig : Bytes) (s : State) :
    (s.endLoad e dig).stores = s.stores := by simp [State.endLoad]

@[simp] theorem State.setPkmWord_stores (i : Nat) (v : DWord) (s : State) :
    (s.setPkmWord i v).stores = s.stores := by simp [State.setPkmWord]

@[simp] theorem State.pkmAccept_stores (s : State) : s.pkmAccept.stores = s.stores := by simp [State.pkmAccept]

/-! ### Draws, reports and requests of the MSS -/

theorem State.mssDraws_stores (n : Nat) (s : State) : (s.mssDraws n).Stores s.stores := by
  induction n generalizing s with
  | zero => rfl
  | succ n ih =>
    have h := s.rngTake_stores 8
    unfold State.mssDraws
    split
    · rename_i t heq
      rw [heq] at h
      have ht := ih t
      rw [show t.stores = s.stores from h] at ht
      split <;> simp_all [DrawRes.Stores]
    · exact h

theorem State.mssDraw_stores (n : Nat) (s : State) : (s.mssDraw n).Stores s.stores := by
  have h := s.mssDraws_stores ((n + 7) / 8)
  unfold State.mssDraw
  split <;> simp_all [DrawRes.Stores]

@[simp] theorem State.reqDraw_stores (n : Nat) (p : Path) (typ : Nat) (tag : Word) (f : Bytes → State → State) (s : State)
    (hf : ∀ b t, (f b t).stores = t.stores) : (s.reqDraw n p typ tag f).stores = s.stores := by
  have h := s.mssDraw_stores n
  unfold State.reqDraw
  split <;> simp_all [DrawRes.Stores]

@[simp] theorem State.report_stores (kind tenant : Nat) (nonce binding rnd : Bytes) (s : State) :
    (s.report kind tenant nonce binding rnd).2.stores = s.stores := by simp [State.report]

@[simp] theorem execNonceReq_storesAfter (path : Path) (tag : Word) (s : State) :
    storesAfter (execNonceReq path tag s) = some s.stores := by
  unfold execNonceReq
  split <;> simp

@[simp] theorem execAttest_storesAfter (path : Path) (tag : Word) (nonce : Bytes) (s : State) :
    storesAfter (execAttest path tag nonce s) = some s.stores := by
  unfold execAttest
  (repeat' split) <;> simp

@[simp] theorem execOfficerRead_storesAfter (path : Path) (tag : Word) (s : State) :
    storesAfter (execOfficerRead path tag s) = some s.stores := by
  unfold execOfficerRead
  (repeat' split) <;> simp

/-! ### What a release of the MSS does -/

@[simp] theorem State.confirmTrial_stores (s : State) : s.confirmTrial.stores = s.stores := by simp [State.confirmTrial]

@[simp] theorem State.settleId_stores (s : State) : s.settleId.stores = s.stores := by simp [State.settleId]

@[simp] theorem State.disableQps_stores (f : Nat) (s : State) :
    (s.disableQps f).stores = s.stores := by simp [State.disableQps]

@[simp] theorem State.setTenant_stores (t : Nat) (st : BitVec 2) (s : State) :
    (s.setTenant t st).stores = s.stores := by simp [State.setTenant]

@[simp] theorem State.allAbsent_stores (s : State) : s.allAbsent.stores = s.stores := by simp [State.allAbsent]

@[simp] theorem State.crkWords_stores (epoch : Nat) (crk : Bytes) (s : State) :
    (s.crkWords epoch crk).2.stores = s.stores := by simp [State.crkWords]

@[simp] theorem State.adoptCrk_stores (epoch : Nat) (crk : Bytes) (s : State) :
    (s.adoptCrk epoch crk).stores = s.stores := by simp [State.adoptCrk]

@[simp] theorem State.rollTdks_stores (crk : Bytes) (l : List (Nat × Bytes)) (s : State) :
    (s.rollTdks crk l).stores = s.stores := by
  induction l generalizing s with
  | nil => rfl
  | cons x l ih =>
    simp only [State.rollTdks]
    (repeat' split) <;> simp [ih]

@[simp] theorem State.applyRepl_stores (r : ReplRec) (s : State) : (s.applyRepl r).stores = s.stores := by
  unfold State.applyRepl
  split <;> simp

@[simp] theorem State.keepRepl_stores (seq : Nat) (r : ReplRec) (s : State) :
    (s.keepRepl seq r).stores = s.stores := by
  unfold State.keepRepl
  exact State.setTrs_stores _ s

@[simp] theorem State.forwardRepl_stores (seq : Nat) (r : ReplRec) (s : State) :
    (s.forwardRepl seq r).stores = s.stores := by simp [State.forwardRepl]

@[simp] theorem State.leaveCluster_stores (s : State) : s.leaveCluster.stores = s.stores := by simp [State.leaveCluster]

@[simp] theorem State.officerEvents_stores (l : List (Nat × Nat × Nat)) (s : State) :
    (s.officerEvents l).stores = s.stores := by simp [State.officerEvents]

/-! ### Cluster -/

@[simp] theorem State.ackUpTo_stores (n ack : Nat) (s : State) : (s.ackUpTo n ack).stores = s.stores := by
  unfold State.ackUpTo
  split <;> simp

@[simp] theorem State.deposed_stores (term : Nat) (s : State) : (s.deposed term).stores = s.stores := by simp [State.deposed]

@[simp] theorem State.recv_stores (h : Hdr) (sequenced : Bool) (f : State → State) (s : State)
    (hf : ∀ t, (f t).stores = t.stores) : (s.recv h sequenced f).stores = s.stores := by
  simp only [State.recv]
  (repeat' split) <;> simp [hf]

@[simp] theorem State.challenge_stores (e : Enrol) (dst : Nat) (s : State) : (s.challenge e dst).stores = s.stores := by
  have h := s.mssDraw_stores (32 + 2 * scalarDraw)
  unfold State.challenge
  split <;> simp_all [DrawRes.Stores]

@[simp] theorem execEnrolHello_storesAfter (h : Hdr) (serial : DWord) (rejoin : Bool) (ivEpoch : DWord) (s : State) :
    storesAfter (execEnrolHello h serial rejoin ivEpoch s) = some s.stores := by
  unfold execEnrolHello
  (repeat' split) <;> simp

@[simp] theorem execEnrolChallenge_storesAfter (h : Hdr) (nonce report cert ephPub : Bytes) (s : State) :
    storesAfter (execEnrolChallenge h nonce report cert ephPub s) = some s.stores := by
  have hd := s.mssDraw_stores (2 * scalarDraw)
  unfold execEnrolChallenge
  split
  · rfl
  · split
    · simp
    · split
      · rfl
      · split <;> simp_all [DrawRes.Stores]

@[simp] theorem State.drawSak_stores (an : Nat) (f : Sak → State → State) (s : State) (hf : ∀ k t, (f k t).stores = t.stores) :
    (s.drawSak an f).stores = s.stores := by
  have h := s.mssDraw_stores 44
  unfold State.drawSak
  split <;> simp_all [DrawRes.Stores]

@[simp] theorem State.installSak_stores (n : Nat) (k : Sak) (s : State) : (s.installSak n k).stores = s.stores := by
  unfold State.installSak
  split <;> simp

@[simp] theorem execEnrolResponse_storesAfter (h : Hdr) (report cert ephPub : Bytes) (ckseqs : List (Nat × Word)) (s : State) :
    storesAfter (execEnrolResponse h report cert ephPub ckseqs s) = some s.stores := by
  unfold execEnrolResponse
  split
  · rfl
  · split
    · simp
    · split
      · rfl
      · split
        · rfl
        · split
          · rfl
          · simp [State.loadCrk_stores ‹_›]

@[simp] theorem execEnrolGrant_storesAfter (h : Hdr) (authentic : Bool) (g : EnrolGrant) (s : State) :
    storesAfter (execEnrolGrant h authentic g s) = some s.stores := by
  unfold execEnrolGrant
  split
  · rfl
  · split
    · simp
    · split
      · rfl
      · simp

@[simp] theorem State.originate_stores (r : ReplRec) (ws : List AncW) (reply : Option (Path × Word × Nat × Bytes))
    (act : Option (Nat × BitVec 64 × Word × Nat)) (s : State) :
    (s.originate r ws reply act).2.stores = s.stores := by
  simp [State.originate]

@[simp] theorem State.sendResync_stores (m : Nat) (ts : List Nat) (s : State) :
    (s.sendResync m ts).stores = s.stores := by simp [State.sendResync]

@[simp] theorem State.linkStandby_stores (sb p : Nat) (s : State) :
    (s.linkStandby sb p).stores = s.stores := by simp [State.linkStandby]

@[simp] theorem execEnrolDone_storesAfter (h : Hdr) (member : Nat) (s : State) :
    storesAfter (execEnrolDone h member s) = some s.stores := by
  refine congrArg some (State.recv_stores _ _ _ _ fun t => ?_)
  extract_lets u _ v
  have hu : u.stores = t.stores := by simp [u]
  split
  · simp [hu]
  · split
    · exact hu
    · split
      · exact hu
      · extract_lets diff w _ x y
        have hw : w.stores = t.stores := by simp [w, v, hu]
        split
        · exact hw
        · have hy : y.stores = t.stores := by simp [y, x, hw]
          simp [hy]

@[simp] theorem State.mssBeginJ_stores (n t : Nat) (put : State → State) (ws : List AncW)
    (reply : Option (Path × Word × Nat × Bytes)) (act : Option (Nat × BitVec 64 × Word × Nat)) (eff : MssEff) (s : State)
    (hp : ∀ u, (put u).stores = u.stores) : (s.mssBeginJ n t put ws reply act eff).2.stores = s.stores := by
  unfold State.mssBeginJ
  split <;> simp [hp]

@[simp] theorem State.pylonVerdict_stores (x : Fwd) (s : State) :
    (s.pylonVerdict x).stores = s.stores := by simp [State.pylonVerdict]

@[simp] theorem State.pylonCheck_stores (pid : BitVec 64) (s : State) : (s.pylonCheck pid).stores = s.stores := by
  unfold State.pylonCheck
  split <;> simp

@[simp] theorem execVerdict_storesAfter (h : Hdr) (pid : BitVec 64) (yes : Bool) (noSpans : BitVec 128) (s : State) :
    storesAfter (execVerdict h pid yes noSpans s) = some s.stores := by
  refine congrArg some (State.recv_stores _ _ _ _ fun t => ?_)
  dsimp only
  split
  · simp
  · split <;> simp

@[simp] theorem execVerdictDeadline_storesAfter (pid : BitVec 64) (s : State) :
    storesAfter (execVerdictDeadline pid s) = some s.stores := by
  unfold execVerdictDeadline
  split <;> simp

@[simp] theorem execDecisionDeadline_storesAfter (pid : BitVec 64) (flip : Bool) (s : State) :
    storesAfter (execDecisionDeadline pid flip s) = some s.stores := by
  unfold execDecisionDeadline
  split <;> simp

@[simp] theorem execClTimeoutExpiry_storesAfter (d : Idx) (s : State) : storesAfter (execClTimeoutExpiry d s) = some s.stores := by
  unfold execClTimeoutExpiry
  split <;> simp

@[simp] theorem execResendTimer_storesAfter (neighbour : Nat) (s : State) :
    storesAfter (execResendTimer neighbour s) = some s.stores := by
  unfold execResendTimer
  split <;> simp

@[simp] theorem State.setLink_stores (p : Port) (b : Bool) (s : State) : (s.setLink p b).stores = s.stores := by
  unfold State.setLink
  split <;> simp

@[simp] theorem State.nbrLost_stores (n : Nat) (s : State) : (s.nbrLost n).stores = s.stores := by simp [State.nbrLost]

@[simp] theorem execPortFail_storesAfter (p : Port) (neighbour : Nat) (s : State) :
    storesAfter (execPortFail p neighbour s) = some s.stores := by
  unfold execPortFail
  split <;> simp

@[simp] theorem execPortRecover_storesAfter (p : Port) (neighbour : Nat) (s : State) :
    storesAfter (execPortRecover p neighbour s) = some s.stores := by
  unfold execPortRecover
  split <;> simp

@[simp] theorem execLeaseExpiry_storesAfter (s : State) : storesAfter (execLeaseExpiry s) = some s.stores := by
  unfold execLeaseExpiry
  split <;> simp

@[simp] theorem State.takeOver_stores (term : Nat) (votes : List Nat) (s : State) :
    (s.takeOver term votes).stores = s.stores := by simp [State.takeOver]

@[simp] theorem execAbutmentLossTimer_storesAfter (s : State) : storesAfter (execAbutmentLossTimer s) = some s.stores := by
  unfold execAbutmentLossTimer
  split
  · rfl
  · split
    · rfl
    · rename_i t _ _
      -- The time's state is named: the kernel must not evaluate the sum with its large numeral.
      obtain ⟨u, hu, hp⟩ : ∃ u, s.advance (t + 2000000) = u ∧ u.stores = s.stores := ⟨_, rfl, by simp⟩
      rw [hu, storesAfter_next, State.takeOver_stores, foldl_stores]
      · exact congrArg some hp
      · intro v x
        split <;> simp

@[simp] theorem execTakeoverCall_storesAfter (h : Hdr) (term : Nat) (s : State) :
    storesAfter (execTakeoverCall h term s) = some s.stores := by
  refine congrArg some (State.recv_stores _ _ _ _ fun t => ?_)
  split <;> simp

@[simp] theorem execVote_storesAfter (h : Hdr) (term replSeq lostMs : Nat) (s : State) :
    storesAfter (execVote h term replSeq lostMs s) = some s.stores := by
  refine congrArg some (State.recv_stores _ _ _ _ fun t => ?_)
  split <;> simp

@[simp] theorem State.applyCrk_stores (s : State) : s.applyCrk.stores = s.stores := by
  unfold State.applyCrk
  split <;> simp

@[simp] theorem State.crkAnswer_stores (member : Nat) (yes : Bool) (s : State) :
    (s.crkAnswer member yes).stores = s.stores := by
  unfold State.crkAnswer
  split <;> simp

@[simp] theorem execCrkPrepare_storesAfter (h : Hdr) (epoch : BitVec 32) (crk : BitVec 256) (tdkBlobs : List (Fn × Bytes)) (s : State) :
    storesAfter (execCrkPrepare h epoch crk tdkBlobs s) = some s.stores := by
  unfold execCrkPrepare
  (repeat' split) <;> simp

/-! ### Event recorder -/

@[simp] theorem State.evrWrite_stores (o : Offer) (time : Nat) (s : State) :
    (s.evrWrite o time).stores = s.stores := by simp [State.evrWrite]

theorem State.evrNext_stores {s t : State} {o : Offer} {time : Nat}
    (h : s.evrNext = some (o, time, t)) : t.stores = s.stores := by
  unfold State.evrNext at h
  (repeat' split at h) <;> cases h <;> rfl

@[simp] theorem execRecordAccept_storesAfter (s : State) : storesAfter (execRecordAccept s) = some s.stores := by
  unfold execRecordAccept
  split
  · rfl
  · split
    · simp
    · split
      · simp [State.evrNext_stores ‹_›]
      · simp

@[simp] theorem State.evrLost_stores (slot : Nat) (s : State) : (s.evrLost slot).stores = s.stores := by
  unfold State.evrLost
  split <;> simp

/-! ### Memory integrity -/

@[simp] theorem State.stagingLost_stores (d : Nat) (s : State) : (s.stagingLost d).stores = s.stores := by
  unfold State.stagingLost
  (repeat' split) <;> simp

@[simp] theorem State.deckLost_stores (d off : Nat) (s : State) : (s.deckLost d off).stores = s.stores := by
  unfold State.deckLost
  split <;> simp

@[simp] theorem State.markDie_stores (die : Nat) (s : State) : (s.markDie die).stores = s.stores := by simp [State.markDie]

@[simp] theorem State.dramCorrected_stores (syn : BitVec 8) (info addr : Nat) (s : State) :
    (s.dramCorrected syn info addr).stores = s.stores := by simp [State.dramCorrected]

/-! ### Parapet -/

@[simp] theorem State.alarm_stores (src : Nat) (s : State) : (s.alarm src).stores = s.stores := by simp [State.alarm]

@[simp] theorem State.logAlarm_stores (v : DWord) (s : State) : (s.logAlarm v).stores = s.stores := by
  unfold State.logAlarm
  split <;> simp

@[simp] theorem State.recordAlarm_stores (taken : Nat) (mismatch : Bool) (src : Nat) (s : State) :
    (s.recordAlarm taken mismatch src).stores = s.stores := by simp [State.recordAlarm]

@[simp] theorem State.alarmOn_stores (s : State) : s.alarmOn.stores = s.stores := by simp [State.alarmOn]

@[simp] theorem State.resetResponse_stores (s : State) : s.resetResponse.stores = s.stores := by simp [State.resetResponse]

@[simp] theorem State.policyWrite_stores (v : Word) (s : State) : (s.policyWrite v).1.stores = s.stores := by
  unfold State.policyWrite
  (repeat' split) <;> simp

@[simp] theorem State.policyPersist_stores (old : Word) (s : State) :
    (s.policyPersist old).stores = s.stores := by simp [State.policyPersist]

/-! ### Images -/

@[simp] theorem State.bootVerdict_stores (b : Bool) (flips : BitVec 16) (x : ImgSlot) (s : State) :
    (s.bootVerdict b flips x).2.stores = s.stores := by
  simp only [State.bootVerdict]
  split <;> simp

@[simp] theorem State.bootVerdicts_stores (b : Bool) (flips : BitVec 16) (l : List ImgSlot) (s : State) :
    (s.bootVerdicts b flips l).2.stores = s.stores := by
  induction l generalizing s with
  | nil => rfl
  | cons x l ih => simp [State.bootVerdicts, ih]

@[simp] theorem State.recoverySet_stores (b : Bool) (flips : BitVec 16) (s : State) :
    (s.recoverySet b flips).2.stores = s.stores := by simp [State.recoverySet]

@[simp] theorem State.tryBank_stores (b : Bool) (flips : BitVec 16) (code : Nat) (s : State) :
    (s.tryBank b flips code).2.stores = s.stores := by
  unfold State.tryBank
  dsimp only
  (repeat' split) <;> simp

/-! ### Tickets and ceremonies -/

@[simp] theorem State.smbRead_storesAfter (b : Bytes) (s : State) : storesAfter (s.smbRead b) = some s.stores := by simp [State.smbRead]

@[simp] theorem execSensors_storesAfter (path : Path) (tag : Word) (temp v12 i12 power : BitVec 16) (s : State) :
    storesAfter (execSensors path tag temp v12 i12 power s) = some s.stores := by
  unfold execSensors
  (repeat' split) <;> simp

@[simp] theorem execFragmentTimeout_storesAfter (msgId : Word) (s : State) :
    storesAfter (execFragmentTimeout msgId s) = some s.stores := by
  unfold execFragmentTimeout
  split <;> simp

@[simp] theorem execNonceLapse_storesAfter (s : State) : storesAfter (execNonceLapse s) = some s.stores := by
  unfold execNonceLapse
  split <;> simp

@[simp] theorem State.useNonce_stores (t : Bytes) (s : State) : (s.useNonce t).stores = s.stores := by simp [State.useNonce]

@[simp] theorem State.actAccepted_stores (r : ActionReq) (a : Action) (t : Nat) (s0 s : State) (h0 : s0.stores = s.stores)
    (ha : ∀ u, (a.run u).Stores u.stores) : (State.actAccepted r a t s0 s).stores = s.stores := by
  unfold State.actAccepted
  extract_lets id sg u st
  have hu : u.stores = s.stores := by simp [u]
  have h := ha u
  split
  · simp [hu]
  · split <;> rename_i hr <;> rw [hr, hu] at h
    · simpa [ActRes.Stores] using h
    · exact h
    · simpa [ActRes.Stores] using h
    · exact h0

@[simp] theorem State.action_stores (r : ActionReq) (a : Action) (t : Nat) (s : State) (ha : ∀ u, (a.run u).Stores u.stores) :
    (s.action r a t).stores = s.stores := by
  unfold State.action
  split; · rfl
  extract_lets u vf v w id
  have hu : u.stores = s.stores := by simp [u]
  have hw : w.stores = s.stores := by simp [w, hu]
  split; · simp [hu]
  split; · simp [hu]
  split; · simp [hu]
  split
  · simp [hw]
  · split
    · simp [hw]
    · exact State.actAccepted_stores r a t w s hw ha

theorem State.actRelease_stores {s : State} {x : Stores} (hs : s.stores = x) (r : ActionReq) (code t : Nat) (ws : List AncW)
    (body : Bytes) (e : MssEff) : (s.actRelease r code t ws body e).Stores x := by
  have h := s.mssBegin_stores ws (some (repOf r body)) (some (actOf code r.ticket t)) e
  unfold State.actRelease
  split <;> rename_i hb <;> rw [hb] at h <;> exact h.trans hs

theorem State.actDraw_stores (n : Nat) (f : Bytes → State → ActRes) (s : State)
    (hf : ∀ b t, t.stores = s.stores → (f b t).Stores s.stores) : (s.actDraw n f).Stores s.stores := by
  have h := s.mssDraw_stores n
  unfold State.actDraw
  split <;> rename_i hd <;> rw [hd] at h
  · exact hf _ _ h
  · trivial
  · exact h

@[simp] theorem State.endCeremony_stores (c : Ceremony) (how : Nat) (s : State) :
    (s.endCeremony c how).stores = s.stores := by simp [State.endCeremony]

@[simp] theorem execCeremonyWindowEnd_storesAfter (s : State) : storesAfter (execCeremonyWindowEnd s) = some s.stores := by
  unfold execCeremonyWindowEnd
  split <;> simp

theorem State.bindParent_stores (s : State) (r : KRef) (t n : Nat) (got : List (Nat × Bytes)) (t2 : Bool)
    (blobs : Option (List Bytes)) : (s.bindParent r t n got t2 blobs).Stores s.stores := by
  induction n generalizing s got t2 blobs with
  | zero => rfl
  | succ n ih =>
    have h := bindRef_stores ⟨t, got, t2, []⟩ r s
    unfold State.bindParent
    split
    · rename_i u hb
      rw [hb] at h
      have hu : u.stores = s.stores := h
      split
      · exact hu
      · exact hu
      · exact hu ▸ ih u _ _ _
    · rename_i u hb
      rw [hb] at h
      have hu : u.stores = s.stores := h
      exact hu ▸ ih u _ _ _
    · exact h

@[simp] theorem State.sealCeremony_stores (c : Ceremony) (parentBlob : Option Bytes) (s : State) :
    (s.sealCeremony c parentBlob).2.2.stores = s.stores := by
  unfold State.sealCeremony
  extract_lets len mat r
  split; · rfl
  split; · rfl
  split; · rfl
  have h := s.bindParent_stores r c.tenant 8 [] false (parentBlob.map (blocks 160))
  split
  · rename_i k _ u hb
    rw [hb] at h
    have hu : u.stores = s.stores := h
    split
    · split
      · exact hu
      · simp [hu]
    · exact hu
  · rename_i u hb
    rw [hb] at h
    exact h
  · rfl

@[simp] theorem execCcPart_storesAfter (tag : Word) (body : Bytes) (parentBlob : Option Bytes) (s : State) :
    storesAfter (execCcPart tag body parentBlob s) = some s.stores := by
  unfold execCcPart
  split; · rfl
  extract_lets t ans
  have ht : t.stores = s.stores := by simp [t]
  have hans : ∀ st b u, u.stores = s.stores → storesAfter (ans st b u) = some s.stores := fun st b u hu => by simp [ans, hu]
  clear_value ans
  split; · exact hans _ _ _ ht
  split; · exact hans _ _ _ ht
  split; · exact hans _ _ _ ht
  split; · exact hans _ _ _ ht
  split; · exact hans _ _ _ (by simp [ht])
  split
  · extract_lets d
    split
    · exact hans _ _ _ ht
    · have hc := t.sealCeremony_stores d parentBlob
      split <;> rename_i hr <;> rw [hr] at hc <;> exact hans _ _ _ (by simpa [ht] using hc)
  · exact hans _ _ _ (by simp [ht])

/-! ### Actions -/

@[simp] theorem execDecommission_storesAfter (r : ActionReq) (s : State) : storesAfter (execDecommission r s) = some s.stores := by
  refine congrArg some (State.action_stores r _ _ s fun u => State.actRelease_stores ?_ ..)
  rfl

@[simp] theorem State.originateAll_stores (r : ActionReq) (code t : Nat) (body : Bytes) (l : List (ReplRec × List AncW))
    (s : State) :
    (s.originateAll r code t body l).stores = s.stores := by
  induction l generalizing s with
  | nil => rfl
  | cons x l ih => cases l <;> simp_all [State.originateAll]

theorem State.actOriginate_stores {s : State} {x : Stores} (hs : s.stores = x) (r : ActionReq) (code t : Nat) (body : Bytes)
    (l : List (ReplRec × List AncW)) : (s.actOriginate r code t body l).Stores x := by
  unfold State.actOriginate
  dsimp only
  split <;> simp [ActRes.Stores, hs]

@[simp] theorem execOfficerTable_storesAfter (r : ActionReq) (s : State) : storesAfter (execOfficerTable r s) = some s.stores := by
  refine congrArg some (State.action_stores r _ _ s fun u => ?_)
  dsimp only
  split
  · exact State.actOriginate_stores rfl ..
  · exact State.actRelease_stores rfl ..

@[simp] theorem execTenantCreate_storesAfter (r : ActionReq) (s : State) : storesAfter (execTenantCreate r s) = some s.stores := by
  refine congrArg some (State.action_stores r _ _ s fun u => State.actDraw_stores _ _ u fun b t ht => ?_)
  dsimp only
  split
  · exact ht
  · rename_i crk v hc
    have hv : v.stores = u.stores := (State.crkFor_stores hc).trans ht
    split
    · exact State.actOriginate_stores (by simp [hv]) ..
    · exact State.actRelease_stores (by simp [hv]) ..

@[simp] theorem execTenantConfig_storesAfter (r : ActionReq) (s : State) : storesAfter (execTenantConfig r s) = some s.stores := by
  refine congrArg some (State.action_stores r _ _ s fun u => ?_)
  dsimp only
  split
  · exact State.actOriginate_stores rfl ..
  · exact State.actRelease_stores rfl ..

@[simp] theorem execCcImport_storesAfter (r : ActionReq) (s : State) : storesAfter (execCcImport r s) = some s.stores := by
  refine congrArg some (State.action_stores r _ _ s fun u => ?_)
  simp [ActRes.Stores]

@[simp] theorem execDrkBackup_storesAfter (r : ActionReq) (s : State) : storesAfter (execDrkBackup r s) = some s.stores := by
  refine congrArg some (State.action_stores r _ _ s fun u => State.actDraw_stores _ _ u fun b t ht => ?_)
  dsimp only
  split
  · exact ht
  · rename_i v hc
    have hv : v.stores = u.stores := (State.loadCrk_stores hc).trans ht
    simp [ActRes.Stores, hv]

@[simp] theorem execTamperPolicy_storesAfter (r : ActionReq) (s : State) : storesAfter (execTamperPolicy r s) = some s.stores := by
  refine congrArg some (State.action_stores r _ _ s fun u => ?_)
  dsimp only
  split <;> rename_i hp <;> simp [ActRes.Stores, fst_stores hp]

@[simp] theorem execOverlaySelect_storesAfter (r : ActionReq) (s : State) : storesAfter (execOverlaySelect r s) = some s.stores :=
  congrArg some (State.action_stores r _ _ s fun _ => State.actRelease_stores rfl ..)

theorem State.enrolAction_stores (r : ActionReq) (kind : Nat) (pre : State → Nat) (run : State → ActRes) (s : State)
    (hr : ∀ u, (run u).Stores u.stores) : storesAfter (s.enrolAction r kind pre run) = some s.stores := by
  simp [State.enrolAction, hr]

@[simp] theorem execClusterEnrolJoin_storesAfter (r : ActionReq) (s : State) :
    storesAfter (execClusterEnrolJoin r s) = some s.stores := by
  refine State.enrolAction_stores r _ _ _ s fun u => ?_
  dsimp only
  split
  · exact State.actRelease_stores rfl ..
  · rfl

@[simp] theorem execClusterRemove_storesAfter (r : ActionReq) (s : State) : storesAfter (execClusterRemove r s) = some s.stores := by
  refine State.enrolAction_stores r _ _ _ s fun u => ?_
  dsimp only
  split
  · exact State.actOriginate_stores (by simp) ..
  · simp [ActRes.Stores]

@[simp] theorem execCrkChange_storesAfter (r : ActionReq) (s : State) : storesAfter (execCrkChange r s) = some s.stores := by
  refine State.enrolAction_stores r _ _ _ s fun u => State.actDraw_stores _ _ u fun b t ht => ?_
  simp [ActRes.Stores, ht]

@[simp] theorem execClusterParameters_storesAfter (r : ActionReq) (s : State) : storesAfter (execClusterParameters r s) = some s.stores :=
  State.enrolAction_stores r _ _ _ s fun _ => State.actOriginate_stores rfl ..

/-! ### Anchor writes that complete -/

@[simp] theorem execQuarantineCountAgeOut_storesAfter (u : QUnit) (s : State) :
    storesAfter (execQuarantineCountAgeOut u s) = some s.stores := by
  unfold execQuarantineCountAgeOut
  split <;> simp

/-! ### Interconnect accesses -/

@[simp] theorem State.accHole_stores (a : Access) (s : State) : (s.accHole a).stores = s.stores := by simp [State.accHole]

@[simp] theorem State.captureSynd_stores (a : Access) (synd : Nat) (ue dram : Bool) (s : State) :
    (s.captureSynd a synd ue dram).stores = s.stores := by simp [State.captureSynd]

@[simp] theorem State.sramCorrected_stores (a : Access) (k syn : Nat) (s : State) :
    (s.sramCorrected a k syn).stores = s.stores := by simp [State.sramCorrected]

@[simp] theorem State.hostAcc_stores (a : Access) (s : State) : (s.hostAcc a).stores = s.stores := by simp [State.hostAcc]

/-! ### Registers -/

@[simp] theorem State.qpField_stores (f q : Nat) (g : QP → QP) (s : State) :
    (s.qpField f q g).stores = s.stores := by simp [State.qpField]

@[simp] theorem State.writeQp_stores (f q : Nat) (r : Reg) (x : DWord) (s : State) :
    (s.writeQp f q r x).stores = s.stores := by
  unfold State.writeQp
  (repeat' split) <;> simp

@[simp] theorem State.writeMsix_stores (f v : Nat) (r : Reg) (x : DWord) (s : State) :
    (s.writeMsix f v r x).stores = s.stores := by
  unfold State.writeMsix
  (repeat' split) <;> simp

@[simp] theorem State.writeParLatch_stores (x : DWord) (s : State) :
    (s.writeParLatch x).stores = s.stores := by simp [State.writeParLatch]

@[simp] theorem State.writePf_stores (r : Reg) (x : DWord) (s : State) : (s.writePf r x).stores = s.stores := by
  cases r
  all_goals rfl

@[simp] theorem State.writeVf_stores (f : Nat) (r : Reg) (x : DWord) (s : State) : (s.writeVf f r x).stores = s.stores := by
  unfold State.writeVf
  split <;> simp

@[simp] theorem State.writeRing_stores (r : Reg) (x : DWord) (s : State) : (s.writeRing r x).stores = s.stores := by
  unfold State.writeRing
  split <;> simp

/-! ### Power states -/

@[simp] theorem State.parkGroup_stores (g : Nat) (s : State) : (s.parkGroup g).stores = s.stores := by
  unfold State.parkGroup
  refine foldl_stores _ _ _ fun t p => ?_
  split <;> simp

@[simp] theorem State.unparkGroup_stores (g : Nat) (s : State) : (s.unparkGroup g).stores = s.stores := by
  have hpark : ∀ (l : List Nat) (t : State), (l.foldl (fun (t : State) p =>
      { t with dsp.parkNext := tblSet false p false t.dsp.parkNext }) t).stores = t.stores :=
    fun l t => foldl_stores _ l t fun _ _ => rfl
  unfold State.unparkGroup
  dsimp only
  split
  · exact (State.setGroup_stores ..).trans (hpark ..)
  · exact hpark ..
  · refine (foldl_stores _ _ _ fun u p => ?_).trans (hpark ..)
    exact State.ite_stores_eq (State.setPier_stores ..) rfl

@[simp] theorem State.groupSettle_stores (g : Nat) (s : State) :
    (s.groupSettle g).stores = s.stores := by simp [State.groupSettle]

@[simp] theorem State.allocate_stores (s : State) : s.allocate.stores = s.stores := by simp [State.allocate]

@[simp] theorem State.goOn_stores (s : State) : s.goOn.stores = s.stores := by simp [State.goOn]

@[simp] theorem State.abandonEntry_stores (m : BitVec 2) (ap : Nat) (s : State) :
    (s.abandonEntry m ap).stores = s.stores := by simp [State.abandonEntry]

@[simp] theorem State.startWake_stores (s : State) : s.startWake.stores = s.stores := by simp [State.startWake]

@[simp] theorem State.wakeBy_stores (src : WakeSrc) (s : State) : (s.wakeBy src).stores = s.stores := by
  unfold State.wakeBy
  (repeat' split) <;> simp

@[simp] theorem State.wakeEnds_stores (old : BitVec 2) (bits : Word) (t0 : Nat) (s : State) :
    (s.wakeEnds old bits t0).stores = s.stores := by simp [State.wakeEnds]

@[simp] theorem execDrowseWakeDone_storesAfter (first : PllName) (s : State) :
    storesAfter (execDrowseWakeDone first s) = some s.stores := by
  unfold execDrowseWakeDone
  split <;> simp

@[simp] theorem State.loadFw_stores (s : State) : s.loadFw.stores = s.stores := by simp [State.loadFw]

@[simp] theorem State.quiesceItem_stores (d : Nat) (e : Entry) (s : State) : (s.quiesceItem d e).stores = s.stores := by
  unfold State.quiesceItem
  split <;> simp

/-! ### Boot -/

@[simp] theorem State.restoreEvr_stores (s : State) : s.restoreEvr.stores = s.stores := by simp [State.restoreEvr]

@[simp] theorem State.findings_stores (s : State) : s.findings.stores = s.stores := by simp [State.findings]

@[simp] theorem State.sameRecovery_stores (b : Bool) (flips : BitVec 16) (code : Nat) (s : State) :
    (s.sameRecovery b flips code).2.stores = s.stores := by
  simp only [State.sameRecovery]
  split <;> simp

@[simp] theorem State.pickRecovery_stores (b : Bool) (flips : BitVec 16) (code : Nat) (s : State) :
    (s.pickRecovery b flips code).2.stores = s.stores := by
  simp only [State.pickRecovery]
  (repeat' split) <;> simp

@[simp] theorem State.pickBank_stores (b : Bool) (flips : BitVec 16) (code cause : Nat) (s : State) :
    (s.pickBank b flips code cause).2.stores = s.stores := by
  unfold State.pickBank
  split <;> rename_i h <;> simp [snd_stores h]

@[simp] theorem State.rollBack_stores (b : Bool) (s : State) : (s.rollBack b).stores = s.stores := by simp [State.rollBack]

@[simp] theorem State.pick_stores (obs : BootObs) (s : State) : (s.pick obs).2.stores = s.stores := by
  unfold State.pick
  split
  extract_lets sel trial again b t _ u
  have ht : t.stores = s.stores := by simp [t]
  split
  · simp [ht]
  · split
    · simp [ht]
    · split <;> rename_i h <;> simp [snd_stores h, u, ht]

@[simp] theorem State.identify_stores (p : BootPick) (s : State) : (s.identify p).stores = s.stores := by simp [State.identify]

@[simp] theorem State.bootStart_stores (cause : BitVec 4) (obs : BootObs) (s : State) :
    (s.bootStart cause obs).stores = s.stores := by
  unfold State.bootStart
  extract_lets t a b c d e f g u pw v
  have ht : t.stores = s.stores := (State.anchorsRepair_stores _).trans (State.setNow_stores ..)
  have hu : u.stores = t.stores := State.stores_mk ..
  have hv : v.stores = u.stores := by
    unfold v
    rw [State.ite_stores, State.event_stores, State.nrgEvent_stores, State.setPwr_stores, ite_self]
  rw [foldl_stores _ _ _ fun x w => (State.event_stores ..).trans (State.ancError_stores ..), hv, hu, ht]

@[simp] theorem State.haltRom_stores (s : State) : s.haltRom.stores = s.stores := by simp [State.haltRom]

@[simp] theorem State.bootTrestle_stores (s : State) : s.bootTrestle.stores = s.stores := by simp [State.bootTrestle]

/-! ### Supplies and pins -/

end Sys2Proof.Machine
end

section
/-! PROOFS. **The Keystone stays sound and the memories canonical** (R246 to R251, R487, R494, R521, R522): what the operations that
write the Keystone, a memory or the configuration flash keep, then the commands. -/

namespace Sys2Proof.Machine

/-! ## The invariant -/

theorem Stores.Ok.congr {s t : State} (h : s.stores.Ok) (e : t.stores = s.stores) : t.stores.Ok := e ▸ h

theorem Stores.Ok.keystone {s : State} (h : s.stores.Ok) : KeystoneOk s.ks := h.ks

theorem Stores.Ok.memory {s : State} (h : s.stores.Ok) : Memory.wf 0 s.mem := h.mem

theorem Stores.Ok.cfgFlash {s : State} (h : s.stores.Ok) : Memory.wf 0xFF s.cfg.flash := h.flash

/-- A sound state whose memory alone is written, in canonical form. -/
theorem Stores.Ok.setMem {s t : State} (h : s.stores.Ok) (hk : t.ks = s.ks) (hm : Memory.wf 0 t.mem) (hc : t.cfg = s.cfg) :
    t.stores.Ok := by
  have hk' : KeystoneOk t.ks := hk ▸ h.keystone
  have hc' : Memory.wf 0xFF t.cfg.flash := hc ▸ h.cfgFlash
  exact ⟨hk', hm, hc'⟩

/-- A sound state whose flash alone is written, in canonical form. -/
theorem Stores.Ok.setFlash {s t : State} (h : s.stores.Ok) (hk : t.ks = s.ks) (hm : t.mem = s.mem)
    (hc : Memory.wf 0xFF t.cfg.flash) : t.stores.Ok := by
  have hk' : KeystoneOk t.ks := hk ▸ h.keystone
  have hm' : Memory.wf 0 t.mem := hm ▸ h.memory
  exact ⟨hk', hm', hc⟩

/-- A sound state whose Keystone alone is written, soundly. -/
theorem Stores.Ok.setKs {s t : State} (h : s.stores.Ok) (hk : KeystoneOk t.ks) (hm : t.mem = s.mem) (hc : t.cfg.flash = s.cfg.flash) :
    t.stores.Ok := by
  have hm' : Memory.wf 0 t.mem := hm ▸ h.memory
  have hc' : Memory.wf 0xFF t.cfg.flash := hc ▸ h.cfgFlash
  exact ⟨hk, hm', hc'⟩

@[simp] theorem State.ite_storesOk {c : Prop} [Decidable c] {a b : State} (ha : a.stores.Ok) (hb : b.stores.Ok) :
    (if c then a else b).stores.Ok := by
  split <;> assumption

/-- A fold of updates that each keep the invariant keeps it. -/
theorem foldl_storesOk {α : Type} (f : State → α → State) (l : List α) {s : State} (hf : ∀ t a, t.stores.Ok → (f t a).stores.Ok)
    (h : s.stores.Ok) : (l.foldl f s).stores.Ok := by
  induction l generalizing s with
  | nil => exact h
  | cons a l ih => exact ih (hf s a h)

/-- Whatever state the outcome of a step has is sound. -/
def OkAfter : Host.Outcome State Fault Refusal → Prop
  | .next t => t.stores.Ok
  | _ => True

@[simp] theorem okAfter_next (t : State) : OkAfter (.next t) = t.stores.Ok := rfl

theorem okAfter_ite {c : Prop} [Decidable c] {a b : Host.Outcome State Fault Refusal} (ha : OkAfter a) (hb : OkAfter b) :
    OkAfter (if c then a else b) := by
  split <;> assumption

/-- A step that changes none of the stores keeps the invariant. -/
theorem Stores.Ok.after {s : State} (h : s.stores.Ok) {o : Host.Outcome State Fault Refusal} (e : storesAfter o = some s.stores) :
    OkAfter o := by
  cases o with
  | next t => exact h.congr (Option.some.inj e)
  | _ => trivial

/-- Whatever state the execution of an action answers is sound. -/
def ActRes.Ok : ActRes → Prop
  | .done _ t => t.stores.Ok
  | .begun t => t.stores.Ok
  | .refuse _ t => t.stores.Ok
  | .stall => True

theorem ActRes.Ok.of_stores {x : Machine.Stores} {a : ActRes} (h : ActRes.Stores x a) (hx : x.Ok) : a.Ok := by
  cases a with
  | stall => trivial
  | _ => exact (congrArg Machine.Stores.Ok h).mpr hx

/-! ## The Keystone -/

theorem keystoneOk_empty {k : Keystone} (hl : k.loaded = false) (hd : k.drk = 0) (hi : k.integrity = 0) : KeystoneOk k :=
  ⟨fun _ => ⟨hd, hi⟩, fun h => absurd (hl.symm.trans h) (by decide)⟩

/-- The check's verdict is no part of what makes the Keystone sound. -/
theorem KeystoneOk.check {k : Keystone} (h : KeystoneOk k) (b : Bool) : KeystoneOk { k with checkOk := b } := h

section
variable {s : State} (h : s.stores.Ok)
include h

theorem State.ksClear_storesOk : s.ksClear.stores.Ok := h.setKs (keystoneOk_empty rfl rfl rfl) rfl rfl

theorem State.loadDrk_storesOk (b : Bytes) : (s.loadDrk b).stores.Ok :=
  h.setKs ⟨fun hl => absurd hl (by simp [State.loadDrk]), fun _ => ⟨rfl, rfl⟩⟩ rfl rfl

theorem State.setCheck_storesOk (b : Bool) : ({ s with ks.checkOk := b }).stores.Ok := h.setKs (h.keystone.check b) rfl rfl

theorem State.keystoneCheck_storesOk : s.keystoneCheck.stores.Ok := by
  unfold State.keystoneCheck
  split
  · exact State.setCheck_storesOk h true
  · exact h.congr (State.event_stores ..)

theorem State.uncommission_storesOk : s.uncommission.stores.Ok := by
  have hc : s.ksClear.allAbsent.stores.Ok := (State.ksClear_storesOk h).congr (by simp)
  unfold State.uncommission
  extract_lets t _ _ _ _ v u
  have hv : v.stores.Ok := hc.setKs (hc.keystone.check false) rfl rfl
  exact hv.congr (by simp [u])

/-! ## Memory -/

theorem State.writeMem_storesOk (a : Nat) (b : Bytes) : (s.writeMem a b).stores.Ok :=
  h.setMem (by simp) (State.writeMem_wf a b s h.memory) (by simp)

theorem State.clearRange_storesOk (a n : Nat) : (s.clearRange a n).stores.Ok := h.setMem rfl (s.clearRange_wf a n h.memory) rfl

theorem State.clearPool_storesOk : s.clearPool.stores.Ok := State.clearRange_storesOk h _ _

theorem State.clearMssSram_storesOk : s.clearMssSram.stores.Ok := State.clearRange_storesOk h _ _

theorem State.poisonStripe_storesOk (i : Nat) : (s.poisonStripe i).stores.Ok := by
  refine h.setMem ?_ (s.poisonStripe_wf i h.memory) ?_ <;>
  · simp only [State.poisonStripe]
    split <;> rfl

theorem State.dramStore_storesOk (a : Access) (i : Nat) : (s.dramStore a i).stores.Ok :=
  h.setMem (by simp) (s.dramStore_wf a i h.memory) (by simp)

theorem putBytes_storesOk (bad : List Nat) (x : Nat) (bs : Bytes) : (putBytes bad x bs s).stores.Ok := by
  induction bs generalizing x s with
  | nil => exact h
  | cons b bs ih =>
    unfold putBytes
    refine ih (State.ite_storesOk h ?_) _
    exact h.setMem rfl (setByte_wf 0 s.mem x b h.memory) rfl

theorem State.clearStripe_storesOk (a n : Nat) : ({ s with mem := clearBytes s.mem a n }).stores.Ok :=
  h.setMem rfl (clearBytes_wf 0 s.mem a n h.memory) rfl

/-! ## The configuration flash -/

theorem State.cfgStart_storesOk (op : CfgOp) : (s.cfgStart op).stores.Ok := by
  unfold State.cfgStart
  split
  · exact h
  · split <;> exact h.setFlash rfl rfl h.cfgFlash

theorem State.cfgDigest_storesOk (b : Bytes) : (s.cfgDigest b).stores.Ok := h.setFlash rfl rfl h.cfgFlash

theorem State.jAppend_storesOk (t kind kid : Nat) (w : DWord) : (s.jAppend t kind kid w).stores.Ok :=
  h.setFlash (by simp) (by simp) (s.jAppend_wf t kind kid w h.cfgFlash)

theorem State.jVoid_storesOk (t first last : Nat) : (s.jVoid t first last).stores.Ok := State.jAppend_storesOk h _ _ _ _

theorem State.programBank_storesOk (image : Bytes) : (s.programBank image).stores.Ok :=
  h.setFlash (by simp [State.programBank]) (by simp [State.programBank]) (s.programBank_wf image h.cfgFlash)

theorem State.setFlash_storesOk (m : List Host.Cell) (hm : Memory.wf 0xFF m) : ({ s with cfg.flash := m }).stores.Ok :=
  h.setFlash rfl rfl hm

theorem State.evrClear_storesOk (signers ticket : Word) : (s.evrClear signers ticket).stores.Ok := by
  unfold State.evrClear
  split
  · exact h
  · extract_lets w half r _ u
    split
    rename_i v ok hv
    have hv' : v.stores.Ok := h.congr ((fst_stores hv).trans (State.ancWrite_stores ..))
    split
    · refine hv'.setFlash rfl rfl ?_
      dsimp only
      exact setBytes_wf 0xFF _ _ _ hv'.cfgFlash
    · exact hv'.setFlash rfl rfl hv'.cfgFlash

theorem State.evrCleared_storesOk : s.evrCleared.stores.Ok := by
  unfold State.evrCleared
  split
  · exact h
  · refine Stores.Ok.congr ?_ (State.evrEvent_stores ..)
    exact h.setFlash rfl rfl (clearBytes_wf 0xFF _ _ _ h.cfgFlash)

/-! ## Engines -/

theorem State.answerHead_storesOk {e : Nat} {y : QEnt} {r : Resp} {data : Bytes} {t : State} (ha : s.answerHead e y r data = some t) :
    t.stores.Ok := by
  have hput : ∀ (b : Bytes) (u : State), u.stores.Ok →
      (if (r.status = 0 && y.req.dst != 0 && !b.isEmpty) = true then u.writeMem (y.req.dst % 2 ^ 40) b else u).stores.Ok :=
    fun b u hu => State.ite_storesOk (State.writeMem_storesOk hu _ _) hu
  simp only [State.answerHead] at ha
  split at ha
  · split at ha <;> cases ha
    rename_i hi
    refine (hput _ _ (h.congr ?_)).congr (State.respond_stores ..)
    simp [State.installParts_stores hi]
  · cases ha
    exact (hput _ _ (h.congr (by simp))).congr (State.respond_stores ..)

theorem State.drainF_storesOk (e n : Nat) : (s.drainF e n).stores.Ok := by
  induction n generalizing s with
  | zero => exact h
  | succ n ih =>
    unfold State.drainF
    extract_lets x
    split
    · exact h
    · split
      · exact h
      · split
        · exact h
        · extract_lets after t _ u
          have hu : u.stores.Ok := h.congr (by simp [u, t])
          split
          · exact h.congr (State.setEng_stores ..)
          · split
            · exact hu
            · exact ih (State.answerHead_storesOk hu ‹_›)

theorem State.settle_storesOk (e : Nat) : (s.settle e).stores.Ok := by
  have h1 := State.drainF_storesOk (h.congr (s.refuseBadF_stores e 64)) e 64
  have h2 := State.drainF_storesOk (h1.congr (State.refuseBadF_stores e 64 _)) e 64
  exact h2.congr (State.parkSettle_stores ..)

/-- An entry of an engine is refused or answered, and its queue settles. -/
theorem Stores.Ok.settle_of {t : State} (e : Nat) (ht : t.stores = s.stores) : (t.settle e).stores.Ok :=
  State.settle_storesOk (h.congr ht) e

theorem execChainPlace_storesOk (p : PierNo) (k : EngKind) (entries : List Req) : OkAfter (execChainPlace p k entries s) := by
  unfold execChainPlace
  split
  · split
    · exact h
    · split
      · exact h
      · exact State.settle_storesOk (h.congr (by simp)) _
  · exact h

theorem execKeyBusRequest_storesOk (e : Fin 96) : OkAfter (execKeyBusRequest e s) := by
  unfold execKeyBusRequest
  split
  · exact h
  · split; · exact h
    split; · exact h.congr (State.modEng_stores ..)
    extract_lets _ t u lost _ _ _ _ _ v w
    have hu : u.stores.Ok := h.congr (by simp [u, t])
    split
    · exact State.settle_storesOk (hu.congr (by simp)) _
    · split
      · exact State.settle_storesOk (hu.congr (State.refuseEntry_stores ..)) _
      · have hw : w.stores.Ok := hu.congr (by simp [w, v])
        exact State.ite_storesOk hw (hw.congr (State.setOut_stores ..))

theorem execKeyBusSecondDecision_storesOk (e : Fin 96) (flip : Bool) : OkAfter (execKeyBusSecondDecision e flip s) := by
  unfold execKeyBusSecondDecision
  split
  · exact h
  · split
    · exact h
    · exact State.settle_storesOk (h.congr (State.modEng_stores ..)) _

theorem State.runEng_storesOk (e op : Nat) : OkAfter (s.runEng e op) := by
  unfold State.runEng
  split; · exact State.settle_storesOk h e
  extract_lets q t alg mat bad go
  have ht : t.stores = s.stores := by simp [t]
  have hgo : ∀ b u, u.stores = s.stores → (go b u).stores.Ok := fun b u hu => State.settle_storesOk (h.congr (by simp [hu])) _
  clear_value t go bad
  split; · exact State.settle_storesOk h e
  split; · exact h
  split; · exact h.congr (State.modEng_stores ..)
  split; · exact h.settle_of e (by simp [ht])
  split <;> rename_i hr <;> have hu := ((snd_stores hr).trans (State.addrTest_stores ..)).trans ht
  · exact h.congr hu
  · exact h.settle_of e (by simp [hu])
  · split <;> rename_i hw <;> have hv := ((snd_stores hw).trans (State.addrTest_stores ..)).trans hu
    · exact h.congr hv
    · exact h.settle_of e (by simp [hv])
    · rename_i v
      have hd := v.rngTake_stores (Machine.reqDraw e q)
      split
      · exact hgo _ _ hv
      · split <;> rename_i hd' <;> rw [hd'] at hd
        · exact hgo _ _ (hd.trans hv)
        · exact h.congr hv
        · exact h.settle_of e ((State.setOut_stores ..).trans (hd.trans hv))

theorem execScrubEnd_storesOk (e : Fin 48) : OkAfter (execScrubEnd e s) :=
  okAfter_ite (State.settle_storesOk (h.congr (State.scrub_stores ..)) _) h

/-! ## The data plane and the link -/

theorem State.resetDataPlane_storesOk : s.resetDataPlane.stores.Ok := by
  unfold State.resetDataPlane
  extract_lets _ t u v
  have hu : u.stores.Ok := h.congr (by simp [u, t])
  have hv : v.stores.Ok := State.clearRange_storesOk hu 0x40000000 0x4800000
  clear_value v
  exact hv.congr ((State.stores_mk ..).trans (State.stores_eta v))

theorem State.pfFlrStart_storesOk : s.pfFlrStart.stores.Ok := by
  unfold State.pfFlrStart
  extract_lets _ t
  have ht : t.stores.Ok := h.congr ((State.stores_mk ..).trans (State.stores_eta s))
  clear_value t
  exact (State.resetDataPlane_storesOk (ht.congr (by simp))).congr (State.signal_stores ..)

theorem State.linkReset_storesOk : s.linkReset.stores.Ok := by
  unfold State.linkReset
  extract_lets t
  have ht : t.stores.Ok := State.ite_storesOk h (State.pfFlrStart_storesOk h)
  clear_value t
  exact ht.congr rfl

/-! ## Memory integrity -/

theorem State.warmRestart_storesOk (cause : Nat) : (s.warmRestart cause).stores.Ok := by
  unfold State.warmRestart
  split
  · exact h
  · extract_lets t
    have ht : t.stores.Ok := State.clearMssSram_storesOk h
    clear_value t
    exact ht.congr ((State.stores_mk ..).trans (State.stores_eta t))

theorem State.ownerAt_storesOk (a : Nat) : (s.ownerAt a).stores.Ok := by
  unfold State.ownerAt
  split; · exact h.congr rfl
  split; · exact h.congr (State.deckLost_stores ..)
  split; · exact h.congr (State.stagingLost_stores ..)
  split; · exact State.warmRestart_storesOk h 2
  split; · exact h.congr rfl
  split; · exact h.congr (State.stagingLost_stores ..)
  split; · exact State.warmRestart_storesOk h 2
  exact h

theorem State.operandLost_storesOk (e : Nat) : (s.operandLost e).stores.Ok := by
  unfold State.operandLost
  split
  · exact State.ite_storesOk (h.settle_of e (State.setOut_stores ..)) h
  · exact h

theorem State.sramOwner_storesOk (m : SramMem) (inst addr : Nat) : (s.sramOwner m inst addr).stores.Ok := by
  cases m with
  | pool => exact State.ownerAt_storesOk h addr
  | mssSram => exact State.ownerAt_storesOk h addr
  | operand => exact State.ite_storesOk (State.operandLost_storesOk h _) h
  | _ => exact h.congr (by simp [State.sramOwner])

theorem execSramScrub_storesOk (m : SramMem) (inst : Fin 128) (addr : Nat) (ecc : Ecc) : OkAfter (execSramScrub m inst addr ecc s) := by
  unfold execSramScrub
  split
  · exact h
  · extract_lets k info at_ t u v s1
    have hv : v.stores.Ok := h.congr (by simp [v, u])
    have h1 : s1.stores.Ok := by
      unfold s1
      cases ecc with
      | clean => exact h
      | correctable syn => exact h.congr (by simp [t])
      | uncorrectable syn => exact State.ite_storesOk h (State.sramOwner_storesOk hv ..)
    clear_value s1
    split
    · exact h1.congr (by simp)
    · exact h1

theorem State.stripeOwners_storesOk (i : Nat) : (s.stripeOwners i).stores.Ok :=
  foldl_storesOk _ _ (fun _ x ht => State.ownerAt_storesOk ht x) h

theorem execDramScrub_storesOk (stripe : Fin 67108864) (ecc : Ecc) : OkAfter (execDramScrub stripe ecc s) := by
  unfold execDramScrub
  split
  · exact h
  · extract_lets a info t s1
    have h1 : s1.stores.Ok := by
      unfold s1
      cases ecc with
      | clean => exact h
      | correctable syn => exact h.congr (State.dramCorrected_stores ..)
      | uncorrectable syn =>
        refine State.ite_storesOk h (State.stripeOwners_storesOk ?_ _)
        refine Stores.Ok.congr ?_ ((State.memEvent_stores ..).trans (State.memCapture_stores ..))
        exact State.poisonStripe_storesOk (h.congr (State.setMi_stores ..)) stripe
    clear_value s1
    split
    · exact h1.congr (by simp)
    · exact h1

theorem State.sramLost_storesOk (a : Access) (syn : Nat) : (s.sramLost a syn).stores.Ok := by
  unfold State.sramLost
  extract_lets info _ t
  have ht : t.stores.Ok := h.congr (by simp [t])
  exact State.ite_storesOk ht (State.ownerAt_storesOk ht _)

theorem State.dramLost_storesOk (a : Access) (dies : Nat) : (s.dramLost a dies).stores.Ok := by
  unfold State.dramLost
  extract_lets info _ t
  have ht : t.stores.Ok := h.congr (by simp [t])
  exact State.ite_storesOk ht (State.ownerAt_storesOk ht _)

theorem State.sramRead_storesOk (a : Access) : (s.sramRead a).stores.Ok := by
  unfold State.sramRead
  extract_lets ks live
  split
  · exact (State.sramLost_storesOk (h.congr (by simp)) a _).congr (State.accAnswer_stores ..)
  · split
    · exact h.congr (by simp)
    · exact (State.sramLost_storesOk (h.congr (State.captureSynd_stores ..)) a _).congr (State.accAnswer_stores ..)
    · exact h.congr (by simp)

theorem State.sramWrite_storesOk (a : Access) : (s.sramWrite a).stores.Ok := by
  unfold State.sramWrite
  extract_lets ks full part lost bad t good u v w
  have ht : t.stores.Ok := by
    unfold t
    split
    · exact State.ite_storesOk (h.congr (State.sramCorrected_stores ..)) h
    · exact h
  have hu : u.stores.Ok := (putBytes_storesOk ht bad _ _).congr (foldl_stores _ _ _ fun _ _ => rfl)
  have hv : v.stores.Ok := hu.congr (foldl_stores _ _ _ fun x k => State.setTestBits_stores ..)
  have hw : w.stores.Ok := hv.congr (foldl_stores _ _ _ fun x k => State.poison_stores ..)
  split
  · exact hv.congr (State.accAnswer_stores ..)
  · exact (State.sramLost_storesOk (hw.congr (State.draw_stores ..)) a _).congr (State.accAnswer_stores ..)

theorem State.dramRead_storesOk (a : Access) : (s.dramRead a).stores.Ok := by
  unfold State.dramRead
  split
  · exact (State.dramLost_storesOk (h.congr (by simp)) a _).congr (State.accAnswer_stores ..)
  · extract_lets i e s1
    have h1 : ∀ ue, (s1 ue).stores.Ok := fun ue => h.congr (State.captureSynd_stores ..)
    clear_value s1 e
    split
    · exact (h1 false).congr (State.accAnswer_stores ..)
    · exact (h1 false).congr (by simp)
    · exact (State.dramLost_storesOk (h1 true) a _).congr (State.accAnswer_stores ..)

theorem State.dramWriteStripe_storesOk (a : Access) (i : Nat) (e : Ecc) : (s.dramWriteStripe a i e).2.stores.Ok := by
  unfold State.dramWriteStripe
  extract_lets touched whole info _ t
  have ht : t.stores.Ok := by
    refine Stores.Ok.congr ?_ ((State.memEvent_stores ..).trans (State.memCapture_stores ..))
    exact State.poisonStripe_storesOk (h.congr (State.setMi_stores ..)) i
  clear_value t
  split; · exact State.dramLost_storesOk h a 0
  split; · exact State.dramLost_storesOk h a 0
  split
  · exact State.dramStore_storesOk h a i
  · exact State.dramStore_storesOk (h.congr (State.dramCorrected_stores ..)) a i
  · split
    · exact State.dramStore_storesOk (State.clearStripe_storesOk h _ _) a i
    · exact State.ite_storesOk ht (State.stripeOwners_storesOk ht i)

theorem State.dramWrite_storesOk (a : Access) : (s.dramWrite a).stores.Ok := by
  unfold State.dramWrite
  refine Stores.Ok.congr ?_ (State.accAnswer_stores ..)
  exact List.foldlRecOn (stripesOf a) _ (motive := fun u : Bool × State => u.2.stores.Ok) h
    (fun u hu i _ => State.dramWriteStripe_storesOk hu ..)

/-! ## Interconnect accesses -/

theorem State.accPass_storesOk (a : Access) : (s.accPass a).stores.Ok := by
  unfold State.accPass
  split
  · exact State.ite_storesOk (h.congr (State.accAnswer_stores ..)) (h.congr (by simp))
  · exact State.ite_storesOk (State.sramWrite_storesOk h a) (State.sramRead_storesOk h a)
  · exact State.ite_storesOk (State.sramWrite_storesOk h a) (State.sramRead_storesOk h a)
  · exact State.ite_storesOk (State.dramWrite_storesOk h a) (State.dramRead_storesOk h a)
  all_goals exact h.congr (by simp)

theorem State.faultEnds_storesOk (a : Access) : (s.faultEnds a).stores.Ok := by
  unfold State.faultEnds
  extract_lets eng
  have he : ∀ e, (eng e).stores.Ok := by
    intro e
    unfold eng
    split
    · exact h.settle_of e (State.refuseEntry_stores ..)
    · exact h
  clear_value eng
  split
  · exact h
  · exact h.congr (State.pierFails_stores ..)
  · exact h.congr (State.pierFails_stores ..)
  · exact State.ite_storesOk (he _) h
  · exact State.ite_storesOk (he _) h
  · exact State.ite_storesOk (he _) h
  · exact h.congr (State.requestReset_stores ..)

theorem State.accFault_storesOk (a : Access) (k : TgKind) (rule : Nat) : (s.accFault a k rule).stores.Ok :=
  State.faultEnds_storesOk (h.congr ((State.accAnswer_stores ..).trans (State.tgFault_stores ..))) a

theorem State.accDefault_storesOk (a : Access) : (s.accDefault a).stores.Ok := by
  unfold State.accDefault
  extract_lets miss t _ u
  have hm : ∀ v : State, (miss v).stores = v.stores := fun v => rfl
  have ht : t.stores.Ok := State.ite_storesOk (h.congr ((State.eventSig_stores ..).trans (hm s))) h
  have hu : u.stores.Ok := ht.congr rfl
  refine State.ite_storesOk (State.accFault_storesOk (ht.congr (hm t)) ..) ?_
  exact State.ite_storesOk (State.accPass_storesOk hu a) (State.accFault_storesOk hu ..)

theorem State.ruleLost_storesOk (a : Access) (i : Nat) : (s.ruleLost a i).stores.Ok := by
  unfold State.ruleLost
  extract_lets _ t u
  have hu : u.stores.Ok := h.congr (by simp [u, t])
  exact State.ite_storesOk (State.accDefault_storesOk hu a) (hu.congr (State.tgHoldAccess_stores ..))

theorem State.accRules_storesOk (a : Access) : (s.accRules a).stores.Ok := by
  unfold State.accRules
  split
  · exact State.accPass_storesOk h a
  · exact State.accDefault_storesOk h a
  · exact State.accFault_storesOk h ..

theorem State.accDecide_storesOk (a : Access) : (s.accDecide a).stores.Ok := by
  unfold State.accDecide
  split
  · exact State.accDefault_storesOk h a
  · split
    · exact State.ruleLost_storesOk h a _
    · exact State.accRules_storesOk (h.congr (State.eventSig_stores ..)) a
    · exact State.accRules_storesOk h a

theorem State.accArrive_storesOk (a : Access) : (s.accArrive a).stores.Ok :=
  State.ite_storesOk (h.congr (State.tgHoldAccess_stores ..)) (State.accDecide_storesOk h a)

theorem State.tgEnableNow_storesOk : s.tgEnableNow.stores.Ok :=
  foldl_storesOk _ _ (fun _ a ht => State.accArrive_storesOk ht a) (h.congr ((State.setTg_stores ..).trans (State.tgSetEn_stores s)))

theorem State.loadRules_storesOk : s.loadRules.stores.Ok := State.tgEnableNow_storesOk (h.congr (State.setTg_stores ..))

/-! ## Draws, the journal and the recorder -/

theorem State.setCfg_storesOk (c : Cfg) (hc : Memory.wf 0xFF c.flash) : ({ s with cfg := c }).stores.Ok := h.setFlash rfl rfl hc

theorem State.setCfgKeys_storesOk (c : Cfg) (k : Keys) (hc : Memory.wf 0xFF c.flash) : ({ s with cfg := c, keys := k }).stores.Ok :=
  h.setFlash rfl rfl hc

theorem execCfgCmdDone_storesOk (ok : Bool) : OkAfter (execCfgCmdDone ok s) := by
  unfold execCfgCmdDone
  split
  · exact h
  · rename_i op a n m _
    extract_lets _ t b p u _ _
    have ht : t.stores.Ok :=
      Stores.Ok.congr (State.setCfg_storesOk h { s.cfg with cmd := none, error := false } h.cfgFlash) (State.signal_stores ..)
    have hu : u.stores.Ok := State.cfgDigest_storesOk ht p
    clear_value u t
    cases op with
    | read => exact State.writeMem_storesOk (State.cfgDigest_storesOk ht b) m b
    | hash => exact State.cfgDigest_storesOk ht _
    | program =>
      refine okAfter_ite (State.setCfg_storesOk hu _ (setBytes_wf 0xFF _ _ _ hu.cfgFlash)) ?_
      have hd : (u.draw n).2.stores.Ok := hu.congr (State.draw_stores ..)
      exact State.setCfg_storesOk hd _ (setBytes_wf 0xFF _ _ _ hd.cfgFlash)
    | erase =>
      refine okAfter_ite (State.setCfg_storesOk ht _ (clearBytes_wf 0xFF _ _ _ ht.cfgFlash)) ?_
      have hd : (t.draw n).2.stores.Ok := ht.congr (State.draw_stores ..)
      exact State.setCfg_storesOk hd _ (setBytes_wf 0xFF _ _ _ hd.cfgFlash)

theorem execDrawServed_storesOk : OkAfter (execDrawServed s) := by
  unfold execDrawServed
  split
  · exact h
  · rename_i p _
    have hd := s.rngTake_stores (tblGet 0 s.rng.waiting p)
    split
    · exact h.congr (State.drawError_stores ..)
    · split
      · rename_i b t hr
        rw [hr] at hd
        extract_lets _ u
        have hu : u.stores.Ok := h.congr ((State.setRng_stores ..).trans hd)
        clear_value u
        refine okAfter_ite (State.loadDrk_storesOk hu b) (okAfter_ite ?_ ?_) <;> exact hu.congr (State.emit_stores ..)
      · exact h

theorem execJournalRecordPersistent_storesOk : OkAfter (execJournalRecordPersistent s) := by
  unfold execJournalRecordPersistent
  split
  · exact h
  · extract_lets _ _ t
    have ht : t.stores.Ok := State.setCfgKeys_storesOk h _ _ (setBytes_wf 0xFF _ _ _ h.cfgFlash)
    clear_value t
    exact Stores.Ok.congr ht ((State.tryKeySeq_stores ..).trans (State.repay_stores ..))

theorem execJournalHalfErase_storesOk : OkAfter (execJournalHalfErase s) := by
  unfold execJournalHalfErase
  split
  · exact h
  · extract_lets n new
    refine Stores.Ok.congr ?_ (State.jrnWear_stores ..)
    exact h.setFlash rfl rfl (clearBytes_wf 0xFF _ _ _ (setBytes_wf 0xFF _ _ _ h.cfgFlash))

theorem execKeptRecordFlashWriteDone_storesOk : OkAfter (execKeptRecordFlashWriteDone s) := by
  unfold execKeptRecordFlashWriteDone
  split
  · exact h
  · extract_lets _ t
    have ht : t.stores.Ok := h.congr rfl
    clear_value t
    split
    · exact State.setFlash_storesOk ht _ (setBytes_wf 0xFF _ _ _ ht.cfgFlash)
    · exact ht

theorem execEvrClear_storesOk : OkAfter (execEvrClear s) := by
  unfold execEvrClear
  split
  · exact State.evrClear_storesOk h _ _
  · exact h

/-! ## What a release of the MSS does -/

theorem State.setCheckState_storesOk (b : Bool) (x : Mss) : ({ s with ks.checkOk := b, mss := x }).stores.Ok :=
  h.setKs (h.keystone.check b) rfl rfl

theorem State.mssEffect_storesOk (e : MssEff) (ticket : Nat) : (s.mssEffect e ticket).stores.Ok := by
  cases e with
  | none | policy | recorder => exact h
  | commission l =>
    have hl : (s.officerEvents l).stores.Ok := h.congr (State.officerEvents_stores ..)
    exact (State.setCheckState_storesOk hl _ _).congr (State.settleId_stores ..)
  | decommission => exact State.uncommission_storesOk h
  | removed => exact (State.uncommission_storesOk h).congr (State.leaveCluster_stores ..)
  | _ =>
    refine h.congr ?_
    simp only [State.mssEffect]
    (repeat' split) <;> simp

theorem State.mssCommit_storesOk (id : Nat) : (s.mssCommit id).stores.Ok := by
  have ht : (s.takeRel id).2.stores.Ok := h.congr rfl
  unfold State.mssCommit
  split <;> rename_i hr <;> rw [hr] at ht
  · exact ht
  · extract_lets ticket u v
    have hu : u.stores.Ok := State.mssEffect_storesOk ht ..
    have hv : v.stores.Ok := by
      unfold v
      split
      · exact hu.congr (State.event_stores ..)
      · exact hu
    clear_value v
    split
    · exact hv.congr (State.reply_stores ..)
    · exact hv

theorem State.commitRels_storesOk (eff : MssEff) : (s.commitRels eff).stores.Ok :=
  foldl_storesOk _ _ (fun _ r ht => State.mssCommit_storesOk ht r.id) h

theorem State.commitOwner_storesOk (o : Owner) : (s.commitOwner o).stores.Ok := by
  cases o with
  | deck d => exact h.congr (State.applyRel_stores ..)
  | mss id => exact State.mssCommit_storesOk (h.congr (State.setPwr_stores ..)) id

theorem State.keySeqPersist_storesOk (t seq : Nat) : (s.keySeqPersist t seq).stores.Ok := by
  unfold State.keySeqPersist
  extract_lets l _ u
  have hu : u.stores.Ok := h.congr rfl
  exact foldl_storesOk _ _ (fun _ x ht => State.commitOwner_storesOk ht x.owner) hu

/-! ## Releases that append to the journal -/

theorem State.mssBeginJ_storesOk (n t : Nat) (put : State → State) (ws : List AncW)
    (reply : Option (Path × Word × Nat × Bytes)) (act : Option (Nat × BitVec 64 × Word × Nat)) (eff : MssEff)
    (hp : ∀ u : State, u.stores.Ok → (put u).stores.Ok) : (s.mssBeginJ n t put ws reply act eff).2.stores.Ok := by
  unfold State.mssBeginJ
  split
  · extract_lets u
    have hu : u.stores.Ok := (hp _ (h.congr (State.admitCost_stores ..))).congr (State.repay_stores ..)
    exact hu.congr (by simp)
  · exact h.congr (by dsimp only; split <;> simp)

theorem State.replNow_storesOk (seq : Nat) (r : ReplRec) : (s.replNow seq r).stores.Ok := by
  unfold State.replNow
  split
  exact State.mssBeginJ_storesOk h _ _ _ _ _ _ _ fun u hu => State.ite_storesOk hu (State.jVoid_storesOk hu ..)

theorem State.replDrain_storesOk : s.replDrain.stores.Ok := by
  unfold State.replDrain
  extract_lets next
  split
  · exact h
  · exact State.replNow_storesOk (h.congr (State.setTrs_stores ..)) ..

theorem State.resyncApply_storesOk (m : ResyncMsg) : (s.resyncApply m).stores.Ok := by
  unfold State.resyncApply
  extract_lets t diff put q cfg ws
  split
  · exact h.congr (by simp)
  · exact State.mssBeginJ_storesOk h _ _ _ _ _ _ _ fun u hu => foldl_storesOk _ _ (fun v x hv => State.jAppend_storesOk hv ..) hu

theorem State.recv_storesOk (hd : Hdr) (sequenced : Bool) (f : State → State) (hf : ∀ t : State, t.stores.Ok → (f t).stores.Ok) :
    (s.recv hd sequenced f).stores.Ok := by
  unfold State.recv
  split
  · exact h
  · extract_lets n t u
    have ht : t.stores.Ok := h.congr (State.deposed_stores ..)
    split
    · exact ht
    · have hu : u.stores.Ok := ht.congr (State.ackUpTo_stores ..)
      refine State.ite_storesOk hu (State.ite_storesOk (hf _ ?_) (State.ite_storesOk ?_ hu)) <;> exact hu.congr (by simp)

theorem execRepl_storesOk (hd : Hdr) (seq : Nat) (r : ReplRec) : OkAfter (execRepl hd seq r s) := by
  refine State.recv_storesOk h _ _ _ fun t ht => ?_
  refine State.ite_storesOk ht (State.ite_storesOk (State.replDrain_storesOk (State.replNow_storesOk ht ..)) ?_)
  exact ht.congr ((State.sendUp_stores ..).trans (State.setTrs_stores ..))

theorem execResyncData_storesOk (hd : Hdr) (m : ResyncMsg) : OkAfter (execResyncData hd m s) := by
  refine State.recv_storesOk h _ _ _ fun t ht => ?_
  refine State.ite_storesOk (State.ite_storesOk (ht.congr (State.send_stores ..)) ht) (State.ite_storesOk ?_ ?_)
  · exact ht.congr (State.setTrs_stores ..)
  · exact State.resyncApply_storesOk ht m

/-! ## Anchor writes that become persistent -/

theorem State.afterAnchor_storesOk (e : Eff) : (s.afterAnchor e).stores.Ok := by
  cases e with
  | none => exact h
  | ceiling => exact h
  | evrClear => exact State.commitRels_storesOk ((State.evrCleared_storesOk h).congr (State.setMss_stores ..)) _
  | policy old => exact State.commitRels_storesOk (h.congr (State.policyPersist_stores ..)) _
  | keySeq t seq => exact State.keySeqPersist_storesOk h t seq
  | mss id => exact State.commitOwner_storesOk h (.mss id)

theorem State.anchorDone_storesOk : s.anchorDone.stores.Ok := by
  unfold State.anchorDone
  split
  · exact h
  · extract_lets t
    have ht : t.stores.Ok := h.congr (State.ancPersist_stores ..)
    clear_value t
    exact State.ite_storesOk ht (State.replDrain_storesOk (State.afterAnchor_storesOk ht _))

theorem drainAnchors_storesOk (n : Nat) : (drainAnchors n s).stores.Ok := by
  induction n generalizing s with
  | zero => exact h
  | succ n ih => exact State.ite_storesOk h (ih (State.anchorDone_storesOk h))

/-! ## Actions -/

theorem State.actAccepted_storesOk (r : ActionReq) (a : Action) (t : Nat) (s0 : State) (h0 : s0.stores.Ok)
    (ha : ∀ u : State, u.stores.Ok → (a.run u).Ok) : (State.actAccepted r a t s0 s).stores.Ok := by
  unfold State.actAccepted
  extract_lets id sg u st
  have hu : u.stores.Ok := h.congr (State.event_stores ..)
  have hr := ha u hu
  clear_value u
  split
  · exact hu.congr (State.reply_stores ..)
  · split <;> rename_i he <;> rw [he] at hr
    · exact Stores.Ok.congr hr ((State.reply_stores ..).trans (State.event_stores ..))
    · exact hr
    · exact Stores.Ok.congr hr (State.reply_stores ..)
    · exact h0

theorem State.action_storesOk (r : ActionReq) (a : Action) (t : Nat) (ha : ∀ u : State, u.stores.Ok → (a.run u).Ok) :
    (s.action r a t).stores.Ok := by
  unfold State.action
  split; · exact h
  extract_lets u vf v w id
  have hu : u.stores.Ok := h.congr (State.takeReq_stores ..)
  have hw : w.stores.Ok := hu.congr (State.useNonce_stores ..)
  clear_value w
  split; · exact hu.congr (State.reply_stores ..)
  split; · exact hu.congr (State.reply_stores ..)
  split; · exact hu.congr (State.reply_stores ..)
  split; · exact hw.congr (by simp)
  split; · exact hw.congr (by simp)
  exact State.actAccepted_storesOk h r a t w hw ha

theorem State.actRelease_storesOk (r : ActionReq) (code t : Nat) (ws : List AncW) (body : Bytes) (e : MssEff) :
    (s.actRelease r code t ws body e).Ok := ActRes.Ok.of_stores (State.actRelease_stores rfl ..) h

theorem State.actDraw_storesOk (n : Nat) (f : Bytes → State → ActRes) (hf : ∀ b (t : State), t.stores.Ok → (f b t).Ok) :
    (s.actDraw n f).Ok := by
  have hd := s.mssDraw_stores n
  unfold State.actDraw
  split <;> rename_i he <;> rw [he] at hd
  · exact hf _ _ (h.congr hd)
  · trivial
  · exact h.congr hd

end

theorem snd_storesOk {α : Type} {p : α × State} {a : α} {t : State} (h : p = (a, t)) (hp : p.2.stores.Ok) : t.stores.Ok := by
  rw [h] at hp
  exact hp

section
variable {s : State} (h : s.stores.Ok)
include h

theorem State.commissionRun_storesOk (r : ActionReq) : (s.commissionRun r).Ok := by
  refine State.actDraw_storesOk h _ _ fun b t ht => ?_
  extract_lets ep tab
  have hu : ((t.loadDrk (sub b 0 32)).crkWords ep (sub b 32 32)).2.stores.Ok :=
    (State.loadDrk_storesOk ht _).congr (State.crkWords_stores ..)
  split
  rename_i crk u hc
  rw [hc] at hu
  extract_lets ws _
  split
  · exact State.actRelease_storesOk (Stores.Ok.congr hu (State.setMss_stores ..)) ..
  · have hm : (u.mssRefuse (u.mssVerdict ws) ws).stores.Ok := Stores.Ok.congr hu (State.mssRefuse_stores ..)
    exact hm.setKs ht.keystone rfl rfl

theorem execCommission_storesOk (r : ActionReq) : OkAfter (execCommission r s) :=
  State.action_storesOk h _ _ _ fun _ hu => State.commissionRun_storesOk hu r

theorem execTenantRemove_storesOk (r : ActionReq) : OkAfter (execTenantRemove r s) := by
  refine State.action_storesOk h _ _ _ fun u hu => ?_
  dsimp only
  split <;> rename_i hb
  all_goals exact snd_storesOk hb (State.mssBeginJ_storesOk hu _ _ _ _ _ _ _ fun v hv => State.jVoid_storesOk hv ..)

theorem execRecorderClear_storesOk (r : ActionReq) : OkAfter (execRecorderClear r s) := by
  refine State.action_storesOk h _ _ _ fun u hu => ?_
  dsimp only
  split
  · trivial
  · have hc := State.evrClear_storesOk (Stores.Ok.congr hu (State.setMss_stores { u.mss with
      mayClearEvr := some (w32 (ticketSigners r.ticket), w32 (ticketId r.ticket)) } u))
      (w32 (ticketSigners r.ticket)) (w32 (ticketId r.ticket))
    split
    · exact hc.congr (State.newRel_stores ..)
    · exact hc

theorem State.firmware_storesOk (r : ActionReq) (image : HostRead) : (s.firmware r image).stores.Ok := by
  refine State.action_storesOk h _ _ _ fun u hu => ?_
  dsimp only
  split
  · split
    · exact State.actRelease_storesOk hu ..
    · exact State.actRelease_storesOk (State.ite_storesOk (State.programBank_storesOk hu _) hu) ..
  · exact Stores.Ok.congr hu (State.event_stores ..)

/-! ## Parapet -/

theorem State.zeroise_storesOk : s.zeroise.stores.Ok := by
  unfold State.zeroise
  extract_lets k _ _ _ _ _ t u v
  have ht : t.stores.Ok := h.setKs (keystoneOk_empty rfl rfl rfl) rfl rfl
  have hu : u.stores.Ok := (State.clearPool_storesOk ht).congr (foldl_stores _ _ _ fun _ p => State.clearInst_stores ..)
  have hv : v.stores.Ok := hu.congr (foldl_stores _ _ _ fun _ p => State.clearInst_stores ..)
  clear_value v
  exact hv.congr ((State.stores_mk ..).trans (State.stores_eta v))

theorem State.eraseResponse_storesOk : s.eraseResponse.stores.Ok := by
  unfold State.eraseResponse
  extract_lets t
  have ht : t.stores.Ok := (State.zeroise_storesOk h).congr (State.alarmOn_stores ..)
  clear_value t
  exact State.ite_storesOk (h.congr (State.alarmOn_stores ..)) (ht.congr ((State.stores_mk ..).trans (State.stores_eta t)))

theorem State.backupResponse_storesOk (taken : Nat) : (s.backupResponse taken).stores.Ok := by
  unfold State.backupResponse
  split
  · exact h.setKs (keystoneOk_empty rfl rfl rfl) rfl rfl
  · exact State.ite_storesOk (h.congr rfl) h

theorem execParapetDecisionEnd_storesOk (disturbed : Option (Fin 4)) : OkAfter (execParapetDecisionEnd disturbed s) := by
  unfold execParapetDecisionEnd
  split
  · exact h
  · extract_lets first second taken mismatch back todo _ t u v
    have ht : t.stores.Ok := h.congr ((State.stores_mk ..).trans (State.stores_eta s))
    have hu : u.stores.Ok := State.ite_storesOk (ht.congr (State.eventSig_stores ..)) ht
    have hv : v.stores.Ok := hu.congr (foldl_stores _ _ _ fun _ i => State.recordAlarm_stores ..)
    clear_value v
    split; · exact State.backupResponse_storesOk hv taken
    split; · exact State.eraseResponse_storesOk hv
    split; · exact hv.congr (State.resetResponse_stores v)
    exact hv

/-! ## Registers -/

theorem State.writeMss_storesOk (r : Reg) (x : DWord) : (s.writeMss r x).stores.Ok := by
  cases r
  case parLatch => exact h.congr (State.writeParLatch_stores ..)
  case parBlog i => exact State.ite_storesOk (h.congr (State.setBlog_stores ..)) h
  case pksUcodeDigest i => exact State.ite_storesOk h (h.congr rfl)
  case memErrInfo => exact State.ite_storesOk (h.congr rfl) h
  case pwrMode => exact State.ite_storesOk h (h.congr rfl)
  case cfgFlashAddr => exact State.setCfg_storesOk h _ h.cfgFlash
  case cfgLen => exact State.setCfg_storesOk h _ h.cfgFlash
  case cfgMemAddr => exact State.setCfg_storesOk h _ h.cfgFlash
  all_goals exact h.congr rfl

theorem State.writeReg_storesOk (v : View) (r : Reg) (x : DWord) : (s.writeReg v r x).stores.Ok := by
  unfold State.writeReg
  split
  · exact State.ite_storesOk (h.congr (State.writeRing_stores ..)) h
  · split
    · exact State.writeMss_storesOk h r x
    · exact h.congr (State.writePf_stores ..)
    · exact h.congr (State.writeVf_stores ..)

/-! ## Power and boot -/

theorem State.powerOff_storesOk : s.powerOff.stores.Ok := by
  unfold State.powerOff
  extract_lets t u v
  have ht : t.stores.Ok := (State.clearPool_storesOk h).congr (foldl_stores _ _ _ fun _ b => State.bayOff_stores ..)
  have hu : u.stores.Ok := ht.congr (foldl_stores _ _ _ fun _ p => State.clearInst_stores ..)
  have hv : v.stores.Ok := hu.congr (foldl_stores _ _ _ fun _ p => by simp)
  clear_value v
  exact hv.congr ((State.stores_mk ..).trans (State.stores_eta v))

theorem State.entryStep_storesOk (m : BitVec 2) (k : Nat) : (s.entryStep m k).stores.Ok := by
  unfold State.entryStep
  split
  · exact h.congr rfl
  · exact h.congr rfl
  · exact State.ite_storesOk (h.congr rfl) h
  · extract_lets _ t
    have ht : t.stores.Ok := h.congr ((State.event_stores ..).trans (State.setPwr_stores ..))
    exact State.ite_storesOk (State.powerOff_storesOk ht) ht
  · exact h

theorem execEntryStepEnd_storesOk : OkAfter (execEntryStepEnd s) := by
  unfold execEntryStepEnd
  split
  · exact h
  · rename_i m n _
    extract_lets k wake t
    have ht : t.stores.Ok := State.entryStep_storesOk h m k
    split
    · exact State.ite_storesOk (ht.congr (State.startWake_stores t)) ht
    · exact okAfter_ite (ht.congr (State.abandonEntry_stores ..)) (ht.congr (State.setPwr_stores ..))

theorem execDormantWakeDone_storesOk : OkAfter (execDormantWakeDone s) := by
  unfold execDormantWakeDone
  split
  · extract_lets _ t u _ _ _ _ _ v
    have hu : u.stores.Ok := by
      refine (State.loadRules_storesOk (h.congr ?_)).congr (State.loadFw_stores ..)
      exact (State.goOn_stores ..).trans ((State.stores_mk ..).trans (State.stores_eta s))
    have hv : v.stores.Ok := by
      unfold v
      split
      · exact hu.congr ((State.stores_mk ..).trans (State.stores_eta u))
      · exact hu
    clear_value v
    exact hv.congr ((State.wakeEnds_stores ..).trans ((State.stores_mk ..).trans (State.stores_eta v)))
  · exact h

theorem State.loseMain_storesOk : s.loseMain.stores.Ok := by
  unfold State.loseMain
  split
  · exact h.congr (State.setPwr_stores ..)
  · extract_lets t u _ _ _ _ v w x _ _ z y
    have ht : t.stores.Ok := by
      unfold t
      split
      · exact h.congr (State.abandonEntry_stores ..)
      · exact h
    have hu : u.stores.Ok := ht.congr ((State.nrgEvent_stores ..).trans (State.setIdState_stores ..))
    have hv : v.stores.Ok :=
      hu.congr ((State.stores_mk ..).trans (State.stores_eta u))
    have hw : w.stores.Ok := State.ite_storesOk (hv.congr (State.startWake_stores v)) hv
    have hx : x.stores.Ok := State.ite_storesOk hw (State.tgEnableNow_storesOk hw)
    have hz : z.stores.Ok :=
      hx.congr ((State.stores_mk ..).trans (State.stores_eta x))
    have hy : y.stores.Ok := hz.congr (foldl_stores _ _ _ fun _ x => State.quiesceItem_stores ..)
    clear_value y
    exact State.ite_storesOk (hv.congr (State.flushKeySeq_stores v)) (hy.congr (State.flushKeySeq_stores y))

theorem State.openSwitch_storesOk : s.openSwitch.stores.Ok := State.loseMain_storesOk (h.congr (State.setHw_stores ..))

theorem State.cold_storesOk : s.cold.stores.Ok := ⟨h.keystone.check false, rfl, h.cfgFlash⟩

theorem State.warm_storesOk : s.warm.stores.Ok := by
  unfold State.warm
  extract_lets c
  have hc : c.stores.Ok := State.cold_storesOk h
  clear_value c
  exact hc.congr ((State.stores_mk ..).trans (State.stores_eta c))

theorem State.rebuildKet_storesOk : s.rebuildKet.stores.Ok := by
  unfold State.rebuildKet
  extract_lets a b half all recs top voids covered keep gone found range _ _ _ t
  have ht : t.stores.Ok := h.setFlash rfl rfl (clearBytes_wf 0xFF _ _ _ h.cfgFlash)
  clear_value t
  exact ht.congr (foldl_stores _ _ _ fun _ x => State.setKeyWord_stores ..)

theorem State.bootFirm_storesOk : s.bootFirm.stores.Ok := by
  unfold State.bootFirm
  extract_lets t
  have ht : t.stores.Ok := State.rebuildKet_storesOk (State.keystoneCheck_storesOk h)
  clear_value t
  exact ht.congr ((State.stores_mk ..).trans (State.stores_eta t))

theorem State.bootFrom_storesOk (fresh : Bool) (cause : BitVec 4) (obs : BootObs) : (s.bootFrom fresh cause obs).stores.Ok := by
  unfold State.bootFrom
  extract_lets t _ u waiting _ v
  have ht : t.stores.Ok := h.congr (State.bootStart_stores ..)
  have hu : u.stores.Ok := State.ite_storesOk (ht.congr (State.setEvr_stores ..)) ht
  have hv : v.stores.Ok := hu.congr (State.setEvr_stores ..)
  have hp : (v.pick obs).2.stores.Ok := hv.congr (State.pick_stores ..)
  clear_value v u t
  split
  rename_i p w hw
  rw [hw] at hp
  extract_lets _ _ x y z _ _ a
  have hx : x.stores.Ok := Stores.Ok.congr hp ((State.stores_mk ..).trans (State.stores_eta w))
  have hy : y.stores.Ok := State.ite_storesOk hx (hx.congr (State.event_stores ..))
  have hz : z.stores.Ok := State.ite_storesOk hy (State.bootFirm_storesOk (hy.congr (State.identify_stores ..)))
  have ha : a.stores.Ok := hz.congr ((State.stores_mk ..).trans (State.stores_eta z))
  exact State.ite_storesOk (ha.congr (State.haltRom_stores a)) (ha.congr (State.findings_stores a))

theorem execModuleReset_storesOk (obs : BootObs) : OkAfter (execModuleReset obs s) := by
  unfold execModuleReset
  split
  · exact h
  · exact okAfter_ite h (State.bootFrom_storesOk (State.warm_storesOk (drainAnchors_storesOk h _)) ..)

theorem State.bootVoid_storesOk (v : Nat × Nat × Nat) : (s.bootVoid v).stores.Ok := by
  unfold State.bootVoid
  extract_lets w t
  have ht : t.stores.Ok := State.jVoid_storesOk h ..
  clear_value t
  split; · exact h.congr (State.ancRefuse_stores ..)
  split; · exact h.congr (by simp)
  exact ht.congr (State.ancWrite_stores ..)

theorem State.bootReleases_storesOk : s.bootReleases.stores.Ok := by
  have hdrain : ∀ u : State, u.stores.Ok → (drainAnchors (u.anc.queue.length + 64) u).stores.Ok :=
    fun u hu => drainAnchors_storesOk hu _
  unfold State.bootReleases
  extract_lets drain t u v
  have ht : t.stores.Ok := foldl_storesOk _ _ (fun x w hx => hdrain _ (hx.congr (State.ancWrite_stores ..))) h
  have hu : u.stores.Ok := hdrain _ (ht.congr (State.ancWrite_stores ..))
  have hv : v.stores.Ok := foldl_storesOk _ _ (fun x w hx => hdrain _ (State.bootVoid_storesOk hx w)) hu
  clear_value v
  exact hv.congr (State.setBoot_stores ..)

theorem execBootComplete_storesOk : OkAfter (execBootComplete s) := by
  unfold execBootComplete
  split
  · exact h
  · extract_lets t _ _ _ u again v w
    have ht : t.stores.Ok := (State.loadRules_storesOk (State.bootReleases_storesOk h)).congr (State.loadFw_stores ..)
    have hu : u.stores.Ok := by
      clear_value t
      exact ht.congr ((State.stores_mk ..).trans (State.stores_eta t))
    have hv : v.stores.Ok := by
      clear_value u
      exact hu.congr (by simp [v])
    have hw : w.stores.Ok := hv.congr (State.event_stores ..)
    exact State.ite_storesOk hw (hw.congr (State.emit_stores ..))

theorem execPowerOn_storesOk (obs : BootObs) : OkAfter (execPowerOn obs s) :=
  okAfter_ite h (State.bootFrom_storesOk (State.cold_storesOk h) ..)

theorem execMainPowerReturn_storesOk (obs : BootObs) : OkAfter (execMainPowerReturn obs s) :=
  okAfter_ite h (State.bootFrom_storesOk (State.warm_storesOk (h.congr (State.event_stores ..))) ..)

theorem State.powerGone_storesOk : s.powerGone.stores.Ok := by
  unfold State.powerGone
  extract_lets t
  have ht : t.stores.Ok := State.cold_storesOk (h.congr (State.anchorsCut_stores s))
  clear_value t
  exact ht.congr (State.setHw_stores ..)

theorem execAuxPowerLoss_storesOk : OkAfter (execAuxPowerLoss s) :=
  okAfter_ite h (okAfter_ite (State.loseMain_storesOk (h.congr (State.setHw_stores ..))) (State.powerGone_storesOk h))

theorem execChargeUpdate_storesOk (measured : Nat) : OkAfter (execChargeUpdate measured s) :=
  okAfter_ite h (okAfter_ite (State.powerGone_storesOk h) (h.congr (State.setPwr_stores ..)))

theorem execBackupSupplyLoss_storesOk : OkAfter (execBackupSupplyLoss s) :=
  okAfter_ite h (h.setKs (keystoneOk_empty rfl rfl rfl) rfl rfl)

theorem execPerstAssert_storesOk : OkAfter (execPerstAssert s) := by
  have ht : ({ s with hw.perst := true }).stores.Ok := h.congr (State.setHw_stores ..)
  refine okAfter_ite h (okAfter_ite ht (okAfter_ite ?_ ?_))
  · exact ht.congr (State.setHiu_stores ..)
  · exact (State.linkReset_storesOk ht).congr (State.wakeBy_stores ..)

theorem execMssWatchdogExpiry_storesOk : OkAfter (execMssWatchdogExpiry s) :=
  okAfter_ite h (State.warmRestart_storesOk (h.congr (State.event_stores ..)) 1)

end

/-! ## All commands -/

/-- The commands that may write the Keystone, a memory or the flash controller. -/
def writesStores : Instr → Bool
  | .registerWrite .. | .pfFlr .. | .hotReset .. | .dlDown .. | .perstAssert .. | .keyBusRequest .. | .keyBusSecondDecision ..
    | .journalRecordPersistent .. | .journalHalfErase .. | .clear .. | .chainPlace .. | .scrubEnd .. | .drawServed .. | .repl ..
    | .resyncData .. | .interconnectAccess .. | .tgEnable .. | .sramScrub .. | .dramScrub .. | .parapetDecisionEnd ..
    | .evrClear .. | .mssWatchdogExpiry .. | .commission .. | .tenantRemove .. | .recorderClear .. | .firmwareStageActivate ..
    | .firmwareActivateInactive .. | .firmwareRaiseMinimums .. | .anchorWriteComplete .. | .cfgRead .. | .cfgProgram ..
    | .cfgErase .. | .cfgHash .. | .cfgCmdDone .. | .entryStepEnd .. | .dormantWakeDone .. | .chargeUpdate ..
    | .mainPowerLoss .. | .mainPowerReturn .. | .powerOn .. | .moduleReset .. | .bootComplete .. | .auxPowerLoss ..
    | .softStartTrip .. | .reverseCurrentTrip .. | .backupSupplyLoss .. | .keptRecordFlashWriteDone .. | .ecbEncrypt ..
    | .ecbDecrypt .. | .cbcEncrypt .. | .cbcDecrypt .. | .ctr .. | .cfbEncrypt .. | .cfbDecrypt .. | .gcmEncrypt ..
    | .gcmDecrypt .. | .cmacGenerate .. | .cmacVerify .. | .alg1MacGenerate .. | .alg1MacVerify .. | .alg3MacGenerate ..
    | .alg3MacVerify .. | .engineCvcGenerate .. | .engineCvcVerify .. | .ff1Round .. | .xtsEncrypt .. | .xtsDecrypt ..
    | .deriveToSlot .. | .deriveOut .. | .pinOpen .. | .pinSeal .. | .pinOffsetGenerate .. | .pinOffsetVerify ..
    | .pinVvGenerate .. | .pinVvVerify .. | .sha256 .. | .sha384 .. | .sha512 .. | .hmacGenerate .. | .hmacVerify ..
    | .rsaPrivateOp .. | .rsaPublicOp .. | .rsaOaepDecrypt .. | .rsaV15Decrypt .. | .rsaKeygen .. | .rsaPublicFromPrivate ..
    | .ecdsaSign .. | .ecdsaVerify .. | .ecdhKdf .. | .ecKeygen .. | .ecPublicFromScalar .. | .x25519Kdf .. | .ed25519Sign ..
    | .ed25519Verify .. | .curve25519Keygen .. => true
  | _ => false

/-- Every other command leaves all three as they are: one operation, or a choice between updates, that has its lemma above. -/
theorem exec_storesAfter (c : Instr) (s : State) : writesStores c = false → storesAfter (exec c s) = some s.stores := by
  cases c
  all_goals simp [writesStores, exec,
    -- configuration flash
    execAncMarkWorn,
    -- dispatch, replay and piers
    execPierFault, execPierSelfTestEnd,
    -- random numbers
    execRngDraw, execRngRawRead, execSourceExclude, execExpanderReseedDue, execRngKat, execRawEnWrite,
    -- payment items
    execPinTranslate, execPinVerifyOffset, execPinGenerateOffset, execDukptPinTranslate, execDukptMacVerify, execMacGenerate,
    execMacVerify, execEmvArqcVerify, execEmvArpcGenerate, execCvcGenerate, execCvcVerify, execFpeFf1, execXtsSector,
    -- public-key items
    execPkSign, execPkVerify, execPkEcdh, execPkKeygen, execRsaDecrypt, execRandom, execKeyStateRead, execSessionCloseAll,
    -- key management items and the journal
    execKeyImportBlock, execKeyExportBlock, execKeyGenerate, execKeyReplaceStage, execKeyReplaceCommit, execKeyReplaceAbandon,
    execKeyReplaceStatus, execKeyRevoke, execKeyRewrap, execAnchorWindowExpiry, execKcFlush, execKcFlushDone, execGenerate,
    -- release of items
    execImodTimerExpiry,
    -- host link, queue pairs and functions
    execSqDoorbell, execCqHeadWrite, execQpEnable, execQpDisable, execMsixUnmask, execDescriptorReadError, execTenantSuspend,
    execVfFlr, execVfSessionsClear, execVfFlrReady, execVfEnableClear, execVfEnableSet, execPfFlrReady, execConfigRequest,
    -- clocks, groups and bays
    execClockMonitorWindow, execFabricPllFail, execStandbyPllFail, execPllQuarantineEnd, execSecondPllLock, execMssPllLoss,
    execMssPllRelock, execPierGroupPowerUp, execBayPowerGate, execBayWake, execBayWakeDone,
    -- tollgate
    execTgHold, execTgDrained, execTgRuleWrite, execHoldLong, execTgFaultRearm,
    -- engines
    execEngineFaultDetect, execEngineSelfTestEnd, execPksFaultDetect, execPksSelfTestEnd, execBayPark,
    -- public-key engines
    execLoad, execUcodeLoadDone, execLock, execPksScrub, execMulacc, execMulaccShift, execAccClear, execAccStore, execRamClear,
    -- draws, reports and requests of the MSS
    execTenantInfo, execVfMbxGo,
    -- cluster
    execHeartbeat, execAckOnly, execTrestleFrameDrop, execEnrolHelloTimer, execSakSet, execSakRollover, execSakPreviousExpiry,
    execRemove, execReplAck, execPropose, execDecision, execWithdraw, execApply, execApplied, execResyncReq, execResync,
    execHeartbeatTimer, execTakeover, execCrkReady, execCrkCommit,
    -- event recorder
    execRecordOffer, execCeilingRaiseDone, execCeilingRetry, execSecondEnd, execEvrWrGo,
    -- memory integrity
    execDieMarkFailed, execEccTestMode, execDramKeyWrite, execZeroFillEnd,
    -- parapet
    execLoopCheck, execAlarmLatch, execSourceRearm, execPolicyOpen, execParPolicyWrite, execPolicyWindowClose, execAlarmClr,
    execBootHoldRelease,
    -- tickets and ceremonies
    execSmbStatus, execSmbTemp, execSmbV12, execSmbI12, execSmbPower, execSmbHoldup, execSmbSerial, execSmbVersions,
    execSmbAlertCause, execSmbusAlertResponse, execServiceFrame, execWarmRestartEnd,
    -- power states
    execEnvelopeWrite, execEnvelopeMet, execLinkL12Entry, execWait, execDrowseIdleExpiry, execWakeEvent, execWakeTimer,
    execPadRelease, execPerstDeassert, execQuiesceDone,
    -- supplies and pins
    execAuxPowerReturn, execSoftStartClose, execTemperatureAlert]

/-- A command that may write one of them has its lemma above, or is an operation that has. -/
theorem exec_storesOk_of_writes {s : State} (h : s.stores.Ok) (c : Instr) (hc : writesStores c = true) : OkAfter (exec c s) := by
  cases c
  case registerWrite => exact okAfter_ite (State.writeReg_storesOk h ..) h
  case pfFlr => exact okAfter_ite h (State.pfFlrStart_storesOk h)
  case hotReset => exact okAfter_ite (State.linkReset_storesOk h) h
  case dlDown => exact okAfter_ite (State.linkReset_storesOk h) h
  case perstAssert => exact execPerstAssert_storesOk h ..
  case keyBusRequest => exact execKeyBusRequest_storesOk h ..
  case keyBusSecondDecision => exact execKeyBusSecondDecision_storesOk h ..
  case journalRecordPersistent => exact execJournalRecordPersistent_storesOk h ..
  case journalHalfErase => exact execJournalHalfErase_storesOk h ..
  case clear => exact okAfter_ite (State.ksClear_storesOk h) h
  case chainPlace => exact execChainPlace_storesOk h ..
  case scrubEnd => exact execScrubEnd_storesOk h ..
  case drawServed => exact execDrawServed_storesOk h ..
  case repl => exact execRepl_storesOk h ..
  case resyncData => exact execResyncData_storesOk h ..
  case interconnectAccess => exact okAfter_ite h (State.accArrive_storesOk h _)
  case tgEnable => exact State.tgEnableNow_storesOk h
  case sramScrub => exact execSramScrub_storesOk h ..
  case dramScrub => exact execDramScrub_storesOk h ..
  case parapetDecisionEnd => exact execParapetDecisionEnd_storesOk h ..
  case evrClear => exact execEvrClear_storesOk h ..
  case mssWatchdogExpiry => exact execMssWatchdogExpiry_storesOk h ..
  case commission => exact execCommission_storesOk h ..
  case tenantRemove => exact execTenantRemove_storesOk h ..
  case recorderClear => exact execRecorderClear_storesOk h ..
  case firmwareStageActivate => exact okAfter_ite h (State.firmware_storesOk h ..)
  case firmwareActivateInactive => exact okAfter_ite h (State.firmware_storesOk h ..)
  case firmwareRaiseMinimums => exact okAfter_ite h (State.firmware_storesOk h ..)
  case anchorWriteComplete => exact State.anchorDone_storesOk h
  case cfgRead => exact State.cfgStart_storesOk h .read
  case cfgProgram => exact State.cfgStart_storesOk h .program
  case cfgErase => exact State.cfgStart_storesOk h .erase
  case cfgHash => exact State.cfgStart_storesOk h .hash
  case cfgCmdDone => exact execCfgCmdDone_storesOk h ..
  case entryStepEnd => exact execEntryStepEnd_storesOk h ..
  case dormantWakeDone => exact execDormantWakeDone_storesOk h ..
  case chargeUpdate => exact execChargeUpdate_storesOk h ..
  case mainPowerLoss => exact State.loseMain_storesOk h
  case mainPowerReturn => exact execMainPowerReturn_storesOk h ..
  case powerOn => exact execPowerOn_storesOk h ..
  case moduleReset => exact execModuleReset_storesOk h ..
  case bootComplete => exact execBootComplete_storesOk h ..
  case auxPowerLoss => exact execAuxPowerLoss_storesOk h ..
  case softStartTrip => exact okAfter_ite (State.openSwitch_storesOk h) h
  case reverseCurrentTrip => exact okAfter_ite (State.openSwitch_storesOk h) h
  case backupSupplyLoss => exact execBackupSupplyLoss_storesOk h ..
  case keptRecordFlashWriteDone => exact execKeptRecordFlashWriteDone_storesOk h ..
  case ecbEncrypt | ecbDecrypt | cbcEncrypt | cbcDecrypt | ctr | cfbEncrypt | cfbDecrypt | gcmEncrypt | gcmDecrypt | cmacGenerate
      | cmacVerify | alg1MacGenerate | alg1MacVerify | alg3MacGenerate | alg3MacVerify | engineCvcGenerate | engineCvcVerify |
      ff1Round | xtsEncrypt | xtsDecrypt | deriveToSlot | deriveOut | pinOpen | pinSeal | pinOffsetGenerate | pinOffsetVerify |
      pinVvGenerate | pinVvVerify | sha256 | sha384 | sha512 | hmacGenerate | hmacVerify | rsaPrivateOp | rsaPublicOp |
      rsaOaepDecrypt | rsaV15Decrypt | rsaKeygen | rsaPublicFromPrivate | ecdsaSign | ecdsaVerify | ecdhKdf | ecKeygen |
      ecPublicFromScalar | x25519Kdf | ed25519Sign | ed25519Verify | curve25519Keygen =>
    exact State.runEng_storesOk h ..
  all_goals contradiction

/-- **Every command keeps the Keystone sound and the memories canonical.** -/
theorem exec_storesOk {s : State} (h : s.stores.Ok) (c : Instr) : OkAfter (exec c s) := by
  cases hc : writesStores c with
  | true => exact exec_storesOk_of_writes h c hc
  | false => exact h.after (exec_storesAfter c s hc)

/-- Settles O4: an idle step moves only time, and a command keeps the invariant. -/
theorem keystoneAndMemoriesKept : Obligations.KeystoneAndMemoriesKept := by
  unfold Obligations.KeystoneAndMemoriesKept
  intro s t hk hm hf hstep
  have h : s.stores.Ok := ⟨hk, hm, hf⟩
  have ht : OkAfter (Machine.step s) := by
    rcases hp : s.pending with _ | ⟨c, l⟩
    · rw [step_idle s hp]
      exact h.congr (State.advance_stores ..)
    · rw [step_front c l s hp]
      exact exec_storesOk (h.congr ((State.stores_mk ..).trans (State.stores_eta s))) c
  rw [hstep] at ht
  obtain ⟨tk, tm, tf⟩ : t.stores.Ok := ht
  exact ⟨tk, tm, tf⟩

end Sys2Proof.Machine
end

section
/-! PROOFS. What sending messages and ending reservations leave of the cluster state (10_cluster.md R410, R430 to R435). -/

namespace Sys2Proof.Machine

/-! ## Associations and proposals alone -/

/-- Of the cluster state only the associations and the proposals differ. -/
def SameCluster (s t : State) : Prop := t.trs = { s.trs with assoc := t.trs.assoc, props := t.trs.props }

namespace SameCluster

theorem refl (s : State) : SameCluster s s := rfl

theorem trans {s t u : State} (h : SameCluster s t) (k : SameCluster t u) : SameCluster s u := by
  unfold SameCluster at h k ⊢
  rw [k, h]

theorem of_trs {s t : State} (h : t.trs = s.trs) : SameCluster s t := by rw [SameCluster, h]

theorem ite {s a b : State} {c : Prop} [Decidable c] (ha : SameCluster s a) (hb : SameCluster s b) :
    SameCluster s (if c then a else b) := by
  split <;> assumption

theorem foldl {α : Type} (f : State → α → State) (h : ∀ (s : State) (a : α), SameCluster s (f s a)) (xs : List α) (s : State) :
    SameCluster s (xs.foldl f s) := by
  induction xs generalizing s with
  | nil => exact refl s
  | cons x xs ih => exact (h s x).trans (ih (f s x))

end SameCluster

theorem State.transmit_trs (n : Nat) (x : Nat × Nat × Msg) (s : State) : (s.transmit n x).trs = s.trs := by
  unfold State.transmit
  split
  · rfl
  · split <;> rfl

theorem State.send_sameCluster (n tenant : Nat) (m : Msg) (s : State) : SameCluster s (s.send n tenant m) := by
  unfold State.send
  split
  · exact .refl s
  · rename_i a _
    extract_lets x
    exact SameCluster.trans (t := s.setAssoc n { a with sent := a.sent + 1, unacked := a.unacked ++ [x] }) rfl
      (.of_trs (State.transmit_trs ..))

theorem State.sendUp_sameCluster (tenant : Nat) (m : Msg) (s : State) : SameCluster s (s.sendUp tenant m) := State.send_sameCluster ..

theorem State.sendDown_sameCluster (tenant : Nat) (m : Msg) (s : State) : SameCluster s (s.sendDown tenant m) :=
  .foldl _ (fun t n => t.send_sameCluster n tenant m) _ s

theorem State.decideProp_sameCluster (x : Held) (flip : Bool) (s : State) : SameCluster s (s.decideProp x flip) := by
  unfold State.decideProp
  extract_lets go excl _ u
  exact SameCluster.trans (t := u) rfl (.ite (.of_trs (by simp)) (State.send_sameCluster ..))

theorem State.reserveProp_sameCluster (x : Held) (own : Bool) (s : State) : SameCluster s (s.reserveProp x own) := by
  unfold State.reserveProp
  extract_lets y _ u v
  have hu : SameCluster s u := rfl
  have hv : SameCluster s v := hu.trans (State.sendDown_sameCluster ..)
  exact .ite (hv.trans (State.decideProp_sameCluster ..)) hv

theorem State.endReservation_sameCluster (pid : BitVec 64) (s : State) : SameCluster s (s.endReservation pid) := by
  unfold State.endReservation
  split
  · exact .refl s
  · extract_lets _ u
    have hu : SameCluster s u := rfl
    refine .ite hu ?_
    split
    · exact hu.trans (State.reserveProp_sameCluster ..)
    · exact hu

theorem State.withdrawAll_sameCluster (f : Nat) (s : State) : SameCluster s (s.withdrawAll f) :=
  .foldl (fun (t : State) (x : Nat × Entry) => t.withdrawOf x.2)
    (fun t _ => .ite (.refl t) (.ite (State.endReservation_sameCluster ..) (State.sendUp_sameCluster ..))) _ s

theorem State.nextGen_sameCluster (f : Nat) (s : State) : SameCluster s (s.nextGen f) :=
  (s.withdrawAll_sameCluster f).trans (.of_trs ((State.moveGen_frame ..).same .trs (by decide)))

end Sys2Proof.Machine
end

section
/-! PROOFS. The anchor writes that become persistent and what follows from each (R265, R515, R521, R554, R562, R614 to R617), the worn
marks (R629) and the commands of the flash controller (R603, R632). -/

namespace Sys2Proof.Machine

/-! ## Tables that need not be canonical -/

/-- A write leaves what every other index reads, whatever the table and whatever the value. -/
theorem tblGet_tblSet_elsewhere {α : Type} [DecidableEq α] (d : α) (k j : Nat) (v : α) (t : Tbl α) (hk : k ≠ j) :
    tblGet d (tblSet d k v t) j = tblGet d t j := by
  by_cases hv : v = d
  · induction t with
    | nil => simp [tblSet, tblCons, hv]
    | cons e t ih =>
      obtain ⟨a, w⟩ := e
      simp only [tblSet, tblCons, if_pos hv]
      split
      · rfl
      · split
        · rename_i ha
          simp [tblGet, ha ▸ hk]
        · simp only [tblGet, ih]
  · exact tblGet_tblSet_listed_other d k j v t hv hk

/-- Bytes outside a write read as before it, whatever the memory. -/
theorem byteAt_setBytes_elsewhere (d : Byte) (m : List Host.Cell) (a k : Nat) (b : Bytes) (hk : k < a ∨ a + b.length ≤ k) :
    byteAt d (setBytes d m a b) k = byteAt d m k := by
  induction b generalizing m a with
  | nil => rfl
  | cons x b ih =>
    rw [List.length_cons] at hk
    rw [setBytes, ih _ _ (by omega)]
    exact tblGet_tblSet_elsewhere d a k x m (by omega)

/-- A count that goes up by one is listed. -/
theorem tblGet_tblMod_succ (k j : Nat) (t : Tbl Nat) :
    tblGet 0 (tblMod 0 k (· + 1) t) j = tblGet 0 t j + (if j = k then 1 else 0) := by
  unfold tblMod
  split
  · rename_i h
    subst h
    exact tblGet_tblSet_listed 0 j _ t (Nat.succ_ne_zero _)
  · rename_i h
    exact tblGet_tblSet_elsewhere 0 k j _ t (Ne.symm h)

/-! ## A write that becomes persistent (R614, R615, R617, R650) -/

/-- Each word of the write wears by one. -/
theorem ancPut_wear (a : Anc) (w j : Nat) (vs : List DWord) :
    tblGet 0 (ancPut a w vs).wear j = tblGet 0 a.wear j + (if w ≤ j ∧ j < w + vs.length then 1 else 0) := by
  induction vs generalizing a w with
  | nil => simp [ancPut]
  | cons v vs ih =>
    rw [ancPut, ih, tblGet_tblMod_succ, List.length_cons]
    split <;> split <;> split <;> omega

/-- No word of the write stays lost. -/
theorem ancPut_lost (a : Anc) (w j : Nat) (vs : List DWord) (h : tblWf false a.lost) :
    tblGet false (ancPut a w vs).lost j = if w ≤ j ∧ j < w + vs.length then false else tblGet false a.lost j := by
  induction vs generalizing a w with
  | nil => rw [if_neg (by simp), ancPut]
  | cons v vs ih =>
    rw [ancPut, ih _ _ (tblSet_wf false w false a.lost h), tblGet_tblSet false w j false a.lost h, List.length_cons]
    split <;> split <;> (try split) <;> first | rfl | omega

theorem ancPut_cntWrite (a : Anc) (w : Nat) (vs : List DWord) : (ancPut a w vs).cntWrite = a.cntWrite + BitVec.ofNat 64 vs.length := by
  induction vs generalizing a w with
  | nil => simp [ancPut]
  | cons v vs ih =>
    rw [ancPut, ih, List.length_cons, Nat.add_comm, BitVec.ofNat_add, BitVec.add_assoc]
    rfl

section
variable {w c : Nat} {vals : List DWord} {e : Eff} {rest : List AncWrite} {s : State}

theorem State.ancPersist_queue : (s.ancPersist ⟨w, vals, c, e⟩ rest).anc.queue = rest := by
  simp only [State.ancPersist, State.repay_anc]
  split <;> exact ancPut_queue ..

theorem State.ancPersist_words :
    (s.ancPersist ⟨w, vals, c, e⟩ rest).anc.words = (ancPut { s.anc with queue := rest } w vals).words := by
  simp only [State.ancPersist, State.repay_anc]
  split <;> rfl

theorem State.ancPersist_lost : (s.ancPersist ⟨w, vals, c, e⟩ rest).anc.lost = (ancPut { s.anc with queue := rest } w vals).lost := by
  simp only [State.ancPersist, State.repay_anc]
  split <;> rfl

/-- A persistent write puts its values in its words and leaves every other word. -/
theorem State.ancPersist_ancGet (hw : tblWf 0 s.anc.words) (hl : tblWf false s.anc.lost) (k : Nat) :
    (s.ancPersist ⟨w, vals, c, e⟩ rest).ancGet k = if w ≤ k ∧ k < w + vals.length then vals.getD (k - w) 0 else s.ancGet k := by
  have words := ancPut_words { s.anc with queue := rest } w k vals hw
  have lost := ancPut_lost { s.anc with queue := rest } w k vals hl
  rw [State.ancGet, State.ancPersist_words, State.ancPersist_lost, words, lost]
  by_cases hk : w ≤ k ∧ k < w + vals.length
  · simp [hk]
  · simp only [if_neg hk]
    rfl

theorem State.ancPersist_wear (k : Nat) : tblGet 0 (s.ancPersist ⟨w, vals, c, e⟩ rest).anc.wear k = tblGet 0 s.anc.wear k +
    (if w ≤ k ∧ k < w + vals.length then 1 else 0) + (if 1 < vals.length ∧ k = 8192 then 1 else 0) := by
  simp only [State.ancPersist, State.repay_anc]
  split
  · rename_i h1
    simp only [tblGet_tblMod_succ, ancPut_wear, h1, true_and]
  · rename_i h1
    simp only [ancPut_wear, h1, false_and, if_false, Nat.add_zero]

theorem State.ancPersist_cntWrite :
    (s.ancPersist ⟨w, vals, c, e⟩ rest).anc.cntWrite = s.anc.cntWrite + BitVec.ofNat 64 vals.length := by
  simp only [State.ancPersist, State.repay_anc]
  split <;> exact ancPut_cntWrite ..

end

/-- Nothing is held for a later record: no replication follows. -/
theorem State.replDrain_idle {s : State} (h : s.trs.replHeld = []) : s.replDrain = s := by
  simp only [State.replDrain, h, tblGet]

/-- The front write completes, and then its owner acts. -/
theorem execAnchorWriteComplete_acts {a : AncWrite} {rest : List AncWrite} {s t : State} (hq : s.anc.queue = a :: rest)
    (hr : s.par.response ≠ 3 ∨ a.eff.ofRelease = false) (ht : (s.ancPersist a rest).afterAnchor a.eff = t) (hh : t.trs.replHeld = []) :
    exec .anchorWriteComplete s = .next t := by
  subst ht
  show Host.Outcome.next s.anchorDone = _
  rw [State.anchorDone, hq]
  dsimp only
  have hb : ¬((s.ancPersist a rest).par.response == 3 && a.eff.ofRelease) = true := by
    rw [State.ancPersist_par, Bool.and_eq_true_iff, beq_iff_eq]
    rintro ⟨h3, ho⟩
    rcases hr with h | h
    · exact h h3
    · rw [ho] at h
      cases h
  rw [if_neg hb, State.replDrain_idle hh]

/-- An orphaned write, one of the ceiling, or a release's under an ERASE does nothing further (R515, R521, R617). -/
theorem execAnchorWriteComplete_still {a : AncWrite} {rest : List AncWrite} {s : State} (hq : s.anc.queue = a :: rest)
    (he : a.eff = .none ∨ a.eff = .ceiling ∨ (a.eff.ofRelease = true ∧ s.par.response = 3)) (hh : s.trs.replHeld = []) :
    exec .anchorWriteComplete s = .next (s.ancPersist a rest) := by
  show Host.Outcome.next s.anchorDone = _
  rw [State.anchorDone, hq]
  dsimp only
  split
  · rfl
  · rename_i hb
    rw [State.ancPersist_par, Bool.and_eq_true, beq_iff_eq, not_and] at hb
    have hidle : (s.ancPersist a rest).replDrain = s.ancPersist a rest := State.replDrain_idle hh
    rcases he with h | h | ⟨h, hr⟩
    · rw [h]
      exact congrArg _ hidle
    · rw [h]
      exact congrArg _ hidle
    · exact absurd h (hb hr)

/-! ## What follows a persistent write (R265, R515, R521, R554, R562) -/

theorem State.policyPersist_frame (old : Word) (s : State) : Frame (reports [.par]) s (s.policyPersist old) :=
  Frame.trans (t := { s with par.policyBk := (s.ancGet 0x0B).setWidth 26 }) (by simp [Frame, reports])
    ((State.eventSig_frame ..).mono (by decide))

theorem State.policyPersist_par (old : Word) (s : State) :
    (s.policyPersist old).par = { s.par with policyBk := (s.ancGet 0x0B).setWidth 26 } := by
  simp [State.policyPersist]

/-- Nothing awaits such a write: no release ends with it. -/
theorem State.commitRels_none {s : State} (eff : MssEff) (h : s.mss.rels = []) : s.commitRels eff = s := by
  rw [State.commitRels, h]
  rfl

theorem State.ancGet_congr {s t : State} (h : t.anc = s.anc) (k : Nat) : t.ancGet k = s.ancGet k := by
  rw [State.ancGet, h]
  rfl

/-- The state that the clear of the recorder leaves, before its event's signal (R554). -/
def State.evrEmptied (r : Rec) (s : State) : State := { s with
  evr.clearing := false
  evr.clearRec := none
  evr.keptBase := r.seq
  evr.head := s.evr.head + 1
  evr.circBase := s.evr.head + 4096
  evr.store := [(0, some r)]
  evr.keptPending := []
  cfg.flash := clearBytes s.cfg.flash (evrFlash (!s.evrHalf) 0) 0x20000 }

theorem State.evrCleared_some {s : State} {r : Rec} (h : s.evr.clearRec = some r) : s.evrCleared = (s.evrEmptied r).evrEvent 8 := by
  rw [State.evrCleared, h]
  rfl

/-- An event of the recorder changes only its event bits there. -/
theorem State.evrEvent_evr (bits : BitVec 5) (s : State) : (s.evrEvent bits).evr = { s.evr with evt := s.evr.evt ||| bits } := by
  simp only [State.evrEvent]
  split <;> simp

/-- The recorder is cleared, and the permission to clear it goes with that. -/
def State.recorderCleared (r : Rec) (s : State) : State := { (s.evrEmptied r).evrEvent 8 with mss.mayClearEvr := none }

theorem State.recorderCleared_frame (r : Rec) (s : State) : Frame (reports [.cfg, .mss]) s (s.recorderCleared r) := by
  simp [Frame, reports, State.recorderCleared, State.evrEmptied]

theorem State.recorderCleared_mss (r : Rec) (s : State) : (s.recorderCleared r).mss = { s.mss with mayClearEvr := none } := by
  simp [State.recorderCleared, State.evrEmptied]

theorem State.recorderCleared_evr (r : Rec) (s : State) :
    (s.recorderCleared r).evr = { (s.evrEmptied r).evr with evt := s.evr.evt ||| 8 } := State.evrEvent_evr 8 (s.evrEmptied r)

/-- No release is under way: nothing follows the clear. -/
theorem State.afterAnchor_evrClear {s : State} {r : Rec} (h : s.evr.clearRec = some r) (hr : s.mss.rels = []) :
    s.afterAnchor .evrClear = s.recorderCleared r := by
  rw [State.afterAnchor, State.evrCleared_some h]
  refine State.commitRels_none .recorder ?_
  exact (congrArg Mss.rels (s.recorderCleared_mss r)).trans hr

/-! ### A key change (R265) -/

theorem State.closeResolved_frame (e : Entry) (s : State) : Frame [.pay] s (s.closeResolved e) := by
  unfold State.closeResolved
  extract_lets close
  split
  · exact .ite (by simp [Frame]) (.refl _ s)
  · exact .refl _ s

theorem State.imodCount_frame (fn q : Nat) (s : State) : Frame [.hiu, .out] s (s.imodCount fn q) := by
  unfold State.imodCount
  extract_lets x n count t
  exact .ite (.ite (by simp [Frame, t]) (Frame.trans (t := t) (by simp [Frame, t]) (State.msix_frame ..))) (by simp [Frame])

theorem State.msix_out (fn vec : Nat) (s : State) : s.out <+: (s.msix fn vec).out := by
  simp only [State.msix]
  split
  · exact List.prefix_rfl
  · exact List.prefix_append ..

/-- Whatever has been sent stays sent. -/
theorem State.imodCount_out (fn q : Nat) (s : State) : s.out <+: (s.imodCount fn q).out := by
  unfold State.imodCount
  extract_lets x n count t
  split
  · split
    · exact List.prefix_rfl
    · exact State.msix_out fn x.vec t
  · exact List.prefix_rfl

/-- The state that has the result of an item in host memory, where it has a buffer for one. -/
def State.resultOut (e : Entry) (result : Bytes) (s : State) : State :=
  if outPtr e.desc && !result.isEmpty then s.emit (.hostWrite e.fn (outBuf e.desc).1 result true false) else s

/-- The state that has also the completion there. -/
def State.completionOut (e : Entry) (st : Nat) (r : Bytes) (s : State) : State :=
  (s.resultOut e r).emit (.hostWrite e.fn
    ((s.qpOf e.fn e.q).cqBase.toNat + 64 * ((s.qpOf e.fn e.q).cqTail.toNat % 2 ^ (s.qpOf e.fn e.q).cqLog))
    (completion e st r (s.qpOf e.fn e.q) e.relAt) false false)

theorem State.completionOut_frame (e : Entry) (st : Nat) (r : Bytes) (s : State) : Frame [.out] s (s.completionOut e st r) := by
  refine Frame.trans (t := s.resultOut e r) (.ite ?_ (.refl _ s)) ?_ <;>
  simp [Frame, State.completionOut]

/-- The status block and the interrupt that follow a completion. -/
def State.completionCounted (e : Entry) (x : QP) (s : State) : State :=
  (((s.setQp e.fn e.q { x with cqTail := x.cqTail + 1 }).emit (.hostWrite e.fn (x.cqBase.toNat + 64 * 2 ^ x.cqLog)
    (natLe 4 (x.cqTail + 1).toNat ++ natLe 4 x.sqHead.toNat ++ zeros 56) false false)).imodCount e.fn e.q)

theorem State.hostOut_open (e : Entry) (st : Nat) (r : Bytes) {s : State} (hf : s.fenced e.fn = false) (hl : s.hiu.linkUp = true) :
    s.hostOut e st r = (s.completionOut e st r).completionCounted e (s.qpOf e.fn e.q) := by
  rw [State.hostOut, if_neg (by simp [hf, hl])]
  rfl

theorem State.completionCounted_frame (e : Entry) (x : QP) (s : State) : Frame [.hiu, .out] s (s.completionCounted e x) :=
  Frame.trans (t := (s.setQp e.fn e.q { x with cqTail := x.cqTail + 1 }).emit (.hostWrite e.fn (x.cqBase.toNat + 64 * 2 ^ x.cqLog)
    (natLe 4 (x.cqTail + 1).toNat ++ natLe 4 x.sqHead.toNat ++ zeros 56) false false)) (by simp [Frame]) (State.imodCount_frame ..)

theorem State.hostOut_frame (e : Entry) (st : Nat) (r : Bytes) (s : State) : Frame [.hiu, .out] s (s.hostOut e st r) := by
  by_cases h : (s.fenced e.fn || !s.hiu.linkUp) = true
  · rw [State.hostOut, if_pos h]
    exact .refl _ s
  · obtain ⟨hf, hl⟩ : s.fenced e.fn = false ∧ s.hiu.linkUp = true := by simpa using h
    rw [State.hostOut_open e st r hf hl]
    exact ((State.completionOut_frame ..).mono (by decide)).trans (State.completionCounted_frame ..)

/-- A completion is written to the slot at CQ_TAIL of an unfenced function while the link is up. -/
theorem State.hostOut_completion (e : Entry) (st : Nat) (r : Bytes) {s : State} (hf : s.fenced e.fn = false)
    (hl : s.hiu.linkUp = true) :
    .hostWrite e.fn ((s.qpOf e.fn e.q).cqBase.toNat + 64 * ((s.qpOf e.fn e.q).cqTail.toNat % 2 ^ (s.qpOf e.fn e.q).cqLog))
      (completion e st r (s.qpOf e.fn e.q) e.relAt) false false ∈ (s.hostOut e st r).out := by
  rw [State.hostOut_open e st r hf hl]
  refine (State.imodCount_out ..).subset ?_
  refine List.mem_append_left _ ?_
  exact List.mem_append_right _ (List.mem_singleton_self _)

theorem State.qpOf_congr {s u : State} (h : u.hiu = s.hiu) (f q : Nat) : u.qpOf f q = s.qpOf f q := by
  rw [State.qpOf, h]
  rfl

theorem State.fenced_congr {s u : State} (h : u.hiu = s.hiu) (f : Nat) : u.fenced f = s.fenced f := by
  rw [State.fenced, h]
  rfl

/-- What the release of a key change does (R265): the word takes effect, the session may close, and the completion is written. -/
def State.keyChanged (d : Nat) (e : Entry) (n : Nat) (kid : BitVec 64) (w : DWord) (s : State) : State :=
  (((s.setKeyWord n kid.toNat w).closeResolved e).hostOut e 0 e.post.result).modEnt d (fun e => { e with waiting := false })

/-- No sequence number is taken any more. -/
def State.noTaken (s : State) : State := { s with keys.taken := [] }

theorem State.noTaken_frame (s : State) : Frame [.keys] s s.noTaken := by simp [Frame, State.noTaken]

theorem State.keySeqPersist_one {s : State} {x : Taken} {n q : Nat} (h : s.keys.taken = [x]) (hn : x.tenant = n) (hq : x.seq ≤ q) :
    s.keySeqPersist n q = s.noTaken.commitOwner x.owner := by
  simp [State.keySeqPersist, covered, h, hn, hq, State.noTaken]

section
variable {s : State} {d n : Nat} {e : Entry} {k : JKind} {kid : BitVec 64} {w : DWord}

theorem State.applyRel_keyChange (he : s.entOf d = some e) (hst : e.st = .releasing) (hr : e.relStatus = 0)
    (hi : e.post.intents = [.journal k n kid w, .keyState n kid w]) : s.applyRel d = s.keyChanged d e n kid w := by
  rw [State.applyRel, he]
  dsimp only
  rw [if_neg (by simp [hst]), hr, if_pos (by decide), hi]
  rfl

theorem State.keySeqPersist_change {x : Taken} {q : Nat} (htk : s.keys.taken = [x]) (hxt : x.tenant = n) (hxq : x.seq ≤ q)
    (hxo : x.owner = .deck d) (he : s.entOf d = some e) (hst : e.st = .releasing) (hr : e.relStatus = 0)
    (hi : e.post.intents = [.journal k n kid w, .keyState n kid w]) :
    s.keySeqPersist n q = s.noTaken.keyChanged d e n kid w := by
  rw [State.keySeqPersist_one htk hxt hxq, hxo]
  exact State.applyRel_keyChange he hst hr hi

/-- The completion of the change is sent where the link and the fence allow it. -/
theorem State.keyChanged_completion (hf : s.fenced e.fn = false) (hl : s.hiu.linkUp = true) :
    .hostWrite e.fn ((s.qpOf e.fn e.q).cqBase.toNat + 64 * ((s.qpOf e.fn e.q).cqTail.toNat % 2 ^ (s.qpOf e.fn e.q).cqLog))
      (completion e 0 e.post.result (s.qpOf e.fn e.q) e.relAt) false false ∈ (s.keyChanged d e n kid w).out := by
  have hh : ((s.setKeyWord n kid.toNat w).closeResolved e).hiu = s.hiu :=
    (State.closeResolved_frame e (s.setKeyWord n kid.toNat w)).same .hiu (by decide)
  have hm : (s.keyChanged d e n kid w).out = (((s.setKeyWord n kid.toNat w).closeResolved e).hostOut e 0 e.post.result).out :=
    (State.modEnt_frame ..).same .out (by decide)
  have sent := State.hostOut_completion e 0 e.post.result (s := (s.setKeyWord n kid.toNat w).closeResolved e)
    ((State.fenced_congr hh _).trans hf) ((congrArg Hiu.linkUp hh).trans hl)
  rw [State.qpOf_congr hh] at sent
  rw [hm]
  exact sent

theorem State.keyChanged_frame : Frame [.hiu, .deck, .keys, .pay, .out] s (s.keyChanged d e n kid w) :=
  (((Frame.mono (t := s.setKeyWord n kid.toNat w) (l := [.keys]) (by simp [Frame]) (by decide)).trans
    ((State.closeResolved_frame e _).mono (by decide))).trans ((State.hostOut_frame ..).mono (by decide))).trans
    ((State.modEnt_frame ..).mono (by decide))

theorem State.keyChanged_keys : (s.keyChanged d e n kid w).keys = (s.setKeyWord n kid.toNat w).keys := by
  have hc := (State.closeResolved_frame e (s.setKeyWord n kid.toNat w)).same .keys (by decide)
  have ho := (State.hostOut_frame e 0 e.post.result ((s.setKeyWord n kid.toNat w).closeResolved e)).same .keys (by decide)
  have hm := (State.modEnt_frame d (fun e => { e with waiting := false })
    (((s.setKeyWord n kid.toNat w).closeResolved e).hostOut e 0 e.post.result)).same .keys (by decide)
  exact (hc.trans ho).trans hm

theorem State.keyChanged_entOf (he : s.entOf d = some e) : (s.keyChanged d e n kid w).entOf d = some { e with waiting := false } := by
  have hc := (State.closeResolved_frame e (s.setKeyWord n kid.toNat w)).same .deck (by decide)
  have ho := (State.hostOut_frame e 0 e.post.result ((s.setKeyWord n kid.toNat w).closeResolved e)).same .deck (by decide)
  have hd : (((s.setKeyWord n kid.toNat w).closeResolved e).hostOut e 0 e.post.result).entOf d = some e := by
    exact (congrArg (fun x : Deck => tblGet none x.ent d) (hc.trans ho)).trans he
  exact State.entOf_modEnt_held hd _

end

/-! ### A release of the MSS (R562, R582) -/

theorem State.tnOf_congr {s u : State} (h : u.hiu = s.hiu) (n : Nat) : u.tnOf n = s.tnOf n := by rw [State.tnOf, h]; rfl

/-- A tenant's mailbox that answers is done and not busy, whatever it held. -/
theorem State.vfMbx_answered (n : Nat) (s : State) :
    (s.modVfMbx n (fun m => { m with busy := false, done := true })).vfMbx n = { s.vfMbx n with busy := false, done := true } := by
  refine tblGet_tblSet_listed ({} : VfMbx) n _ _ fun h => ?_
  have hd : true = false := congrArg VfMbx.done h
  cases hd

/-- A reply shows on its path (R562). -/
theorem State.reply_replied (p : Path) (typ : Nat) (tag : Word) (st : Nat) (body : Bytes) (s : State) :
    Replied p typ tag st body s (s.reply p typ tag st body) := by
  cases p with
  | pf =>
    simp only [State.reply]
    split <;> exact ⟨by simp, by simp, by simp, by simp⟩
  | service => exact List.mem_append_right _ (List.mem_singleton_self _)
  | vf n =>
    have hm := fun u : State => u.vfMbx_answered n
    simp only [State.reply]
    refine ⟨by rw [hm], by rw [hm], fun hw hf => ?_⟩
    rw [if_pos (by rw [hw, hf]; rfl), State.modVfMbx_out]
    exact List.mem_append_right _ (List.mem_singleton_self _)

/-- What a reply shows depends on the host interface and the mailboxes that it finds. -/
theorem Replied.of_same {p : Path} {typ st : Nat} {tag : Word} {body : Bytes} {s u t : State} (h : Replied p typ tag st body u t)
    (hh : u.hiu = s.hiu) (hv : u.mss.vf = s.mss.vf) : Replied p typ tag st body s t := by
  cases p with
  | vf n =>
    obtain ⟨busy, done, sent⟩ := h
    refine ⟨busy, done, ?_⟩
    have hm : u.vfMbx n = s.vfMbx n := by rw [State.vfMbx, hv]; rfl
    have hw : ∀ a l, u.winOk n a l = s.winOk n a l := fun a l => by simp only [State.winOk, State.tnOf_congr hh]
    have hf : u.fenced n = s.fenced n := by rw [State.fenced, hh]; rfl
    rwa [hm, hw, hf] at sent
  | _ => exact h

/-- The releases under way are none any more. -/
def State.noRels (s : State) : State := { s with mss.rels := [] }

theorem State.noRels_frame (s : State) : Frame [.mss] s s.noRels := by simp [Frame, State.noRels]

/-- A reply leaves the releases under way alone. -/
theorem State.reply_rels (p : Path) (typ : Nat) (tag : Word) (st : Nat) (body : Bytes) (s : State) :
    (s.reply p typ tag st body).mss.rels = s.mss.rels := by
  cases p with
  | pf =>
    simp only [State.reply]
    split <;> simp
  | service => rfl
  | vf n =>
    simp only [State.reply]
    split <;> rfl

theorem State.mssCommit_reply {s : State} {id : Nat} {p : Path} {tag : Word} {typ : Nat} {body : Bytes}
    (h : s.mss.rels = [⟨id, some (p, tag, typ, body), none, .none⟩]) : s.mssCommit id = s.noRels.reply p typ tag 0 body := by
  have ht : s.takeRel id = (some ⟨id, some (p, tag, typ, body), none, .none⟩, s.noRels) := by
    simp [State.takeRel, State.noRels, h]
  rw [State.mssCommit, ht]
  rfl

theorem State.mssCommit_silent {s : State} {id : Nat} {eff : MssEff} (h : s.mss.rels = [⟨id, none, none, eff⟩]) :
    s.mssCommit id = s.noRels.mssEffect eff 0 := by
  have ht : s.takeRel id = (some ⟨id, none, none, eff⟩, s.noRels) := by simp [State.takeRel, State.noRels, h]
  rw [State.mssCommit, ht]
  rfl

/-- Without a quiesce a release counts nothing there. -/
theorem State.commitOwner_mss {s : State} (id : Nat) (h : s.pwr.quiesce = false) : s.commitOwner (.mss id) = s.mssCommit id := by
  have hs : { s with pwr.heldUp := s.pwr.heldUp + b2n s.pwr.quiesce } = s := by
    rw [h]
    rfl
  rw [State.commitOwner, hs]

/-! ### A tenant's STATE (R80, R198, R296) -/

theorem State.disableQps_frame (f : Nat) (s : State) : Frame [.hiu] s (s.disableQps f) := by simp [Frame, State.disableQps]

theorem State.closeFnSess_pay (n : Nat) (s : State) : Frame [.pay] s (s.closeFnSess n) := by simp [Frame]

/-- What a tenant's end does beyond its STATE. -/
def State.tenantEnded (n : Nat) (s : State) : State := (((s.disableQps n).nextGen n).closeFnSess n).flushTenant n

theorem State.tenantEnded_frame (n : Nat) (s : State) :
    Frame [.hiu, .dsp, .deck, .keys, .pay, .trs, .out] s (s.tenantEnded n) :=
  ((((s.disableQps_frame n).mono (by decide)).trans ((State.nextGen_frame ..).mono (by decide))).trans
    ((State.closeFnSess_pay n _).mono (by decide))).trans ((State.flushTenant_frame ..).mono (by decide))

theorem State.moveGen_tnOf (f : Nat) (s : State) (h : tblWf {} s.hiu.tn) :
    (s.moveGen f).tnOf f = { s.tnOf f with gen := s.genAfter f } := by
  rw [State.moveGen_eq, State.tnOf, foldl_hiu _ _ _ (by simp)]
  exact (s.tnOf_modTn f f _ h).trans (if_pos rfl)

theorem State.tenantEnded_tnOf (n : Nat) (s : State) (h : tblWf {} s.hiu.tn) :
    (s.tenantEnded n).tnOf n = { s.tnOf n with gen := ((s.disableQps n).withdrawAll n).genAfter n } := by
  have hd : ((s.disableQps n).withdrawAll n).hiu = (s.disableQps n).hiu := ((s.disableQps n).withdrawAll_frame n).same .hiu (by decide)
  have hw : tblWf {} ((s.disableQps n).withdrawAll n).hiu.tn := by
    rw [hd]
    exact h
  have hg := ((s.disableQps n).withdrawAll n).moveGen_tnOf n hw
  have hk : (s.tenantEnded n).tnOf n = (((s.disableQps n).withdrawAll n).moveGen n).tnOf n :=
    State.tnOf_congr (by rw [State.tenantEnded, State.nextGen]; simp) n
  rw [hk, hg, State.tnOf_congr hd n]
  rfl

/-- With no item in the module the generation moves on by one. -/
theorem State.tenantEnded_gen {n : Nat} {s : State} (h : tblWf {} s.hiu.tn) (hd : s.deck.ent = []) :
    ((s.tenantEnded n).tnOf n).gen = (s.tnOf n).gen + 1 := by
  have hheld : (s.disableQps n).held = [] := by simp [State.held, State.disableQps, hd, heldOf]
  have hw : (s.disableQps n).withdrawAll n = s.disableQps n := by rw [State.withdrawAll, hheld]; rfl
  rw [State.tenantEnded_tnOf n s h, hw, State.genAfter, State.arrived, hheld]
  rfl

/-- A tenant's STATE alone is set. -/
def State.stateSet (n : Nat) (b : BitVec 2) (s : State) : State := s.modTn n (fun r => { r with state := b })

theorem State.stateSet_frame (n : Nat) (b : BitVec 2) (s : State) : Frame [.hiu] s (s.stateSet n b) := by simp [Frame, State.stateSet]

theorem State.stateSet_tnOf {n : Nat} {b : BitVec 2} {s : State} (h : tblWf {} s.hiu.tn) :
    (s.stateSet n b).tnOf n = { s.tnOf n with state := b } := (s.tnOf_modTn n n _ h).trans (if_pos rfl)

theorem State.stateSet_wf {n : Nat} {b : BitVec 2} {s : State} (h : tblWf {} s.hiu.tn) : tblWf {} (s.stateSet n b).hiu.tn :=
  State.modTn_wf n _ s h

theorem State.setTenant_eq (n : Nat) (b : BitVec 2) (s : State) :
    s.setTenant n b = if b = 0 ∧ (s.tnOf n).state ≠ 0 then (s.stateSet n b).tenantEnded n else s.stateSet n b := rfl

theorem State.setTenant_frame (n : Nat) (b : BitVec 2) (s : State) :
    Frame [.hiu, .dsp, .deck, .keys, .pay, .trs, .out] s (s.setTenant n b) := by
  have hs := (s.stateSet_frame n b).mono (l' := [.hiu, .dsp, .deck, .keys, .pay, .trs, .out]) (by decide)
  exact .ite (hs.trans (State.tenantEnded_frame n _)) hs

theorem State.tenantEnded_sameCluster (n : Nat) (s : State) : SameCluster s (s.tenantEnded n) := by
  have hd : SameCluster s (s.disableQps n) := rfl
  have hg := hd.trans (State.nextGen_sameCluster n (s.disableQps n))
  have hc := (((s.disableQps n).nextGen n).closeFnSess_pay n).same .trs (by decide)
  have hf := ((((s.disableQps n).nextGen n).closeFnSess n).flushTenant_frame n).same .trs (by decide)
  exact (hg.trans (.of_trs hc)).trans (.of_trs hf)

theorem State.setTenant_sameCluster (n : Nat) (b : BitVec 2) (s : State) : SameCluster s (s.setTenant n b) := by
  have hs : SameCluster s (s.stateSet n b) := rfl
  exact .ite (hs.trans (State.tenantEnded_sameCluster ..)) hs

theorem State.setTenant_state {n : Nat} {b : BitVec 2} {s : State} (h : tblWf {} s.hiu.tn) : ((s.setTenant n b).tnOf n).state = b := by
  rw [State.setTenant_eq]
  split
  · rw [State.tenantEnded_tnOf n _ (State.stateSet_wf h), State.stateSet_tnOf h]
  · rw [State.stateSet_tnOf h]

theorem State.setTenant_gen {n : Nat} {s : State} (h : tblWf {} s.hiu.tn) (hs : (s.tnOf n).state ≠ 0) (hd : s.deck.ent = []) :
    ((s.setTenant n 0).tnOf n).gen = (s.tnOf n).gen + 1 := by
  rw [State.setTenant_eq, if_pos ⟨rfl, hs⟩, State.tenantEnded_gen (State.stateSet_wf h) hd, State.stateSet_tnOf h]

/-! ## The flash controller (R603, R632) -/

/-- A command on the flash is refused outside it, across a region's end, in the active bank, or off a sector. -/
theorem State.cfgRefuses_iff (op : CfgOp) (s : State) : s.cfgRefuses op = true ↔
    (0x4000000 < s.cfg.flashAddr.toNat + s.cfg.len.toNat ∨
      (0 < s.cfg.len.toNat ∧ flashRegion s.cfg.flashAddr.toNat ≠ flashRegion (s.cfg.flashAddr.toNat + s.cfg.len.toNat - 1)) ∨
      ((op = .program ∨ op = .erase) ∧ flashRegion s.cfg.flashAddr.toNat = (if s.activeBank then 1 else 0)) ∨
      (op = .erase ∧ ¬ (0x10000 ∣ s.cfg.flashAddr.toNat ∧ 0x10000 ∣ s.cfg.len.toNat))) := by
  have hb : b2n s.activeBank = if s.activeBank then 1 else 0 := by cases s.activeBank <;> rfl
  cases op <;> simp [State.cfgRefuses, hb, Nat.dvd_iff_mod_eq_zero, or_assoc, imp_iff_not_or]

/-- A command of the flash controller begins, is refused, or is ignored while one runs. -/
theorem State.cfgStart_eq (op : CfgOp) (s : State) : s.cfgStart op =
    (if s.cfg.cmd.isSome = true then s
    else if 0x4000000 < s.cfg.flashAddr.toNat + s.cfg.len.toNat ∨
        (0 < s.cfg.len.toNat ∧ flashRegion s.cfg.flashAddr.toNat ≠ flashRegion (s.cfg.flashAddr.toNat + s.cfg.len.toNat - 1)) ∨
        ((op = .program ∨ op = .erase) ∧ flashRegion s.cfg.flashAddr.toNat = (if s.activeBank then 1 else 0)) ∨
        (op = .erase ∧ ¬ (0x10000 ∣ s.cfg.flashAddr.toNat ∧ 0x10000 ∣ s.cfg.len.toNat)) then
      { s with cfg.refused := true }
    else { s with
      cfg.refused := false
      cfg.cmd := some (op, s.cfg.flashAddr.toNat, s.cfg.len.toNat, s.cfg.memAddr.toNat) }) := by
  simp only [State.cfgStart, State.cfgRefuses_iff]

/-- BUSY and ERROR clear as a flash command ends, and its completion signals. -/
def State.cfgEnded (s : State) : State := ({ s with cfg.cmd := none, cfg.error := false }).signal 1149

theorem State.cfgEnded_frame (s : State) : Frame [.cfg, .irq, .pwr] s s.cfgEnded := by simp [Frame, State.cfgEnded]

/-- What the end of a flash command leaves, before any failure of its verify. -/
def cfgDone (ok : Bool) (op : CfgOp) (a n m : Nat) (u : State) : State :=
  match op, ok with
  | .read, _ => (u.cfgDigest (u.flashRead a n)).writeMem m (u.flashRead a n)
  | .hash, _ => u.cfgDigest (u.flashRead a n)
  | .program, true => { u.cfgDigest (u.readMem m n) with cfg.flash := setBytes 0xFF u.cfg.flash a (u.readMem m n) }
  | .erase, true => { u with cfg.flash := clearBytes u.cfg.flash a n, cfg.cntErase := u.cfg.cntErase + w64 (n / 0x10000) }
  | .program, false => { (u.cfgDigest (u.readMem m n)) with
      cfg.flash := setBytes 0xFF u.cfg.flash a (freeBytes u.free n), cfg.error := true, free := u.free + n }
  | .erase, false => { u with cfg.flash := setBytes 0xFF u.cfg.flash a (freeBytes u.free n), cfg.error := true, free := u.free + n }

theorem execCfgCmdDone_running {s : State} {op : CfgOp} {a n m : Nat} (h : s.cfg.cmd = some (op, a, n, m)) (ok : Bool) :
    execCfgCmdDone ok s = .next (cfgDone ok op a n m s.cfgEnded) := by
  rw [execCfgCmdDone, h]
  cases op <;> cases ok <;> rfl

theorem cfgDone_frame (ok : Bool) (op : CfgOp) (a n m : Nat) (u : State) : Frame [.cfg, .mi, .mem, .free] u (cfgDone ok op a n m u) := by
  cases op <;> cases ok <;> simp [cfgDone, Frame]

/-- Only a read writes memory. -/
theorem cfgDone_mem (ok : Bool) {op : CfgOp} (a n m : Nat) (u : State) (h : op ≠ .read) :
    (cfgDone ok op a n m u).mem = u.mem ∧ (cfgDone ok op a n m u).mi = u.mi := by
  cases op with
  | read => exact absurd rfl h
  | hash => exact ⟨rfl, rfl⟩
  | _ => cases ok <;> exact ⟨rfl, rfl⟩

theorem cfgDone_cfg (ok : Bool) (op : CfgOp) (a n m : Nat) (u : State) : (cfgDone ok op a n m u).cfg.cmd = u.cfg.cmd ∧
    (cfgDone ok op a n m u).cfg.refused = u.cfg.refused ∧
    (cfgDone ok op a n m u).cfg.error = (u.cfg.error || (!ok && (op == .program || op == .erase))) := by
  cases op <;> cases ok <;> simp [cfgDone, State.cfgDigest]

/-- No byte outside the command's range changes. -/
theorem cfgDone_flash_elsewhere (ok : Bool) (op : CfgOp) {a n k : Nat} (m : Nat) (u : State) (hk : k < a ∨ a + n ≤ k) :
    byteAt 0xFF (cfgDone ok op a n m u).cfg.flash k = byteAt 0xFF u.cfg.flash k := by
  cases op with
  | read =>
    simp only [cfgDone, State.writeMem_keeps]
    rfl
  | hash => rfl
  | program =>
    cases ok
    · exact byteAt_setBytes_elsewhere _ _ a k _ (by rwa [freeBytes_length])
    · exact byteAt_setBytes_elsewhere _ _ a k _ (by rwa [State.readMem, bytesAt_length])
  | erase =>
    cases ok
    · exact byteAt_setBytes_elsewhere _ _ a k _ (by rwa [freeBytes_length])
    · exact (byteAt_clearBytes ..).trans (if_neg (by omega))

/-- A write of an internal address depends on memory alone. -/
theorem State.writeMem_mem_congr {s u : State} (h : u.mem = s.mem) (a : Nat) (b : Bytes) : (u.writeMem a b).mem = (s.writeMem a b).mem := by
  unfold State.writeMem
  split
  · exact h
  · split <;> simp only [markValid_fold_mem, h]

/-! ## The clauses -/

/-- Settles O57: a completed write is `ancPersist` and then what its owner does; the flash controller is `cfgStart` and `cfgDone`. -/
theorem anchorsAndFlash : Obligations.AnchorsAndFlash := by
  unfold Obligations.AnchorsAndFlash
  refine ⟨fun s h => ?idle, fun w c vals e rest s hq he hh hw hwf hlf => ?orphan, fun v old c rest s hq hr hh hwf hlf => ?policy,
    fun v c r rest s hq hr hh hc => ?recorder, fun n q d c v x e k kid w rest s hq hr hh htk hxt hxq hxo he hst hrs hi hwf => ?change,
    fun id w c vals p tag typ body rest s hq hr hh hqu hrel => ?reply, fun id w c n vals b rest s hq hr hh hqu hrel hwf => ?tenant,
    fun v s hgo hle => ?mark, fun v s hno => ?unmarked, fun op s v hv => ?start, fun ok s h => ?none, fun ok op a n m s h ha => ?done⟩
  case idle =>
    show Host.Outcome.next s.anchorDone = _
    rw [State.anchorDone, h]
  case orphan =>
    refine ⟨_, execAnchorWriteComplete_still hq he hh, State.ancPersist_queue, fun i hi => ⟨?_, ?_⟩, fun k hk => ?_, ?_,
      State.ancPersist_cntWrite, rfl, State.ancPersist_frame ..⟩
    · rw [State.ancPersist_ancGet hwf hlf, if_pos (by omega), Nat.add_sub_cancel_left]
    · rw [State.ancPersist_wear, if_pos (by omega), if_neg (by omega)]
    · rw [State.ancPersist_ancGet hwf hlf, if_neg (by omega)]
    · rw [State.ancPersist_wear, if_neg (by omega), Nat.add_zero]
      simp
  case policy =>
    have hp := State.ancPersist_frame ⟨0x0B, [v], c, .policy old⟩ rest s
    have hf := (s.ancPersist ⟨0x0B, [v], c, .policy old⟩ rest).policyPersist_frame old
    have hv : (s.ancPersist ⟨0x0B, [v], c, .policy old⟩ rest).ancGet 0x0B = v := by
      rw [State.ancPersist_ancGet hwf hlf]
      rfl
    have hmss : ((s.ancPersist ⟨0x0B, [v], c, .policy old⟩ rest).policyPersist old).mss = s.mss := hf.same .mss (by decide)
    refine ⟨_, execAnchorWriteComplete_acts hq (.inr rfl) (State.commitRels_none .policy ((congrArg Mss.rels hmss).trans hr)) ?_, ?_, ?_,
      (congrArg Mss.rels hmss).trans hr, (hp.mono (by decide)).trans (hf.mono (by decide))⟩
    · exact (congrArg Trs.replHeld (hf.same .trs (by decide))).trans hh
    · exact (State.ancGet_congr (hf.same .anc (by decide)) _).trans hv
    · rw [State.policyPersist_par, hv]
      rfl
  case recorder =>
    have hp := State.ancPersist_frame ⟨9, [v], c, .evrClear⟩ rest s
    have hf := (s.ancPersist ⟨9, [v], c, .evrClear⟩ rest).recorderCleared_frame r
    have he := (s.ancPersist ⟨9, [v], c, .evrClear⟩ rest).recorderCleared_evr r
    refine ⟨_, execAnchorWriteComplete_acts hq (.inr rfl) (State.afterAnchor_evrClear hc hr) ?_, by rw [he]; rfl, by rw [he]; rfl,
      by rw [he]; rfl, by rw [he]; rfl, by rw [he]; rfl, by rw [he]; rfl, ?_, State.recorderCleared_mss ..,
      (hp.mono (by decide)).trans (hf.mono (by decide))⟩
    · exact (congrArg Trs.replHeld (hf.same .trs (by decide))).trans hh
    · rw [he]
      simp
  case change =>
    have hp := State.ancPersist_frame ⟨0x400 + n, [v], c, .keySeq n q⟩ rest s
    have hd : ((s.ancPersist ⟨0x400 + n, [v], c, .keySeq n q⟩ rest).noTaken).entOf d = some e := he
    have hf : Frame [.hiu, .deck, .keys, .pay, .out] (s.ancPersist ⟨0x400 + n, [v], c, .keySeq n q⟩ rest).noTaken _ :=
      State.keyChanged_frame (d := d) (e := e) (n := n) (kid := kid) (w := w)
    have hk := State.keyChanged_keys (s := (s.ancPersist ⟨0x400 + n, [v], c, .keySeq n q⟩ rest).noTaken) (d := d) (e := e) (n := n)
      (kid := kid) (w := w)
    refine ⟨_, _, execAnchorWriteComplete_acts hq (.inl hr) (State.keySeqPersist_change htk hxt hxq hxo he hst hrs hi) ?_, ?_, ?_,
      State.keyChanged_entOf hd, rfl, hst, fun hfe hl => ?_, ?_⟩
    · exact (congrArg Trs.replHeld (hf.same .trs (by decide))).trans hh
    · rw [State.keyWord, hk]
      exact tblGet_tblSet_same 0 _ w _ hwf
    · rw [hk]
      rfl
    · exact State.keyChanged_completion (s := (s.ancPersist ⟨0x400 + n, [v], c, .keySeq n q⟩ rest).noTaken) hfe hl
    · have ht : Frame [.keys] (s.ancPersist ⟨0x400 + n, [v], c, .keySeq n q⟩ rest) _ := State.noTaken_frame _
      exact ((hp.mono (by decide)).trans (ht.mono (by decide))).trans (hf.mono (by decide))
  case reply =>
    have hp := State.ancPersist_frame ⟨w, vals, c, .mss id⟩ rest s
    have hn := (s.ancPersist ⟨w, vals, c, .mss id⟩ rest).noRels_frame
    have hf := (s.ancPersist ⟨w, vals, c, .mss id⟩ rest).noRels.reply_frame p typ tag 0 body
    have ht : (s.ancPersist ⟨w, vals, c, .mss id⟩ rest).afterAnchor (.mss id) = _ :=
      (State.commitOwner_mss (s := s.ancPersist ⟨w, vals, c, .mss id⟩ rest) id hqu).trans (State.mssCommit_reply hrel)
    refine ⟨_, execAnchorWriteComplete_acts hq (.inl hr) ht ?_, ?_, ?_, ?_, ?_⟩
    · exact (congrArg Trs.replHeld (hf.same .trs (by decide))).trans hh
    · exact (congrArg Anc.queue (hf.same .anc (by decide))).trans State.ancPersist_queue
    · exact State.reply_rels ..
    · exact (State.reply_replied ..).of_same rfl rfl
    · exact ((hp.mono (by decide)).trans (hn.mono (by decide))).trans (hf.mono (by decide))
  case tenant =>
    have hp := State.ancPersist_frame ⟨w, vals, c, .mss id⟩ rest s
    have hn := (s.ancPersist ⟨w, vals, c, .mss id⟩ rest).noRels_frame
    have hf := (s.ancPersist ⟨w, vals, c, .mss id⟩ rest).noRels.setTenant_frame n b
    have ht : (s.ancPersist ⟨w, vals, c, .mss id⟩ rest).afterAnchor (.mss id) = _ :=
      (State.commitOwner_mss (s := s.ancPersist ⟨w, vals, c, .mss id⟩ rest) id hqu).trans (State.mssCommit_silent hrel)
    refine ⟨_, execAnchorWriteComplete_acts hq (.inl hr) ht ?_, ?_, State.setTenant_state hwf, ?_, ?_⟩
    · have hc := (s.ancPersist ⟨w, vals, c, .mss id⟩ rest).noRels.setTenant_sameCluster n b
      exact (congrArg Trs.replHeld hc).trans hh
    · exact congrArg Mss.rels (hf.same .mss (by decide))
    · rintro rfl hs hd
      exact State.setTenant_gen (s := (s.ancPersist ⟨w, vals, c, .mss id⟩ rest).noRels) hwf hs hd
    · exact ((hp.mono (by decide)).trans (hn.mono (by decide))).trans (hf.mono (by decide))
  case mark => exact if_pos ⟨hgo, hle⟩
  case unmarked =>
    refine if_neg fun ⟨hgo, hle⟩ => ?_
    rcases hno with h | h
    · rw [hgo] at h
      cases h
    · omega
  case start =>
    rw [← State.cfgStart_eq] at hv
    subst hv
    refine ⟨?_, ?_, ?_, ?_⟩ <;>
    · rintro rfl
      rfl
  case none =>
    show execCfgCmdDone ok s = _
    rw [execCfgCmdDone, h]
  case done =>
    obtain ⟨cmd, refused, error⟩ := cfgDone_cfg ok op a n m s.cfgEnded
    refine ⟨_, execCfgCmdDone_running h ok, cmd, refused, error, fun k hk => cfgDone_flash_elsewhere ok op m s.cfgEnded hk, ?_, ?_, ?_,
      ?_, ?_, ?_, ?_, ?_, (s.cfgEnded_frame.mono (by decide)).trans ((cfgDone_frame ..).mono (by decide))⟩
    · rintro (rfl | rfl)
      · have hc : (cfgDone ok .read a n m s.cfgEnded).cfg = (s.cfgEnded.cfgDigest (s.flashRead a n)).cfg :=
          (State.writeMem_frame m _ (s.cfgEnded.cfgDigest (s.flashRead a n))).same .cfg (by decide)
        exact ⟨(congrArg Cfg.flash hc).trans rfl, (congrArg Cfg.digest hc).trans rfl⟩
      · exact ⟨rfl, rfl⟩
    · rintro rfl
      exact State.writeMem_mem_congr (s := s) (u := s.cfgEnded.cfgDigest (s.flashRead a n)) rfl m _
    · exact fun hop => cfgDone_mem ok a n m s.cfgEnded hop
    · rintro rfl
      cases ok <;> rfl
    · rintro rfl rfl
      rfl
    · rintro rfl rfl
      exact ⟨rfl, rfl⟩
    · rintro rfl
      cases ok <;> rfl
    · rintro rfl (rfl | rfl) <;> rfl

end Sys2Proof.Machine
end

section
/-! PROOFS. The commit of key changes, the replication of records and the resynchronisation of a quarantined member (10_cluster.md
R415 to R417, R427, R428, R434 to R438; the model's choices of logs 27, 69 and 73). -/

namespace Sys2Proof.Machine

/-! ## A frame that arrives in order (R415 to R417) -/

/-- The later of two writes of one index alone counts, whatever the table. -/
theorem tblSet_tblSet_listed {α : Type} [DecidableEq α] (d : α) (k : Nat) (v w : α) (t : Tbl α) (hv : v ≠ d) (hw : w ≠ d) :
    tblSet d k w (tblSet d k v t) = tblSet d k w t := by
  induction t with
  | nil => simp [tblSet, tblCons, hv, hw]
  | cons e t ih =>
    obtain ⟨a, x⟩ := e
    simp only [tblSet, tblCons, if_neg hv, if_neg hw]
    split
    · simp [tblSet, tblCons, hw]
    · split
      · simp [tblSet, tblCons, hw]
      · rename_i h1 h2
        simp only [tblSet, if_neg h1, if_neg h2, ih]

theorem State.assocOf_setAssoc_same (n : Nat) (a : Assoc) (s : State) : (s.setAssoc n a).assocOf n = some a :=
  tblGet_tblSet_listed none n (some a) _ (by simp)

theorem State.setAssoc_setAssoc (n : Nat) (a b : Assoc) (s : State) : (s.setAssoc n a).setAssoc n b = s.setAssoc n b := by
  simp only [State.setAssoc]
  rw [tblSet_tblSet_listed _ _ _ _ _ (by simp) (by simp)]

/-- **A frame heard in order is taken**: what follows acts on the state that has acknowledged it. -/
theorem Heard.recv {h : Hdr} {s u : State} (hu : Heard h s u) (f : State → State) : s.recv h true f = f u := by
  obtain ⟨a, hup, hterm, ha, hseq, hrem, rfl⟩ := hu
  have hdep : s.deposed h.term = s := if_neg (by rw [hterm]; omega)
  have hack : s.ackUpTo (s.nbrOf h.src) h.ack =
      s.setAssoc (s.nbrOf h.src) { a with unacked := a.unacked.filter (fun x => decide (h.ack < x.1)) } := by
    rw [State.ackUpTo, ha]
    refine if_neg ?_
    simp only [List.any_eq_true, not_exists, not_and, Bool.and_eq_true, decide_eq_true_eq, beq_iff_eq]
    exact hrem
  rw [State.recv, if_neg (by simp [hup, hterm])]
  dsimp only
  rw [hdep, ha, hack]
  dsimp only
  rw [if_neg (by simp), if_pos hseq, State.modAssoc, State.assocOf_setAssoc_same]
  dsimp only
  rw [State.setAssoc_setAssoc, State.sendOn, State.assocOf_setAssoc_same]
  rfl

section
variable {h : Hdr} {s u : State} (hu : Heard h s u)
include hu

theorem Heard.frame : Frame [.trs, .out] s u := by
  obtain ⟨a, -, -, -, -, -, rfl⟩ := hu
  simp [Frame]

theorem Heard.sameCluster : SameCluster s u := by
  obtain ⟨a, -, -, -, -, -, rfl⟩ := hu
  rfl

theorem Heard.anc : u.anc = s.anc := hu.frame.same .anc (by decide)

theorem Heard.mss : u.mss = s.mss := hu.frame.same .mss (by decide)

theorem Heard.pwr : u.pwr = s.pwr := hu.frame.same .pwr (by decide)

theorem Heard.keys : u.keys = s.keys := hu.frame.same .keys (by decide)

theorem Heard.nbrOf (m : Nat) : u.nbrOf m = s.nbrOf m := by
  have hm : (u.assocOf m).isSome = (s.assocOf m).isSome := by
    obtain ⟨a, -, -, ha, -, -, rfl⟩ := hu
    by_cases hn : s.nbrOf h.src = m
    · subst hn
      rw [ha, State.assocOf, tblGet_tblSet_listed none _ _ s.trs.assoc (by simp)]
      rfl
    · exact congrArg Option.isSome (tblGet_tblSet_elsewhere none _ _ _ s.trs.assoc hn)
  have hr : u.role = s.role := by rw [State.role, State.ancGet_congr hu.anc]; rfl
  have hp : u.parentNo = s.parentNo := by rw [State.parentNo, State.ancGet_congr hu.anc]; rfl
  simp only [State.nbrOf, hm, hr, hp]

end

/-! ## What depends on the anchor words alone -/

theorem State.admits_congr {s u : State} (h : u.pwr = s.pwr) (c : Nat) : u.admits c = s.admits c := by
  simp only [State.admits, State.storeIsLow, h]

section
variable {s u : State} (h : u.anc = s.anc)
include h

theorem State.role_congr : u.role = s.role := by rw [State.role, State.ancGet_congr h]; rfl

theorem State.member_congr : u.member = s.member := by rw [State.member, State.ancGet_congr h]; rfl

theorem State.parentNo_congr : u.parentNo = s.parentNo := by rw [State.parentNo, State.ancGet_congr h]; rfl

theorem State.ancLatest_congr (w : Nat) : u.ancLatest w = s.ancLatest w := by
  simp only [State.ancLatest, h, State.ancGet_congr h]

theorem State.ancWorn_congr (w n : Nat) : u.ancWorn w n = s.ancWorn w n := by
  simp only [State.ancWorn, State.ancWornAt, State.ancPending, h]
  rfl

theorem State.isStandby_congr : u.isStandby = s.isStandby := by rw [State.isStandby, State.ancGet_congr h]; rfl

theorem State.mssVerdict_congr (hp : u.pwr = s.pwr) (ws : List AncW) : u.mssVerdict ws = s.mssVerdict ws := by
  simp only [State.mssVerdict, State.admits, State.storeIsLow, State.ancWorn_congr h, hp]
  rfl

theorem State.journalWorn_congr (hk : u.keys = s.keys) (t : Nat) : u.journalWorn t = s.journalWorn t := by
  simp only [State.journalWorn, State.keySeqPending, h, hk]
  rfl

theorem State.mssVerdictJ_congr (hp : u.pwr = s.pwr) (hk : u.keys = s.keys) (n t : Nat) (ws : List AncW) :
    u.mssVerdictJ n t ws = s.mssVerdictJ n t ws := by
  simp only [State.mssVerdictJ, State.admits, State.storeIsLow, State.ancWorn_congr h, State.journalWorn_congr h hk, hp]
  rfl

theorem State.replWords_congr (hk : u.keys = s.keys) (r : ReplRec) : u.replWords r = s.replWords r := by
  simp only [State.replWords, State.ancLatest_congr h, State.member_congr h, State.role_congr h, State.parentNo_congr h,
    State.isStandby_congr h, hk]

theorem State.quarWord_congr (t : Nat) (on : Bool) : u.quarWord t on = s.quarWord t on := by
  simp only [State.quarWord, State.ancLatest_congr h]

end

/-- Cluster state that is the same but for associations and proposals has the same CKSEQs and held records. -/
theorem SameCluster.ckseq {s t : State} (h : SameCluster s t) : t.trs.ckseq = s.trs.ckseq := (congrArg Trs.ckseq h).trans rfl

theorem SameCluster.replLog {s t : State} (h : SameCluster s t) : t.trs.replLog = s.trs.replLog := (congrArg Trs.replLog h).trans rfl

theorem SameCluster.replHeld {s t : State} (h : SameCluster s t) : t.trs.replHeld = s.trs.replHeld := (congrArg Trs.replHeld h).trans rfl

/-! ## A release that begins (R160, R424, R562) -/

theorem State.issueAll_anc (id : Nat) (ws : List AncW) (s : State) :
    (s.issueAll id ws).anc = { s.anc with queue := s.anc.queue ++ issuedWrites id ws } := by
  induction ws generalizing s with
  | nil => simp [State.issueAll, issuedWrites]
  | cons w ws ih =>
    cases ws with
    | nil => rfl
    | cons v ws =>
      rw [State.issueAll, ih]
      · simp [State.ancIssue, issuedWrites]
      · simp

theorem State.issueAll_frame (id : Nat) (ws : List AncW) (s : State) : Frame [.anc] s (s.issueAll id ws) := by
  induction ws generalizing s with
  | nil => exact .refl _ s
  | cons w ws ih =>
    cases ws with
    | nil => simp [State.issueAll, Frame]
    | cons v ws =>
      rw [State.issueAll]
      · exact Frame.trans (t := s.ancIssue w.1 w.2 (ancCost w.2.length) .none) (by simp [Frame]) (ih _)
      · simp

theorem State.newRel_frame (reply : Option (Path × Word × Nat × Bytes)) (act : Option (Nat × BitVec 64 × Word × Nat)) (eff : MssEff)
    (s : State) : Frame [.mss] s (s.newRel reply act eff) := by simp [Frame]

/-- The state in which a release has been admitted and is held with its writes issued. -/
def State.relBegun (ws : List AncW) (reply : Option (Path × Word × Nat × Bytes)) (act : Option (Nat × BitVec 64 × Word × Nat))
    (eff : MssEff) (s : State) : State := ((s.admitCost (costOfWrites ws)).newRel reply act eff).issueAll s.mss.nextRel ws

section
variable (ws : List AncW) (reply : Option (Path × Word × Nat × Bytes)) (act : Option (Nat × BitVec 64 × Word × Nat)) (eff : MssEff)

theorem State.relBegun_frame (s : State) : Frame [.mss, .anc, .pwr] s (s.relBegun ws reply act eff) :=
  Frame.trans (t := (s.admitCost (costOfWrites ws)).newRel reply act eff) (by simp [Frame])
    ((State.issueAll_frame ..).mono (by decide))

theorem State.relBegun_begins (s : State) : ReleaseBegins ws reply act eff s (s.relBegun ws reply act eff) := by
  have hf := State.issueAll_frame s.mss.nextRel ws ((s.admitCost (costOfWrites ws)).newRel reply act eff)
  refine ⟨?_, ?_, ?_⟩
  · exact (hf.same .pwr (by decide)).trans rfl
  · exact (congrArg Mss.rels (hf.same .mss (by decide))).trans rfl
  · exact (State.issueAll_anc ..).trans rfl

theorem State.mssBegin_admitted {s : State} (h : s.mssVerdict ws = 0) :
    s.mssBegin ws reply act eff = (0, s.relBegun ws reply act eff) := by
  rw [State.mssBegin, h]
  rfl

end

theorem State.markQuar_admitted {t : Nat} {pid : Option (BitVec 64)} {s : State}
    (h : s.mssVerdict [(0x208 + t / 64, [s.quarWord t true])] = 0) :
    s.markQuar t pid = s.relBegun [(0x208 + t / 64, [s.quarWord t true])] none none (.quarantine t pid) := by
  rw [State.markQuar, State.mssBegin_admitted _ _ _ _ h]

theorem State.mssBegin_trs (ws : List AncW) (reply : Option (Path × Word × Nat × Bytes))
    (act : Option (Nat × BitVec 64 × Word × Nat)) (eff : MssEff) (s : State) : (s.mssBegin ws reply act eff).2.trs = s.trs := by
  unfold State.mssBegin
  split
  · exact (State.relBegun_frame ..).same .trs (by decide)
  · simp

theorem State.mssJournal_trs (k : JKind) (t kid : Nat) (w : DWord) (ck : Option Nat) (eff : MssEff) (s : State) :
    (s.mssJournal k t kid w ck eff).2.trs = s.trs := by
  unfold State.mssJournal
  (repeat' split) <;> simp

theorem State.memberApply_trs (a : ApplyMsg) (s : State) : (s.memberApply a).trs = s.trs := by
  unfold State.memberApply
  extract_lets _ _ _ _ k
  split
  · exact State.mssBegin_trs ..
  · split
    · exact State.mssBegin_trs ..
    · have hj := s.mssJournal_trs k a.tenant a.keyId.toNat a.word (some a.ckseq.toNat)
        (.applyKey a.pid a.tenant a.keyId a.word (k == .commit || k == .revoke))
      split
      · rename_i he
        rwa [he] at hj
      · rename_i he
        rw [he] at hj
        exact (State.mssBegin_trs ..).trans hj

/-- The abutment numbers a change with the tenant's next CKSEQ. -/
theorem State.abutApply_ckseq (a : ApplyMsg) (s : State) :
    tblGet 0 (s.abutApply a).trs.ckseq a.tenant = tblGet 0 s.trs.ckseq a.tenant + 1 := by
  unfold State.abutApply
  extract_lets ck b _ u
  have hu : tblGet 0 u.trs.ckseq a.tenant = ck := tblGet_tblSet_listed 0 _ _ _ (Nat.succ_ne_zero _)
  have hc : SameCluster u (((u.sendDown a.tenant (.apply b)).memberApply b).endReservation b.pid) :=
    ((State.sendDown_sameCluster ..).trans (.of_trs (State.memberApply_trs ..))).trans (State.endReservation_sameCluster ..)
  rw [hc.ckseq, hu]

/-- The member's release of a change's journal record, once it is admitted. -/
theorem State.mssJournal_admitted {k : JKind} {t kid : Nat} {w : DWord} {ck : Option Nat} {eff : MssEff} {s : State}
    (hq : s.pwr.quiesce = false) (ha : s.admits journalCost = true) (hw : s.journalWorn t = false) :
    s.mssJournal k t kid w ck eff =
      (0, ((s.admitCost journalCost).newRel none none eff).takeSeq (.mss s.mss.nextRel) k t kid w ck) := by
  simp [State.mssJournal, hq, ha, hw]

/-- The state in which the release of a change has begun, with a journal record of kind `k`; `c` says whether it ends sessions. -/
def State.changeTaken (a : ApplyMsg) (k : JKind) (c : Bool) (s : State) : State :=
  ((s.admitCost journalCost).newRel none none (.applyKey a.pid a.tenant a.keyId a.word c)).takeSeq (.mss s.mss.nextRel) k a.tenant
    a.keyId.toNat a.word (some a.ckseq.toNat)

theorem State.memberApply_journal {a : ApplyMsg} {s : State} (hx : s.member ∉ a.excluded) (ho : pidOrigin a.pid ≠ s.member)
    (hq : s.pwr.quiesce = false) (ha : s.admits journalCost = true) (hw : s.journalWorn a.tenant = false) :
    ∃ (k : JKind) (c : Bool), s.memberApply a = s.changeTaken a k c := by
  refine ⟨kindFor (s.keyWord a.tenant a.keyId.toNat) a.word, kindFor (s.keyWord a.tenant a.keyId.toNat) a.word == .commit ||
    kindFor (s.keyWord a.tenant a.keyId.toNat) a.word == .revoke, ?_⟩
  rw [State.memberApply]
  dsimp only
  rw [if_neg (by simpa using hx), if_neg ho, State.mssJournal_admitted hq ha hw]
  rfl

/-! ## A release with journal records (R266, R438, R587) -/

/-- The state in which a release with `n` journal records has been admitted, its records are written by `put`, and it is held with its
writes issued. -/
def State.relBegunJ (n : Nat) (put : State → State) (ws : List AncW) (eff : MssEff) (s : State) : State :=
  let u := (put (s.admitCost (costOfWrites ws + 12000 * n))).repay (12000 * n)
  (u.newRel none none eff).issueAll u.mss.nextRel ws

theorem State.mssBeginJ_admitted {n t : Nat} {put : State → State} {ws : List AncW} {eff : MssEff} {s : State}
    (h : s.mssVerdictJ n t ws = 0) : s.mssBeginJ n t put ws none none eff = (0, s.relBegunJ n put ws eff) := by
  rw [State.mssBeginJ, h]
  rfl

section
variable (n : Nat) (put : State → State) (ws : List AncW) (eff : MssEff) (s : State)
  (hput : ∀ t : State, Frame [.keys, .cfg] t (put t))

theorem State.relBegunJ_keys : (s.relBegunJ n put ws eff).keys = (put (s.admitCost (costOfWrites ws + 12000 * n))).keys := by
  refine Eq.trans (b := (State.newRel none none eff _).keys) ((State.issueAll_frame ..).same .keys (by decide)) ?_
  rfl

include hput

theorem State.relBegunJ_frame : Frame [.keys, .mss, .anc, .cfg, .pwr] s (s.relBegunJ n put ws eff) :=
  ((((State.admitCost_frame (costOfWrites ws + 12000 * n) s).mono (by decide)).trans ((hput _).mono (by decide))).trans
    ((State.repay_frame (12000 * n) _).mono (by decide))).trans
      (((State.newRel_frame none none eff _).mono (by decide)).trans ((State.issueAll_frame _ ws _).mono (by decide)))

theorem State.relBegunJ_rels : (s.relBegunJ n put ws eff).mss.rels = s.mss.rels ++ [⟨s.mss.nextRel, none, none, eff⟩] := by
  have hm : (put (s.admitCost (costOfWrites ws + 12000 * n))).mss = s.mss := (hput _).same .mss (by decide)
  refine (congrArg Mss.rels ((State.issueAll_frame ..).same .mss (by decide))).trans ?_
  simp [State.newRel, hm]

theorem State.relBegunJ_anc : (s.relBegunJ n put ws eff).anc =
    { s.anc with queue := s.anc.queue ++ issuedWrites s.mss.nextRel ws } := by
  have hm : (put (s.admitCost (costOfWrites ws + 12000 * n))).mss = s.mss := (hput _).same .mss (by decide)
  have ha : (put (s.admitCost (costOfWrites ws + 12000 * n))).anc = s.anc := (hput _).same .anc (by decide)
  refine (State.issueAll_anc ..).trans ?_
  simp [hm, ha]

end

theorem State.jAppend_frame (t k kid : Nat) (w : DWord) (s : State) : Frame [.keys, .cfg] s (s.jAppend t k kid w) := by simp [Frame]

theorem State.jAppend_seqs (t k kid : Nat) (w : DWord) (s : State) :
    tblGet 0 (s.jAppend t k kid w).keys.seqs t = tblGet 0 s.keys.seqs t + 1 :=
  tblGet_tblSet_listed 0 _ _ _ (Nat.succ_ne_zero _)

theorem State.jAppend_ket (t k kid : Nat) (w : DWord) (s : State) : (s.jAppend t k kid w).keys.ket = s.keys.ket := rfl

/-- Append a journal record for each of the words `ws` of a tenant. -/
def State.jAppends (t : Nat) (ws : List (BitVec 64 × DWord)) (s : State) : State :=
  ws.foldl (fun (s : State) x => s.jAppend t (kindFor (s.keyWord t x.1.toNat) x.2).code x.1.toNat x.2) s

theorem State.jAppends_frame (t : Nat) (ws : List (BitVec 64 × DWord)) (s : State) : Frame [.keys, .cfg] s (s.jAppends t ws) :=
  Frame.foldl _ (fun u _ => u.jAppend_frame ..) ws s

theorem State.jAppends_seqs (t : Nat) (ws : List (BitVec 64 × DWord)) (s : State) :
    tblGet 0 (s.jAppends t ws).keys.seqs t = tblGet 0 s.keys.seqs t + ws.length := by
  induction ws generalizing s with
  | nil => rfl
  | cons x ws ih =>
    rw [State.jAppends, List.foldl_cons, ← State.jAppends, ih, State.jAppend_seqs, List.length_cons]
    omega

theorem State.jAppends_ket (t : Nat) (ws : List (BitVec 64 × DWord)) (s : State) : (s.jAppends t ws).keys.ket = s.keys.ket := by
  induction ws generalizing s with
  | nil => rfl
  | cons x ws ih =>
    rw [State.jAppends, List.foldl_cons, ← State.jAppends, ih, State.jAppend_ket]

/-! ## The next replicated record (R428) -/

/-- Once a release whose last write is of ANC_CL_REPL_SEQ is issued, that write is the word's latest. -/
theorem State.ancLatest_issued {s t : State} {id w : Nat} {v : DWord} {ws : List AncW}
    (h : t.anc = { s.anc with queue := s.anc.queue ++ issuedWrites id (ws ++ [(w, [v])]) }) : t.ancLatest w = v := by
  have hlast : ∀ l : List AncW, issuedWrites id (l ++ [(w, [v])]) =
      (l.map (fun x => (⟨x.1, x.2, ancCost x.2.length, .none⟩ : AncWrite))) ++ [⟨w, [v], ancCost 1, .mss id⟩] := by
    intro l
    induction l with
    | nil => rfl
    | cons x l ih =>
      rw [List.cons_append, issuedWrites, ih]
      · rfl
      · simp
  simp [State.ancLatest, h, hlast, ← List.append_assoc, List.filter_append]

/-- No record is held that could follow: the drain ends. -/
theorem State.replDrain_quiet {s : State} (h : tblGet none s.trs.replHeld ((s.ancLatest 0x0F).toNat + 1) = none) :
    s.replDrain = s := by
  rw [State.replDrain]
  dsimp only
  rw [h]

theorem State.mssVerdictJ_zero (t : Nat) (ws : List AncW) (s : State) : s.mssVerdictJ 0 t ws = s.mssVerdict ws := by
  rw [State.mssVerdictJ, State.mssVerdict, decide_eq_false (Nat.lt_irrefl 0), Bool.false_and, Nat.mul_zero]
  simp only [Bool.or_false, Nat.add_zero]

/-- A record without journal records is applied by a plain release. -/
theorem State.replNow_plain {seq : Nat} {r : ReplRec} {s : State} (hr : (replRecords r).1 = 0)
    (h : s.mssVerdict (s.replWords r ++ [(0x0F, [w64 seq])]) = 0) :
    s.replNow seq r = s.relBegun (s.replWords r ++ [(0x0F, [w64 seq])]) none none (.repl seq r) := by
  rw [State.replNow]
  dsimp only
  rw [hr, State.mssBeginJ_admitted ((State.mssVerdictJ_zero ..).trans h)]
  rfl

/-- A removal is applied by a release with a VOID record over all the tenant's SEQs. -/
theorem State.replNow_remove {seq : Nat} {n : Fn} {s : State}
    (h : s.mssVerdictJ 1 n (s.replWords (.tenantRemove n) ++ [(0x0F, [w64 seq])]) = 0) :
    s.replNow seq (.tenantRemove n) = s.relBegunJ 1 (fun v => v.jVoid n 0 (tblGet 0 v.keys.seqs n))
      (s.replWords (.tenantRemove n) ++ [(0x0F, [w64 seq])]) (.repl seq (.tenantRemove n)) := by
  rw [State.replNow]
  dsimp only [replRecords]
  rw [State.mssBeginJ_admitted h]
  rfl

/-- Verified words are taken by a release with one journal record for each word that differs, whose last write clears the tenant's
bit. -/
theorem State.resyncApply_takes {m : ResyncMsg} {diff : List (BitVec 64 × DWord)} {ws : List AncW} {s : State}
    (hok : m.stagedOk = true) (hcfg : m.cfg = []) (hd : diff = m.words.filter (fun x => s.keyWord m.tenant x.1.toNat != x.2))
    (hws : ws = [(0x400 + m.tenant, [w64 ((tblGet 0 s.keys.seqs m.tenant + diff.length) % 2 ^ 32 + m.ckseq.toNat * 2 ^ 32)]),
      (0x208 + m.tenant / 64, [s.quarWord m.tenant false])]) (hv : s.mssVerdictJ diff.length m.tenant ws = 0) :
    s.resyncApply m = s.relBegunJ diff.length (State.jAppends m.tenant diff) ws (.resynced m.tenant m.words) := by
  unfold State.resyncApply
  extract_lets t dv put q cfg wv
  have hdv : dv = diff := hd.symm
  have hc : cfg = [] := if_neg (by rw [hcfg]; simp)
  have hw : wv = ws := by simp only [wv, q, hdv, hc, hws, List.nil_append, t]
  have hput : put = State.jAppends m.tenant diff := by rw [← hdv]; rfl
  rw [if_neg (by simp [hok]), hdv, hw, hput, State.mssBeginJ_admitted hv]

/-- An association without unacknowledged messages has no record under way. -/
theorem Assoc.idle_not_busy {a : Assoc} (h : a.unacked = []) (p : Nat × Nat × Msg → Bool) :
    ((some a).map (fun (a : Assoc) => a.unacked.any p)).getD false = false := by
  rw [Option.map_some, h]
  rfl

/-! ## The record that comes next (R428) -/

/-- A release of the next record, once it has begun, leaves nothing to follow at a member that holds no record beyond it. -/
theorem execRepl_begun {h : Hdr} {r : ReplRec} {ws : List AncW} {s u t : State} (hu : Heard h s u)
    (hlt : (s.ancLatest 0x0F).toNat + 1 < 2 ^ 64) (hheld : tblGet none s.trs.replHeld ((s.ancLatest 0x0F).toNat + 2) = none)
    (hnow : u.replNow ((s.ancLatest 0x0F).toNat + 1) r = t) (htrs : t.trs = u.trs)
    (hanc : t.anc = { s.anc with
      queue := s.anc.queue ++ issuedWrites s.mss.nextRel (ws ++ [(0x0F, [w64 ((s.ancLatest 0x0F).toNat + 1)])]) }) :
    exec (.repl h ((s.ancLatest 0x0F).toNat + 1) r) s = .next t := by
  refine congrArg Host.Outcome.next ((hu.recv _).trans ?_)
  have hlast : (t.ancLatest 0x0F).toNat = (s.ancLatest 0x0F).toNat + 1 := by
    rw [State.ancLatest_issued hanc, w64, BitVec.toNat_ofNat, Nat.mod_eq_of_lt hlt]
  have hnone : tblGet none t.trs.replHeld ((t.ancLatest 0x0F).toNat + 1) = none := by
    rw [hlast, htrs, hu.sameCluster.replHeld]
    exact hheld
  dsimp only
  rw [State.ancLatest_congr hu.anc, if_neg (by omega), if_pos rfl, hnow, State.replDrain_quiet hnone]

/-- Settles O43: a frame heard in order acts on the state that acknowledged it; each change and record then begins its own release,
whose issued writes are the queue's last. -/
theorem changesRecordsAndResync : Obligations.ChangesRecordsAndResync := by
  unfold Obligations.ChangesRecordsAndResync
  refine ⟨?_, ?_, ?_, ?_, ?_, ?_, ?_, ?_, ?_, ?_, ?_, ?_, ?_, ?_, ?_, ?_, ?_, ?_, ?_, ?_⟩
  · intro h a s u hu hr
    refine ⟨u.abutApply a, congrArg Host.Outcome.next ((hu.recv _).trans ?_), ?_⟩
    · exact if_pos ((State.role_congr hu.anc).trans hr)
    · rw [State.abutApply_ckseq, hu.sameCluster.ckseq]
  · intro h a s u hu hr hp
    refine congrArg Host.Outcome.next ((hu.recv _).trans ?_)
    rw [State.role_congr hu.anc, hr, hu.nbrOf, State.parentNo_congr hu.anc]
    simp [hp]
  · intro h a ws s u hu hr hx hws hv
    refine ⟨u.relBegun ws none none (.quarantine a.tenant (some a.pid)), congrArg Host.Outcome.next ((hu.recv _).trans ?_),
      State.relBegun_begins .., State.relBegun_frame ..⟩
    rw [← State.mssVerdict_congr hu.anc hu.pwr, hws, ← State.quarWord_congr hu.anc] at hv
    rw [State.role_congr hu.anc, hr, hws, ← State.quarWord_congr hu.anc, ← State.markQuar_admitted hv]
    simp [State.memberApply, State.member_congr hu.anc, hx]
  · intro h a ws s u hu hr hx ho hws hv
    refine ⟨u.relBegun ws none none (.applyKey a.pid a.tenant a.keyId a.word false),
      congrArg Host.Outcome.next ((hu.recv _).trans ?_), State.relBegun_begins .., State.relBegun_frame ..⟩
    rw [if_neg (by rw [State.role_congr hu.anc]; omega), if_neg (by rw [State.role_congr hu.anc]; omega), State.memberApply,
      State.member_congr hu.anc, State.ancLatest_congr hu.anc]
    dsimp only
    rw [if_neg (by simpa using hx), if_pos ho, ← hws,
      State.mssBegin_admitted _ _ _ _ ((State.mssVerdict_congr hu.anc hu.pwr ws).trans hv)]
  · intro h a s u hu hr hx ho hq ha hw
    obtain ⟨k, c, hm⟩ := State.memberApply_journal (a := a) (s := u) (by rwa [State.member_congr hu.anc])
      (by rwa [State.member_congr hu.anc]) (by rwa [hu.pwr]) (by rwa [State.admits_congr hu.pwr])
      (by rwa [State.journalWorn_congr hu.anc hu.keys])
    refine ⟨u.changeTaken a k c, c, congrArg Host.Outcome.next ((hu.recv _).trans ?_), ?_, ?_, ?_, ?_, ?_, ?_⟩
    · rw [if_neg (by rw [State.role_congr hu.anc]; omega), if_neg (by rw [State.role_congr hu.anc]; omega), hm]
    · simp [State.changeTaken, hu.pwr]
    · simp [State.changeTaken, State.newRel, hu.mss]
    · exact (tblGet_tblSet_listed 0 _ _ _ (Nat.succ_ne_zero _)).trans (congrArg (fun k : Keys => tblGet 0 k.seqs a.tenant + 1) hu.keys)
    · simp [State.changeTaken, State.takeSeq, State.newRel, hu.keys]
    · simp [State.changeTaken, State.takeSeq, State.newRel, hu.keys]
    · simp [State.changeTaken, Frame]
  · intro h pid b s u hu
    refine congrArg Host.Outcome.next ((hu.recv _).trans ?_)
    rw [State.role_congr hu.anc]
  · intro h seq r s u hu hl
    refine congrArg Host.Outcome.next ((hu.recv _).trans ?_)
    exact if_pos (by rwa [State.ancLatest_congr hu.anc])
  · intro h r ws s u hu hr hlt hheld hws hv
    have hb : u.replNow ((s.ancLatest 0x0F).toNat + 1) r = u.relBegun ws none none (.repl ((s.ancLatest 0x0F).toNat + 1) r) := by
      rw [hws, ← State.replWords_congr hu.anc hu.keys] at hv ⊢
      exact State.replNow_plain hr ((State.mssVerdict_congr hu.anc hu.pwr _).trans hv)
    have hbegins := u.relBegun_begins ws none none (.repl ((s.ancLatest 0x0F).toNat + 1) r)
    have hanc := hbegins.2.2
    rw [hu.anc, hu.mss] at hanc
    refine ⟨_, execRepl_begun hu hlt hheld hb ((State.relBegun_frame ..).same .trs (by decide)) (ws := s.replWords r) ?_,
      hbegins, State.relBegun_frame ..⟩
    rw [hanc, hws]
  · intro h n ws s u hu hlt hheld hws hv
    have hput : ∀ v : State, Frame [.keys, .cfg] v (v.jVoid n 0 (tblGet 0 v.keys.seqs n)) := fun v => v.jAppend_frame ..
    have hb : u.replNow ((s.ancLatest 0x0F).toNat + 1) (.tenantRemove n) = u.relBegunJ 1
        (fun v => v.jVoid n 0 (tblGet 0 v.keys.seqs n)) ws (.repl ((s.ancLatest 0x0F).toNat + 1) (.tenantRemove n)) := by
      rw [hws, ← State.replWords_congr hu.anc hu.keys] at hv ⊢
      exact State.replNow_remove ((State.mssVerdictJ_congr hu.anc hu.pwr hu.keys ..).trans hv)
    have hf := State.relBegunJ_frame 1 _ ws (.repl ((s.ancLatest 0x0F).toNat + 1) (.tenantRemove n)) u hput
    have hk := State.relBegunJ_keys 1 (fun v => v.jVoid n 0 (tblGet 0 v.keys.seqs n)) ws
      (.repl ((s.ancLatest 0x0F).toNat + 1) (.tenantRemove n)) u
    have hanc := State.relBegunJ_anc 1 _ ws (.repl ((s.ancLatest 0x0F).toNat + 1) (.tenantRemove n)) u hput
    have hrels := State.relBegunJ_rels 1 _ ws (.repl ((s.ancLatest 0x0F).toNat + 1) (.tenantRemove n)) u hput
    rw [hu.anc, hu.mss] at hanc
    rw [hu.mss] at hrels
    refine ⟨_, execRepl_begun hu hlt hheld hb (hf.same .trs (by decide)) (ws := s.replWords (.tenantRemove n)) ?_, ?_, ?_, ?_,
      hrels, hanc, hf⟩
    · rw [hanc, hws]
    · rw [hk, ← hu.keys]
      exact State.jAppend_seqs ..
    · rw [hk, ← hu.keys]
      rfl
    · rw [hk, ← hu.keys]
      rfl
  · intro h seq r s u hu hlt
    refine congrArg Host.Outcome.next ((hu.recv _).trans ?_)
    dsimp only
    rw [State.ancLatest_congr hu.anc, if_neg (by omega), if_neg (by omega), hu.sameCluster.replHeld]
  · intro h seq s u hu hl
    refine congrArg Host.Outcome.next ((hu.recv _).trans ?_)
    exact if_pos (by rw [State.ancGet_congr hu.anc, decide_eq_true hl, Bool.or_true])
  · intro h seq r a s u hu hl hlog ha hidle
    refine congrArg Host.Outcome.next ((hu.recv _).trans ?_)
    dsimp only
    rw [hu.nbrOf, ha, Assoc.idle_not_busy hidle, State.ancGet_congr hu.anc, hu.sameCluster.replLog, hlog]
    simp [hl]
  · intro h seq a s u hu hl hlog ha hidle hr
    refine congrArg Host.Outcome.next ((hu.recv _).trans ?_)
    dsimp only
    rw [hu.nbrOf, ha, Assoc.idle_not_busy hidle, State.ancGet_congr hu.anc, hu.sameCluster.replLog, hlog, State.role_congr hu.anc]
    simp [hl, hr]
  · intro h n s u hu hr
    refine congrArg Host.Outcome.next ((hu.recv _).trans ?_)
    exact if_pos (by rwa [State.role_congr hu.anc])
  · intro h n s u hu hr hn
    refine congrArg Host.Outcome.next ((hu.recv _).trans ?_)
    rw [if_neg (by rw [State.role_congr hu.anc]; exact not_not_intro hr), if_neg hn]
    rfl
  · intro h m s u hu hd hm
    refine congrArg Host.Outcome.next ((hu.recv _).trans ?_)
    rw [if_neg (by rw [State.member_congr hu.anc]; exact not_not_intro hd), if_pos hm]
  · intro h m s u hu hd hm hok
    refine ⟨u.event06, congrArg Host.Outcome.next ((hu.recv _).trans ?_), ?_, ?_, ?_⟩
    · rw [if_neg (by rw [State.member_congr hu.anc]; exact not_not_intro hd), if_neg hm]
      exact if_pos (by simp [hok])
    · simp [hu.keys]
    · simp [hu.anc]
    · simp [Frame, reports]
  · intro h m diff ws s u hu hd hm hok hcfg hdiff hws hv
    have hput : ∀ v : State, Frame [.keys, .cfg] v (v.jAppends m.tenant diff) := fun v => v.jAppends_frame ..
    have hb : u.resyncApply m = u.relBegunJ diff.length (State.jAppends m.tenant diff) ws (.resynced m.tenant m.words) := by
      refine State.resyncApply_takes hok hcfg ?_ ?_ ((State.mssVerdictJ_congr hu.anc hu.pwr hu.keys ..).trans hv)
      · simp only [hdiff, State.keyWord, hu.keys]
      · rw [hws, hu.keys, State.quarWord_congr hu.anc]
    have hk := State.relBegunJ_keys diff.length (State.jAppends m.tenant diff) ws (.resynced m.tenant m.words) u
    have hanc := State.relBegunJ_anc diff.length _ ws (.resynced m.tenant m.words) u hput
    have hrels := State.relBegunJ_rels diff.length _ ws (.resynced m.tenant m.words) u hput
    rw [hu.anc, hu.mss] at hanc
    rw [hu.mss] at hrels
    refine ⟨u.resyncApply m, congrArg Host.Outcome.next ((hu.recv _).trans ?_), ?_⟩
    · rw [if_neg (by rw [State.member_congr hu.anc]; exact not_not_intro hd), if_neg hm]
    · rw [hb]
      refine ⟨?_, ?_, hanc, hrels, State.relBegunJ_frame _ _ _ _ _ hput⟩
      · rw [hk, State.jAppends_seqs, State.admitCost_keys, hu.keys]
      · rw [hk, State.jAppends_ket, State.admitCost_keys, hu.keys]
  · intro s hb ht he hr hq
    simp [exec, execResync, hb, ht, he, hr, hq]
  · intro s hs
    refine if_pos ?_
    rcases hs with h | h | h | h <;> simp [h]

end Sys2Proof.Machine
end

section
/-! PROOFS. What every stage of a boot leaves alone (18_startup_and_reset.md R663, R664, R671, R672, R675). -/

namespace Sys2Proof.Machine

/-! ## The view of a boot -/

/-- What the reports and the verdicts of a boot leave alone: of each unit the parts that a boot sets once. -/
structure BootView where
  now : Nat
  backupUs : Nat
  hw : Hw
  free : Nat
  pending : List Instr
  ks : Keystone
  mem : List Host.Cell
  cfg : Cfg
  deck : Deck
  pay : Pay
  eng : Tbl Eng
  rng : Rng
  tg : Tg
  keys : Keys
  cause : BitVec 4
  booting : Bool
  romHalt : Bool
  request : Option (BitVec 4)
  voids : List (Nat × Nat × Nat)
  words : Tbl DWord
  wear : Tbl Nat
  lost : Tbl Bool
  queue : List AncWrite
  shadow : Option (Nat × List DWord)
  cond : BitVec 13
  policyBk : BitVec 26
  dpUp : Bool
  linkUp : Bool
  serial : DWord
  tn : Tbl Tn
  mainOk : Bool
  quiesce : Bool
  full : Nat
  outstanding : Nat
  charge : Nat
  store : Tbl (Option Rec)
  head : Nat
  ceiling : Nat

/-- The view of a boot's state. -/
def State.bootView (s : State) : BootView where
  now := s.now
  backupUs := s.backupUs
  hw := s.hw
  free := s.free
  pending := s.pending
  ks := s.ks
  mem := s.mem
  cfg := s.cfg
  deck := s.deck
  pay := s.pay
  eng := s.eng.eng
  rng := s.rng
  tg := s.tg
  keys := s.keys
  cause := s.boot.cause
  booting := s.boot.booting
  romHalt := s.boot.romHalt
  request := s.boot.request
  voids := s.boot.voids
  words := s.anc.words
  wear := s.anc.wear
  lost := s.anc.lost
  queue := s.anc.queue
  shadow := s.anc.shadow
  cond := s.par.cond
  policyBk := s.par.policyBk
  dpUp := s.hiu.dpUp
  linkUp := s.hiu.linkUp
  serial := s.hiu.serial
  tn := s.hiu.tn
  mainOk := s.pwr.mainOk
  quiesce := s.pwr.quiesce
  full := s.pwr.full
  outstanding := s.pwr.outstanding
  charge := s.pwr.charge
  store := s.evr.store
  head := s.evr.head
  ceiling := s.evr.ceiling

/-! ### The reports -/

@[simp] theorem State.emit_bootView (o : Out) (s : State) : (s.emit o).bootView = s.bootView := rfl

@[simp] theorem State.signal_bootView (n : Nat) (s : State) : (s.signal n).bootView = s.bootView := rfl

@[simp] theorem State.setBlog_bootView (n : Nat) (v : DWord) (s : State) : (s.setBlog n v).bootView = s.bootView := rfl

@[simp] theorem State.msix_bootView (fn vec : Nat) (s : State) : (s.msix fn vec).bootView = s.bootView := by
  simp only [State.msix]
  split <;> rfl

@[simp] theorem State.nrgEvent_bootView (bits : BitVec 4) (s : State) : (s.nrgEvent bits).bootView = s.bootView := by
  simp only [State.nrgEvent]
  split
  · rfl
  · rw [State.signal_bootView, State.msix_bootView]
    rfl

@[simp] theorem State.evrEvent_bootView (bits : BitVec 5) (s : State) : (s.evrEvent bits).bootView = s.bootView := by
  simp only [State.evrEvent]
  split
  · rfl
  · rw [State.signal_bootView, State.msix_bootView]
    rfl

@[simp] theorem State.evrDrop_bootView (s : State) : s.evrDrop.bootView = s.bootView := by
  rw [State.evrDrop, State.evrEvent_bootView]
  rfl

@[simp] theorem State.offer_bootView (o : Offer) (s : State) : (s.offer o).bootView = s.bootView := by
  unfold State.offer
  extract_lets n _ u
  have hu : u.bootView = s.bootView := rfl
  split
  · exact hu
  · split
    · split
      · rw [State.evrEvent_bootView]
        exact hu
      · rw [State.evrDrop_bootView, hu]
    · split
      · exact hu
      · rw [State.evrDrop_bootView, hu]

@[simp] theorem State.event_bootView (src code p0 p1 p2 p3 : Nat) (s : State) :
    (s.event src code p0 p1 p2 p3).bootView = s.bootView := State.offer_bootView ..

@[simp] theorem State.eventSig_bootView (src code p0 p1 p2 p3 : Nat) (s : State) :
    (s.eventSig src code p0 p1 p2 p3).bootView = s.bootView := by rw [State.eventSig, State.signal_bootView, State.event_bootView]

@[simp] theorem State.ancError_bootView (bits : BitVec 3) (w : Nat) (s : State) : (s.ancError bits w).bootView = s.bootView := by
  simp only [State.ancError]
  split <;> rfl

@[simp] theorem State.alarmOn_bootView (s : State) : s.alarmOn.bootView = s.bootView := by
  simp only [State.alarmOn]
  split <;> rfl

@[simp] theorem State.setIdState_bootView (x : BitVec 3) (s : State) : (s.setIdState x).bootView = s.bootView := by
  simp only [State.setIdState]
  split
  · rfl
  · rw [State.msix_bootView]
    rfl

theorem ite_bootView {c : Prop} [Decidable c] {a b s : State} (ha : a.bootView = s.bootView) (hb : b.bootView = s.bootView) :
    (if c then a else b).bootView = s.bootView := by
  split <;> assumption

theorem foldl_bootView {α : Type} (f : State → α → State) (h : ∀ (s : State) (a : α), (f s a).bootView = s.bootView) (xs : List α)
    (s : State) : (xs.foldl f s).bootView = s.bootView := by
  induction xs generalizing s with
  | nil => rfl
  | cons x xs ih => rw [List.foldl_cons, ih, h]

/-! ### The verdicts on the images -/

/-- The second of two components of a known pair. -/
theorem snd_bootView {α : Type} {p : α × State} {a : α} {t : State} (h : p = (a, t)) : t.bootView = p.2.bootView := by rw [h]

@[simp] theorem State.bootVerdict_bootView (b : Bool) (flips : BitVec 16) (x : ImgSlot) (s : State) :
    (s.bootVerdict b flips x).2.bootView = s.bootView := by
  unfold State.bootVerdict
  dsimp only
  split <;> simp

@[simp] theorem State.bootVerdicts_bootView (b : Bool) (flips : BitVec 16) (l : List ImgSlot) (s : State) :
    (s.bootVerdicts b flips l).2.bootView = s.bootView := by
  induction l generalizing s with
  | nil => rfl
  | cons x l ih => simp [State.bootVerdicts, ih]

@[simp] theorem State.recoverySet_bootView (b : Bool) (flips : BitVec 16) (s : State) :
    (s.recoverySet b flips).2.bootView = s.bootView := by simp [State.recoverySet]

@[simp] theorem State.tryBank_bootView (b : Bool) (flips : BitVec 16) (code : Nat) (s : State) :
    (s.tryBank b flips code).2.bootView = s.bootView := by
  unfold State.tryBank
  dsimp only
  (repeat' split) <;> simp

@[simp] theorem State.sameRecovery_bootView (b : Bool) (flips : BitVec 16) (code : Nat) (s : State) :
    (s.sameRecovery b flips code).2.bootView = s.bootView := by
  simp only [State.sameRecovery]
  split <;> simp

@[simp] theorem State.pickRecovery_bootView (b : Bool) (flips : BitVec 16) (code : Nat) (s : State) :
    (s.pickRecovery b flips code).2.bootView = s.bootView := by
  simp only [State.pickRecovery]
  (repeat' split) <;> simp

@[simp] theorem State.pickBank_bootView (b : Bool) (flips : BitVec 16) (code cause : Nat) (s : State) :
    (s.pickBank b flips code cause).2.bootView = s.bootView := by
  unfold State.pickBank
  split <;> rename_i h <;> simp [snd_bootView h]

@[simp] theorem State.rollBack_bootView (b : Bool) (s : State) : (s.rollBack b).bootView = s.bootView := State.event_bootView ..

@[simp] theorem State.pick_bootView (obs : BootObs) (s : State) : (s.pick obs).2.bootView = s.bootView := by
  unfold State.pick
  split
  extract_lets sel trial again b t _ u
  have ht : t.bootView = s.bootView := State.event_bootView ..
  have hu : u.bootView = s.bootView := ht
  split
  · simp [ht]
  · split
    · simp [ht]
    · split <;> rename_i h <;> simp [snd_bootView h, hu]

/-- The identity registers, digests and items of the images that run are no part of the view. -/
theorem State.identify_bootView (p : BootPick) (s : State) : (s.identify p).bootView = s.bootView := by
  simp only [State.identify, State.bootView]

/-! ### The findings (R523, R526) -/

theorem State.findings_bootView (s : State) : s.findings.bootView = s.bootView := by
  unfold State.findings
  extract_lets a _ _ b _ _ c d
  have ha : a.bootView = s.bootView := by
    refine foldl_bootView _ (fun t n => ?_) _ s
    exact ite_bootView rfl (by rw [State.setBlog_bootView, State.eventSig_bootView])
  have hb : b.bootView = s.bootView := ite_bootView ha ((State.eventSig_bootView 1143 0x0206 a.par.lost.toNat 0 0 0 a).trans ha)
  have hc : c.bootView = s.bootView := ite_bootView ((State.alarmOn_bootView b).trans hb) hb
  have hd : d.bootView = s.bootView := ite_bootView ((State.alarmOn_bootView c).trans hc) hc
  refine ite_bootView ?_ hd
  rw [State.emit_bootView, State.eventSig_bootView]
  exact hd

end Sys2Proof.Machine
end

section
/-! PROOFS. The stages of a boot from the reset to the findings (18_startup_and_reset.md R663, R664, R671, R675). -/

namespace Sys2Proof.Machine

/-! ## What a reset keeps (R675) -/

/-- The view after an absence of 3V3_AUX. -/
def BootView.cold (v : BootView) : BootView where
  now := v.now
  backupUs := v.backupUs
  hw := v.hw
  free := v.free
  pending := v.pending
  ks := { v.ks with checkOk := false }
  mem := []
  cfg := { ({} : Cfg) with flash := v.cfg.flash }
  deck := {}
  pay := {}
  eng := []
  rng := {}
  tg := {}
  keys := {}
  cause := 0
  booting := true
  romHalt := false
  request := none
  voids := []
  words := v.words
  wear := v.wear
  lost := v.lost
  queue := []
  shadow := v.shadow
  cond := 0
  policyBk := v.policyBk
  dpUp := false
  linkUp := false
  serial := v.serial
  tn := []
  mainOk := false
  quiesce := false
  full := 0
  outstanding := 0
  charge := 0
  store := []
  head := 0
  ceiling := 0

theorem State.cold_bootView (s : State) : s.cold.bootView = s.bootView.cold := by
  simp only [State.cold, State.bootView, BootView.cold]

theorem State.warm_bootView (s : State) : s.warm.bootView =
    { s.bootView.cold with charge := s.pwr.charge, store := s.evr.store, head := s.evr.head, ceiling := s.evr.ceiling } := by
  simp only [State.warm, State.cold, State.bootView, BootView.cold]

/-! ## The anchor store's repair (R616) -/

theorem ancPut_words_congr (w : Nat) (vs : List DWord) {a b : Anc} (h : a.words = b.words) :
    (ancPut a w vs).words = (ancPut b w vs).words := by
  induction vs generalizing a b w with
  | nil => exact h
  | cons v vs ih => exact ih _ (by rw [h])

/-- A group whose commit mark is set is put in its place. -/
theorem State.anchorsRepair_bootView {s : State} {w : Nat} {vs : List DWord} (h : s.anc.shadow = some (w, vs)) :
    ∃ (wear : Tbl Nat) (lost : Tbl Bool), s.anchorsRepair.bootView =
      { s.bootView with words := (ancPut s.anc w vs).words, wear := wear, lost := lost, shadow := none } := by
  refine ⟨tblMod 0 8192 (· + 1) (ancPut s.anc w vs).wear, (ancPut s.anc w vs).lost, ?_⟩
  rw [State.anchorsRepair, h]
  dsimp only
  rw [State.event_bootView]
  simp only [State.bootView, ancPut_queue]

/-! ## Step 1 (R613, R646, R651) -/

/-- The view once the domains are powered up and the store is measured. -/
def BootView.poweredUp (v : BootView) (cause : BitVec 4) (obs : BootObs) : BootView :=
  { v with
    cond := obs.cond
    lost := obs.ancLost.foldl (fun t (w : Fin 8192) => tblSet false w.val true t) v.lost
    full := obs.fullCharge
    mainOk := true
    linkUp := !v.hw.perst
    cause := cause
    hw := { v.hw with softStart := true, charger := true } }

theorem State.bootStart_bootView (cause : BitVec 4) (obs : BootObs) (s : State) :
    (s.bootStart cause obs).bootView = ({ s with now := s.deviceTime }).anchorsRepair.bootView.poweredUp cause obs := by
  unfold State.bootStart
  extract_lets t a b c d e f g u pw v
  have hu : u.bootView = t.bootView.poweredUp cause obs := rfl
  have hv : v.bootView = u.bootView := by
    refine ite_bootView ?_ rfl
    rw [State.event_bootView, State.nrgEvent_bootView]
    rfl
  rw [foldl_bootView _ (fun x w => (State.event_bootView ..).trans (State.ancError_bootView ..)), hv, hu]

/-! ## The stages named -/

/-- The recorder of a boot after an absence of 3V3_AUX is restored; another boot keeps its own (R545). -/
def State.evrStarted (fresh : Bool) (s : State) : State :=
  if fresh then { s with evr := { s.restoreEvr.evr with queue := s.evr.queue, offered := s.evr.offered } } else s

/-- The recorder's queue is set aside while the boot's own records are held (R677). -/
def State.unqueued (s : State) : State := { s with evr.queue := [] }

/-- What runs is written to the boot registers, and a recovery is recorded (R677, R679). -/
def State.picked (p : BootPick) (s : State) : State :=
  let s := { s with boot.runBank := p.bank, boot.otherBank := p.other, boot.recovery := p.cause, hiu.overlay := BitVec.ofNat 2 p.code }
  if p.cause = 0 then s else s.event 0xFFFF 0x0107 p.cause (b2n p.bank) 0 0

/-- The boot's records join the held ones and the recorder's queue `q` is put back (R677). -/
def State.requeued (q : List Offer) (s : State) : State :=
  { s with boot.log := s.boot.log ++ s.evr.queue.map (fun o => (o, s.now)), evr.queue := q }

/-- What runs in a boot from `s`, and the state in which it is settled. -/
def State.bootPicked (obs : BootObs) (s : State) : BootPick × State :=
  ((s.unqueued.pick obs).1, (s.unqueued.pick obs).2.picked (s.unqueued.pick obs).1)

/-- A boot that finds nothing to run halts in the ROM. -/
theorem State.bootFrom_halts {fresh : Bool} {cause : BitVec 4} {obs : BootObs} {s w : State}
    (hw : (s.bootStart cause obs).evrStarted fresh = w) (h : (w.bootPicked obs).1.halt = true) :
    s.bootFrom fresh cause obs = ((w.bootPicked obs).2.requeued w.evr.queue).haltRom := by
  subst hw
  exact (if_pos h).trans (congrArg (fun x => (State.requeued _ x).haltRom) (if_pos h))

/-- Another boot identifies what runs, starts it, and meets the backup domain's findings. -/
theorem State.bootFrom_runs {fresh : Bool} {cause : BitVec 4} {obs : BootObs} {s w : State}
    (hw : (s.bootStart cause obs).evrStarted fresh = w) (h : (w.bootPicked obs).1.halt = false) :
    s.bootFrom fresh cause obs =
      ((((w.bootPicked obs).2.identify (w.bootPicked obs).1).bootFirm).requeued w.evr.queue).findings := by
  subst hw
  have hn : ¬ ((((s.bootStart cause obs).evrStarted fresh).bootPicked obs).1.halt = true) := by simp [h]
  exact (if_neg hn).trans (congrArg (fun x => (State.requeued _ x).findings) (if_neg hn))

/-! ### Their views -/

/-- The recorder is restored with its count at ANC_EVR_SEQ, or is left as it stands (R545). -/
theorem State.evrStarted_bootView (fresh : Bool) (s : State) : ∃ (st : Tbl (Option Rec)) (head ceiling : Nat),
    (s.evrStarted fresh).bootView = { s.bootView with store := st, head := head, ceiling := ceiling } ∧
      if fresh then head = (s.ancGet 8).toNat ∧ ceiling = (s.ancGet 8).toNat else st = s.evr.store ∧ head = s.evr.head := by
  cases fresh with
  | false => exact ⟨s.evr.store, s.evr.head, s.evr.ceiling, rfl, rfl, rfl⟩
  | true =>
    exact ⟨s.restoreEvr.evr.store, (s.ancGet 8).toNat, (s.ancGet 8).toNat,
      by simp only [State.evrStarted, if_pos, State.restoreEvr, State.bootView], rfl, rfl⟩

theorem State.unqueued_bootView (s : State) : s.unqueued.bootView = s.bootView := rfl

theorem State.picked_bootView (p : BootPick) (s : State) : (s.picked p).bootView = s.bootView := by
  unfold State.picked
  extract_lets _ _ u
  have hu : u.bootView = s.bootView := rfl
  exact ite_bootView hu ((State.event_bootView ..).trans hu)

theorem State.requeued_bootView (q : List Offer) (s : State) : (s.requeued q).bootView = s.bootView := rfl

theorem State.bootPicked_bootView (obs : BootObs) (s : State) : (s.bootPicked obs).2.bootView = s.bootView :=
  (State.picked_bootView ..).trans ((State.pick_bootView ..).trans s.unqueued_bootView)

theorem State.haltRom_bootView (s : State) : s.haltRom.bootView = { s.bootView with romHalt := true, booting := false } := by
  rw [State.haltRom, State.emit_bootView, State.setIdState_bootView]
  rfl

theorem State.msix_idState (fn vec : Nat) (s : State) : (s.msix fn vec).hiu.idState = s.hiu.idState := by
  simp only [State.msix]
  split <;> rfl

theorem State.setIdState_idState (x : BitVec 3) (s : State) : (s.setIdState x).hiu.idState = x := by
  unfold State.setIdState
  split
  · assumption
  · exact State.msix_idState ..

theorem State.haltRom_idState (s : State) : s.haltRom.hiu.idState = 5 := State.setIdState_idState ..

/-! ## The journal is read back (R263, R266, R267) -/

theorem foldl_setKeyWord (l : List JRec) (s : State) : l.foldl (fun (s : State) x => s.setKeyWord x.tenant x.keyId x.state) s =
    { s with keys.ket := l.foldl (fun t x => tblSet 0 (ketKey x.tenant x.keyId) x.state t) s.keys.ket } := by
  induction l generalizing s with
  | nil => rfl
  | cons x l ih => rw [List.foldl_cons, ih]; rfl

/-- The view with the journal's other half erased, and the key state rebuilt. -/
def BootView.rebuilt (v : BootView) (half : Bool) (k : Keys) (voids : List (Nat × Nat × Nat)) : BootView :=
  { v with cfg := { v.cfg with flash := clearBytes v.cfg.flash (jAddr (!half) 0) 0x800000 }, keys := k, voids := voids }

theorem State.rebuildKet_bootView (s : State) : ∃ (half : Bool) (k : Keys) (vs : List (Nat × Nat × Nat)),
    s.rebuildKet.bootView = s.bootView.rebuilt half k vs ∧ k.t1 = [] ∧ k.t2 = [] := by
  unfold State.rebuildKet
  extract_lets a b half all recs top voids covered keep gone found range c d e t
  refine ⟨half, { t.keys with ket := (keep.foldr seqInsert []).foldl (fun t x => tblSet 0 (ketKey x.tenant x.keyId) x.state t) t.keys.ket },
    (List.range 1025).filterMap range, ?_, rfl, rfl⟩
  rw [foldl_setKeyWord]
  simp only [State.bootView, BootView.rebuilt, t, d, e]

/-! ## Steps 7 and 9 (R247, R516, R585) -/

/-- The view with the Keystone checked. -/
def BootView.checked (v : BootView) : BootView :=
  { v with ks := { v.ks with checkOk := v.ks.loaded && v.ks.integrity == drkWord (natBe 32 v.ks.drk.toNat) } }

theorem State.keystoneCheck_bootView {s : State} (h : s.ks.checkOk = false) : s.keystoneCheck.bootView = s.bootView.checked := by
  unfold State.keystoneCheck
  split
  · rename_i hc
    simp only [State.bootView, BootView.checked, hc]
  · rename_i hc
    rw [State.event_bootView]
    simp only [State.bootView, BootView.checked, Bool.not_eq_true _ |>.mp hc, ← h]

theorem State.bootFirm_bootView {s : State} (h : s.ks.checkOk = false) :
    ∃ (half : Bool) (k : Keys) (vs : List (Nat × Nat × Nat)) (p : BitVec 26) (tn : Tbl Tn),
      s.bootFirm.bootView = { s.bootView.checked.rebuilt half k vs with policyBk := p, tn := tn } ∧ k.t1 = [] ∧ k.t2 = [] := by
  obtain ⟨half, k, vs, hv, ht1, ht2⟩ := s.keystoneCheck.rebuildKet_bootView
  rw [State.keystoneCheck_bootView h] at hv
  refine ⟨half, k, vs, s.bootFirm.par.policyBk, s.bootFirm.hiu.tn, ?_, ht1, ht2⟩
  rw [← hv]
  unfold State.bootFirm
  extract_lets u
  rfl

end Sys2Proof.Machine
end

section
/-! PROOFS. What a boot settles: the state in which it leaves what a reset kept (18_startup_and_reset.md R663, R664, R671, R672,
R675). -/

namespace Sys2Proof.Machine

/-! ## The recorder's queue (R541, R677) -/

/-- The recorder's input queue only grows. -/
structure QueueGrows (s t : State) : Prop where
  grows : s.evr.queue <+: t.evr.queue

namespace QueueGrows

theorem refl (s : State) : QueueGrows s s := ⟨List.prefix_rfl⟩

theorem trans {s t u : State} (h : QueueGrows s t) (k : QueueGrows t u) : QueueGrows s u := ⟨h.grows.trans k.grows⟩

theorem of_reported {s t : State} (h : Reported s t) : QueueGrows s t := by
  obtain ⟨l, hl⟩ := h.queue
  exact ⟨⟨l, hl.symm⟩⟩

theorem of_evr {s t : State} (h : t.evr.queue = s.evr.queue) : QueueGrows s t :=
  ⟨by rw [h]⟩

theorem ite {s a b : State} {c : Prop} [Decidable c] (ha : QueueGrows s a) (hb : QueueGrows s b) :
    QueueGrows s (if c then a else b) := by
  split <;> assumption

theorem foldl {α : Type} (f : State → α → State) (h : ∀ (s : State) (a : α), QueueGrows s (f s a)) (xs : List α) (s : State) :
    QueueGrows s (xs.foldl f s) := by
  induction xs generalizing s with
  | nil => exact refl s
  | cons x xs ih => exact (h s x).trans (ih (f s x))

end QueueGrows

theorem State.alarmOn_queue (s : State) : QueueGrows s s.alarmOn := by
  unfold State.alarmOn
  exact .ite (.refl s) (.of_evr rfl)

theorem State.findings_queue (s : State) : QueueGrows s s.findings := by
  unfold State.findings
  extract_lets a _ _ b _ _ c d
  have ha : QueueGrows s a := by
    refine .foldl _ (fun t n => ?_) _ s
    exact .ite (.refl t) ((QueueGrows.of_reported (State.eventSig_reported ..)).trans (.of_evr rfl))
  have hb : QueueGrows s b :=
    .ite ha ((ha.trans (.of_reported (State.eventSig_reported 1143 0x0206 a.par.lost.toNat 0 0 0 a))).trans (.of_evr rfl))
  have hc : QueueGrows s c := .ite ((hb.trans b.alarmOn_queue).trans (.of_evr rfl)) hb
  have hd : QueueGrows s d := .ite (hc.trans c.alarmOn_queue) hc
  refine .ite (hd.trans ?_) hd
  exact QueueGrows.trans (t := { d with par.held := true, boot.answering := true }) (.of_evr rfl)
    ((QueueGrows.of_reported (State.eventSig_reported ..)).trans (.of_evr rfl))

theorem State.ancError_queue (bits : BitVec 3) (w : Nat) (s : State) : QueueGrows s (s.ancError bits w) := .of_evr (by simp)

theorem State.bootStart_queue (cause : BitVec 4) (obs : BootObs) (s : State) :
    QueueGrows ({ s with now := s.deviceTime }).anchorsRepair (s.bootStart cause obs) := by
  unfold State.bootStart
  extract_lets t a b c d e f g u pw v
  have hu : QueueGrows t u := .of_evr rfl
  have hv : QueueGrows t v := by
    refine .ite (hu.trans ?_) hu
    exact QueueGrows.trans (t := { u with pwr.storeLow := true }) (.of_evr rfl)
      ((QueueGrows.of_reported (State.nrgEvent_reported ..)).trans (.of_reported (State.event_reported ..)))
  exact hv.trans (.foldl _ (fun x (w : Fin 8192) => (x.ancError_queue 4 w.val).trans (.of_reported (State.event_reported ..))) _ v)

theorem State.evrStarted_queue (fresh : Bool) (s : State) : (s.evrStarted fresh).evr.queue = s.evr.queue := by
  unfold State.evrStarted
  split <;> rfl

theorem State.event_first (src code p0 p1 p2 p3 : Nat) {s : State} (he : s.evr = {}) :
    ⟨BitVec.ofNat 16 src, BitVec.ofNat 16 code, w32 p0, w32 p1, w32 p2, w32 p3⟩ ∈ (s.event src code p0 p1 p2 p3).evr.queue := by
  obtain ⟨l, hl, ho⟩ := s.event_recorded src code p0 p1 p2 p3 (by rw [he]; rfl) (by rw [he]; exact Nat.zero_lt_succ _)
    (by rw [he]; exact Nat.zero_lt_succ _)
  rw [hl]
  exact List.mem_append_right _ ho

/-- The repair of a group is recorded by a recorder that has recorded nothing yet. -/
theorem State.anchorsRepair_recorded {s : State} {w : Nat} {vs : List DWord} (h : s.anc.shadow = some (w, vs)) (he : s.evr = {}) :
    ⟨1146, 0x0A09, w32 w, w32 vs.length, 0, 0⟩ ∈ s.anchorsRepair.evr.queue := by
  rw [State.anchorsRepair, h]
  dsimp only
  exact State.event_first 1146 0x0A09 w vs.length 0 0 he

/-! ## What a boot settles -/

/-- The state `t` in which a boot leaves what stood at its first step's end, `w`: the journal is read back, the Keystone is checked, and
the records are kept. -/
structure BootSettled (w t : State) : Prop where
  view : t.bootView = { w.bootView with
    ks := t.ks, cfg := t.cfg, keys := t.keys, voids := t.boot.voids, policyBk := t.par.policyBk, tn := t.hiu.tn
    romHalt := t.boot.romHalt, booting := !t.boot.romHalt }
  t1 : t.keys.t1 = []
  t2 : t.keys.t2 = []
  flash : ∀ a, a < 0x2000000 → byteAt 0xFF t.cfg.flash a = byteAt 0xFF w.cfg.flash a
  ks : t.ks = { w.ks with checkOk := t.ks.checkOk }
  checked : t.ks.checkOk = (!t.boot.romHalt && (w.ks.loaded && w.ks.integrity == drkWord (natBe 32 w.ks.drk.toNat)))
  idState : t.boot.romHalt = true → t.hiu.idState = 5
  queue : QueueGrows w t

theorem State.haltRom_settled {w u : State} (hv : u.bootView = w.bootView) (hc : w.ks.checkOk = false) (h1 : w.keys.t1 = [])
    (h2 : w.keys.t2 = []) (hq : u.evr.queue = w.evr.queue) : BootSettled w u.haltRom := by
  have ht := u.haltRom_bootView
  rw [hv] at ht
  have hks : u.haltRom.ks = w.ks := congrArg BootView.ks ht
  have hkeys : u.haltRom.keys = w.keys := congrArg BootView.keys ht
  have hcfg : u.haltRom.cfg = w.cfg := congrArg BootView.cfg ht
  have hvoids : u.haltRom.boot.voids = w.boot.voids := congrArg BootView.voids ht
  have hpol : u.haltRom.par.policyBk = w.par.policyBk := congrArg BootView.policyBk ht
  have htn : u.haltRom.hiu.tn = w.hiu.tn := congrArg BootView.tn ht
  have hhalt : u.haltRom.boot.romHalt = true := congrArg BootView.romHalt ht
  refine ⟨?_, ?_, ?_, ?_, ?_, ?_, fun _ => u.haltRom_idState, ?_⟩
  · rw [ht, hks, hkeys, hcfg, hvoids, hpol, htn, hhalt]
    rfl
  · rw [hkeys, h1]
  · rw [hkeys, h2]
  · intro a _
    rw [hcfg]
  · rw [hks]
  · rw [hks, hc, hhalt]
    rfl
  · exact .of_evr (by simp [State.haltRom, hq])

/-- The journal region lies above the images. -/
theorem jAddr_above (half : Bool) (n : Nat) : 0x2000000 ≤ jAddr half n := by
  unfold jAddr
  omega

theorem State.bootFirm_settled {w u : State} (hv : u.bootView = w.bootView) (hc : w.ks.checkOk = false) (hb : w.boot.booting = true)
    (hh : w.boot.romHalt = false) : BootSettled w ((u.bootFirm).requeued w.evr.queue).findings := by
  have huc : u.ks.checkOk = false := (congrArg (fun x => x.ks.checkOk) hv).trans hc
  obtain ⟨half, k, vs, p, tn, hf, h1, h2⟩ := State.bootFirm_bootView huc
  rw [hv] at hf
  have ht := (State.findings_bootView (u.bootFirm.requeued w.evr.queue)).trans ((State.requeued_bootView ..).trans hf)
  generalize hx : ((u.bootFirm).requeued w.evr.queue).findings = t at ht
  have hkeys : t.keys = k := congrArg BootView.keys ht
  have hks : t.ks = w.bootView.checked.ks := congrArg BootView.ks ht
  have hcfg : t.cfg = (w.bootView.checked.rebuilt half k vs).cfg := congrArg BootView.cfg ht
  have hvoids : t.boot.voids = vs := congrArg BootView.voids ht
  have hpol : t.par.policyBk = p := congrArg BootView.policyBk ht
  have htn : t.hiu.tn = tn := congrArg BootView.tn ht
  have hhalt : t.boot.romHalt = false := (congrArg BootView.romHalt ht).trans hh
  have hbt : (!t.boot.romHalt) = w.boot.booting := by rw [hhalt, hb]; rfl
  refine ⟨?_, ?_, ?_, ?_, ?_, ?_, ?_, ?_⟩
  · rw [ht, hbt, hhalt, hks, hkeys, hcfg, hvoids, hpol, htn, ← hh]
    rfl
  · rw [hkeys, h1]
  · rw [hkeys, h2]
  · intro a ha
    rw [hcfg]
    have hj := jAddr_above (!half) 0
    exact (byteAt_clearBytes ..).trans (if_neg (by omega))
  · rw [hks]
    rfl
  · rw [hks, hhalt]
    rfl
  · rw [hhalt]
    exact fun h => absurd h (by decide)
  · rw [← hx]
    exact QueueGrows.trans (t := u.bootFirm.requeued w.evr.queue) (.of_evr rfl) (State.findings_queue _)

/-- **A boot settles what stood at its first step's end.** -/
theorem State.bootFrom_settled {fresh : Bool} {cause : BitVec 4} {obs : BootObs} {s w : State}
    (hw : (s.bootStart cause obs).evrStarted fresh = w) (hc : w.ks.checkOk = false) (h1 : w.keys.t1 = []) (h2 : w.keys.t2 = [])
    (hb : w.boot.booting = true) (hh : w.boot.romHalt = false) : BootSettled w (s.bootFrom fresh cause obs) := by
  have hp := w.bootPicked_bootView obs
  cases h : (w.bootPicked obs).1.halt with
  | true =>
    rw [State.bootFrom_halts hw h]
    exact State.haltRom_settled ((State.requeued_bootView ..).trans hp) hc h1 h2 rfl
  | false =>
    rw [State.bootFrom_runs hw h]
    exact State.bootFirm_settled ((State.identify_bootView ..).trans hp) hc hb hh

/-! ## What begins a boot (R663, R664, R653) -/

/-- A command that begins a boot with cause `k`, and the state in which it does. -/
def BootBegins (o : BootObs) (c : Instr) (k : BitVec 4) (s : State) : Prop :=
  (c = .powerOn o ∧ k = 0 ∧ s.boot.booting = true ∧ s.pwr.mainOk = false ∧ s.pwr.quiesce = false ∧ s.hw.aux = true ∧
      s.hw.softStart = true) ∨
    (c = .moduleReset o ∧ s.boot.request = some k ∧ s.pwr.quiesce = false ∧ s.anc.queue = []) ∨
    (c = .mainPowerReturn o ∧ k = 5 ∧ s.pwr.quiesce = true ∧ s.pwr.quiesceStep = 7 ∧ s.hw.aux = true)

theorem powerOn_boots {o : BootObs} {s : State} (hb : s.boot.booting = true) (hm : s.pwr.mainOk = false) (hq : s.pwr.quiesce = false)
    (ha : s.hw.aux = true) (hs : s.hw.softStart = true) : exec (.powerOn o) s = .next (s.cold.bootFrom true 0 o) :=
  if_neg (by simp [hb, hm, hq, ha, hs])

theorem drainAnchors_idle (n : Nat) {s : State} (h : s.anc.queue = []) : drainAnchors n s = s := by
  cases n with
  | zero => rfl
  | succ n => exact if_pos (by rw [h]; rfl)

theorem moduleReset_boots {o : BootObs} {k : BitVec 4} {s : State} (hr : s.boot.request = some k) (hq : s.pwr.quiesce = false)
    (ha : s.anc.queue = []) : exec (.moduleReset o) s = .next (s.warm.bootFrom false k o) := by
  simp only [exec, execModuleReset, hr, hq, drainAnchors_idle _ ha, Bool.false_eq_true, if_false]

theorem mainPowerReturn_boots {o : BootObs} {s : State} (hq : s.pwr.quiesce = true) (hs : s.pwr.quiesceStep = 7)
    (ha : s.hw.aux = true) :
    exec (.mainPowerReturn o) s = .next ((s.event 1145 0x0503 s.pwr.quiesceStep 0 0 0).warm.bootFrom false 5 o) :=
  if_neg (by simp [hq, hs, ha])

/-- The state `b` after the reset, from which the boot runs: cold, but that a reset without an absence of 3V3_AUX keeps the record store
and the charge. -/
structure BootBase (fresh : Bool) (c : Instr) (o : BootObs) (k : BitVec 4) (s b : State) : Prop where
  exec : exec c s = .next (b.bootFrom fresh k o)
  view : b.bootView = { s.bootView.cold with
    charge := b.pwr.charge, store := b.evr.store, head := b.evr.head, ceiling := b.evr.ceiling }
  kept : k ≠ 0 → fresh = false ∧ b.evr.store = s.evr.store ∧ b.evr.head = s.evr.head ∧ b.pwr.charge = s.pwr.charge
  anew : c = .powerOn o → b.evr = {}

theorem BootBegins.base {o : BootObs} {c : Instr} {k : BitVec 4} {s : State} (h : BootBegins o c k s) :
    ∃ (fresh : Bool) (b : State), BootBase fresh c o k s b := by
  rcases h with ⟨rfl, rfl, hb, hm, hq, ha, hs⟩ | ⟨rfl, hr, hq, ha⟩ | ⟨rfl, rfl, hq, hs, ha⟩
  · exact ⟨true, s.cold, powerOn_boots hb hm hq ha hs, s.cold_bootView, fun h => absurd rfl h, fun _ => rfl⟩
  · exact ⟨false, s.warm, moduleReset_boots hr hq ha, s.warm_bootView, fun _ => ⟨rfl, rfl, rfl, rfl⟩, fun h => by cases h⟩
  · have hv := s.event_bootView 1145 0x0503 s.pwr.quiesceStep 0 0 0
    refine ⟨false, _, mainPowerReturn_boots hq hs ha, (State.warm_bootView _).trans ?_, fun _ => ⟨rfl, ?_, ?_, ?_⟩, fun h => by cases h⟩
    · rw [hv]
      rfl
    · exact congrArg BootView.store hv
    · exact congrArg BootView.head hv
    · exact congrArg BootView.charge hv

section
variable {fresh : Bool} {c : Instr} {o : BootObs} {k : BitVec 4} {s b : State} (hb : BootBase fresh c o k s b)
include hb

/-- Step 1 leaves the reset state powered up, with the anchor store as its repair leaves it. -/
theorem BootBase.started_view : ∃ (ws : Tbl DWord) (wear : Tbl Nat) (lost : Tbl Bool),
    (b.bootStart k o).bootView = ({ b.bootView with
      now := s.deviceTime, words := ws, wear := wear, lost := lost, shadow := none }).poweredUp k o ∧
    (s.anc.shadow = none → ws = s.anc.words ∧ wear = s.anc.wear ∧ lost = s.anc.lost) ∧
    (∀ w vs, s.anc.shadow = some (w, vs) → ws = (ancPut s.anc w vs).words) := by
  have hd : b.deviceTime = s.deviceTime := by
    have hu : b.backupUs = s.backupUs := congrArg BootView.backupUs hb.view
    simp only [State.deviceTime, State.tsc, hu]
  have hsh : b.anc.shadow = s.anc.shadow := congrArg BootView.shadow hb.view
  have hwords : b.anc.words = s.anc.words := congrArg BootView.words hb.view
  have hwear : b.anc.wear = s.anc.wear := congrArg BootView.wear hb.view
  have hlost : b.anc.lost = s.anc.lost := congrArg BootView.lost hb.view
  rw [State.bootStart_bootView, hd]
  cases h : s.anc.shadow with
  | none =>
    refine ⟨s.anc.words, s.anc.wear, s.anc.lost, ?_, fun _ => ⟨rfl, rfl, rfl⟩, nofun⟩
    rw [State.anchorsRepair_idle { b with now := s.deviceTime } (hsh.trans h), ← hwords, ← hwear, ← hlost, ← h, ← hsh]
    rfl
  | some x =>
    obtain ⟨w, vs⟩ := x
    obtain ⟨wear, lost, hr⟩ := State.anchorsRepair_bootView (s := { b with now := s.deviceTime }) (hsh.trans h)
    refine ⟨_, wear, lost, (congrArg (BootView.poweredUp · k o) hr).trans rfl, nofun, ?_⟩
    rintro w' vs' ⟨⟩
    exact ancPut_words_congr _ _ hwords

theorem BootBase.settled : BootSettled ((b.bootStart k o).evrStarted fresh) (b.bootFrom fresh k o) := by
  obtain ⟨ws, wear, lost, hv, -, -⟩ := hb.started_view
  obtain ⟨st, hd, ce, he, -⟩ := (b.bootStart k o).evrStarted_bootView fresh
  rw [hv, hb.view] at he
  refine State.bootFrom_settled rfl ?_ ?_ ?_ ?_ ?_
  · exact congrArg (fun v => v.ks.checkOk) he
  · exact congrArg (fun v => v.keys.t1) he
  · exact congrArg (fun v => v.keys.t2) he
  · exact congrArg BootView.booting he
  · exact congrArg BootView.romHalt he

end

end Sys2Proof.Machine
end

section
/-! PROOFS. What a boot keeps and loses, and what completes it (18_startup_and_reset.md R663 to R675). -/

namespace Sys2Proof.Machine

/-! ## A boot after any reset -/

/-- **What a boot keeps and loses**: the statement's clause for each command that begins one. -/
theorem BootBegins.outcome {o : BootObs} {c : Instr} {k : BitVec 4} {s : State} (h : BootBegins o c k s) :
    ∃ t : State, exec c s = .next t ∧ t.now = s.deviceTime ∧ t.backupUs = s.backupUs ∧ t.boot.cause = k ∧
      t.boot.booting = (!t.boot.romHalt) ∧ t.boot.request = none ∧ t.ks = { s.ks with checkOk := t.ks.checkOk } ∧
      (t.ks.checkOk = true → s.ks.loaded = true ∧ s.ks.integrity = drkWord (natBe 32 s.ks.drk.toNat)) ∧
      (t.boot.romHalt = false → s.ks.loaded = true → s.ks.integrity = drkWord (natBe 32 s.ks.drk.toNat) → t.ks.checkOk = true) ∧
      (s.anc.shadow = none → t.anc.words = s.anc.words ∧ t.anc.wear = s.anc.wear) ∧ t.anc.shadow = none ∧
      (∀ (w : Nat) (vs : List DWord), s.anc.shadow = some (w, vs) → t.anc.words = (ancPut s.anc w vs).words ∧
        (c = .powerOn o → ⟨1146, 0x0A09, w32 w, w32 vs.length, 0, 0⟩ ∈ t.evr.queue)) ∧ t.anc.queue = [] ∧ t.mem = [] ∧
      t.keys.t1 = [] ∧ t.keys.t2 = [] ∧
      t.pay.sess = [] ∧ t.deck.ent = [] ∧ t.eng.eng = [] ∧ t.tg.rules = [] ∧ t.tg.en = false ∧ t.rng = {} ∧ t.hiu.dpUp = false ∧
      t.hiu.linkUp = (!s.hw.perst) ∧ t.hiu.serial = s.hiu.serial ∧ t.pwr.mainOk = true ∧ t.pwr.quiesce = false ∧
      t.pwr.full = o.fullCharge ∧ t.pwr.outstanding = 0 ∧ t.par.cond = o.cond ∧ (t.boot.romHalt = true → t.hiu.idState = 5) ∧
      t.hw = { s.hw with softStart := true, charger := true } ∧
      (k ≠ 0 → t.evr.store = s.evr.store ∧ t.evr.head = s.evr.head ∧ t.pwr.charge = s.pwr.charge) ∧
      (∀ a, a < 0x2000000 → byteAt 0xFF t.cfg.flash a = byteAt 0xFF s.cfg.flash a) ∧ t.free = s.free ∧ t.pending = s.pending := by
  obtain ⟨fresh, b, hb⟩ := h.base
  obtain ⟨ws, wear, lost, hst, hnone, hsome⟩ := hb.started_view
  obtain ⟨st, head, ceil, hw, hkept⟩ := (b.bootStart k o).evrStarted_bootView fresh
  have hset := hb.settled
  rw [hst] at hw
  generalize hwd : (b.bootStart k o).evrStarted fresh = w at hw hset
  generalize htd : b.bootFrom fresh k o = t at hset
  have ht := hset.view
  rw [hb.view] at hw
  rw [hw] at ht
  have hwks : w.ks = { s.ks with checkOk := false } := congrArg BootView.ks hw
  have hks := hset.ks
  have hcheck := hset.checked
  rw [hwks] at hks hcheck
  refine ⟨t, hb.exec.trans (by rw [htd]), congrArg BootView.now ht, congrArg BootView.backupUs ht, congrArg BootView.cause ht,
    congrArg BootView.booting ht, congrArg BootView.request ht, hks, ?_, ?_, ?_, congrArg BootView.shadow ht, ?_,
    congrArg BootView.queue ht, congrArg BootView.mem ht, hset.t1, hset.t2, congrArg (fun v => v.pay.sess) ht,
    congrArg (fun v => v.deck.ent) ht, congrArg BootView.eng ht, congrArg (fun v => v.tg.rules) ht, congrArg (fun v => v.tg.en) ht,
    congrArg BootView.rng ht, congrArg BootView.dpUp ht, congrArg BootView.linkUp ht, congrArg BootView.serial ht,
    congrArg BootView.mainOk ht, congrArg BootView.quiesce ht, congrArg BootView.full ht, congrArg BootView.outstanding ht,
    congrArg BootView.cond ht, hset.idState, congrArg BootView.hw ht, ?_, ?_, congrArg BootView.free ht, congrArg BootView.pending ht⟩
  · intro hc
    rw [hcheck] at hc
    simpa using (Bool.and_eq_true_iff.1 hc).2
  · intro hr hl hi
    simp [hcheck, hr, hl, hi]
  · intro hs
    obtain ⟨h1, h2, -⟩ := hnone hs
    exact ⟨(congrArg BootView.words ht).trans h1, (congrArg BootView.wear ht).trans h2⟩
  · intro a vs hs
    refine ⟨(congrArg BootView.words ht).trans (hsome a vs hs), fun hc => ?_⟩
    have hshadow : b.anc.shadow = some (a, vs) := (congrArg BootView.shadow hb.view).trans hs
    have hrec := State.anchorsRepair_recorded (s := { b with now := b.deviceTime }) hshadow (hb.anew hc)
    have hq : w.evr.queue = (b.bootStart k o).evr.queue := by rw [← hwd, State.evrStarted_queue]
    exact hset.queue.grows.subset (hq ▸ (State.bootStart_queue k o b).grows.subset hrec)
  · intro hk
    obtain ⟨rfl, hstore, hhead, hcharge⟩ := hb.kept hk
    obtain ⟨h1, h2⟩ := hkept
    have hs1 : (b.bootStart k o).evr.store = b.evr.store := congrArg BootView.store hst
    have hs2 : (b.bootStart k o).evr.head = b.evr.head := congrArg BootView.head hst
    exact ⟨((congrArg BootView.store ht).trans h1).trans (hs1.trans hstore),
      ((congrArg BootView.head ht).trans h2).trans (hs2.trans hhead), (congrArg BootView.charge ht).trans hcharge⟩
  · intro a ha
    have hcfg : w.cfg.flash = s.cfg.flash := congrArg (fun v => v.cfg.flash) hw
    rw [hset.flash a ha, hcfg]

end Sys2Proof.Machine
end

section
/-! PROOFS. The key state words that a boot rebuilds from the journal (06_key_hierarchy.md R263, R266, R267; 18_startup_and_reset.md
R664). -/

namespace Sys2Proof.Machine

/-! ## Tables written entry by entry -/

/-- A table into which `f i` has been written at each index `i` of a list. -/
theorem tblGet_fill {α : Type} [DecidableEq α] (d : α) (f : Nat → α) (l : List Nat) (t : Tbl α) (h : tblWf d t) (k : Nat) :
    tblGet d (l.foldl (fun t i => tblSet d i (f i) t) t) k = if k ∈ l then f k else tblGet d t k := by
  induction l generalizing t with
  | nil => simp
  | cons i l ih =>
    rw [List.foldl_cons, ih _ (tblSet_wf d i _ t h), tblGet_tblSet d i k _ t h]
    by_cases hl : k ∈ l
    · simp [hl]
    · by_cases hi : i = k
      · simp [hi]
      · simp [hl, hi, Ne.symm hi]

/-- An anchor word is told by the store's words and the lost ones. -/
theorem State.ancGet_eq {s t : State} (hw : t.anc.words = s.anc.words) (hl : t.anc.lost = s.anc.lost) (k : Nat) :
    t.ancGet k = s.ancGet k := by
  rw [State.ancGet, hw, hl]
  rfl

/-! ## Reading the journal back -/

theorem all_erased_iff (b : Bytes) : b.all (fun x => x == 0xFF) = true ↔ b = List.replicate b.length 0xFF := by
  simp [List.eq_replicate_iff]

theorem State.flashRead_length (s : State) (a n : Nat) : (s.flashRead a n).length = n := bytesAt_length ..

theorem State.jScan_erased {s : State} {half : Bool} {i : Nat} (n : Nat)
    (h : s.flashRead (jAddr half i) 32 = List.replicate 32 0xFF) : s.jScan half (n + 1) i = [] := by
  rw [State.jScan]
  exact if_pos ((all_erased_iff _).2 (by rw [State.flashRead_length, h]))

theorem State.jScan_record {s : State} {half : Bool} {i : Nat} (n : Nat)
    (h : s.flashRead (jAddr half i) 32 ≠ List.replicate 32 0xFF) :
    s.jScan half (n + 1) i = jRecOf (s.flashRead (jAddr half i) 32) :: s.jScan half n (i + 1) := by
  rw [State.jScan]
  refine if_neg (fun he => h ?_)
  rw [(all_erased_iff _).1 he, State.flashRead_length]

/-- **A journal of one covered record gives its key the record's word**; the counters resume at the anchors and nothing is to be
voided. -/
theorem State.rebuildKet_one {s : State} {x : JRec} (ha : s.jScan false 262144 0 = [some x]) (hb : s.jScan true 262144 0 = [])
    (h1 : 1 ≤ x.kind) (h4 : x.kind ≤ 4) (ht : x.tenant ≤ 1024) (hs : x.seq ≤ (s.ancGet (0x400 + x.tenant)).toNat % 2 ^ 32) :
    s.rebuildKet.keyWord x.tenant x.keyId = x.state ∧ s.rebuildKet.keys.jFill = 1 ∧ s.rebuildKet.keys.jHalf = false ∧
      tblGet 0 s.rebuildKet.keys.seqs x.tenant = (s.ancGet (0x400 + x.tenant)).toNat % 2 ^ 32 ∧ s.rebuildKet.boot.voids = [] := by
  unfold State.rebuildKet
  extract_lets a b half all recs top voids covered keep gone found range c d e t
  have hhalf : half = false := by
    simp [half, a, b, ha, hb, pickHalf, hasEnd, show x.kind ≠ 7 by omega]
  have hall : all = [some x] := by simp [all, hhalf, a, ha]
  have hrecs : recs = [x] := by simp [recs, hall]
  have htop : x.seq ≤ top x.tenant := hs
  have hvoids : voids = [] := by simp [voids, hrecs, show x.kind ≠ 6 by omega]
  have hcov : ∀ y, covered y = false := by simp [covered, hvoids]
  have hkeep : keep = [x] := by simp [keep, hrecs, h1, h4, htop, hcov]
  have hgone : gone = [] := by simp [gone, hrecs, htop]
  have hfound : found x.tenant = top x.tenant := by simp [found, hrecs, htop]
  have hrange : (List.range 1025).filterMap range = [] := by
    rw [List.filterMap_eq_nil_iff]
    intro t _
    simp [range, hgone]
  rw [foldl_setKeyWord, hkeep]
  refine ⟨?_, ?_, hhalf, ?_, by simp only [t, hrange]⟩
  · exact tblGet_tblSet_same 0 _ _ [] rfl
  · exact congrArg List.length hall
  · simp only [t]
    rw [tblGet_fill 0 found _ [] rfl, if_pos (List.mem_range.2 (by omega)), hfound]

/-! ## The tables after a boot (R516, R585) -/

section
variable {s : State} {x : JRec}

theorem State.bootFirm_tables (k : Nat) (hk : k ≤ 1024) :
    s.bootFirm.par.policyBk = (s.keystoneCheck.rebuildKet.ancGet 0x0B).setWidth 26 ∧
      (s.bootFirm.tnOf k).state = (s.keystoneCheck.rebuildKet.ancGet (0x1100 + 3 * k)).setWidth 2 ∧
      s.bootFirm.keys = s.keystoneCheck.rebuildKet.keys ∧ s.bootFirm.boot.voids = s.keystoneCheck.rebuildKet.boot.voids := by
  unfold State.bootFirm
  generalize s.keystoneCheck.rebuildKet = u
  refine ⟨rfl, ?_, rfl, rfl⟩
  simp only [State.tnOf]
  rw [tblGet_fill _ _ _ [] rfl, if_pos (List.mem_range.2 (by omega))]

/-- Firmware that starts on a journal of one covered record has that record's word, and the tables of the anchors. -/
theorem State.bootFirm_one (hc : s.ks.checkOk = false) (hr : jRecOf (s.flashRead (jAddr false 0) 32) = some x)
    (h0 : s.flashRead (jAddr false 0) 32 ≠ List.replicate 32 0xFF) (h1 : s.flashRead (jAddr false 1) 32 = List.replicate 32 0xFF)
    (h2 : s.flashRead (jAddr true 0) 32 = List.replicate 32 0xFF) (hlo : 1 ≤ x.kind) (hhi : x.kind ≤ 4) (ht : x.tenant ≤ 1024)
    (hs : x.seq ≤ (s.ancGet (0x400 + x.tenant)).toNat % 2 ^ 32) :
    s.bootFirm.keyWord x.tenant x.keyId = x.state ∧ s.bootFirm.keys.jFill = 1 ∧ s.bootFirm.keys.jHalf = false ∧
      tblGet 0 s.bootFirm.keys.seqs x.tenant = (s.ancGet (0x400 + x.tenant)).toNat % 2 ^ 32 ∧ s.bootFirm.boot.voids = [] ∧
      s.bootFirm.par.policyBk = (s.ancGet 0x0B).setWidth 26 ∧
      (s.bootFirm.tnOf x.tenant).state = (s.ancGet (0x1100 + 3 * x.tenant)).setWidth 2 := by
  have hv := State.keystoneCheck_bootView hc
  obtain ⟨half, k, vs, hv', -, -⟩ := s.keystoneCheck.rebuildKet_bootView
  rw [hv] at hv'
  have hflash : ∀ a n, s.keystoneCheck.flashRead a n = s.flashRead a n :=
    fun a n => congrArg (fun c => bytesAt 0xFF c a n) (congrArg (fun v => v.cfg.flash) hv)
  have hanc : ∀ k, s.keystoneCheck.ancGet k = s.ancGet k := State.ancGet_eq (congrArg BootView.words hv) (congrArg BootView.lost hv)
  have hanc' : ∀ k, s.keystoneCheck.rebuildKet.ancGet k = s.ancGet k :=
    State.ancGet_eq (congrArg BootView.words hv') (congrArg BootView.lost hv')
  have ha : s.keystoneCheck.jScan false 262144 0 = [some x] := by
    rw [State.jScan_record 262143 (by rwa [hflash]), State.jScan_erased 262142 (by rwa [hflash]), hflash, hr]
  have hb : s.keystoneCheck.jScan true 262144 0 = [] := State.jScan_erased 262143 (by rwa [hflash])
  obtain ⟨hw, hf, hh, hq, hn⟩ := State.rebuildKet_one ha hb hlo hhi ht (by rwa [hanc])
  obtain ⟨hp, htn, hkeys, hvoids⟩ := s.bootFirm_tables x.tenant ht
  have hword : s.bootFirm.keyWord x.tenant x.keyId = s.keystoneCheck.rebuildKet.keyWord x.tenant x.keyId := by
    rw [State.keyWord, hkeys]
    rfl
  refine ⟨hword.trans hw, ?_, ?_, ?_, hvoids.trans hn, hp.trans (by rw [hanc']), htn.trans (by rw [hanc'])⟩
  · rw [hkeys, hf]
  · rw [hkeys, hh]
  · rw [hkeys, hq, hanc]

end

/-- **A power-on with one covered record in the journal.** -/
theorem powerOn_one {o : BootObs} {x : JRec} {s : State} (hb : s.boot.booting = true) (hm : s.pwr.mainOk = false)
    (hq : s.pwr.quiesce = false) (ha : s.hw.aux = true) (hss : s.hw.softStart = true)
    (hsh : s.anc.shadow = none) (hol : o.ancLost = []) (hr : jRecOf (s.flashRead (jAddr false 0) 32) = some x)
    (h0 : s.flashRead (jAddr false 0) 32 ≠ List.replicate 32 0xFF) (h1 : s.flashRead (jAddr false 1) 32 = List.replicate 32 0xFF)
    (h2 : s.flashRead (jAddr true 0) 32 = List.replicate 32 0xFF) (hlo : 1 ≤ x.kind) (hhi : x.kind ≤ 4) (ht : x.tenant ≤ 1024)
    (hs : x.seq ≤ (s.ancGet (0x400 + x.tenant)).toNat % 2 ^ 32) :
    ∃ t : State, exec (.powerOn o) s = .next t ∧ t.evr.head = (s.ancGet 8).toNat ∧ t.evr.ceiling = (s.ancGet 8).toNat ∧
      (t.boot.romHalt = false → t.keyWord x.tenant x.keyId = x.state ∧ t.keys.jFill = 1 ∧ t.keys.jHalf = false ∧
        tblGet 0 t.keys.seqs x.tenant = (s.ancGet (0x400 + x.tenant)).toNat % 2 ^ 32 ∧ t.boot.voids = [] ∧
        t.par.policyBk = (s.ancGet 0x0B).setWidth 26 ∧
        (t.tnOf x.tenant).state = (s.ancGet (0x1100 + 3 * x.tenant)).setWidth 2) := by
  have hbase : BootBase true (.powerOn o) o 0 s s.cold :=
    ⟨powerOn_boots hb hm hq ha hss, s.cold_bootView, fun h => absurd rfl h, fun _ => rfl⟩
  obtain ⟨ws, wear, lost, hst, hnone, -⟩ := hbase.started_view
  obtain ⟨rfl, -, rfl⟩ := hnone hsh
  obtain ⟨st, head, ceil, hw, hcount⟩ := (s.cold.bootStart 0 o).evrStarted_bootView true
  have hset := hbase.settled
  have hanc : ∀ k, (s.cold.bootStart 0 o).ancGet k = s.ancGet k := State.ancGet_eq (congrArg BootView.words hst)
    ((congrArg BootView.lost hst).trans (by rw [BootView.poweredUp, hol]; rfl))
  obtain ⟨hhead, hceil⟩ := hcount
  rw [hanc] at hhead hceil
  rw [hst, hbase.view] at hw
  generalize hwd : (s.cold.bootStart 0 o).evrStarted true = w at hw hset
  have hwanc : ∀ k, w.ancGet k = s.ancGet k := State.ancGet_eq (congrArg BootView.words hw)
    ((congrArg BootView.lost hw).trans (by rw [BootView.poweredUp, hol]; rfl))
  have hp := w.bootPicked_bootView o
  refine ⟨_, hbase.exec, ?_, ?_, ?_⟩
  · exact (congrArg BootView.head (hset.view.trans (by rw [hw]))).trans hhead
  · exact (congrArg BootView.ceiling (hset.view.trans (by rw [hw]))).trans hceil
  · intro hhalt
    cases hpick : (w.bootPicked o).1.halt with
    | true =>
      rw [State.bootFrom_halts hwd hpick] at hhalt
      exact Bool.noConfusion (hhalt.symm.trans (congrArg BootView.romHalt (State.haltRom_bootView _)))
    | false =>
      rw [State.bootFrom_runs hwd hpick]
      have hu := (State.identify_bootView (w.bootPicked o).1 (w.bootPicked o).2).trans hp
      generalize (w.bootPicked o).2.identify (w.bootPicked o).1 = u at hu
      rw [hw] at hu
      have hf := (State.findings_bootView (u.bootFirm.requeued w.evr.queue)).trans (State.requeued_bootView ..)
      generalize (u.bootFirm.requeued w.evr.queue).findings = t at hf
      have hflash : ∀ a n, u.flashRead a n = s.flashRead a n :=
        fun a n => congrArg (fun c => bytesAt 0xFF c a n) (congrArg (fun v => v.cfg.flash) hu)
      have huanc : ∀ k, u.ancGet k = s.ancGet k := State.ancGet_eq (congrArg BootView.words hu)
        ((congrArg BootView.lost hu).trans (by rw [BootView.poweredUp, hol]; rfl))
      have hone := State.bootFirm_one (s := u) (x := x) (congrArg (fun v => v.ks.checkOk) hu) (by rwa [hflash]) (by rwa [hflash])
        (by rwa [hflash]) (by rwa [hflash]) hlo hhi ht (by rwa [huanc])
      rw [huanc, huanc, huanc] at hone
      obtain ⟨k1, k2, k3, k4, k5, k6, k7⟩ := hone
      generalize u.bootFirm = v at hf k1 k2 k3 k4 k5 k6 k7
      have hkeys : t.keys = v.keys := congrArg BootView.keys hf
      have htn : t.hiu.tn = v.hiu.tn := congrArg BootView.tn hf
      rw [State.keyWord, State.tnOf, hkeys, htn]
      exact ⟨k1, k2, k3, k4, (congrArg BootView.voids hf).trans k5, (congrArg BootView.policyBk hf).trans k6, k7⟩

end Sys2Proof.Machine
end

section
/-! PROOFS. What completes a boot (18_startup_and_reset.md R664, R666, R669; 06_key_hierarchy.md R259; 16_configuration_and_update.md
R610). -/

namespace Sys2Proof.Machine

/-! ## The boot's release of ANC_IV_EPOCH (R259, R664) -/

/-- The state once ANC_IV_EPOCH has been raised and its write is persistent. -/
def State.ivRaised (s : State) : State :=
  ((s.admitCost 30).ancIssue 7 [s.ancGet 7 + 1] 30 .none).ancPersist ⟨7, [s.ancGet 7 + 1], 30, .none⟩ []

/-- The state after the boot releases, when there is nothing but ANC_IV_EPOCH to write. -/
def State.bootReleased (s : State) : State := { s.ivRaised with boot.writes := [], boot.voids := [] }

/-- An orphaned write is persistent, and nothing follows. -/
theorem State.anchorDone_orphan {w c : Nat} {vs : List DWord} {s : State} (h : s.anc.queue = [⟨w, vs, c, .none⟩])
    (hr : s.trs.replHeld = []) : s.anchorDone = s.ancPersist ⟨w, vs, c, .none⟩ [] := by
  have hidle : (s.ancPersist ⟨w, vs, c, .none⟩ []).replDrain = s.ancPersist ⟨w, vs, c, .none⟩ [] := State.replDrain_idle hr
  rw [State.anchorDone, h]
  exact (if_neg (by simp [Eff.ofRelease])).trans hidle

section
variable {s : State}

theorem State.bootReleases_released (hw : s.boot.writes = []) (hv : s.boot.voids = []) (hq : s.anc.queue = [])
    (hr : s.trs.replHeld = []) (ha : s.admits 30 = true) (hn : s.ancWorn 7 1 = false) : s.bootReleases = s.bootReleased := by
  have hissue : (s.ancWrite 7 [s.ancGet 7 + 1] .none).1 = (s.admitCost 30).ancIssue 7 [s.ancGet 7 + 1] 30 .none := by
    rw [State.ancWrite_issued 7 [s.ancGet 7 + 1] .none s ha hn]
    rfl
  have hqueue : ((s.admitCost 30).ancIssue 7 [s.ancGet 7 + 1] 30 .none).anc.queue = [⟨7, [s.ancGet 7 + 1], 30, .none⟩] := by
    rw [State.ancIssue_anc, State.admitCost_anc, hq]
    rfl
  have hdrain : ∀ n, drainAnchors (n + 1) ((s.admitCost 30).ancIssue 7 [s.ancGet 7 + 1] 30 .none) = s.ivRaised := by
    intro n
    rw [drainAnchors, if_neg (by simp), State.anchorDone_orphan hqueue hr]
    exact drainAnchors_idle n State.ancPersist_queue
  have hvoids : s.ivRaised.boot.voids = [] := hv
  rw [State.bootReleases]
  dsimp only
  rw [hw, List.foldl_nil, hissue, hdrain, hvoids]
  rfl

theorem State.bootReleased_frame (s : State) : Frame [.anc, .pwr, .boot] s s.bootReleased := by
  simp [Frame, State.bootReleased, State.ivRaised]

theorem State.ivRaised_boot (s : State) : s.ivRaised.boot = s.boot := by simp [State.ivRaised]

theorem State.bootReleased_boot (s : State) : s.bootReleased.boot = { s.boot with writes := [], voids := [] } :=
  congrArg (fun b : Boot => { b with writes := [], voids := [] }) s.ivRaised_boot

theorem State.ancPersist_pwr (a : AncWrite) (rest : List AncWrite) (s : State) :
    (s.ancPersist a rest).pwr = { s.pwr with outstanding := s.pwr.outstanding - a.cost } := by
  unfold State.ancPersist
  rfl

theorem State.bootReleased_quiesce (s : State) : s.bootReleased.pwr.quiesce = s.pwr.quiesce := by
  simp [State.bootReleased, State.ivRaised, State.ancPersist_pwr]

theorem State.bootReleased_ancGet (hw : tblWf 0 s.anc.words) (hl : tblWf false s.anc.lost) (k : Nat) :
    s.bootReleased.ancGet k = if k = 7 then s.ancGet 7 + 1 else s.ancGet k := by
  refine (State.ancPersist_ancGet hw hl k).trans ?_
  by_cases hk : k = 7
  · simp [hk]
  · rw [if_neg hk, if_neg (by simp; omega)]

end

/-! ## The trial's confirmation (R623, R673) -/

/-- From `s` to `t` reports are made and an anchor write may be issued; neither the words nor the envelope change. -/
structure Confirmed (s t : State) : Prop where
  frame : Frame (reports [.boot, .anc]) s t
  hiu : t.hiu = { s.hiu with msix := t.hiu.msix }
  envelope : t.pwr.envelope = s.pwr.envelope
  words : t.anc.words = s.anc.words
  lost : t.anc.lost = s.anc.lost

namespace Confirmed

theorem refl (s : State) : Confirmed s s := ⟨.refl _ s, rfl, rfl, rfl, rfl⟩

theorem trans {s t u : State} (h : Confirmed s t) (k : Confirmed t u) : Confirmed s u where
  frame := h.frame.trans k.frame
  hiu := by rw [k.hiu, h.hiu]
  envelope := k.envelope.trans h.envelope
  words := k.words.trans h.words
  lost := k.lost.trans h.lost

theorem of_reported {s t : State} (h : Reported s t) : Confirmed s t where
  frame := h.frame.mono (by decide)
  hiu := h.hiu
  envelope := by rw [h.pwr]
  words := by rw [h.frame.same .anc (by decide)]
  lost := by rw [h.frame.same .anc (by decide)]

end Confirmed

theorem State.ancError_confirmed (bits : BitVec 3) (w : Nat) (s : State) : Confirmed s (s.ancError bits w) := by
  unfold State.ancError
  extract_lets old _ u
  have hu : Confirmed s u := ⟨by simp [Frame, reports, u], rfl, rfl, rfl, rfl⟩
  split
  · exact hu
  · exact hu.trans (.of_reported (State.signal_reported ..))

theorem State.refuse_confirmed (c : Nat) (s : State) : Confirmed s (s.refuse c) := by
  unfold State.refuse
  extract_lets _ u
  have hu : Confirmed s u := Confirmed.trans (t := { s with pwr.cntRefused := s.pwr.cntRefused + 1 })
    ⟨by simp [Frame, reports], rfl, rfl, rfl, rfl⟩ (.of_reported (State.nrgEvent_reported ..))
  exact hu.trans (.of_reported (State.event_reported ..))

theorem State.ancRefuse_confirmed (w cause : Nat) (s : State) : Confirmed s (s.ancRefuse w cause) := by
  unfold State.ancRefuse
  exact (Confirmed.trans (t := { s with anc.cntRefused := s.anc.cntRefused + 1 }) ⟨by simp [Frame, reports], rfl, rfl, rfl, rfl⟩
    (State.ancError_confirmed ..)).trans (.of_reported (State.event_reported ..))

theorem State.ancWrite_confirmed (w : Nat) (vs : List DWord) (e : Eff) (s : State) : Confirmed s (s.ancWrite w vs e).1 := by
  unfold State.ancWrite
  extract_lets c
  split
  · exact ⟨by simp [Frame, reports], rfl, rfl, rfl, rfl⟩
  · exact (State.refuse_confirmed ..).trans (State.ancRefuse_confirmed ..)
  · exact State.ancRefuse_confirmed ..

theorem State.confirmTrial_spec (s : State) : Confirmed s s.confirmTrial ∧ s.confirmTrial.boot = { s.boot with trialSeen := false } := by
  unfold State.confirmTrial
  extract_lets w _ u
  have hu : Confirmed s u := ⟨by simp [Frame, reports, u], rfl, rfl, rfl, rfl⟩
  split
  · exact ⟨(hu.trans (State.ancWrite_confirmed ..)).trans (.of_reported (State.event_reported ..)), by simp [u]⟩
  · exact ⟨hu, rfl⟩

/-! ## HIU_ID_STATE and DP_UP (R669) -/

theorem State.setIdState_hiu (x : BitVec 3) (s : State) :
    (s.setIdState x).hiu = { s.hiu with idState := x, msix := (s.setIdState x).hiu.msix } := by
  have hid := s.setIdState_idState x
  unfold State.setIdState at hid ⊢
  split
  · rename_i h
    rw [← h]
  · exact (State.msix_reported ..).hiu

/-- A boot's end raises the data plane when STATE becomes 3 and the configuration enables it. -/
def State.raisesDp (s : State) : Bool := s.readyId == 3 && s.dpEnabled

theorem State.setIdState_dpAllowed {s : State} (hb : s.boot.booting = false) : (s.setIdState s.readyId).dpAllowed = s.raisesDp := by
  have hboot : (s.setIdState s.readyId).boot = s.boot := by simp
  rw [State.dpAllowed, State.dpEnabled, hboot, hb, State.setIdState_hiu]
  rfl

/-- What a boot's end makes of the host interface: STATE, DP_UP, tenant 0 and MSI-X entries. -/
theorem State.settleId_spec {s : State} (hq : s.pwr.quiesce = false) (hb : s.boot.booting = false) :
    s.settleId.hiu = { s.hiu with
      idState := s.readyId, dpUp := s.raisesDp, msix := s.settleId.hiu.msix
      tn := if s.raisesDp then tblMod {} 0 (fun r => { r with state := 1 }) s.hiu.tn else s.hiu.tn } ∧
    s.settleId.boot = { s.boot with trialSeen := s.boot.trialSeen && !s.raisesDp && s.dpEnabled } ∧
    s.settleId.pwr.envelope = s.pwr.envelope ∧ s.settleId.anc.words = s.anc.words ∧ s.settleId.anc.lost = s.anc.lost ∧
    Frame (reports [.mss, .boot, .anc]) s s.settleId := by
  have hx := s.setIdState_hiu s.readyId
  unfold State.settleId
  extract_lets u up _ v w
  have hup : up = s.raisesDp := State.setIdState_dpAllowed hb
  have hv : v.hiu = { s.hiu with idState := s.readyId, dpUp := s.raisesDp, msix := v.hiu.msix } := by
    rw [← hup]
    exact congrArg (fun h : Hiu => { h with dpUp := up }) hx
  have hw : w.hiu = { s.hiu with
      idState := s.readyId, dpUp := s.raisesDp, msix := w.hiu.msix
      tn := if s.raisesDp then tblMod {} 0 (fun r => { r with state := 1 }) s.hiu.tn else s.hiu.tn } := by
    unfold w
    rw [hup]
    split
    · exact (congrArg (fun h : Hiu => { h with tn := tblMod {} 0 (fun r => { r with state := 1 }) h.tn }) hv).trans rfl
    · exact hv
  have hf : Frame (reports [.mss]) s w := by
    refine Frame.trans (t := v) (Frame.trans (t := u) (by simp [Frame, reports, u]) (by simp [Frame, reports, v])) ?_
    exact .ite (by simp [Frame, reports]) (.refl _ _)
  have hboot : w.boot = s.boot := hf.same .boot (by decide)
  have hanc : w.anc = s.anc := hf.same .anc (by decide)
  have hpwr : w.pwr = s.pwr := by simp only [w, v, u]; split <;> simp
  have hen : w.dpEnabled = s.dpEnabled := by rw [State.dpEnabled, hboot, hw]; rfl
  clear_value w
  rw [hup, hen, hpwr, hq]
  split
  · rename_i hc
    obtain ⟨hk, hkb⟩ := w.confirmTrial_spec
    refine ⟨by rw [hk.hiu, hw], ?_, by rw [hk.envelope, hpwr], by rw [hk.words, hanc], by rw [hk.lost, hanc],
      (hf.mono (by decide)).trans (hk.frame.mono (by decide))⟩
    rw [hkb, hboot]
    have hfalse : (s.boot.trialSeen && !s.raisesDp && s.dpEnabled) = false := by revert hc; cases s.raisesDp <;> cases s.dpEnabled <;> simp
    rw [hfalse]
  · rename_i hc
    refine ⟨hw, ?_, by rw [hpwr], by rw [hanc], by rw [hanc], hf.mono (by decide)⟩
    have hsame : (s.boot.trialSeen && !s.raisesDp && s.dpEnabled) = s.boot.trialSeen := by
      revert hc
      cases s.raisesDp <;> cases s.dpEnabled <;> simp
    rw [hboot, hsame]

end Sys2Proof.Machine
end

section
/-! PROOFS. A boot that completes: the configuration is loaded and the module is ready (18_startup_and_reset.md R664, R666, R669). -/

namespace Sys2Proof.Machine

/-! ## The configuration is loaded (R477, R609, R610) -/

theorem State.cfgRules_congr {s t : State} (hc : t.cfg = s.cfg) (hb : t.boot.runBank = s.boot.runBank)
    (ho : t.hiu.overlay = s.hiu.overlay) : t.cfgRules = s.cfgRules := by
  have hsrc : t.bankSrc = s.bankSrc := by
    funext b off n
    simp only [State.bankSrc, State.flashRead, hc]
  simp only [State.cfgRules, State.runSrc, hsrc, hb, ho]

theorem State.tgSetEn_holding (s : State) : s.tgSetEn.tg.holding = false := by
  unfold State.tgSetEn
  extract_lets bad u _ v hold ns written _ w
  split
  · simp [w]
  · rfl

theorem State.loadRules_gate {s : State} (h : s.tg.held = []) :
    Gate { s with tg.rules := s.cfgRules } s.loadRules ∧ s.loadRules.tg.en = true ∧ s.loadRules.tg.holding = false := by
  obtain ⟨hg, hen⟩ := State.tgEnableNow_gate { s with tg.rules := s.cfgRules } h
  refine ⟨hg, hen, ?_⟩
  rw [State.loadRules, State.tgEnableNow]
  dsimp only
  rw [h]
  exact State.tgSetEn_holding _

/-- The items of the merged configuration are in force, and the boot is over (R610, R664). -/
def State.configLoaded (s : State) : State :=
  { s with
    dsp.ctrl := match s.boot.dspItem with
      | some v => v &&& 0xFF0F
      | none => s.dsp.ctrl
    pwr.envelope := match s.boot.envItem with
      | some v => v.toNat % 64
      | none => 60
    boot := { s.boot with booting := false, everReady := true, time := w32 (s.now - s.boot.started) } }

theorem State.configLoaded_envelope (s : State) :
    s.configLoaded.pwr.envelope = (s.boot.envItem.map (fun v => v.toNat % 64)).getD 60 := by
  cases h : s.boot.envItem <;> simp [State.configLoaded, h]

theorem State.bootTrestle_spec (s : State) : Frame [.trs] s s.bootTrestle ∧ s.bootTrestle.trs.linkA = s.boot.enItem.getLsbD 1 ∧
    s.bootTrestle.trs.linkB = s.boot.enItem.getLsbD 1 := by
  unfold State.bootTrestle
  extract_lets up _ u
  split
  · exact ⟨by simp [Frame, u], rfl, rfl⟩
  · split
    · exact ⟨by simp [Frame, u], rfl, rfl⟩
    · exact ⟨by simp [Frame, u], rfl, rfl⟩

/-- The state of a boot whose configuration is loaded, before STATE and DP_UP follow. -/
def State.bootLoaded (s : State) : State := s.bootReleased.loadRules.loadFw.configLoaded.bootTrestle

/-- What that state has of the boot's. -/
structure BootLoaded (s u : State) : Prop where
  hiu : u.hiu = { s.hiu with msix := u.hiu.msix }
  boot : u.boot = { s.boot with writes := [], voids := [], booting := false, everReady := true, time := u.boot.time }
  rules : u.tg.rules = s.cfgRules
  en : u.tg.en = true
  holding : u.tg.holding = false
  quiesce : u.pwr.quiesce = s.pwr.quiesce
  envelope : u.pwr.envelope = (s.boot.envItem.map (fun v => v.toNat % 64)).getD 60
  ancGet : ∀ k, u.ancGet k = if k = 7 then s.ancGet 7 + 1 else s.ancGet k
  linkA : u.trs.linkA = s.boot.enItem.getLsbD 1
  linkB : u.trs.linkB = s.boot.enItem.getLsbD 1
  frame : Frame (reports [.anc, .boot, .tg, .eng, .dsp, .trs]) s u

theorem State.bootLoaded_spec {s : State} (hh : s.tg.held = []) (hw : tblWf 0 s.anc.words) (hl : tblWf false s.anc.lost) :
    BootLoaded s s.bootLoaded := by
  have hr := s.bootReleased_frame
  have hrb := s.bootReleased_boot
  have hrq := s.bootReleased_quiesce
  have hra := s.bootReleased_ancGet hw hl
  unfold State.bootLoaded
  generalize s.bootReleased = r at hr hrb hrq hra
  have hheld : r.tg.held = [] := by rw [hr.same .tg (by decide), hh]
  obtain ⟨hg, hen, hhold⟩ := State.loadRules_gate hheld
  have hrules : r.cfgRules = s.cfgRules :=
    State.cfgRules_congr (hr.same .cfg (by decide)) (by rw [hrb]) (by rw [hr.same .hiu (by decide)])
  generalize r.loadRules = l at hg hen hhold
  have hfw := l.loadFw_frame
  generalize l.loadFw = f at hfw
  have hlr : Frame (reports [.tg]) r l := Frame.trans (by simp [Frame, reports]) hg.frame
  have hfb : f.boot = { s.boot with writes := [], voids := [] } := by
    rw [hfw.same .boot (by decide), hlr.same .boot (by decide), hrb]
  have hc : Frame [.dsp, .pwr, .boot] f f.configLoaded := by simp [Frame, State.configLoaded]
  obtain ⟨htf, hta, htb⟩ := f.configLoaded.bootTrestle_spec
  have hitem : f.configLoaded.boot.enItem = s.boot.enItem := Eq.trans (b := f.boot.enItem) rfl (by rw [hfb])
  have henv := f.configLoaded_envelope
  rw [show f.boot.envItem = s.boot.envItem by rw [hfb]] at henv
  have hcb : f.configLoaded.boot = { f.boot with booting := false, everReady := true, time := w32 (f.now - f.boot.started) } := rfl
  have hcq : f.configLoaded.pwr.quiesce = f.pwr.quiesce := rfl
  generalize f.configLoaded = g at hc hcb hcq htf hta htb hitem henv
  generalize g.bootTrestle = u at htf hta htb
  have htg : u.tg = l.tg := (hfw.same .tg (by decide)).trans ((hc.same .tg (by decide)).trans (htf.same .tg (by decide)))
  have hlu : Frame (reports [.eng, .dsp, .trs, .boot]) l u :=
    ((hfw.mono (by decide)).trans (hc.mono (by decide))).trans (htf.mono (by decide))
  have hru : Frame (reports [.tg, .eng, .dsp, .trs, .boot]) r u := (hlr.mono (by decide)).trans (hlu.mono (by decide))
  refine ⟨?_, ?_, ?_, ?_, ?_, ?_, ?_, ?_, ?_, ?_, (hr.mono (by decide)).trans (hru.mono (by decide))⟩
  · rw [htf.same .hiu (by decide), hc.same .hiu (by decide), hfw.same .hiu (by decide), hg.hiu, hr.same .hiu (by decide)]
  · rw [htf.same .boot (by decide), hcb, hfb]
  · rw [htg, hg.rules]
    exact hrules
  · rw [htg, hen]
  · rw [htg, hhold]
  · rw [htf.same .pwr (by decide), hcq, hfw.same .pwr (by decide), hg.pwr]
    exact hrq
  · rw [htf.same .pwr (by decide), henv]
  · intro k
    rw [State.ancGet_congr (hru.same .anc (by decide)), hra]
  · rw [hta, hitem]
  · rw [htb, hitem]

/-! ## The module is ready (R664, R666, R669) -/

/-- Event 0x0103 reports that the module is ready. -/
def State.readyReported (s : State) : State := s.event 0xFFFF 0x0103 ((s.now - s.boot.started) / 1000) s.hiu.idState.toNat 0 0

/-- The state in which a boot ends, configuration requests answered normally from then on. -/
def State.bootEnded (again : Bool) (s : State) : State :=
  if again then s.settleId.allocate.readyReported else s.settleId.allocate.readyReported.emit .drs

section
variable {s : State}

theorem bootComplete_ends (hb : s.boot.booting = true) (hm : s.pwr.mainOk = true) (hp : s.par.held = false)
    (hd : s.mi.dramReady = true) (hg : s.rng.st = 1) (hreq : s.boot.request = none) (hq : s.anc.queue = [])
    (hr : s.trs.replHeld = []) (hw : s.boot.writes = []) (hv : s.boot.voids = []) (ha : s.admits 30 = true)
    (hn : s.ancWorn 7 1 = false) (hans : s.bootLoaded.boot.answering = s.boot.answering) :
    exec .bootComplete s = .next (s.bootLoaded.bootEnded s.boot.answering) := by
  have hadm : s.bootAdmitted = true := by simp [State.bootAdmitted, hv, ha]
  have hrel := State.bootReleases_released hw hv hq hr ha hn
  have hbt : s.bootLoaded.boot = s.bootReleased.loadRules.loadFw.configLoaded.boot := (State.bootTrestle_spec _).1.same .boot (by decide)
  rw [← hans, hbt]
  show execBootComplete s = _
  rw [execBootComplete, if_neg (by simp [hb, hm, hp, hd, hg, hreq, hadm]), hrel]
  unfold State.bootLoaded
  generalize s.bootReleased.loadRules.loadFw = f
  extract_lets _ _ _ _ g again v w
  have hload : f.configLoaded = g := rfl
  have hreport : w = v.readyReported := rfl
  have hsettle : g.bootTrestle.settleId.allocate = v := rfl
  rw [State.bootEnded, hreport, hload, hsettle]

end

/-- STATE once a boot has ended (R669). -/
theorem BootLoaded.readyId {s u : State} (h : BootLoaded s u) (hq : s.pwr.quiesce = false) (hh : s.boot.romHalt = false) :
    u.readyId = if s.hiu.overlay = 2 then 5 else if s.ks.checkOk = false then 1 else if s.hiu.overlay = 1 then 2 else 3 := by
  have hover : u.hiu.overlay = s.hiu.overlay := by rw [h.hiu]
  have hhalt : u.boot.romHalt = false := by rw [h.boot, hh]
  have hks : u.ks = s.ks := h.frame.same .ks (by decide)
  simp only [State.readyId, h.quiesce, hq, hover, hhalt, hks, Bool.or_false, Bool.not_eq_true', beq_iff_eq, Bool.false_eq_true, if_false]

theorem BootLoaded.dpEnabled {s u : State} (h : BootLoaded s u) : u.dpEnabled = s.dpEnabled := by
  have hover : u.hiu.overlay = s.hiu.overlay := by rw [h.hiu]
  have hitem : u.boot.enItem = s.boot.enItem := by rw [h.boot]
  rw [State.dpEnabled, hover, hitem]
  rfl

/-- What the end of a boot leaves of the state `v` in which STATE and DP_UP have settled. -/
structure BootReady (v t : State) : Prop where
  hiu : t.hiu = { v.hiu with msix := t.hiu.msix }
  envelope : t.pwr.envelope = v.pwr.envelope
  frame : Frame (reports [.clk, .dsp, .eng]) v t

theorem State.allocate_ready (v : State) : BootReady v v.allocate.readyReported := by
  have ha := v.allocate_allocated
  have hr : Reported v.allocate v.allocate.readyReported := State.event_reported ..
  generalize v.allocate.readyReported = t at hr
  refine ⟨by rw [hr.hiu, ha.hiu], by rw [hr.pwr, ha.pwr], ha.frame.trans (hr.frame.mono (by decide))⟩

theorem State.bootEnded_ready (again : Bool) (u : State) : BootReady u.settleId (u.bootEnded again) := by
  have h := u.settleId.allocate_ready
  unfold State.bootEnded
  generalize u.settleId.allocate.readyReported = v at h
  split
  · exact h
  · exact ⟨h.hiu, h.envelope, h.frame.trans (by simp [Frame, reports])⟩

theorem State.bootEnded_drs (u : State) : .drs ∈ (u.bootEnded false).out := List.mem_append_right _ (List.mem_singleton_self _)

/-- **A boot completes**: IV_EPOCH is raised, the rules are loaded, and HIU_ID_STATE and DP_UP follow. -/
theorem bootComplete_outcome {s : State} (hb : s.boot.booting = true) (hm : s.pwr.mainOk = true) (hp : s.par.held = false)
    (hd : s.mi.dramReady = true) (hg : s.rng.st = 1) (hreq : s.boot.request = none) (hrom : s.boot.romHalt = false)
    (hqz : s.pwr.quiesce = false) (hq : s.anc.queue = []) (hr : s.trs.replHeld = []) (hheld : s.tg.held = [])
    (hw : s.boot.writes = []) (hv : s.boot.voids = []) (ha : s.admits 30 = true) (hn : s.ancWorn 7 1 = false)
    (hww : tblWf 0 s.anc.words) (hlw : tblWf false s.anc.lost) (htw : tblWf {} s.hiu.tn) :
    ∃ t : State, exec .bootComplete s = .next t ∧ t.boot.booting = false ∧ t.boot.everReady = true ∧ t.ancGet 7 = s.ancGet 7 + 1 ∧
      (∀ w, w ≠ 7 → t.ancGet w = s.ancGet w) ∧ t.tg.rules = s.cfgRules ∧ t.tg.en = true ∧ t.tg.holding = false ∧
      t.hiu.idState = (if s.hiu.overlay = 2 then 5 else if s.ks.checkOk = false then 1 else if s.hiu.overlay = 1 then 2 else 3) ∧
      t.hiu.dpUp = (t.hiu.idState == 3 && (s.hiu.overlay == 0 || s.hiu.overlay == 3) && s.boot.enItem.getLsbD 0) ∧
      (t.hiu.dpUp = true → (t.tnOf 0).state = 1) ∧ t.boot.trialSeen = (s.boot.trialSeen && !t.hiu.dpUp && s.dpEnabled) ∧
      t.pwr.envelope = ((s.boot.envItem.map (fun v => v.toNat % 64)).getD 60) ∧
      t.trs.linkA = s.boot.enItem.getLsbD 1 ∧ t.trs.linkB = s.boot.enItem.getLsbD 1 ∧
      (s.boot.answering = false → .drs ∈ t.out) ∧ t.ks = s.ks ∧ t.mem = s.mem ∧ t.cfg = s.cfg ∧ t.rng = s.rng ∧
      t.pending = s.pending := by
  have hl := State.bootLoaded_spec hheld hww hlw
  have hends := bootComplete_ends hb hm hp hd hg hreq hq hr hw hv ha hn (by rw [hl.boot])
  generalize s.bootLoaded = u at hl hends
  obtain ⟨hhiu, hboot, henv, hwords, hlost, hframe⟩ := State.settleId_spec (s := u) (hl.quiesce.trans hqz) (by rw [hl.boot])
  have hready := u.bootEnded_ready s.boot.answering
  have hdrs : s.boot.answering = false → .drs ∈ (u.bootEnded s.boot.answering).out := fun h => by
    rw [h]
    exact u.bootEnded_drs
  generalize u.bootEnded s.boot.answering = t at hends hready hdrs
  generalize u.settleId = v at hhiu hboot henv hwords hlost hframe hready
  have hanc : ∀ k, t.ancGet k = if k = 7 then s.ancGet 7 + 1 else s.ancGet k := fun k => by
    rw [State.ancGet_congr (hready.frame.same .anc (by decide)), State.ancGet_eq hwords hlost, hl.ancGet]
  have htboot : t.boot = v.boot := hready.frame.same .boot (by decide)
  have htg : t.tg = u.tg := (hframe.same .tg (by decide)).trans (hready.frame.same .tg (by decide))
  have htrs : t.trs = u.trs := (hframe.same .trs (by decide)).trans (hready.frame.same .trs (by decide))
  have hid : t.hiu.idState = u.readyId := by rw [hready.hiu, hhiu]
  have hdp : t.hiu.dpUp = u.raisesDp := by rw [hready.hiu, hhiu]
  have hall : Frame (reports [.anc, .boot, .tg, .eng, .dsp, .trs, .mss, .clk]) s t :=
    ((hl.frame.mono (by decide)).trans (hframe.mono (by decide))).trans (hready.frame.mono (by decide))
  refine ⟨t, hends, ?_, ?_, ?_, ?_, ?_, ?_, ?_, ?_, ?_, ?_, ?_, ?_, ?_, ?_, hdrs, hall.same .ks (by decide), hall.same .mem (by decide),
    hall.same .cfg (by decide), hall.same .rng (by decide), hall.same .pending (by decide)⟩
  · rw [htboot, hboot, hl.boot]
  · rw [htboot, hboot, hl.boot]
  · rw [hanc, if_pos rfl]
  · intro w hw7
    rw [hanc, if_neg hw7]
  · rw [htg, hl.rules]
  · rw [htg, hl.en]
  · rw [htg, hl.holding]
  · rw [hid, hl.readyId hqz hrom]
  · rw [hid, hdp, State.raisesDp, hl.dpEnabled, State.dpEnabled, Bool.and_assoc]
  · intro h
    rw [hdp] at h
    have htn : t.hiu.tn = tblMod {} 0 (fun r => { r with state := 1 }) s.hiu.tn := by
      rw [hready.hiu, hhiu, hl.hiu]
      exact if_pos h
    rw [State.tnOf, htn, tblGet_tblMod _ _ _ _ _ htw]
    rfl
  · rw [htboot, hboot, hdp, hl.dpEnabled, hl.boot]
  · rw [hready.envelope, henv, hl.envelope]
  · rw [htrs, hl.linkA]
  · rw [htrs, hl.linkB]

/-! ## Boots and resets -/

/-- Settles O60: a boot is taken stage by stage, each with what it leaves of the view that a reset made; its end by the anchor write,
the rules and the settling of STATE in turn. -/
theorem bootAndReset : Obligations.BootAndReset := by
  unfold Obligations.BootAndReset
  refine ⟨?_, ?_, ?_, ?_, ?_, ?_, ?_, ?_⟩
  · intro o s h
    refine if_pos ?_
    rcases h with h | h | h | h | h <;> simp [h]
  · intro o s h
    show execModuleReset o s = _
    unfold execModuleReset
    split
    · rfl
    · rename_i c hc
      exact if_pos (h.resolve_left (by simp [hc]))
  · intro o s h
    refine if_pos ?_
    rcases h with h | h | h <;> simp [h]
  · intro o c k s h
    exact BootBegins.outcome h
  · intro o x s hb hm hq ha hss _ hsh hol hr h0 h1 h2 hlo hhi ht hs
    exact powerOn_one hb hm hq ha hss hsh hol hr h0 h1 h2 hlo hhi ht hs
  · intro s h
    refine if_pos ?_
    simpa [or_assoc] using h
  · intro s hb hm hp hd hg hreq hrom hqz hq _ _ hr hheld hw hv ha hn hww hlw htw
    exact bootComplete_outcome hb hm hp hd hg hreq hrom hqz hq hr hheld hw hv ha hn hww hlw htw
  · intro u s
    cases u <;> rfl

end Sys2Proof.Machine
end

section
/-! PROOFS. The outcome of an engine's only request and its answer: the cipher modes (07_cipher_engines.md R301 to R309, R313). -/

namespace Sys2Proof.Machine

/-! ## The answer and its output (R305) -/

/-- The output of a request that is done is written at its DST; an answer without output, or without DST, writes nothing (R305). -/
def State.writeOut (q : Req) (r : Resp) (data : Bytes) (s : State) : State :=
  if r.status = 0 ∧ q.dst ≠ 0 ∧ data ≠ [] then s.writeMem (q.dst % 2 ^ 40) data else s

theorem State.writeOut_frame (q : Req) (r : Resp) (data : Bytes) (s : State) : Frame [.mem, .mi] s (s.writeOut q r data) := by
  unfold State.writeOut
  split
  · exact State.writeMem_frame ..
  · exact .refl _ s

/-- A response and a write of memory come to the same in either order. -/
theorem State.respond_writeMem (p : Nat) (r : Resp) (a : Nat) (b : Bytes) (s : State) :
    (s.writeMem a b).respond p r = (s.respond p r).writeMem a b := by
  unfold State.writeMem
  split
  · rfl
  · split
    case h_1 => rfl
    case h_4 => rfl
    all_goals exact (List.foldl_hom (State.respond p r) (fun _ _ => rfl)).symm

/-- The head of a queue that leaves no key to install is answered, and its output written. -/
theorem State.answerHead_writes (e : Nat) (y : QEnt) (r : Resp) (data : Bytes) (s : State)
    (h : r.status = 0 → installs y.req = false) :
    s.answerHead e y r data = some ((s.popAnswer e y r).writeOut y.req r data) := by
  have hi : ¬ (decide (r.status = 0) && installs y.req) = true := by simpa using h
  have hw : (decide (r.status = 0) && y.req.dst != 0 && !data.isEmpty) = true ↔ r.status = 0 ∧ y.req.dst ≠ 0 ∧ data ≠ [] := by
    simp [and_assoc]
  unfold State.answerHead State.writeOut State.popAnswer
  dsimp only
  rw [if_neg hi]
  simp only [hw]
  split
  · rw [State.respond_writeMem]
  · rfl

/-- One round of draining answers the head whose outcome is decided and writes its output, when no scrub comes before it. -/
theorem State.drainF_writes (e n : Nat) (y : QEnt) (l : List QEnt) (o : Resp × Bytes) (r : Resp) (d : Bytes) (s : State)
    (hq : (s.engOf e).q = y :: l) (ho : y.out = some o) (hh : heldResp y o.1 o.2 = some (r, d))
    (hs : (decide (48 ≤ e) && y.req.aux.testBit 11) = false) (hi : r.status = 0 → installs y.req = false) :
    s.drainF e (n + 1) = (((s.answering e y r).popAnswer e y r).writeOut y.req r d).drainF e n := by
  have ha : ∀ t : State, t.answerHead e y r d = some ((t.popAnswer e y r).writeOut y.req r d) :=
    fun t => t.answerHead_writes e y r d hi
  simp only [State.drainF, hq, ho, hh, hs, Bool.false_and, Bool.false_eq_true, if_false, ha]
  rfl

/-- An engine whose queue is drained has settled. -/
theorem State.settle_drained (e : Nat) (s t : State) (hq : ∀ y ∈ (s.engOf e).q, y.out ≠ none) (hd : s.drainF e 64 = t)
    (ht : (t.engOf e).q = []) (hp : t.parkMarked (Machine.bayOf e) = false) : s.settle e = t := by
  have hs : s.refuseBadF e 64 = s := s.refuseBadF_ok e 64 (fun y hy hn => absurd hn (hq y hy))
  have hr : t.refuseBadF e 64 = t := t.refuseBadF_ok e 64 (fun y hy => by rw [ht] at hy; cases hy)
  have hw : t.drainF e 64 = t := t.drainF_waits e 64 (fun y hy => by rw [ht] at hy; cases hy)
  unfold State.settle
  rw [hs, hd, hr, hw, State.parkSettle_unmarked _ _ hp]

/-- An answer is read off the engine's queue, the pier's port and what is sent. -/
theorem Answered.congr {n : Nat} {y : QEnt} {r : Resp} {s s' t t' : State} (h : Answered n y r s t)
    (hs : s'.eng.ports = s.eng.ports) (he : t'.eng = t.eng) (ho : t'.out = t.out) : Answered n y r s' t' := by
  obtain ⟨hempty, hport, hout⟩ := h
  refine ⟨?_, ?_, ?_⟩
  · rw [State.engOf_of_eng n (congrArg Engs.eng he), hempty]
  · rw [he, hport, hs]
  · rw [ho]
    exact hout

/-! ## The only request of an engine (R313) -/

/-- Engine `n` holds `y` alone, whose outcome is answered as it stands (its second decision agrees, or it needs no key), without a
scrub before it, and installs no key. -/
structure Answerable (n : Nat) (y : QEnt) (s : State) : Prop where
  queue : (s.engOf n).q = [y]
  wf : tblWf {} s.eng.eng
  unmarked : s.parkMarked (bayOf n) = false
  unscrubbed : 48 ≤ n → y.req.aux.testBit 11 = false
  decided : ∀ r d, heldResp y r d = some (r, d)
  plain : installs y.req = false

/-- `u` is `s` but for registers of the engines: engine `n` holds the same requests. -/
structure SameQueue (n : Nat) (s u : State) : Prop where
  queue : (u.engOf n).q = (s.engOf n).q
  wf : tblWf {} u.eng.eng
  ports : u.eng.ports = s.eng.ports
  marked : ∀ b, u.parkMarked b = s.parkMarked b
  frame : Frame [.eng] s u

theorem SameQueue.refl {n : Nat} {s : State} (h : tblWf {} s.eng.eng) : SameQueue n s s := ⟨rfl, h, rfl, fun _ => rfl, .refl _ s⟩

theorem SameQueue.of_modEng {n : Nat} {s : State} (h : tblWf {} s.eng.eng) (f : Eng → Eng) (hf : (f (s.engOf n)).q = (s.engOf n).q) :
    SameQueue n s (s.modEng n f) where
  queue := by rw [State.modEng, State.engOf_setEng_same _ _ _ h, hf]
  wf := State.setEng_wf n _ s h
  ports := rfl
  marked b := State.parkMarked_of_registers b rfl rfl
  frame := State.setEng_frame n _ s

theorem SameQueue.ite {n : Nat} {s u v : State} {p : Prop} [Decidable p] (hu : SameQueue n s u) (hv : SameQueue n s v) :
    SameQueue n s (if p then u else v) := by
  split
  · exact hu
  · exact hv

/-- Recording a fault writes one fault register (R330, R369). -/
theorem State.faultLast_register (e kind : Nat) (out : Bool) (s : State) :
    ∃ v w, s.faultLast e kind out = if e < 48 then { s with eng.sceFault := v } else { s with eng.pksFault := w } :=
  ⟨_, _, rfl⟩

theorem SameQueue.of_faultLast {n : Nat} {s : State} (h : tblWf {} s.eng.eng) (e kind : Nat) (out : Bool) :
    SameQueue n s (s.faultLast e kind out) := by
  obtain ⟨v, w, hreg⟩ := s.faultLast_register e kind out
  rw [hreg]
  refine SameQueue.ite ?_ ?_
  · exact ⟨rfl, h, rfl, fun b => State.parkMarked_of_registers b rfl rfl, by simp [Frame]⟩
  · exact ⟨rfl, h, rfl, fun b => State.parkMarked_of_registers b rfl rfl, by simp [Frame]⟩

/-- The answer `r` has gone to the pier of the only request `y`, and its output `d` to memory. -/
structure Completed (n : Nat) (y : QEnt) (r : Resp) (d : Bytes) (s t : State) : Prop where
  answered : Answered n y r s t
  mem : t.mem = (s.writeOut y.req r d).mem
  frame : Frame [.keys, .eng, .mem, .mi, .out] s t

theorem State.writeOut_mem_congr {s u : State} (h : u.mem = s.mem) (q : Req) (r : Resp) (d : Bytes) :
    (u.writeOut q r d).mem = (s.writeOut q r d).mem := by
  unfold State.writeOut
  split
  · exact State.writeMem_mem_congr h _ _
  · exact h

/-- An outcome without output writes nothing. -/
theorem Completed.mem_kept {n : Nat} {y : QEnt} {r : Resp} {s t : State} (h : Completed n y r [] s t) : t.mem = s.mem := by
  rw [h.mem, State.writeOut, if_neg (by simp)]

/-- The output `b` of a request that is done stands at its DST. -/
theorem Completed.mem_out {n : Nat} {y : QEnt} {b : Bytes} {s t : State} (h : Completed n y (doneResp y.req b b.length) b s t) :
    if y.req.dst = 0 ∨ b = [] then t.mem = s.mem else t.mem = (s.writeMem (y.req.dst % 2 ^ 40) b).mem := by
  rw [h.mem, State.writeOut]
  split
  · rw [if_neg (by tauto)]
  · rw [if_pos ⟨rfl, by tauto⟩]

/-- Holding an outcome changes its engine alone. -/
theorem State.setOut_setEng (e i : Nat) (r : Resp) (d : Bytes) (s : State) : ∃ x, s.setOut e i r d = s.setEng e x := by
  unfold State.setOut
  dsimp only
  split
  · exact ⟨_, rfl⟩
  · exact ⟨_, rfl⟩

/-- The answer of the head of a queue of one goes out with its output, and the bays stay as they are marked. -/
theorem State.popAnswer_writeOut (n : Nat) (y : QEnt) (r : Resp) (d : Bytes) (s : State) (hq : (s.engOf n).q.drop 1 = [])
    (hw : tblWf {} s.eng.eng) : Completed n y r d s ((s.popAnswer n y r).writeOut y.req r d) ∧
      ∀ b, ((s.popAnswer n y r).writeOut y.req r d).parkMarked b = s.parkMarked b := by
  obtain ⟨hans, hmarked, hpop⟩ := s.popAnswer_spec n y r hq hw
  have hwrite := (s.popAnswer n y r).writeOut_frame y.req r d
  have heng : ((s.popAnswer n y r).writeOut y.req r d).eng = (s.popAnswer n y r).eng := hwrite.same .eng (by decide)
  refine ⟨⟨hans.congr rfl heng (hwrite.same .out (by decide)), State.writeOut_mem_congr (hpop.same .mem (by decide)) _ _ _,
    (hpop.mono (by decide)).trans (hwrite.mono (by decide))⟩, fun b => ?_⟩
  rw [State.parkMarked_of_registers b (congrArg Engs.scePark heng) (congrArg Engs.pksPark heng), hmarked]

/-- An answer counts from an earlier state, which differs in the keys' counters and the engines' registers alone. -/
theorem Completed.from_earlier {n : Nat} {y : QEnt} {r : Resp} {d : Bytes} {s u t : State} (h : Completed n y r d u t)
    (hp : u.eng.ports = s.eng.ports) (hf : Frame [.keys, .eng] s u) : Completed n y r d s t :=
  ⟨h.answered.congr hp.symm rfl rfl, h.mem.trans (State.writeOut_mem_congr (hf.same .mem (by decide)) _ _ _),
    (hf.mono (by decide)).trans h.frame⟩

/-- The outcome of an engine's only request, once held, is answered at once and its output written (R305, R313). -/
theorem Answerable.completes {n : Nat} {y : QEnt} {s u : State} (h : Answerable n y s) (hu : SameQueue n s u) (r : Resp) (d : Bytes) :
    Completed n y r d s ((u.setOut n 0 r d).settle n) := by
  have hone := State.setOut_only n y r d u (hu.queue.trans h.queue)
  obtain ⟨x, hx⟩ := u.setOut_setEng n 0 r d
  rw [hx] at hone ⊢
  set held : QEnt := { y with out := some (r, d), key := none } with hheld
  have hscrub : (decide (48 ≤ n) && held.req.aux.testBit 11) = false := by simpa using h.unscrubbed
  obtain ⟨hdrop, hwf, hmarked, hports, -, hframe⟩ := (u.setEng n x).answering_spec n held r hone (State.setEng_wf n x u hu.wf)
  have hround := (u.setEng n x).drainF_writes n 63 held [] (r, d) r d hone rfl (h.decided r d) hscrub (fun _ => h.plain)
  obtain ⟨hc, hkept⟩ := ((u.setEng n x).answering n held r).popAnswer_writeOut n held r d hdrop hwf
  obtain ⟨hempty, -, -⟩ := hc.answered
  have hsettle := State.settle_drained n (u.setEng n x) _ (fun z hz => by rw [hone, List.mem_singleton] at hz; simp [hz, hheld])
    (hround.trans (State.drainF_waits n 63 _ (fun z hz => by rw [hempty] at hz; cases hz))) hempty
    (((hkept _).trans (hmarked _)).trans ((hu.marked _).trans h.unmarked))
  obtain ⟨hans, hmem, hall⟩ := hc.from_earlier (hports.trans hu.ports)
    (((hu.frame.trans (State.setEng_frame n x u)).mono (by decide)).trans (hframe.mono (by decide)))
  rw [hsettle]
  exact ⟨hans, hmem, hall⟩

/-- Where no key is installed, each outcome of an operation is what the engine's only request comes to (R305, R309, R313). -/
theorem Answerable.outcome {n : Nat} {y : QEnt} {s : State} (h : Answerable n y s) (o : EngOut) :
    EngineOutcome n y s ((s.finishReq n 0 y.req y.key o).settle n) o ∧
      Frame [.keys, .eng, .mem, .mi, .free, .out] s ((s.finishReq n 0 y.req y.key o).settle n) := by
  have hsame := SameQueue.refl (n := n) h.wf
  have hrefused := h.completes (SameQueue.of_faultLast h.wf n (if n < 48 then 4 else 6) false) (bareResp y.req 6) []
  cases o with
  | out b =>
    have hc := h.completes (SameQueue.ite (p := y.req.op = 0x0190 ∨ y.req.op = 0x0201)
      (SameQueue.of_modEng h.wf (fun x => { x with cdata := some (fit 16 b) }) rfl) hsame) (doneResp y.req b b.length) b
    exact ⟨fun _ => ⟨hc.answered, hc.mem_out⟩, hc.frame.mono (by decide)⟩
  | verdict yes =>
    have hc := h.completes hsame (bareResp y.req (b2n !yes)) []
    exact ⟨fun _ => ⟨hc.answered, hc.mem_kept⟩, hc.frame.mono (by decide)⟩
  | status st =>
    by_cases h6 : st = 6
    · subst h6
      exact ⟨fun _ => ⟨hrefused.answered, hrefused.mem_kept⟩, hrefused.frame.mono (by decide)⟩
    · have hc := h.completes hsame (bareResp y.req st) []
      rw [State.finishReq, if_neg h6]
      exact ⟨fun _ => ⟨hc.answered, hc.mem_kept⟩, hc.frame.mono (by decide)⟩
  | key mat pub =>
    simp only [State.finishReq, EngineOutcome]
    by_cases hchain : y.req.toChain = true
    · have hc := h.completes (SameQueue.of_modEng h.wf (fun x => { x with
        ckey := some ⟨y.req.tenant, y.req.outAlg, y.req.outUsage, mat, (y.key.map (fun c => c.from_)).getD 0⟩ }) rfl) (bareResp y.req 0) []
      rw [if_pos hchain, if_pos hchain]
      exact ⟨fun _ => ⟨hc.answered, hc.mem_kept⟩, hc.frame.mono (by decide)⟩
    · rw [if_neg hchain, if_neg hchain]
      by_cases hfits : mat.length = matLen y.req ∧ algShape y.req.outAlg ≠ none
      · have hc := h.completes hsame (doneResp y.req pub pub.length) (mat ++ pub)
        rw [if_pos hfits, if_pos hfits]
        exact ⟨fun hi => absurd hi (by simp [h.plain]), hc.frame.mono (by decide)⟩
      · rw [if_neg hfits, if_neg hfits]
        exact ⟨⟨hrefused.answered, hrefused.mem_kept⟩, hrefused.frame.mono (by decide)⟩
  | pin p =>
    have hc := h.completes (SameQueue.of_modEng h.wf (fun x => { x with pin := some p }) rfl) (doneResp y.req [byteOf p.length] 1) []
    exact ⟨fun _ => ⟨hc.answered, hc.mem_kept⟩, hc.frame.mono (by decide)⟩
  | unstated k =>
    obtain ⟨hlen, -⟩ := s.draw_all k
    have hdrawn : Answerable n y (s.draw k).2 := ⟨h.queue, h.wf, h.unmarked, h.unscrubbed, h.decided, h.plain⟩
    have hc := hdrawn.completes (SameQueue.refl h.wf) (doneResp y.req (s.draw k).1 k) (s.draw k).1
    have hframe : Frame [.free] s (s.draw k).2 := by simp [Frame]
    exact ⟨fun _ => ⟨_, hlen, hc.answered.congr rfl rfl rfl, hc.frame.same .free (by decide)⟩,
      (hframe.mono (by decide)).trans (hc.frame.mono (by decide))⟩

/-! ## A request that needs a key runs (R304, R313) -/

/-- The test of a range that passes records nothing. -/
theorem State.addrTest_passed {e d a n : Nat} {k : AccKind} {s : State} (h : (s.addrTest e k d a n).1 = .ok) :
    s.addrTest e k d a n = (.ok, s) := by
  suffices hall : ∀ x, s.addrTest e k d a n = x → x.1 = .ok → x = (.ok, s) from hall _ rfl h
  unfold State.addrTest
  dsimp only
  (repeat' split)
  all_goals
    rintro _ rfl hok
    cases hok <;> rfl

/-- The outcome of a keyed request of a cipher or hash engine that draws nothing, its key received and its ranges allowed. -/
theorem State.runEng_keyed {n : Nat} {y : QEnt} {k : CKey} {s : State} (hn : n < 48) (hr : s.running n = some (0, y))
    (hneeds : needsKey y.req = true) (hfirst : y.first = some true) (hkey : y.key = some k) (hsuits : opSuits y.req k.alg = true)
    (hchain : y.req.fromChainData = true → (s.engOf n).cdata.isSome = true)
    (hsrc : (s.addrTest n .read y.req.deckIdx y.req.src y.req.len).1 = .ok)
    (hdst : (s.addrTest n .write y.req.deckIdx y.req.dst (outMax y.req)).1 = .ok) (hdraw : Machine.reqDraw n y.req = 0) :
    s.runEng n y.req.op = .next ((s.finishReq n 0 y.req y.key
      (reqRun n (s.engOf n) y.req ((y.key.map (fun k => k.alg)).getD 0) ((y.key.map (fun k => k.mat)).getD [])
        (s.reqInput (s.engOf n) y.req) [])).settle n) := by
  have hgood : (y.req.fromChainData && (s.engOf n).cdata.isNone) = false := by
    cases hf : y.req.fromChainData with
    | false => rfl
    | true => simpa [Option.isSome_iff_ne_none] using hchain hf
  have hpks : ¬ 48 ≤ n := Nat.not_le.2 hn
  simp [State.runEng, hr, hneeds, hfirst, hkey, hsuits, hgood, hdraw, State.addrTest_passed hsrc, State.addrTest_passed hdst, hpks]

/-- A command that runs a keyed operation of a cipher or hash engine, which draws nothing and installs no key. -/
theorem engineRuns_keyed {n op : Nat} {c : Instr} (hn : n < 48) (hx : ∀ s, exec c s = s.runEng n op)
    (hop : ∀ q : Req, q.op = op → needsKey q = true ∧ installs q = false ∧ reqDraw n q = 0) : EngineRuns n op c := by
  intro y rnd u s hrun hq ho hp hw hready hchain hsrc hdst hscrub hdrawn
  obtain ⟨hneeds, hplain, hdraw⟩ := hop y.req ho
  rw [if_pos hneeds] at hready
  obtain ⟨hfirst, hsecond, k, hkey, hsuits⟩ := hready
  have hrnd : rnd = [] := by
    rcases hdrawn with ⟨-, hb, -⟩ | ⟨hne, -⟩
    · exact hb
    · exact absurd hdraw hne
  have hans : Answerable n y s := by
    refine ⟨hq, hw, hp, hscrub, fun r d => ?_, hplain⟩
    unfold heldResp
    rw [hfirst, hsecond]
    exact ite_self _
  have hruns := State.runEng_keyed hn hrun hneeds hfirst hkey hsuits hchain hsrc hdst hdraw
  rw [ho, ← hx] at hruns
  subst hrnd
  obtain ⟨hout, hframe⟩ := hans.outcome (reqRun n (s.engOf n) y.req ((y.key.map (fun k => k.alg)).getD 0)
    ((y.key.map (fun k => k.mat)).getD []) (s.reqInput (s.engOf n) y.req) [])
  exact ⟨_, hruns, hframe.mono (by decide), hout⟩

/-! ## The cipher modes (R306) -/

/-- The cipher modes, MACs, card codes and FF1 each need a key, install none and draw nothing. -/
theorem cipherMode_keyed {n : Nat} {q : Req} (hn : n < 48) (hlo : 0x0100 ≤ q.op) (hhi : q.op < 0x0200) :
    needsKey q = true ∧ installs q = false ∧ reqDraw n q = 0 := by
  refine ⟨?_, ?_, ?_⟩
  · unfold needsKey
    split
    case h_10 => rfl
    all_goals omega
  · simp only [installs, Bool.or_eq_false_iff, Bool.and_eq_false_iff, beq_eq_false_iff_ne]
    omega
  · rw [reqDraw, if_neg (by omega), if_neg (by omega)]

theorem cipherMode_runs {e : Fin 32} {op : Nat} {c : Instr} (hlo : 0x0100 ≤ op) (hhi : op < 0x0200)
    (hx : ∀ s, exec c s = s.runEng e op) : EngineRuns e op c :=
  engineRuns_keyed (by omega) hx (fun q hq => cipherMode_keyed (by omega) (hq ▸ hlo) (hq ▸ hhi))

/-- Settles O30: each command runs its operation by `runEng`, and what the operation comes to is answered at once, since its only
request has both decisions. -/
theorem cipherModeCommands : Obligations.CipherModeCommands := by
  unfold Obligations.CipherModeCommands
  intro e
  refine ⟨?_, ?_, ?_, ?_, ?_, ?_, ?_, ?_, ?_, ?_, ?_, ?_, ?_, ?_, ?_, ?_, ?_, ?_, ?_, ?_⟩
  all_goals exact cipherMode_runs (by decide) (by decide) (fun _ => rfl)

end Sys2Proof.Machine
end

section
/-! PROOFS. The management public-key unit PKM (08_public_key_engines.md R361 to R365). -/

namespace Sys2Proof.Machine

/-! ## A word of PKM_RAM that is written -/

theorem State.pkmWord_setPkmWord {s : State} (h : tblWf 0 s.eng.pkmRam) (i j : Nat) (v : DWord) :
    (s.setPkmWord i v).pkmWord j = if i = j then v else s.pkmWord j := tblGet_tblSet 0 i j v s.eng.pkmRam h

theorem State.setPkmWord_wf {s : State} (h : tblWf 0 s.eng.pkmRam) (i : Nat) (v : DWord) :
    tblWf 0 (s.setPkmWord i v).eng.pkmRam := tblSet_wf 0 i v s.eng.pkmRam h

/-- The first `n` words of `v` are written to PKM_RAM from word `b` on. -/
def State.setPkmWords (b : Nat) (v : Nat → DWord) (n : Nat) (s : State) : State :=
  (List.range n).foldl (fun t i => t.setPkmWord (b + i) (v i)) s

theorem State.setPkmWords_succ (b : Nat) (v : Nat → DWord) (n : Nat) (s : State) :
    s.setPkmWords b v (n + 1) = (s.setPkmWords b v n).setPkmWord (b + n) (v n) := by
  simp [State.setPkmWords, List.range_succ]

/-- Writing words changes PKM_RAM alone. -/
theorem State.setPkmWords_ram (b : Nat) (v : Nat → DWord) (n : Nat) (s : State) :
    ∃ r, s.setPkmWords b v n = { s with eng.pkmRam := r } := by
  induction n with
  | zero => exact ⟨_, rfl⟩
  | succ n ih =>
    obtain ⟨r, hr⟩ := ih
    exact ⟨_, (State.setPkmWords_succ b v n s).trans (by rw [hr]; rfl)⟩

theorem State.setPkmWords_wf {s : State} (h : tblWf 0 s.eng.pkmRam) (b : Nat) (v : Nat → DWord) (n : Nat) :
    tblWf 0 (s.setPkmWords b v n).eng.pkmRam := by
  induction n with
  | zero => exact h
  | succ n ih => exact State.setPkmWords_succ b v n s ▸ State.setPkmWord_wf ih _ _

/-- The words written read the values given, and every other word as before. -/
theorem State.pkmWord_setPkmWords {s : State} (h : tblWf 0 s.eng.pkmRam) (b : Nat) (v : Nat → DWord) (n j : Nat) :
    (s.setPkmWords b v n).pkmWord j = if b ≤ j ∧ j < b + n then v (j - b) else s.pkmWord j := by
  induction n with
  | zero => exact (if_neg (by omega)).symm
  | succ n ih =>
    rw [State.setPkmWords_succ, State.pkmWord_setPkmWord (State.setPkmWords_wf h b v n), ih]
    by_cases hj : b + n = j
    · rw [if_pos hj, if_pos (by omega), ← hj, Nat.add_sub_cancel_left]
    · rw [if_neg hj]
      exact if_congr (by omega) rfl rfl

/-! ## The accumulator (R361, R364) -/

theorem toNat_add_ofNat {w : Nat} (x : BitVec w) (n : Nat) : (x + BitVec.ofNat w n).toNat = (x.toNat + n) % 2 ^ w := by
  rw [BitVec.toNat_add, BitVec.toNat_ofNat, Nat.add_mod_mod]

/-- The accumulator holds sums modulo 2^832. -/
theorem State.pkmSum_toNat (s : State) (a b : Nat) :
    (s.pkmSum a b).toNat = (s.eng.pkmAcc.toNat + s.pkmA a * (s.pkmWord b).toNat) % 2 ^ 832 := toNat_add_ofNat _ _

/-- The low word of the sum is the sum modulo 2^64. -/
theorem State.pkmSum_low (s : State) (a b : Nat) :
    ((s.pkmSum a b).setWidth 64).toNat = (s.eng.pkmAcc.toNat + s.pkmA a * (s.pkmWord b).toNat) % 2 ^ 64 := by
  rw [BitVec.toNat_setWidth, State.pkmSum_toNat, Nat.mod_mod_of_dvd _ (Nat.pow_dvd_pow 2 (by decide))]

/-- Shifting the sum by a word divides it by 2^64. -/
theorem State.pkmSum_high (s : State) (a b : Nat) :
    (s.pkmSum a b >>> 64).toNat = (s.eng.pkmAcc.toNat + s.pkmA a * (s.pkmWord b).toNat) % 2 ^ 832 / 2 ^ 64 := by
  rw [BitVec.toNat_ushiftRight, State.pkmSum_toNat, Nat.shiftRight_eq_div_pow]

/-- Word `i` of the accumulator. -/
def State.pkmAccWord (s : State) (i : Nat) : DWord := (s.eng.pkmAcc >>> (64 * i)).setWidth 64

/-! ## The commands -/

theorem mulacc_accumulates (a : Fin 128) (b : Fin 1024) (s : State) : ∃ t : State, exec (.mulacc a b) s = .next t ∧
    t.eng.pkmAcc.toNat = (s.eng.pkmAcc.toNat + s.pkmA a * (s.pkmWord b).toNat) % 2 ^ 832 ∧ t.eng.pkmRam = s.eng.pkmRam ∧
    t.eng.pkmCnt = s.eng.pkmCnt + 1 ∧ t.eng.pkmDropped = false ∧ t.eng.eng = s.eng.eng ∧ Frame [.eng] s t :=
  ⟨_, rfl, s.pkmSum_toNat a b, rfl, rfl, rfl, rfl, by simp [Frame, State.pkmAccept]⟩

theorem mulaccShift_shifts (a : Fin 128) (b : Fin 1024) {s : State} (h : tblWf 0 s.eng.pkmRam) :
    ∃ t : State, exec (.mulaccShift a b) s = .next t ∧
      t.eng.pkmAcc.toNat = (s.eng.pkmAcc.toNat + s.pkmA a * (s.pkmWord b).toNat) % 2 ^ 832 / 2 ^ 64 ∧
      (t.pkmWord b).toNat = (s.eng.pkmAcc.toNat + s.pkmA a * (s.pkmWord b).toNat) % 2 ^ 64 ∧
      (∀ i, i ≠ b.val → t.pkmWord i = s.pkmWord i) ∧ t.eng.pkmCnt = s.eng.pkmCnt + 1 ∧ Frame [.eng] s t := by
  have hword : ∀ j, (s.pkmAccept.setPkmWord b ((s.pkmSum a b).setWidth 64)).pkmWord j =
      if b = j then (s.pkmSum a b).setWidth 64 else s.pkmWord j := fun j => State.pkmWord_setPkmWord (s := s.pkmAccept) h b j _
  refine ⟨_, rfl, s.pkmSum_high a b, ?_, fun i hi => ?_, rfl, by simp [Frame, State.pkmAccept, State.setPkmWord]⟩
  · exact (congrArg BitVec.toNat ((hword b).trans (if_pos rfl))).trans (s.pkmSum_low a b)
  · exact (hword i).trans (if_neg hi.symm)

theorem accStore_stores (d : Fin 128) {s : State} (h : tblWf 0 s.eng.pkmRam) :
    ∃ t : State, exec (.accStore d) s = .next t ∧ t.eng.pkmAcc = s.eng.pkmAcc ∧
      (∀ i < 8, t.pkmWord (8 * d.val + i) = (s.eng.pkmAcc >>> (64 * i)).setWidth 64) ∧
      (∀ i, (i < 8 * d.val ∨ 8 * d.val + 8 ≤ i) → t.pkmWord i = s.pkmWord i) ∧ t.eng.pkmCnt = s.eng.pkmCnt + 1 ∧ Frame [.eng] s t := by
  have hword := State.pkmWord_setPkmWords (s := s.pkmAccept) h (8 * d.val) s.pkmAccWord 8
  obtain ⟨r, hr⟩ := s.pkmAccept.setPkmWords_ram (8 * d.val) s.pkmAccWord 8
  rw [hr] at hword
  refine ⟨_, congrArg Host.Outcome.next hr, rfl, fun i hi => ?_, fun i hi => (hword i).trans (if_neg (by omega)), rfl,
    by simp [Frame, State.pkmAccept]⟩
  rw [hword, if_pos (by omega), Nat.add_sub_cancel_left]
  rfl

/-- Settles O35: the sums are `pkmSum`, the stored words `setPkmWords`. -/
theorem pkmCommands : Obligations.PkmCommands := by
  unfold Obligations.PkmCommands
  intro s
  exact ⟨fun a b => mulacc_accumulates a b s, fun a b h => mulaccShift_shifts a b h, rfl, fun d h => accStore_stores d h, rfl⟩

end Sys2Proof.Machine
end

section
/-! PROOFS. The loads of microcode and the scrubs of the public-key engines (08_public_key_engines.md R336 to R347, R366, R368). -/

namespace Sys2Proof.Machine

/-! ## The length of a digest -/

theorem natLe_length (n x : Nat) : (natLe n x).length = n := by
  induction n generalizing x with
  | zero => rfl
  | succ n ih => rw [natLe, List.length_cons, ih]

theorem shaRound_length {w : Nat} (p : ShaPar) (v : List (BitVec w)) (kw : BitVec w) : (shaRound p v kw).length = v.length := by
  unfold shaRound
  split <;> rfl

/-- Compressing a block keeps the number of the hash's words. -/
theorem shaBlock_length {w : Nat} (p : ShaPar) (k h : List (BitVec w)) (blk : Bytes) : (shaBlock p k h blk).length = h.length := by
  have hrounds : ∀ ws : List (BitVec w), (ws.foldl (shaRound p) h).length = h.length := fun ws =>
    List.foldlRecOn (motive := fun v => v.length = h.length) ws (shaRound p) rfl (fun v hv kw _ => (shaRound_length p v kw).trans hv)
  simp [shaBlock, hrounds]

theorem shaRun_length {w : Nat} (p : ShaPar) (k iv : List (BitVec w)) (n : Nat) (m : Bytes) :
    (shaRun p k iv n m).length = iv.length * (w / 8) := by
  have hblocks : ((blocks n (shaPad n m)).foldl (shaBlock p k) iv).length = iv.length :=
    List.foldlRecOn (motive := fun v => v.length = iv.length) _ (shaBlock p k) rfl (fun v hv b _ => (shaBlock_length p k v b).trans hv)
  simp [shaRun, natBe, natLe_length, hblocks]

theorem sha384B_length (m : Bytes) : (sha384B m).length = 48 := by
  rw [sha384B, List.length_take, shaRun_length]
  rfl

/-! ## An engine that is changed, whatever the table of engines -/

theorem State.engOf_setEng_elsewhere {e j : Nat} (h : e ≠ j) (x : Eng) (s : State) : (s.setEng e x).engOf j = s.engOf j := by
  unfold State.engOf
  exact tblGet_tblSet_elsewhere {} e j x s.eng.eng h

theorem State.engOf_modEngs_other (f : Eng → Eng) {j : Nat} {l : List Nat} (hj : j ∉ l) (s : State) :
    (l.foldl (fun u e => u.modEng e f) s).engOf j = s.engOf j := by
  induction l generalizing s with
  | nil => rfl
  | cons e l ih =>
    obtain ⟨hne, hl⟩ := List.ne_and_not_mem_of_not_mem_cons hj
    exact (ih hl _).trans (State.engOf_setEng_elsewhere hne.symm _ s)

/-- Engines that are changed once each, to a value that is never the reset value. -/
theorem State.engOf_modEngs {f : Eng → Eng} (hf : ∀ x, f x ≠ {}) {j : Nat} {l : List Nat} (hl : l.Nodup) (hj : j ∈ l) (s : State) :
    (l.foldl (fun u e => u.modEng e f) s).engOf j = f (s.engOf j) := by
  induction l generalizing s with
  | nil => cases hj
  | cons e l ih =>
    obtain ⟨he, hl⟩ := List.nodup_cons.1 hl
    rcases List.mem_cons.1 hj with rfl | hj
    · exact (State.engOf_modEngs_other f he _).trans (State.engOf_setEng_listed j _ s (hf _))
    · exact (ih hl hj _).trans (congrArg f (State.engOf_setEng_elsewhere (fun h => he (by rwa [h])) _ s))

/-! ## The start of a load (R337 to R339) -/

theorem load_begins {s : State} (hl : s.eng.ucLocked = true) (hb : s.eng.ucBusy = false) (ht : ∀ e ∈ s.ucTargets, s.loadable e = true) :
    exec .load s = .next { s with eng.ucBusy := true, eng.ucRefused := false } := by
  refine if_pos ?_
  rw [hl, hb, List.all_eq_true.2 ht]
  rfl

theorem load_refused {s : State} (h : s.eng.ucLocked = false ∨ s.eng.ucBusy = true ∨ ∃ e ∈ s.ucTargets, s.loadable e = false) :
    exec .load s = .next { s with eng.ucRefused := true } := by
  refine if_neg fun hc => ?_
  obtain ⟨⟨hl, hb⟩, ht⟩ : (s.eng.ucLocked = true ∧ s.eng.ucBusy = false) ∧ ∀ e ∈ s.ucTargets, s.loadable e = true := by simpa using hc
  rcases h with hl' | hb' | ⟨e, he, hn⟩
  · exact Bool.false_ne_true (hl'.symm.trans hl)
  · exact Bool.false_ne_true (hb.symm.trans hb')
  · exact Bool.false_ne_true (hn.symm.trans (ht e he))

/-! ## The end of a load (R338, R359) -/

/-- The targets of a load are public-key engines, each named once. -/
theorem State.ucTargets_nodup (s : State) : s.ucTargets.Nodup :=
  (List.nodup_range.filter _).map (fun _ _ h => Nat.add_right_cancel h)

/-- An engine that has taken the accepted digest is marked loaded. -/
theorem State.endLoad_accepted {dig : Bytes} {s : State} (h : dig = s.ucAccepted) (e : Nat) :
    s.endLoad e dig = s.modEng e (fun x => { x with store := dig, loaded := true }) := by
  have hok : (dig == s.ucAccepted) = true := beq_iff_eq.2 h
  simp [State.endLoad, hok]

theorem State.endLoads_accepted {dig : Bytes} {s : State} (h : dig = s.ucAccepted) (l : List Nat) :
    l.foldl (fun u e => u.endLoad e dig) s = l.foldl (fun u e => u.modEng e (fun x => { x with store := dig, loaded := true })) s := by
  induction l generalizing s with
  | nil => rfl
  | cons e l ih =>
    rw [List.foldl_cons, List.foldl_cons, State.endLoad_accepted h]
    exact ih h

/-- `t` is `s` after the engines `l` ended their load with another digest than the accepted one: each is unloaded and kept out, and
MISMATCH is set once there is one (R338, R359). -/
structure LoadRefused (l : List Nat) (s t : State) : Prop where
  out : ∀ e ∈ l, (t.engOf e).loaded = false ∧ (t.engOf e).st = .out
  kept : ∀ e ∉ l, t.engOf e = s.engOf e
  mismatch : t.eng.ucMismatch = (s.eng.ucMismatch || !l.isEmpty)
  busy : t.eng.ucBusy = s.eng.ucBusy
  accepted : t.ucAccepted = s.ucAccepted

/-- Keeping an engine out changes the engines in its service state alone. -/
theorem State.keepOutEng_eng (e cause : Nat) (s : State) :
    (s.keepOutEng e cause).eng = (s.setEng e { s.engOf e with st := .out }).eng := by
  unfold State.keepOutEng State.modEng
  dsimp only
  split
  · simp
  · simp

/-- An engine whose load failed is reported and kept out, its registers as they stand. -/
theorem LoadRefused.of_keepOutEng {e : Nat} {s u : State} (src code p0 p1 p2 p3 cause : Nat) (hl : (u.engOf e).loaded = false)
    (ho : ∀ j, j ≠ e → u.engOf j = s.engOf j) (hm : u.eng.ucMismatch = true) (hb : u.eng.ucBusy = s.eng.ucBusy)
    (hd : u.eng.ucDigest = s.eng.ucDigest) :
    LoadRefused [e] s ((u.event src code p0 p1 p2 p3).keepOutEng e cause) := by
  set x : Eng := { u.engOf e with st := .out } with hx
  have heng : ((u.event src code p0 p1 p2 p3).keepOutEng e cause).eng = (u.setEng e x).eng := by
    simp [State.keepOutEng_eng, State.engOf, hx]
  have hread : ∀ j, ((u.event src code p0 p1 p2 p3).keepOutEng e cause).engOf j = (u.setEng e x).engOf j :=
    fun j => State.engOf_of_eng j (congrArg Engs.eng heng)
  have hout : (u.setEng e x).engOf e = x := State.engOf_setEng_listed e x u (fun h => by cases congrArg Eng.st h)
  constructor
  case out =>
    intro j hj
    rw [List.mem_singleton.1 hj, hread, hout]
    exact ⟨hl, rfl⟩
  case kept =>
    intro j hj
    have hne : j ≠ e := fun h => hj (List.mem_singleton.2 h)
    rw [hread, State.engOf_setEng_elsewhere hne.symm, ho j hne]
  case mismatch =>
    rw [heng, List.isEmpty_cons, Bool.not_false, Bool.or_true]
    exact hm
  case busy =>
    rw [heng]
    exact hb
  case accepted =>
    rw [State.ucAccepted, heng]
    exact congrArg (fun d : BitVec 384 => natLe 48 d.toNat) hd

theorem State.endLoad_refused {dig : Bytes} {s : State} (hd : dig ≠ []) (h : dig ≠ s.ucAccepted) (e : Nat) :
    LoadRefused [e] s (s.endLoad e dig) := by
  have hok : (dig == s.ucAccepted) = false := beq_eq_false_iff_ne.2 h
  set x : Eng := { s.engOf e with store := dig, loaded := false } with hx
  set m : State := { s.setEng e x with eng.ucMismatch := true, eng.pksCntFault := s.eng.pksCntFault + 1 } with hm
  have hend : s.endLoad e dig = ((m.faultLast e 5 true).event (engSource e) 0x0406 e 2 0 0).keepOutEng e 1 := by
    simp [State.endLoad, State.modEng, hok, hm, hx]
  obtain ⟨v, w, hreg⟩ := m.faultLast_register e 5 true
  have htable : (m.faultLast e 5 true).eng.eng = (s.setEng e x).eng.eng := by
    rw [hreg]
    split <;> rfl
  rw [hend]
  refine LoadRefused.of_keepOutEng _ _ _ _ _ _ _ ?_ (fun j hj => ?_) ?_ ?_ ?_
  · rw [State.engOf_of_eng e htable, State.engOf_setEng_listed e x s (fun hx => hd (congrArg Eng.store hx))]
  · rw [State.engOf_of_eng j htable, State.engOf_setEng_elsewhere hj.symm]
  all_goals
    rw [hreg]
    split <;> rfl

theorem State.endLoads_refused {dig : Bytes} {s : State} (hd : dig ≠ []) (h : dig ≠ s.ucAccepted) (l : List Nat) :
    LoadRefused l s (l.foldl (fun u e => u.endLoad e dig) s) := by
  induction l generalizing s with
  | nil => exact ⟨fun _ he => (by cases he), fun _ _ => rfl, (Bool.or_false _).symm, rfl, rfl⟩
  | cons e l ih =>
    have hhead := State.endLoad_refused hd h e
    have htail := ih (s := s.endLoad e dig) (hhead.accepted ▸ h)
    constructor
    case out =>
      intro j hj
      by_cases hl : j ∈ l
      · exact htail.out j hl
      · rw [List.foldl_cons, htail.kept j hl]
        exact hhead.out j (by simpa [hl] using hj)
    case kept =>
      intro j hj
      obtain ⟨hne, hl⟩ := List.ne_and_not_mem_of_not_mem_cons hj
      exact (htail.kept j hl).trans (hhead.kept j (by simpa using hne))
    case mismatch =>
      rw [List.foldl_cons, htail.mismatch, hhead.mismatch]
      simp
    case busy => exact htail.busy.trans hhead.busy
    case accepted => exact htail.accepted.trans hhead.accepted

/-- The end of a load in which no control store took the payload wrongly: every target ends with the digest of the payload. -/
theorem ucodeLoadDone_ends {s : State} (h : s.eng.ucBusy = true) : exec (.ucodeLoadDone 0) s =
    .next (s.ucTargets.foldl (fun u e => u.endLoad e (sha384B s.ucPayload)) { s with eng.ucBusy := false, eng.ucMismatch := false }) := by
  refine (if_neg (by simp [h])).trans ?_
  simp

theorem ucodeLoadDone_marks {s : State} (h : s.eng.ucBusy = true) :
    ∃ t : State, exec (.ucodeLoadDone 0) s = .next t ∧ t.eng.ucBusy = false ∧
      (if sha384B s.ucPayload = s.ucAccepted then t.eng.ucMismatch = false ∧ Frame [.eng] s t ∧
          ∀ e ∈ s.ucTargets, t.engOf e = { s.engOf e with store := s.ucAccepted, loaded := true }
        else t.eng.ucMismatch = !s.ucTargets.isEmpty ∧
          ∀ e ∈ s.ucTargets, (t.engOf e).loaded = false ∧ (t.engOf e).st = .out) := by
  set u : State := { s with eng.ucBusy := false, eng.ucMismatch := false } with hu
  refine ⟨_, ucodeLoadDone_ends h, ?_⟩
  rw [← hu]
  split
  case isTrue hd =>
    rw [State.endLoads_accepted (s := u) hd]
    set f : Eng → Eng := fun x => { x with store := sha384B s.ucPayload, loaded := true } with hf
    have hlisted : ∀ x, f x ≠ {} := fun x hx => by cases congrArg Eng.loaded hx
    have hframe : Frame [.eng] s u := by simp [Frame, hu]
    refine ⟨foldl_keep (fun t => t.eng.ucBusy) _ _ _ (fun _ _ => rfl), foldl_keep (fun t => t.eng.ucMismatch) _ _ _ (fun _ _ => rfl),
      hframe.trans (Frame.foldl _ (fun t e => State.setEng_frame e _ t) _ _), fun e he => ?_⟩
    rw [State.engOf_modEngs hlisted s.ucTargets_nodup he, hf, ← hd]
    rfl
  case isFalse hd =>
    have hdig : sha384B s.ucPayload ≠ [] := List.ne_nil_of_length_pos (by rw [sha384B_length]; decide)
    obtain ⟨hout, -, hmismatch, hbusy, -⟩ := State.endLoads_refused (s := u) hdig hd s.ucTargets
    exact ⟨hbusy, hmismatch, hout⟩

/-! ## Scrubs (R346, R368) -/

theorem pksScrub_begins {n : Fin 48} {v : Word} {s : State} (hb : v.getLsbD 31 = true) (hn : (v.setWidth 6).toNat = n.val)
    (hq : (s.engOf (48 + n)).q = []) :
    exec (.pksScrub v) s = .next (s.modEng (48 + n) (fun x => { x with scrubbing := true })) := by
  have hx : exec (.pksScrub v) s = execPksScrub v s := rfl
  simp [hx, execPksScrub, hb, hn, hq]

theorem pksScrub_pending {n : Fin 48} {v : Word} {y : QEnt} {l : List QEnt} {s : State} (hb : v.getLsbD 31 = true)
    (hn : (v.setWidth 6).toNat = n.val) (hq : (s.engOf (48 + n)).q = y :: l) (hy : y.first.isSome = true) :
    exec (.pksScrub v) s = .next (s.modEng (48 + n) (fun x => { x with scrubPending := true })) := by
  have hx : exec (.pksScrub v) s = execPksScrub v s := rfl
  simp [hx, execPksScrub, hb, hn, hq, hy]

/-- An engine without requests is clean after its scrub and waits. -/
theorem scrubEnd_cleans {n : Fin 48} {s : State} (hs : (s.engOf (48 + n)).scrubbing = true) (hq : (s.engOf (48 + n)).q = [])
    (hp : s.parkMarked (bayOf (48 + n)) = false) (hw : tblWf {} s.eng.eng) :
    ∃ t : State, exec (.scrubEnd n) s = .next t ∧ (t.engOf (48 + n)) = { s.engOf (48 + n) with
        opmem := [], dirty := false, scrubPending := false, scrubbing := false } ∧
      t.eng.pksCntScrub = s.eng.pksCntScrub + 1 ∧ Frame [.eng] s t := by
  have hclean : (s.scrub (48 + n)).engOf (48 + n) = { s.engOf (48 + n) with
      opmem := [], dirty := false, scrubPending := false, scrubbing := false } := State.engOf_setEng_same _ _ _ hw
  have hsettled : (s.scrub (48 + n)).settle (48 + n) = s.scrub (48 + n) := by
    refine State.settle_runs _ _ (fun y hy => ?_) ((State.parkMarked_of_registers _ rfl rfl).trans hp)
    rw [hclean] at hy
    exact absurd hy (by simp [hq])
  refine ⟨s.scrub (48 + n), ?_, hclean, rfl, by simp [Frame, State.scrub]⟩
  have hx : exec (.scrubEnd n) s = execScrubEnd n s := rfl
  rw [hx, execScrubEnd, if_pos hs, hsettled]

/-- Settles O34: the end of a load is a fold over its targets that marks each, or keeps each out; the ended scrub leaves an engine
without requests, which has settled. -/
theorem microcodeAndScrubs : Obligations.MicrocodeAndScrubs := by
  unfold Obligations.MicrocodeAndScrubs
  exact ⟨fun _ => rfl, fun _ hl hb ht => load_begins hl hb ht, fun _ h => load_refused h, fun _ h => ucodeLoadDone_marks h,
    fun _ _ _ hb hn hq => pksScrub_begins hb hn hq, fun _ _ _ _ _ hb hn hq hy => pksScrub_pending hb hn hq hy,
    fun _ _ hs hq hp hw => scrubEnd_cleans hs hq hp hw⟩

end Sys2Proof.Machine
end

section
/-! PROOFS. What settling and reporting leave of the random number generator, and its noise sources (09_random_numbers.md R373 to R375,
R387 to R390). -/

namespace Sys2Proof.Machine

/-! ## What settling and reporting leave of the generator (R385, R387, R390, R401) -/

theorem Frame.with_rng (r : Rng) (s : State) : Frame [.rng] s { s with rng := r } := by simp [Frame]

/-- From `s` to `t` the generator's state follows, draws that wait are failed, and events are reported: of the generator itself only
RNG_STATUS.STATE, RNG_EVT and the waiting and failed draws change. -/
structure RngSettled (s t : State) : Prop where
  rng : t.rng = { s.rng with st := t.rng.st, evt := t.rng.evt, cntErrDraw := t.rng.cntErrDraw, waiting := t.rng.waiting }
  frame : Frame (reports [.rng, .deck]) s t

namespace RngSettled

theorem refl (s : State) : RngSettled s s := ⟨rfl, .refl _ s⟩

theorem trans {s t u : State} (h : RngSettled s t) (k : RngSettled t u) : RngSettled s u where
  rng := by rw [k.rng, h.rng]
  frame := h.frame.trans k.frame

theorem ite {s a b : State} {c : Prop} [Decidable c] (ha : RngSettled s a) (hb : RngSettled s b) :
    RngSettled s (if c then a else b) := by
  split
  · exact ha
  · exact hb

theorem foldl {α : Type} (f : State → α → State) (h : ∀ (s : State) (a : α), RngSettled s (f s a)) (xs : List α) (s : State) :
    RngSettled s (xs.foldl f s) := by
  induction xs generalizing s with
  | nil => exact refl s
  | cons x xs ih => exact (h s x).trans (ih (f s x))

theorem of_reported {s t : State} (h : Reported s t) : RngSettled s t where
  rng := by
    have hr : t.rng = s.rng := h.frame.same .rng (by decide)
    rw [hr]
  frame := h.frame.mono (by decide)

variable {s t : State} (h : RngSettled s t)
include h

theorem srcOf (n : Nat) : t.srcOf n = s.srcOf n := by rw [State.srcOf, h.rng, State.srcOf]

theorem expOf (i : Nat) : t.expOf i = s.expOf i := by rw [State.expOf, h.rng, State.expOf]

/-- A change of the generator in parts that settling leaves alone can be made before as well as after. -/
theorem change (f : Rng → Rng) (hf : ∀ (r : Rng) (st : BitVec 3) (evt : BitVec 6) (c : DWord) (w : Tbl Nat),
      f { r with st := st, evt := evt, cntErrDraw := c, waiting := w } = { f r with st := st, evt := evt, cntErrDraw := c, waiting := w }) :
    RngSettled { s with rng := f s.rng } { t with rng := f t.rng } where
  rng := by
    change f t.rng = { f s.rng with
      st := (f t.rng).st, evt := (f t.rng).evt, cntErrDraw := (f t.rng).cntErrDraw, waiting := (f t.rng).waiting }
    rw [h.rng, hf]
  frame := by
    have hs : Frame [.rng] { s with rng := f s.rng } s := Frame.with_rng s.rng { s with rng := f s.rng }
    exact ((hs.mono (by decide)).trans h.frame).trans ((Frame.with_rng _ t).mono (by decide))

end RngSettled

/-- What follows a change of the generator has the frame of both. -/
theorem RngSettled.frame_from {r : Rng} {s t : State} (h : RngSettled { s with rng := r } t) : Frame (reports [.rng, .deck]) s t :=
  ((Frame.with_rng r s).mono (by decide)).trans h.frame

theorem State.event_rngSettled (src code p0 p1 p2 p3 : Nat) (s : State) : RngSettled s (s.event src code p0 p1 p2 p3) :=
  .of_reported (State.event_reported ..)

theorem State.rngEvent_rngSettled (bits : BitVec 6) (s : State) : RngSettled s (s.rngEvent bits) := by
  have start : RngSettled s { s with rng.evt := s.rng.evt ||| bits } := ⟨rfl, (Frame.with_rng _ s).mono (by decide)⟩
  exact .ite start (start.trans (.of_reported (State.signal_reported ..)))

theorem State.drawError_rngSettled (p : Nat) (s : State) : RngSettled s (s.drawError p) := by
  by_cases hp : p = 213
  · subst hp
    exact ⟨rfl, by simp [Frame, reports, State.drawError]⟩
  · obtain ⟨-, hr, hf⟩ := State.drawError_port hp s
    exact ⟨by rw [hr], hf.mono (by decide)⟩

theorem State.rngSettle_rngSettled (s : State) : RngSettled s s.rngSettle := by
  have start : RngSettled s { s with rng.st := s.rngNext } := ⟨rfl, (Frame.with_rng _ s).mono (by decide)⟩
  unfold State.rngSettle
  extract_lets old new r u v
  have hv : RngSettled u v := .foldl _ (fun t p => t.drawError_rngSettled p) _ _
  refine start.trans (.ite ?_ (.ite ?_ (.refl u)))
  · exact (hv.trans (v.rngEvent_rngSettled 2)).trans (State.event_rngSettled ..)
  · exact (u.rngEvent_rngSettled 4).trans (State.event_rngSettled ..)

/-! ## RNG_STATUS.STATE (R386, R392, R393) -/

theorem State.event_rngSt (src code p0 p1 p2 p3 : Nat) (s : State) : (s.event src code p0 p1 p2 p3).rng.st = s.rng.st := by simp

theorem State.rngEvent_rngSt (bits : BitVec 6) (s : State) : (s.rngEvent bits).rng.st = s.rng.st := by
  simp only [State.rngEvent]
  split <;> simp

theorem State.drawError_rngSt (p : Nat) (s : State) : (s.drawError p).rng.st = s.rng.st := by
  by_cases hp : p = 213
  · subst hp
    rfl
  · rw [(State.drawError_port hp s).2.1]

theorem State.rngSettle_rngSt (s : State) : s.rngSettle.rng.st = s.rngNext := by
  unfold State.rngSettle
  extract_lets old new r u v
  have hv : v.rng.st = u.rng.st := foldl_keep (fun t => t.rng.st) _ _ _ (fun t p => t.drawError_rngSt p)
  split
  · exact (State.event_rngSt ..).trans ((v.rngEvent_rngSt 2).trans hv)
  · split
    · exact (State.event_rngSt ..).trans (u.rngEvent_rngSt 4)
    · rfl

/-- A faulty conditioner fails the generator outside raw-sample mode (R392). -/
theorem State.rngSettle_condFault {s : State} (hc : s.rngSettle.rng.condFault = true) (hr : s.rngSettle.rng.rawEn = false) :
    s.rngSettle.rng.st = 3 := by
  have h := s.rngSettle_rngSettled
  rw [h.rng] at hc hr
  have hraw : ¬ s.rng.rawEn = true := fun he => Bool.noConfusion (hr.symm.trans he)
  rw [State.rngSettle_rngSt, State.rngNext, if_neg hraw, if_pos hc]

/-- In raw-sample mode the state is RAW, and no draw is failed. -/
theorem State.rngSettle_raw {s : State} (hr : s.rng.rawEn = true) : s.rngSettle = { s with rng.st := 4 } := by
  have hn : s.rngNext = 4 := by rw [State.rngNext, if_pos hr]
  simp [State.rngSettle, hn]

/-! ## Sources and expanders that are written -/

theorem State.srcOf_setSrc_other {n i : Nat} (h : i ≠ n) (x : Src) (s : State) : (s.setSrc n x).srcOf i = s.srcOf i :=
  tblGet_tblSet_elsewhere _ n i x s.rng.src h.symm

theorem State.srcOf_setSrc_listed {n : Nat} {x : Src} (h : x ≠ {}) (s : State) : (s.setSrc n x).srcOf n = x :=
  tblGet_tblSet_listed _ n x s.rng.src h

theorem State.srcOf_setSrc_same {s : State} (h : tblWf {} s.rng.src) (n : Nat) (x : Src) : (s.setSrc n x).srcOf n = x :=
  tblGet_tblSet_same _ n x s.rng.src h

theorem State.expOf_setSrc (n i : Nat) (x : Src) (s : State) : (s.setSrc n x).expOf i = s.expOf i := rfl

/-- A source past its first start-up test is listed. -/
theorem Src.listed_of_st {x : Src} (h : x.st ≠ 0) : x ≠ {} := fun hx => h (congrArg Src.st hx)

theorem State.expOf_setExp_other {i j : Nat} (h : j ≠ i) (x : Exp) (s : State) : (s.setExp i x).expOf j = s.expOf j :=
  tblGet_tblSet_elsewhere _ i j x s.rng.exp h.symm

theorem State.expOf_setExp_listed {i : Nat} {x : Exp} (h : x ≠ {}) (s : State) : (s.setExp i x).expOf i = x :=
  tblGet_tblSet_listed _ i x s.rng.exp h

theorem State.expOf_setExp_same {s : State} (h : tblWf {} s.rng.exp) (i : Nat) (x : Exp) : (s.setExp i x).expOf i = x :=
  tblGet_tblSet_same _ i x s.rng.exp h

/-! ## A source that passes its tests (R373 to R375, R388, R390) -/

/-- The command's test of `l` passes: the source is healthy, and what follows is a report and the settling. -/
theorem sourceStartupTestEnd_passes {n : Fin 4} {l : List (BitVec 4)} {s : State} (hst : (s.srcOf n).st = 0 ∨ (s.srcOf n).st = 2)
    (hl : l.length = 1024) (hp : (healthTest (0, 0) 0 0 0 l).1 = 0) :
    ∃ (x : Src) (t : State), exec (.sourceStartupTestEnd n l) s = .next t ∧ x.st = 1 ∧ x.buf = l ∧ RngSettled (s.setSrc n x) t := by
  set x : Src := { s.srcOf n with st := 1, first := true, buf := l, run := (healthTest (0, 0) 0 0 0 l).2 } with hx
  have hrun : exec (.sourceStartupTestEnd n l) s = .next
      (if (s.srcOf n).st = 2 then (s.setSrc n x).event 1142 0x0902 n 0 0 0 else s.setSrc n x).rngSettle := by
    change execSourceStartupTestEnd n l s = _
    unfold execSourceStartupTestEnd
    dsimp only
    rw [if_neg (by rcases hst with h | h <;> simp [h, hl])]
    rw [← Prod.mk.eta (p := healthTest (0, 0) 0 0 0 l)] at hx ⊢
    simp only [hp, hx]
  exact ⟨x, _, hrun, rfl, rfl, (RngSettled.ite (State.event_rngSettled ..) (.refl _)).trans (State.rngSettle_rngSettled _)⟩

theorem sourceStartupTestEnd_fails {n : Fin 4} {l : List (BitVec 4)} {s : State} (hst : (s.srcOf n).st = 0 ∨ (s.srcOf n).st = 2)
    (hl : l.length = 1024) (hp : (healthTest (0, 0) 0 0 0 l).1 ≠ 0) :
    exec (.sourceStartupTestEnd n l) s = .next (s.excludeSrc n 3) := by
  change execSourceStartupTestEnd n l s = _
  unfold execSourceStartupTestEnd
  dsimp only
  rw [if_neg (by rcases hst with h | h <;> simp [h, hl])]
  split
  next h => exact absurd (congrArg Prod.fst h) hp
  next => rfl

theorem adaptiveWindowEnd_passes {n : Fin 4} {l : List (BitVec 4)} {s : State} (hst : (s.srcOf n).st = 1) (hl : l.length = 512)
    (hp : (healthTest (s.srcOf n).run 0 0 0 l).1 = 0) :
    exec (.adaptiveWindowEnd n l) s = .next (s.setSrc n { s.srcOf n with
      run := (healthTest (s.srcOf n).run 0 0 0 l).2, buf := admitSamples (s.srcOf n).buf l }) := by
  change execAdaptiveWindowEnd n l s = _
  unfold execAdaptiveWindowEnd
  dsimp only
  rw [if_neg (by simp [hst, hl])]
  split
  next h => rw [h]
  next ht h => exact absurd (by rw [← hp, h]) ht

theorem adaptiveWindowEnd_fails {n : Fin 4} {l : List (BitVec 4)} {s : State} (hst : (s.srcOf n).st = 1) (hl : l.length = 512)
    (hp : (healthTest (s.srcOf n).run 0 0 0 l).1 ≠ 0) :
    exec (.adaptiveWindowEnd n l) s = .next (s.excludeSrc n (healthTest (s.srcOf n).run 0 0 0 l).1) := by
  change execAdaptiveWindowEnd n l s = _
  unfold execAdaptiveWindowEnd
  dsimp only
  rw [if_neg (by simp [hst, hl])]
  split
  next h => exact absurd (congrArg Prod.fst h) hp
  next h => rw [h]

/-! ## A source that fails a test (R387 to R389) -/

theorem State.excludeSrc_keptOut {n test : Nat} {s : State} (h : (s.srcOf n).st = 3) : s.excludeSrc n test = s := if_pos h

/-- An exclusion counts the failure, drops the seeds that the source fed, and stops the source; what follows are reports and the
settling. -/
theorem State.excludeSrc_settles {n : Nat} (test : Nat) {s : State} (h : (s.srcOf n).st ≠ 3) :
    ∃ x : Src, x.st = (if (s.srcOf n).st = 2 ∨ 2 ≤ (s.srcOf n).quar then 3 else 2) ∧ x.buf = [] ∧
      RngSettled ((({ s with rng.cntHealth := s.rng.cntHealth + 1 } : State).dropSeeds (fun p => p.1 == n || p.2 == n)).setSrc n x)
        (s.excludeSrc n test) := by
  unfold State.excludeSrc
  extract_lets r x u q again out cause v w
  rw [if_neg h]
  have hv : RngSettled v w :=
    .ite (State.rngSettle_rngSettled v) ((State.event_rngSettled ..).trans (State.rngSettle_rngSettled _))
  have hend : RngSettled w (if out = true then (w.rngEvent 32).event 1142 0x0903 n (if again then 1 else 2) 0 0 else w) :=
    .ite ((State.rngEvent_rngSettled 32 w).trans (State.event_rngSettled ..)) (.refl w)
  refine ⟨_, ?_, ?_, (State.rngEvent_rngSettled 1 _).trans (hv.trans hend)⟩
  · simp [out, again, q, x]
  · rfl

/-- No expander keeps a seed that a dropped source has fed, whatever the table. -/
theorem State.dropSeeds_unfed {p : Nat × Nat → Bool} {s : State} {i : Nat} (h : ((s.dropSeeds p).expOf i).seeded = true) :
    p ((s.dropSeeds p).expOf i).srcs = false := by
  refine tblGet_tblMap_of (P := fun e : Exp => e.seeded = true → p e.srcs = false) {} _ s.rng.exp i (by simp) (fun _ e => ?_) h
  dsimp only
  split
  · simp
  next he => exact fun hs => by simpa [hs] using he

theorem sourceExclude_excludes {n : Fin 4} (k : Fin 2) {s : State} (h : (s.srcOf n).st ≠ 3) :
    ∃ t : State, exec (.sourceExclude n k) s = .next t ∧ t = s.excludeSrc n (k.val + 1) ∧
      (t.srcOf n).st = (if (s.srcOf n).st = 2 ∨ 2 ≤ (s.srcOf n).quar then 3 else 2) ∧ (t.srcOf n).buf = [] ∧
      t.rng.cntHealth = s.rng.cntHealth + 1 ∧
      (∀ i, (t.expOf i).seeded = true → (t.expOf i).srcs.1 ≠ n.val ∧ (t.expOf i).srcs.2 ≠ n.val) ∧
      (∀ i, i ≠ n.val → t.srcOf i = s.srcOf i) ∧ Frame (reports [.rng, .deck]) s t := by
  obtain ⟨x, hst, hbuf, ht⟩ := State.excludeSrc_settles (k.val + 1) h
  have hx : x ≠ {} := Src.listed_of_st (by rw [hst]; split <;> decide)
  refine ⟨_, rfl, rfl, ?_, ?_, ?_, fun i hi => ?_, fun i hi => ?_, RngSettled.frame_from (s := s) ht⟩
  · rw [ht.srcOf, State.srcOf_setSrc_listed hx, hst]
  · rw [ht.srcOf, State.srcOf_setSrc_listed hx, hbuf]
  · rw [ht.rng]
    rfl
  · rw [ht.expOf] at hi ⊢
    rw [State.expOf_setSrc] at hi ⊢
    simpa using State.dropSeeds_unfed hi
  · rw [ht.srcOf, State.srcOf_setSrc_other hi]
    rfl

/-- Settles O36: a passed test writes one source; a failed one is an exclusion, which writes that source and drops the seeds it fed; all
that follows either is reports and the settling of the state, which change no source and no expander. -/
theorem noiseSources : Obligations.NoiseSources := by
  unfold Obligations.NoiseSources
  refine ⟨fun n l s hst hl hp => ?_, fun _ _ _ hst hl hp => sourceStartupTestEnd_fails hst hl hp,
    fun _ _ _ hst hl hp => adaptiveWindowEnd_passes hst hl hp, fun _ _ _ hst hl hp => adaptiveWindowEnd_fails hst hl hp,
    fun _ k _ h => sourceExclude_excludes k h, fun n k s h => congrArg Host.Outcome.next (State.excludeSrc_keptOut h)⟩
  obtain ⟨x, t, hx, hone, hbuf, ht⟩ := sourceStartupTestEnd_passes hst hl hp
  have hsrc : (s.setSrc n x).srcOf n = x := State.srcOf_setSrc_listed (Src.listed_of_st (by rw [hone]; decide)) s
  refine ⟨t, hx, ?_, ?_, fun i hi => ?_, fun i => ht.expOf i, RngSettled.frame_from (s := s) ht⟩
  · rw [ht.srcOf, hsrc, hone]
  · rw [ht.srcOf, hsrc, hbuf]
  · rw [ht.srcOf, State.srcOf_setSrc_other hi]

end Sys2Proof.Machine
end

section
/-! PROOFS. The seeds of the expanders, the known-answer tests and raw-sample mode (09_random_numbers.md R376 to R380, R391 to R393,
R403, R405). -/

namespace Sys2Proof.Machine

/-! ## Seeds and reseeds (R376 to R380) -/

/-- The seed is given to the first of the expanders that can take one. -/
theorem State.seedPair_first {i : Nat} {p : Nat × Nat} {s : State} (hi : i < 16) (hp : s.seedPair i = some p)
    (hlow : ∀ j < i, s.seedPair j = none) : (List.range 16).find? (fun j => (s.seedPair j).isSome) = some i := by
  rw [List.find?_range_eq_some]
  exact ⟨by rw [hp]; rfl, List.mem_range.2 hi, fun j hj => by simp [hlow j hj]⟩

/-- A seed makes an expander seeded, from its two sources and as of now, and writes that expander alone. -/
theorem State.seedExp_writes (i a b : Nat) (seed : Bytes) (s : State) :
    ∃ e : Exp, s.seedExp i a b seed = s.setExp i e ∧ e.seeded = true ∧ e.srcs = (a, b) ∧ e.reqs = 0 ∧ e.at_ = s.now :=
  ⟨_, rfl, rfl, rfl, rfl, rfl⟩

/-- The two sources of a seed have given 896 samples each. -/
def State.samplesTaken (a b : Nat) (s : State) : State :=
  (s.setSrc a { s.srcOf a with buf := (s.srcOf a).buf.drop 896 }).setSrc b { s.srcOf b with buf := (s.srcOf b).buf.drop 896 }

theorem State.samplesTaken_buf {s : State} (h : tblWf {} s.rng.src) (a b : Nat) :
    ((s.samplesTaken a b).srcOf a).buf = (s.srcOf a).buf.drop 896 ∧ ((s.samplesTaken a b).srcOf b).buf = (s.srcOf b).buf.drop 896 := by
  have hb : (s.samplesTaken a b).srcOf b = { s.srcOf b with buf := (s.srcOf b).buf.drop 896 } :=
    State.srcOf_setSrc_same (tblSet_wf {} a _ s.rng.src h) b _
  refine ⟨?_, by rw [hb]⟩
  by_cases hab : a = b
  · subst hab
    rw [hb]
  · rw [State.samplesTaken, State.srcOf_setSrc_other hab, State.srcOf_setSrc_same h]

theorem seedReady_seeds {i a b : Nat} {s : State} (hraw : s.rng.rawEn = false) (hcond : s.rng.condFault = false)
    (hkat : s.rng.katBusy ≠ some 16) (hi : i < 16) (hp : s.seedPair i = some (a, b)) (hlow : ∀ j < i, s.seedPair j = none) :
    ∃ (e : Exp) (t : State), exec .seedReady s = .next t ∧ e.seeded = true ∧ e.srcs = (a, b) ∧ e.reqs = 0 ∧ e.at_ = s.now ∧
      RngSettled { (s.samplesTaken a b).setExp i e with rng.cntSeed := s.rng.cntSeed + 1 } t := by
  obtain ⟨e, he, hseeded, hsrcs, hreqs, hat⟩ := (s.samplesTaken a b).seedExp_writes i a b
    (sha384B (packSamples ((s.srcOf a).buf.take 896) ((s.srcOf b).buf.take 896)))
  refine ⟨e, _, ?_, hseeded, hsrcs, hreqs, hat, State.rngSettle_rngSettled _⟩
  change execSeedReady s = _
  unfold execSeedReady
  rw [if_neg (by simp [hraw, hcond, hkat]), State.seedPair_first hi hp hlow]
  simp only [hp]
  rw [← State.samplesTaken, he]
  rfl

/-- The expander that is due waits, at the time its seed is spent; what follows is the settling. -/
theorem expanderReseedDue_unseeds {x : Fin 16} {s : State} (h : (s.expOf x).seeded = true) :
    ∃ u t : State, exec (.expanderReseedDue x) s = .next t ∧ Frame [.time] s u ∧
      RngSettled (u.setExp x { s.expOf x with seeded := false }) t := by
  have hu : Frame [.time] s (if (s.expOf x).reqs < 65536 then s.advance ((s.expOf x).at_ + 100000) else s) :=
    .ite (State.advance_frame ..) (.refl _ s)
  refine ⟨_, _, ?_, hu, State.rngSettle_rngSettled _⟩
  change execExpanderReseedDue x s = _
  unfold execExpanderReseedDue
  dsimp only
  rw [if_neg (by simp [h])]

/-! ## Known-answer tests (R392, R405) -/

/-- RNG_KAT as written, without the test that GO starts. -/
def State.katWritten (v : Word) (s : State) : State := { s with rng.katTarget := v.getLsbD 1, rng.katExp := (v >>> 2).setWidth 4 }

theorem rngKat_ignored {v : Word} {s : State} (h : s.rng.katBusy.isSome = true) : exec (.rngKat v) s = .next (s.katWritten v) :=
  if_pos (by simp [h])

/-- GO starts a test of the conditioner, or of an expander, which is unseeded by it. -/
theorem rngKat_starts {v : Word} {s : State} (h : s.rng.katBusy = none) (hgo : v.getLsbD 0 = true) :
    exec (.rngKat v) s = .next (if v.getLsbD 1 then
        (({ s.katWritten v with rng.katBusy := some ((v >>> 2).setWidth 4 : BitVec 4).toNat } : State).setExp
          ((v >>> 2).setWidth 4 : BitVec 4).toNat
          { ({} : Exp) with out := (s.expOf ((v >>> 2).setWidth 4 : BitVec 4).toNat).out }).rngSettle
      else { s.katWritten v with rng.katBusy := some 16 }) := by
  have hx : exec (.rngKat v) s = execRngKat v s := rfl
  rw [hx, execRngKat, if_neg (by rw [h, hgo]; decide)]
  split <;> rfl

theorem rngKat_expander {v : Word} {s : State} (h : s.rng.katBusy = none) (hgo : v.getLsbD 0 = true) (ht : v.getLsbD 1 = true) :
    ∃ (i : Nat) (e : Exp) (t : State), exec (.rngKat v) s = .next t ∧ i = ((v >>> 2).setWidth 4 : BitVec 4).toNat ∧ e.seeded = false ∧
      RngSettled (({ s.katWritten v with rng.katBusy := some i } : State).setExp i e) t :=
  ⟨_, _, _, (rngKat_starts h hgo).trans (by rw [if_pos ht]), rfl, rfl, State.rngSettle_rngSettled _⟩

theorem rngKat_conditioner {v : Word} {s : State} (h : s.rng.katBusy = none) (hgo : v.getLsbD 0 = true) (ht : v.getLsbD 1 = false) :
    exec (.rngKat v) s = .next { s with rng.katTarget := false, rng.katExp := (v >>> 2).setWidth 4, rng.katBusy := some 16 } := by
  rw [rngKat_starts h hgo, State.katWritten, ht]
  rfl

/-- What the result of a test does to the generator: a failed conditioner is faulty, a failed expander is kept out (R392). -/
def Rng.tested (u : Nat) (pass : Bool) (r : Rng) : Rng :=
  if pass then r
  else if u = 16 then { r with condFault := true }
  else { r with exp := tblSet {} u { ({} : Exp) with out := true } r.exp }

theorem Rng.tested_condFault (u : Nat) (pass : Bool) (r : Rng) : (r.tested u pass).condFault = (r.condFault || (u == 16 && !pass)) := by
  cases pass
  · by_cases hu : u = 16 <;> simp [Rng.tested, hu]
  · simp [Rng.tested]

/-- The registers of the test are not its result's to change. -/
theorem Rng.tested_kat (u : Nat) (pass : Bool) (r : Rng) :
    (r.tested u pass).katBusy = r.katBusy ∧ (r.tested u pass).katPass = r.katPass ∧ (r.tested u pass).katValid = r.katValid := by
  unfold Rng.tested
  split
  · exact ⟨rfl, rfl, rfl⟩
  · split <;> exact ⟨rfl, rfl, rfl⟩

theorem Rng.tested_out {u : Nat} (h : u < 16) (r : Rng) : (tblGet {} (r.tested u false).exp u).out = true := by
  have hr : r.tested u false = { r with exp := tblSet {} u { ({} : Exp) with out := true } r.exp } := by
    rw [Rng.tested, if_neg (by decide), if_neg (by omega)]
  rw [hr, tblGet_tblSet_listed _ u _ r.exp (by decide)]

/-- A test that ends gives its result to the generator and is reported; the last that follows is the settling. -/
theorem State.katResult_settles (u : Nat) (pass startup : Bool) (s : State) :
    ∃ w : State, s.katResult u pass startup = w.rngSettle ∧ RngSettled { s with rng := s.rng.tested u pass } w := by
  unfold State.katResult
  extract_lets cond v w
  have hv : RngSettled s v := State.event_rngSettled ..
  have hw : RngSettled s w := hv.trans (State.rngEvent_rngSettled 8 v)
  unfold Rng.tested
  cases pass
  case true => exact ⟨v, rfl, hv⟩
  case false =>
    simp only [Bool.false_eq_true, if_false]
    by_cases hu : u = 16
    · simp only [cond, hu, if_true]
      exact ⟨_, rfl, hw.change (fun r => { r with condFault := true }) (fun _ _ _ _ _ => rfl)⟩
    · simp only [cond, if_neg hu]
      exact ⟨_, rfl, ((hw.change (fun r => { r with exp := tblSet {} u { ({} : Exp) with out := true } r.exp })
        (fun _ _ _ _ _ => rfl)).trans (State.rngEvent_rngSettled 32 _)).trans (State.event_rngSettled ..)⟩

theorem rngKatEnd_ends {u : Nat} {s : State} (pass : Bool) (h : s.rng.katBusy = some u) :
    ∃ t : State, exec (.rngKatEnd pass) s = .next t ∧ t.rng.katBusy = none ∧ t.rng.katPass = pass ∧ t.rng.katValid = true ∧
      t.rng.condFault = (s.rng.condFault || (u == 16 && !pass)) ∧ (pass = false → u < 16 → (t.expOf u).out = true) ∧
      (t.rng.condFault = true → t.rng.rawEn = false → t.rng.st = 3) ∧ Frame (reports [.rng, .deck]) s t := by
  set r : Rng := { s.rng with katBusy := none, katPass := pass, katValid := true } with hr
  obtain ⟨w, hx, hw⟩ := State.katResult_settles u pass false { s with rng := r }
  have ht := hw.trans w.rngSettle_rngSettled
  obtain ⟨hbusy, hpass, hvalid⟩ := r.tested_kat u pass
  refine ⟨w.rngSettle, ?_, ?_, ?_, ?_, ?_, fun hp hu => ?_, State.rngSettle_condFault, RngSettled.frame_from (s := s) ht⟩
  · change execRngKatEnd pass s = _
    rw [← hx, execRngKatEnd, h]
  · rw [ht.rng]
    exact hbusy
  · rw [ht.rng]
    exact hpass
  · rw [ht.rng]
    exact hvalid
  · rw [ht.rng]
    exact r.tested_condFault u pass
  · rw [ht.expOf, hp]
    exact r.tested_out hu

/-! ## Raw-sample mode (R391, R393, R403) -/

theorem rawEnWrite_refused {v : Word} {s : State} (hv : v.getLsbD 0 = true) (ho : s.hiu.overlay ≠ 1) :
    exec (.rawEnWrite v) s = .next (s.rngEvent 16) := if_pos ⟨hv, ho⟩

/-- RNG_CTRL as written, and a change of RAW_EN reported. -/
def State.rawWritten (en : Bool) (src : BitVec 2) (s : State) : State :=
  let u : State := { s with rng.rawEn := en, rng.rawSrc := src }
  if en = s.rng.rawEn then u else u.event 1142 0x0908 (b2n en) src.toNat 0 0

theorem State.rawWritten_rng (en : Bool) (src : BitVec 2) (s : State) :
    (s.rawWritten en src).rng = { s.rng with rawEn := en, rawSrc := src } := by
  unfold State.rawWritten
  extract_lets r u
  split
  · rfl
  · exact (State.event_frame ..).same .rng (by decide)

theorem State.rawWritten_frame (en : Bool) (src : BitVec 2) (s : State) : Frame (reports [.rng]) s (s.rawWritten en src) :=
  ((Frame.with_rng { s.rng with rawEn := en, rawSrc := src } s).mono (by decide)).trans
    (.ite (.refl _ _) ((State.event_frame ..).mono (by decide)))

theorem rawEnWrite_starts {v : Word} {s : State} (hv : v.getLsbD 0 = true) (ho : s.hiu.overlay = 1) :
    ∃ t : State, exec (.rawEnWrite v) s = .next t ∧ t.rng.rawEn = true ∧ t.rng.rawSrc = (v >>> 1).setWidth 2 ∧ t.rng.st = 4 ∧
      Frame (reports [.rng]) s t := by
  have hx : exec (.rawEnWrite v) s = .next (s.rawWritten true ((v >>> 1).setWidth 2)).rngSettle := by
    change execRawEnWrite v s = _
    rw [execRawEnWrite, hv, if_neg (by simp [ho])]
    exact if_neg (by simp)
  have hrng := s.rawWritten_rng true ((v >>> 1).setWidth 2)
  have hf := s.rawWritten_frame true ((v >>> 1).setWidth 2)
  generalize s.rawWritten true ((v >>> 1).setWidth 2) = w at hx hrng hf
  refine ⟨{ w with rng.st := 4 }, hx.trans (by rw [State.rngSettle_raw (by rw [hrng])]), congrArg Rng.rawEn hrng,
    congrArg Rng.rawSrc hrng, rfl, hf.trans ((Frame.with_rng _ w).mono (by decide))⟩

/-- The generator without a seed and without a sample (R393). -/
def Rng.emptied (r : Rng) : Rng :=
  { r with
    exp := tblMap {} (fun _ e => { ({} : Exp) with out := e.out }) r.exp
    src := tblMap {} (fun _ x => { x with buf := [] }) r.src }

theorem Rng.emptied_seeded (r : Rng) (i : Nat) : (tblGet {} r.emptied.exp i).seeded = false :=
  tblGet_tblMap_of (P := fun e : Exp => e.seeded = false) {} _ r.exp i rfl (fun _ _ => rfl)

theorem Rng.emptied_buf (r : Rng) (n : Nat) : (tblGet {} r.emptied.src n).buf = [] :=
  tblGet_tblMap_of (P := fun x : Src => x.buf = []) {} _ r.src n rfl (fun _ _ => rfl)

theorem rawEnWrite_ends {v : Word} {s : State} (hv : v.getLsbD 0 = false) (hr : s.rng.rawEn = true) :
    ∃ t : State, exec (.rawEnWrite v) s = .next t ∧ t.rng.rawEn = false ∧ (∀ i, (t.expOf i).seeded = false) ∧
      (∀ n, (t.srcOf n).buf = []) ∧ Frame (reports [.rng, .deck]) s t := by
  set w : State := s.rawWritten false ((v >>> 1).setWidth 2) with hw
  have hx : exec (.rawEnWrite v) s = .next ({ w with rng := w.rng.emptied } : State).rngSettle := by
    change execRawEnWrite v s = _
    rw [execRawEnWrite, hv, if_neg (by simp)]
    exact if_pos (by simp [hr])
  have ht := State.rngSettle_rngSettled { w with rng := w.rng.emptied }
  have hraw : w.rng.rawEn = false := by rw [hw, State.rawWritten_rng]
  refine ⟨_, hx, by rw [ht.rng]; exact hraw, fun i => ?_, fun n => ?_,
    ((s.rawWritten_frame false _).mono (by decide)).trans (RngSettled.frame_from (s := w) ht)⟩
  · rw [ht.expOf]
    exact w.rng.emptied_seeded i
  · rw [ht.srcOf]
    exact w.rng.emptied_buf n

/-- Settles O37: each command writes the registers, sources and expanders that the statement names, and ends in reports and the settling
of the state, which change none of them; in raw-sample mode the settling fails no draw. -/
theorem seedsAndTests : Obligations.SeedsAndTests := by
  unfold Obligations.SeedsAndTests
  refine ⟨fun i a b s hraw hcond hkat hi hp hlow hwf => ?seed, fun x s h hwf => ?reseed, fun _ _ h hgo ht => rngKat_conditioner h hgo ht,
    fun v s h hgo ht hwf => ?kat, fun v s h => ⟨_, rngKat_ignored h, rfl, rfl, (Frame.with_rng _ s)⟩,
    fun _ pass _ h => rngKatEnd_ends pass h, fun _ _ hv ho => rawEnWrite_refused hv ho, fun _ _ hv ho => rawEnWrite_starts hv ho,
    fun _ _ hv hr => rawEnWrite_ends hv hr⟩
  case seed =>
    obtain ⟨e, t, hx, hseeded, hsrcs, hreqs, hat, ht⟩ := seedReady_seeds hraw hcond hkat hi hp hlow
    have he : t.expOf i = e := (ht.expOf i).trans
      (State.expOf_setExp_listed (fun h => Bool.noConfusion (hseeded.symm.trans (congrArg Exp.seeded h))) _)
    obtain ⟨ha, hb⟩ := State.samplesTaken_buf hwf a b
    refine ⟨t, hx, by rw [he, hseeded], by rw [he, hsrcs], by rw [he, hreqs], by rw [he, hat], ?_, ?_, fun j hj => ?_, ?_,
      RngSettled.frame_from (s := s) ht⟩
    · exact (congrArg Src.buf (ht.srcOf a)).trans ha
    · exact (congrArg Src.buf (ht.srcOf b)).trans hb
    · exact (ht.expOf j).trans (State.expOf_setExp_other hj e _)
    · rw [ht.rng]
  case reseed =>
    obtain ⟨u, t, hx, hu, ht⟩ := expanderReseedDue_unseeds h
    have hrng : u.rng = s.rng := hu.same .rng (by decide)
    refine ⟨t, hx, ?_, fun j hj => ?_, (hu.mono (by decide)).trans ((RngSettled.frame_from (s := u) ht).mono (by decide))⟩
    · rw [ht.expOf, State.expOf_setExp_same (by rw [hrng]; exact hwf)]
    · rw [ht.expOf, State.expOf_setExp_other hj, State.expOf, hrng, State.expOf]
  case kat =>
    obtain ⟨i, e, t, hx, hi, he, ht⟩ := rngKat_expander h hgo ht
    refine ⟨t, hx, ?_, ?_, RngSettled.frame_from (s := s) ht⟩
    · rw [ht.rng, ← hi]
      rfl
    · rw [ht.expOf, ← hi, State.expOf_setExp_same (by exact hwf), he]

end Sys2Proof.Machine
end

section
/-! PROOFS. Frames of the Trestle link that are received, acknowledged and sent (10_cluster.md R413, R415 to R418, R426, R439,
R441). -/

namespace Sys2Proof.Machine

/-! ## What a received frame does (R415, R417, R439) -/

section
variable {h : Hdr} {a : Assoc} {s : State} {q : Bool} {f : State → State}

theorem State.recv_dropped (hd : s.trsUp = false ∨ h.term < s.term) : s.recv h q f = s :=
  if_pos (by rcases hd with hd | hd <;> simp [hd])

/-- A frame of the member's own term deposes nobody. -/
theorem State.recv_own_term (hup : s.trsUp = true) (ht : h.term = s.term) : s.recv h q f =
    match s.assocOf (s.nbrOf h.src) with
    | none => s
    | some a =>
      let u := s.ackUpTo (s.nbrOf h.src) h.ack
      if !q then u
      else if h.seq = a.got + 1 then
        f ((u.modAssoc (s.nbrOf h.src) (fun a => { a with got := h.seq })).sendOn (s.nbrOf h.src) h.port .ackOnly)
      else if h.seq ≤ a.got then u.sendOn (s.nbrOf h.src) h.port .ackOnly
      else u := by
  have hdep : s.deposed h.term = s := if_neg (by omega)
  rw [State.recv, if_neg (by simp [hup, ht])]
  dsimp only
  rw [hdep] <;> rfl

theorem State.recv_unknown (hup : s.trsUp = true) (ht : h.term = s.term) (ha : s.assocOf (s.nbrOf h.src) = none) :
    s.recv h q f = s := by
  rw [State.recv_own_term hup ht, ha]

/-- What an acknowledgement without a REMOVE releases. -/
theorem State.ackUpTo_kept {n ack : Nat} (ha : s.assocOf n = some a) (hrem : ∀ x ∈ a.unacked, x.1 ≤ ack → x.2.2 ≠ .remove n) :
    s.ackUpTo n ack = s.setAssoc n { a with unacked := a.unacked.filter (fun x => decide (ack < x.1)) } := by
  rw [State.ackUpTo, ha]
  refine if_neg ?_
  simp only [List.any_eq_true, not_exists, not_and, Bool.and_eq_true, decide_eq_true_eq, beq_iff_eq]
  exact hrem

/-- An acknowledged REMOVE ends the association. -/
theorem State.ackUpTo_removed {n ack k t : Nat} (ha : s.assocOf n = some a) (hx : (k, t, Msg.remove n) ∈ a.unacked) (hk : k ≤ ack) :
    s.ackUpTo n ack = { s with trs.assoc := tblSet none n none s.trs.assoc } := by
  rw [State.ackUpTo, ha]
  refine if_pos (List.any_eq_true.2 ⟨_, hx, ?_⟩)
  simp [hk]

theorem State.recv_unsequenced (hup : s.trsUp = true) (ht : h.term = s.term) (ha : s.assocOf (s.nbrOf h.src) = some a) :
    s.recv h false f = s.ackUpTo (s.nbrOf h.src) h.ack := by
  rw [State.recv_own_term hup ht, ha]
  rfl

/-- Reception only writes associations and sends, but at a former abutment that meets a higher term. -/
theorem State.ackUpTo_frame (n ack : Nat) (s : State) : Frame [.trs] s (s.ackUpTo n ack) := by
  unfold State.ackUpTo
  split
  · exact .refl _ s
  · exact .ite (by simp [Frame]) (by simp [Frame])

theorem State.ackUpTo_sameCluster (n ack : Nat) (s : State) : SameCluster s (s.ackUpTo n ack) := by
  unfold State.ackUpTo
  split
  · exact .refl s
  · exact .ite rfl rfl

end

/-! ## The frames under MACsec (R416) -/

/-- CRK_PREPARE that is not the abutment's own check is a received frame. -/
theorem execCrkPrepare_received {h : Hdr} {ep : BitVec 32} {crk : BitVec 256} {l : List (Fn × Bytes)} {s : State}
    (hs : s.role ≠ 1 ∨ h.src ≠ s.member) : ∃ f, exec (.crkPrepare h ep crk l) s = .next (s.recv h true f) :=
  ⟨_, if_neg (not_and_or.2 hs)⟩

/-- Every frame under MACsec is one that is received. -/
theorem exec_macsecFrame {c : Instr} {h : Hdr} {q : Bool} {s : State} (hc : macsecFrame c = some (h, q))
    (hs : s.role ≠ 1 ∨ h.src ≠ s.member) : ∃ f, exec c s = .next (s.recv h q f) := by
  unfold macsecFrame at hc
  split at hc
  all_goals cases hc
  case h_19 => exact execCrkPrepare_received hs
  all_goals exact ⟨_, rfl⟩

/-! ## Sending (R415, R417, R418) -/

/-- A message is numbered, put on the port that carries the association, and held. -/
theorem State.send_carried {n tenant : Nat} {m : Msg} {a : Assoc} {p : Port} {s : State} (ha : s.assocOf n = some a)
    (hp : a.port = some p) : s.send n tenant m = { s with
      trs.assoc := tblSet none n (some { a with sent := a.sent + 1, unacked := a.unacked ++ [(a.sent + 1, tenant, m)] }) s.trs.assoc
      out := s.out ++ [.frame ⟨p, m.srcOf s.member, m.dstOf n, a.sent + 1, a.got, s.term, tenant, !a.failed p⟩ m] } := by
  have hport : Assoc.port { a with sent := a.sent + 1, unacked := a.unacked ++ [(a.sent + 1, tenant, m)] } = some p := hp
  rw [State.send, ha]
  dsimp only
  rw [State.transmit, State.assocOf_setAssoc_same]
  dsimp only
  rw [hport]
  rfl

theorem State.transmit_carried {n : Nat} {x : Nat × Nat × Msg} {a : Assoc} {p : Port} {s : State} (ha : s.assocOf n = some a)
    (hp : a.port = some p) : s.transmit n x = s.emit
      (.frame ⟨p, x.2.2.srcOf s.member, x.2.2.dstOf n, x.1, a.got, s.term, x.2.1, !a.failed p⟩ x.2.2) := by
  rw [State.transmit, ha]
  dsimp only
  rw [hp]
  rfl

/-- Settles O39: a frame under MACsec is received by `State.recv`, whose cases are those of the statement. -/
theorem clusterReception : Obligations.ClusterReception := by
  unfold Obligations.ClusterReception
  refine ⟨?_, ?_, ?_, ?_, ?_, ?_, ?_, ?_, ?_, ?_⟩
  · intro c h q s hc hs hd
    obtain ⟨f, hf⟩ := exec_macsecFrame hc hs
    rw [hf]
    by_cases hup : s.trsUp = true
    · rcases hd with hd | hd | ⟨ht, ha⟩
      · simp [hd] at hup
      · rw [State.recv_dropped (.inr hd)]
      · rw [State.recv_unknown hup ht ha]
    · rw [State.recv_dropped (.inl (by simpa using hup))]
  · intro c h a s hc hs hup ht ha hrem hseq
    obtain ⟨f, hf⟩ := exec_macsecFrame hc hs
    rw [hf, State.recv_own_term hup ht, ha]
    dsimp only
    rw [if_neg (by simp), if_neg hseq, State.ackUpTo_kept ha hrem, State.sendOn, State.assocOf_setAssoc_same]
    split <;> rfl
  · intro h a s hup ht ha hrem
    refine ⟨congrArg Host.Outcome.next ?_, rfl⟩
    rw [State.recv_unsequenced hup ht ha, State.ackUpTo_kept ha hrem]
    rfl
  · intro h a q t s hup ht ha hx hq
    exact congrArg Host.Outcome.next ((State.recv_unsequenced hup ht ha).trans (State.ackUpTo_removed ha hx hq))
  · intro h s hup hr ht
    have hdep : s.deposed h.term = { s with trs.deciding := false, trs.cstate := 2 } := if_pos ⟨hr, ht⟩
    refine ⟨s.recv h false id, rfl, ?_⟩
    rw [State.recv, if_neg (by simp [hup]; omega)]
    dsimp only
    rw [hdep]
    split
    · simp [Frame]
    · have hk := State.ackUpTo_sameCluster (s.nbrOf h.src) h.ack { s with trs.deciding := false, trs.cstate := 2 }
      refine ⟨(congrArg Trs.deciding hk).trans rfl, (congrArg Trs.cstate hk).trans rfl, ?_⟩
      exact Frame.trans (t := { s with trs.deciding := false, trs.cstate := 2 }) (by simp [Frame]) (State.ackUpTo_frame ..)
  · intro n tenant m a p s ha hp
    exact State.send_carried ha hp
  · intro s
    rfl
  · intro p n a s hup ha
    refine (if_pos hup).trans (congrArg Host.Outcome.next ?_)
    rw [State.sendOn, ha]
    rfl
  · intro n q tenant m l a p s hup ha hu hp
    simp only [exec, execResendTimer, hup, ha, hu, Option.bind_some, List.head?_cons, State.transmit_carried ha hp]
    rfl
  · intro n a s ha hu
    simp only [exec, execResendTimer, ha, hu, Option.bind_some, List.head?_nil]
    split
    · contradiction
    · rfl

end Sys2Proof.Machine
end

section
/-! PROOFS. The failure and the return of Trestle ports, the lease of a span, and the channel keys (10_cluster.md R414, R418 to R420,
R437, R446, R450; that a port event without an association sets the link is the model's choice of log 71, and that a fresh channel has
association number 0 and a rollover the numbers 1 to 3 that of log 68). -/

namespace Sys2Proof.Machine

/-! ## Events of the Trestle link (R446) -/

theorem State.trsEvent_trs (bits : BitVec 7) (s : State) : (s.trsEvent bits).trs = { s.trs with evt := s.trs.evt ||| bits } := by
  unfold State.trsEvent
  extract_lets old u
  refine (apply_ite State.trs ..).trans ?_
  split
  · rfl
  · simp
    rfl

theorem State.trsEvent_frame (bits : BitVec 7) (s : State) : Frame [.hiu, .trs, .out] s (s.trsEvent bits) := by simp [Frame]

theorem State.event06_frame (s : State) : Frame (reports [.free]) s s.event06 := by simp [Frame, reports]

theorem State.setAssoc_frame (n : Nat) (a : Assoc) (s : State) : Frame [.trs] s (s.setAssoc n a) := by simp [Frame]

/-! ## A port fails (R418) -/

/-- The state in which the failure of a port has been counted, flagged and reported; `b` is the association that lost it. -/
def State.portFailed (n : Nat) (b : Assoc) (s : State) : State :=
  ({ (s.setAssoc n b) with trs.cntFailover := s.trs.cntFailover + 1 }.trsEvent 1).event06

section
variable (n : Nat) (b : Assoc) (s : State)

theorem State.portFailed_trs : (s.portFailed n b).trs = { s.trs with
    assoc := tblSet none n (some b) s.trs.assoc, cntFailover := s.trs.cntFailover + 1, evt := s.trs.evt ||| 1 } := by
  have hev : ∀ t : State, t.event06.trs = t.trs := by simp
  rw [State.portFailed, hev, State.trsEvent_trs]
  rfl

theorem State.portFailed_frame : Frame (reports [.trs, .free]) s (s.portFailed n b) :=
  (Frame.trans (t := { (s.setAssoc n b) with trs.cntFailover := s.trs.cntFailover + 1 }) (by simp [Frame, reports])
    ((State.trsEvent_frame ..).mono (by decide))).trans ((State.event06_frame _).mono (by decide))

theorem State.portFailed_assocOf : (s.portFailed n b).assocOf n = some b := by
  rw [State.assocOf, State.portFailed_trs]
  exact tblGet_tblSet_listed none n (some b) _ (by simp)

theorem State.portFailed_anc : (s.portFailed n b).anc = s.anc := (s.portFailed_frame n b).same .anc (by decide)

theorem State.portFailed_now : (s.portFailed n b).now = s.now := ((s.portFailed_frame n b).same .time (by decide)).1

end

theorem execPortFail_fails {p : Port} {n : Nat} {a : Assoc} {s : State} (hup : s.trsUp = true) (ha : s.assocOf n = some a)
    (hf : a.failed p = false) : exec (.portFail p n) s = .next (
      let t := s.portFailed n (a.setFail p true)
      if (a.setFail p true).port.isNone then t.nbrLost n
      else if a.port = some p then (a.setFail p true).unacked.foldl (fun (s : State) x => s.transmit n x) t
      else t) := by
  have hgo : (!s.trsUp || a.failed p) = false := by simp [hup, hf]
  simp only [exec, execPortFail, ha, hgo, Bool.false_eq_true, if_false]
  rw [apply_ite Host.Outcome.next, apply_ite Host.Outcome.next]
  rfl

theorem State.term_congr {s u : State} (h : u.anc = s.anc) : u.term = s.term := by rw [State.term, State.ancGet_congr h]; rfl

theorem Frame.with_out (o : List Out) (s : State) : Frame [.out] s { s with out := o } := by simp [Frame]

/-- Every message of a list is sent on the port that carries the association. -/
theorem State.transmitAll_carried {n : Nat} {a : Assoc} {p : Port} (hp : a.port = some p) (l : List (Nat × Nat × Msg)) {s : State}
    (ha : s.assocOf n = some a) : l.foldl (fun (s : State) x => s.transmit n x) s = { s with
      out := s.out ++ l.map (fun x => .frame
        ⟨p, x.2.2.srcOf s.member, x.2.2.dstOf n, x.1, a.got, s.term, x.2.1, !a.failed p⟩ x.2.2) } := by
  induction l generalizing s with
  | nil => simp
  | cons x l ih =>
    have hx : (s.transmit n x).assocOf n = some a := by rw [State.assocOf, State.transmit_trs]; exact ha
    rw [List.foldl_cons, ih hx, State.transmit_carried ha hp, List.map_cons]
    simp only [State.emit, List.append_assoc, List.singleton_append]
    rfl

/-- The loss of the abutment is noted by a pylon (R440). -/
def State.abutmentLost (n : Nat) (s : State) : State :=
  if n = s.trs.abutment ∧ s.role = 2 then { s with trs.abutLostAt := some s.now } else s

/-- The loss of the parent is noted and flagged (R420). -/
def State.parentLost (n : Nat) (s : State) : State :=
  if s.role ≠ 1 ∧ n = s.parentNo then ({ s with trs.lostAt := some s.now, trs.cstate := 4 }).trsEvent 32 else s

section
variable (n : Nat) (s : State)

theorem State.abutmentLost_trs : (s.abutmentLost n).trs = { s.trs with
    abutLostAt := if n = s.trs.abutment ∧ s.role = 2 then some s.now else s.trs.abutLostAt } := by
  unfold State.abutmentLost
  split <;> rfl

theorem State.abutmentLost_frame : Frame [.trs] s (s.abutmentLost n) := .ite (by simp [Frame]) (.refl ..)

theorem State.parentLost_trs : (s.parentLost n).trs = { s.trs with
    lostAt := if s.role ≠ 1 ∧ n = s.parentNo then some s.now else s.trs.lostAt
    cstate := if s.role ≠ 1 ∧ n = s.parentNo then 4 else s.trs.cstate
    evt := if s.role ≠ 1 ∧ n = s.parentNo then s.trs.evt ||| 32 else s.trs.evt } := by
  unfold State.parentLost
  split
  · exact State.trsEvent_trs ..
  · rfl

theorem State.parentLost_frame : Frame [.hiu, .trs, .out] s (s.parentLost n) :=
  .ite (Frame.trans (t := { s with trs.lostAt := some s.now, trs.cstate := 4 }) (by simp [Frame]) (State.trsEvent_frame ..)) (.refl ..)

end

theorem State.nbrLost_noted {n : Nat} {b : Assoc} {s : State} (hb : s.assocOf n = some b) :
    s.nbrLost n = ((s.setAssoc n { b with lostAt := some s.now }).abutmentLost n).parentLost n := by
  rw [State.nbrLost, State.modAssoc, hb]
  rfl

/-- With both ports failed the neighbour is lost: the parent, the abutment, or a child (R420, R440). -/
theorem State.nbrLost_trs {n : Nat} {b : Assoc} {s : State} (hb : s.assocOf n = some b) : (s.nbrLost n).trs = { s.trs with
    assoc := tblSet none n (some { b with lostAt := some s.now }) s.trs.assoc
    abutLostAt := if n = s.trs.abutment ∧ s.role = 2 then some s.now else s.trs.abutLostAt
    lostAt := if s.role ≠ 1 ∧ n = s.parentNo then some s.now else s.trs.lostAt
    cstate := if s.role ≠ 1 ∧ n = s.parentNo then 4 else s.trs.cstate
    evt := if s.role ≠ 1 ∧ n = s.parentNo then s.trs.evt ||| 32 else s.trs.evt } := by
  have hf := State.abutmentLost_frame n (s.setAssoc n { b with lostAt := some s.now })
  have hanc : ((s.setAssoc n { b with lostAt := some s.now }).abutmentLost n).anc = s.anc := (hf.same .anc (by decide)).trans rfl
  have hnow : ((s.setAssoc n { b with lostAt := some s.now }).abutmentLost n).now = s.now := (hf.same .time (by decide)).1.trans rfl
  rw [State.nbrLost_noted hb, State.parentLost_trs, State.abutmentLost_trs, State.role_congr hanc, State.parentNo_congr hanc, hnow]
  rfl

theorem State.nbrLost_frame {n : Nat} {b : Assoc} {s : State} (hb : s.assocOf n = some b) :
    Frame [.hiu, .trs, .out] s (s.nbrLost n) := by
  rw [State.nbrLost_noted hb]
  exact (((State.setAssoc_frame ..).mono (by decide)).trans
    ((State.abutmentLost_frame ..).mono (by decide))).trans (State.parentLost_frame ..)

/-! ## A port returns (R419, R425) -/

/-- A pylon that hears the abutment again has not lost it (R440). -/
def State.abutmentBack (n : Nat) (s : State) : State := if n = s.trs.abutment then { s with trs.abutLostAt := none } else s

/-- A regained parent is to be rejoined (R425). -/
def State.parentBack (n : Nat) (s : State) : State :=
  if s.role ≠ 1 ∧ n = s.parentNo ∧ s.trs.cstate = 4 then { s with trs.cstate := 2 } else s

/-- The state in which a port is healthy again for a neighbour; `b` is the association that regained it. -/
def State.portRegained (n : Nat) (b : Assoc) (s : State) : State :=
  (((s.setAssoc n b).trsEvent 2).abutmentBack n).parentBack n

theorem execPortRecover_failed {p : Port} {n : Nat} {a : Assoc} {s : State} (hup : s.trsUp = true) (ha : s.assocOf n = some a)
    (hf : a.failed p = true) :
    exec (.portRecover p n) s = .next (s.portRegained n { a.setFail p false with lostAt := none }) := by
  have hgo : (!s.trsUp || !a.failed p) = false := by simp [hup, hf]
  simp only [exec, execPortRecover, ha, hgo, Bool.false_eq_true, if_false]
  exact (apply_ite Host.Outcome.next ..).symm

section
variable (n : Nat) (s : State)

theorem State.abutmentBack_trs : (s.abutmentBack n).trs = { s.trs with
    abutLostAt := if n = s.trs.abutment then none else s.trs.abutLostAt } := by
  unfold State.abutmentBack
  split <;> rfl

theorem State.abutmentBack_frame : Frame [.trs] s (s.abutmentBack n) := .ite (by simp [Frame]) (.refl ..)

theorem State.parentBack_trs : (s.parentBack n).trs = { s.trs with
    cstate := if s.role ≠ 1 ∧ n = s.parentNo ∧ s.trs.cstate = 4 then 2 else s.trs.cstate } := by
  unfold State.parentBack
  split <;> rfl

theorem State.parentBack_frame : Frame [.trs] s (s.parentBack n) := .ite (by simp [Frame]) (.refl ..)

variable (b : Assoc)

theorem State.regained_frame : Frame [.hiu, .trs, .out] s (((s.setAssoc n b).trsEvent 2).abutmentBack n) :=
  (((State.setAssoc_frame n b s).mono (by decide)).trans (State.trsEvent_frame ..)).trans
    ((State.abutmentBack_frame ..).mono (by decide))

theorem State.portRegained_frame : Frame [.hiu, .trs, .out] s (s.portRegained n b) :=
  (s.regained_frame n b).trans ((State.parentBack_frame ..).mono (by decide))

theorem State.portRegained_trs : (s.portRegained n b).trs = { s.trs with
    assoc := tblSet none n (some b) s.trs.assoc
    evt := s.trs.evt ||| 2
    abutLostAt := if n = s.trs.abutment then none else s.trs.abutLostAt
    cstate := if s.role ≠ 1 ∧ n = s.parentNo ∧ s.trs.cstate = 4 then 2 else s.trs.cstate } := by
  have hanc := (s.regained_frame n b).same .anc (by decide)
  rw [State.portRegained, State.parentBack_trs, State.role_congr hanc, State.parentNo_congr hanc, State.abutmentBack_trs,
    State.trsEvent_trs]
  rfl

end

/-! ## Channel keys (R414) -/

theorem State.treeNbr_congr {s u : State} (h : u.anc = s.anc) (n : Nat) : u.treeNbr n = s.treeNbr n := by
  simp only [State.treeNbr, State.role_congr h, State.parentNo_congr h, State.member_congr h]

/-- Keys of a fresh channel make a new association. -/
theorem State.installSak_fresh {n : Nat} {k : Sak} {s : State} (hk : k.an = 0 ∨ s.assocOf n = none) :
    s.installSak n k = s.setAssoc n ⟨s.treeNbr n, 0, 0, [], k, none, false, false, none⟩ := by
  unfold State.installSak
  split
  · rename_i a ha
    exact if_pos (hk.resolve_right (by rw [ha]; simp))
  · rfl

/-- Later keys keep the ones before them. -/
theorem State.installSak_later {n : Nat} {k : Sak} {a : Assoc} {s : State} (hk : k.an ≠ 0) (ha : s.assocOf n = some a) :
    s.installSak n k = s.setAssoc n { a with keys := k, prev := some a.keys } := by
  rw [State.installSak, ha]
  exact if_neg hk

/-! ## Draws of the MSS (R385) -/

/-- Whatever state a draw answers is framed by `l`. -/
def DrawRes.Framed (l : List Part) (s : State) : DrawRes → Prop
  | .ok _ t => Frame l s t
  | .stall => True
  | .fail t => Frame l s t

theorem State.rngTake_framed (n : Nat) (s : State) : (s.rngTake n).Framed [.rng] s := by
  cases h : s.rngTake n with
  | ok b u => exact s.rngTake_frame n u b h
  | stall => trivial
  | fail u =>
    rw [(s.rngTake_failed n u h).2]
    simp [DrawRes.Framed, Frame]

theorem State.mssDraws_framed (n : Nat) (s : State) : (s.mssDraws n).Framed [.rng] s := by
  induction n generalizing s with
  | zero => exact Frame.refl _ s
  | succ n ih =>
    rw [State.mssDraws]
    have h := s.rngTake_framed 8
    cases hr : s.rngTake 8 with
    | ok b u =>
      rw [hr] at h
      have hu := ih u
      dsimp only
      cases hm : u.mssDraws n with
      | ok b' v => rw [hm] at hu; exact Frame.trans h hu
      | stall => trivial
      | fail v => rw [hm] at hu; exact Frame.trans h hu
    | stall => trivial
    | fail u => rw [hr] at h; exact h

theorem State.mssDraw_framed (n : Nat) (s : State) : (s.mssDraw n).Framed [.rng] s := by
  have h := s.mssDraws_framed ((n + 7) / 8)
  unfold State.mssDraw
  split
  · rename_i hd
    rwa [hd] at h
  · exact h

theorem State.mssDraw_frame {n : Nat} {b : Bytes} {s u : State} (h : s.mssDraw n = .ok b u) : Frame [.rng] s u := by
  have hf := s.mssDraw_framed n
  rwa [h] at hf

theorem State.drawSak_drawn {an : Nat} {f : Sak → State → State} {b : Bytes} {s u : State} (h : s.mssDraw 44 = .ok b u) :
    s.drawSak an f = f ⟨an, BitVec.ofNat 256 (beNat (sub b 0 32)), BitVec.ofNat 96 (beNat (sub b 32 12))⟩ u := by
  rw [State.drawSak, h]

/-- A message sent is numbered and held, whether or not a port carries it. -/
theorem State.send_trs {n : Nat} {a : Assoc} {s : State} (tenant : Nat) (m : Msg) (ha : s.assocOf n = some a) :
    (s.send n tenant m).trs = { s.trs with
      assoc := tblSet none n (some { a with sent := a.sent + 1, unacked := a.unacked ++ [(a.sent + 1, tenant, m)] }) s.trs.assoc } := by
  rw [State.send, ha]
  exact State.transmit_trs ..

theorem State.send_assocOf {n : Nat} {a : Assoc} {s : State} (tenant : Nat) (m : Msg) (ha : s.assocOf n = some a) :
    (s.send n tenant m).assocOf n = some { a with sent := a.sent + 1, unacked := a.unacked ++ [(a.sent + 1, tenant, m)] } := by
  rw [State.assocOf, State.send_trs tenant m ha]
  exact tblGet_tblSet_listed none n _ _ (by simp)

/-- New keys of a child's link are sent to the child and taken into use (R414). -/
def State.rollSak (n : Nat) (k : Sak) (s : State) : State := (s.send n 0xFFFF (.sakSet s.member k)).installSak n k

theorem State.rollSak_taken {n : Nat} {k : Sak} {a : Assoc} {s : State} (hk : k.an ≠ 0) (ha : s.assocOf n = some a) :
    s.rollSak n k = (s.send n 0xFFFF (.sakSet s.member k)).setAssoc n { a with
      keys := k, prev := some a.keys, sent := a.sent + 1, unacked := a.unacked ++ [(a.sent + 1, 0xFFFF, .sakSet s.member k)] } :=
  State.installSak_later hk (State.send_assocOf _ _ ha)

/-- With one child and no other member, one link gets new keys. -/
theorem execSakRollover_one {n : Nat} {a : Assoc} {b : Bytes} {s u : State} (hup : s.trsUp = true) (hr : s.role = 1)
    (hm : s.trs.members = []) (hc : s.children = [n]) (ha : s.assocOf n = some a) (hd : s.mssDraw 44 = .ok b u) :
    exec .sakRollover s = .next (u.rollSak n
      ⟨1 + a.keys.an % 3, BitVec.ofNat 256 (beNat (sub b 0 32)), BitVec.ofNat 96 (beNat (sub b 32 12))⟩) := by
  have hum : u.trs.members = [] := (congrArg Trs.members ((State.mssDraw_frame hd).same .trs (by decide))).trans hm
  have hua : u.assocOf n = some a := by rw [State.assocOf, (State.mssDraw_frame hd).same .trs (by decide)]; exact ha
  have hdef : ∀ (k : Sak) (t : State), (t.send n 0xFFFF (.sakSet t.member k)).installSak n k = t.rollSak n k := fun _ _ => rfl
  have hroll : ∀ k : Sak, k.an ≠ 0 → (u.rollSak n k).trs.members = [] := fun k hk => by
    rw [State.rollSak_taken hk hua, State.setAssoc, State.send_trs _ _ hua]
    exact hum
  simp only [exec, execSakRollover, hup, hr, hc, ha, State.drawSak_drawn hd, List.foldl_cons, List.foldl_nil, Option.map_some,
    Option.getD_some, hdef]
  rw [if_neg (by simp), hroll _ (by simp)]
  rfl

/-! ## The lease of a span (R420) -/

/-- The state of a span whose lease has ended: quarantined for every tenant, without slots of a tenant's key. -/
def State.leaseOver (at_ : Nat) (s : State) : State :=
  (({ s.advance (at_ + 1000 * (s.clTimeout / 2)) with trs.quarAll := true } : State).staleWhere
    (fun x => hKeyId x.hdr != 0xFFFFFFFFFFFFFFFF)).trsEvent 4

/-- A slot of the second tier that is left is not one that the predicate names. -/
theorem State.staleWhere_t2 {p : Slot → Bool} {s : State} {k : Nat} {x : Slot} (h : tblGet none (s.staleWhere p).keys.t2 k = some x) :
    p x = false := by
  have hm := (List.mem_filter.1 (mem_of_tblGet h (by simp))).2
  simpa using hm

theorem State.leaseOver_trs (at_ : Nat) (s : State) : (s.leaseOver at_).trs = { s.trs with quarAll := true, evt := s.trs.evt ||| 4 } := by
  rw [State.leaseOver, State.trsEvent_trs]
  simp

theorem State.leaseOver_frame (at_ : Nat) (s : State) : Frame [.hiu, .keys, .trs, .time, .out] s (s.leaseOver at_) := by
  simp [Frame, State.leaseOver]

theorem State.leaseOver_now (at_ : Nat) (s : State) : (s.leaseOver at_).now = max s.now (at_ + 1000 * (s.clTimeout / 2)) := by
  simp [State.leaseOver, State.advance_now]

/-- No slot of the second tier that is left holds a tenant's key. -/
theorem State.leaseOver_t2 {at_ k : Nat} {x : Slot} {s : State} (h : tblGet none (s.leaseOver at_).keys.t2 k = some x) :
    hKeyId x.hdr = 0xFFFFFFFFFFFFFFFF := by
  have hev : ∀ t : State, (t.trsEvent 4).keys = t.keys := by simp
  rw [State.leaseOver, hev] at h
  simpa using State.staleWhere_t2 h

/-- Settles O40: a port event writes one association, its counter and flags, and sends again what is held. -/
theorem portsAndChannels : Obligations.PortsAndChannels := by
  unfold Obligations.PortsAndChannels
  refine ⟨?_, ?_, ?_, ?_, ?_, ?_, ?_, ?_, ?_, ?_, ?_, ?_⟩
  · intro p n b s ha
    cases b <;> simp [exec, execPortFail, execPortRecover, ha]
  · intro n a s hup ha hfa hfb
    have hport : (a.setFail .a true).port = some .b := by simp [Assoc.setFail, Assoc.port, hfb]
    have hx := execPortFail_fails (p := .a) hup ha hfa
    have hsend := State.transmitAll_carried hport a.unacked (s.portFailed_assocOf n (a.setFail .a true))
    have hanc := s.portFailed_anc n (a.setFail .a true)
    dsimp only at hx
    rw [hport, if_neg (by simp), if_pos (by simp [Assoc.port, hfa])] at hx
    refine ⟨_, hx.trans (congrArg _ hsend), ?_, ?_, ?_, ?_, ?_, ?_⟩
    · exact s.portFailed_assocOf n (a.setFail .a true)
    · exact (congrArg Trs.cntFailover (s.portFailed_trs n _)).trans rfl
    · exact (congrArg (fun x : Trs => x.evt.getLsbD 0) (s.portFailed_trs n _)).trans (by simp)
    · intro x hxm
      refine List.mem_append_right _ (List.mem_map.2 ⟨x, hxm, ?_⟩)
      rw [State.member_congr hanc, State.term_congr hanc]
      simp [Assoc.setFail, Assoc.failed, hfb]
    · exact (congrArg Trs.lostAt (s.portFailed_trs n _)).trans rfl
    · exact (s.portFailed_frame n _).trans ((Frame.with_out ..).mono (by decide))
  · intro n a s hup ha hfa hfb
    have hport : (a.setFail .b true).port = some .a := by simp [Assoc.setFail, Assoc.port, hfa]
    have hx := execPortFail_fails (p := .b) hup ha hfb
    dsimp only at hx
    rw [hport, if_neg (by simp), if_neg (by simp [Assoc.port, hfa])] at hx
    refine ⟨_, hx, ?_, ?_, ?_, ?_⟩
    · exact s.portFailed_assocOf n (a.setFail .b true)
    · exact (congrArg Trs.cntFailover (s.portFailed_trs n _)).trans rfl
    · exact (congrArg Trs.lostAt (s.portFailed_trs n _)).trans rfl
    · exact s.portFailed_frame n _
  · intro p n a s hup ha hf hport
    have hx := execPortFail_fails (p := p) hup ha hf
    simp only [hport, Option.isNone_none, if_true] at hx
    have hb := s.portFailed_assocOf n (a.setFail p true)
    have hanc := s.portFailed_anc n (a.setFail p true)
    have htrs := State.nbrLost_trs hb
    rw [State.role_congr hanc, State.parentNo_congr hanc, State.portFailed_now] at htrs
    have habut : (s.portFailed n (a.setFail p true)).trs.abutment = s.trs.abutment := by rw [State.portFailed_trs]
    refine ⟨_, hx, ?_, ?_, ?_, ?_⟩
    · rw [State.assocOf, htrs]
      exact tblGet_tblSet_listed none n _ _ (by simp)
    · intro hn hr
      rw [htrs]
      simp [hn, hr]
    · intro hn hr
      rw [htrs]
      exact if_pos ⟨hn.trans habut.symm, hr⟩
    · exact (s.portFailed_frame n _).trans ((State.nbrLost_frame hb).mono (by decide))
  · intro p n a s hup ha hf
    refine ⟨_, execPortRecover_failed hup ha hf, ?_, ?_, ?_, s.portRegained_frame n _⟩
    · rw [State.assocOf, State.portRegained_trs]
      exact tblGet_tblSet_listed none n _ _ (by simp)
    · rw [State.portRegained_trs]
      simp
    · intro hr hn hc
      rw [State.portRegained_trs]
      exact if_pos ⟨hr, hn, hc⟩
  · intro at_ s hl hr hc hq
    refine ⟨s.leaseOver at_, ?_, ?_, ?_, ?_, ?_, s.leaseOver_frame at_⟩
    · simp only [exec, execLeaseExpiry, hl]
      exact if_pos ⟨hr, hc, by simp [hq]⟩
    · rw [State.leaseOver_trs]
    · rw [State.leaseOver_trs]
      simp
    · exact s.leaseOver_now at_
    · exact fun k x hx => State.leaseOver_t2 hx
  · intro s hs
    simp only [exec, execLeaseExpiry]
    split
    · rename_i at_ hl
      refine if_neg fun hgo => ?_
      obtain ⟨hr, hc, hq⟩ := hgo
      rcases hs with h | h | h
      · simp [hl] at h
      · exact h hr
      · simp [h] at hq
    · rfl
  · intro h n k s u hu hfwd hk
    refine congrArg Host.Outcome.next ((hu.recv _).trans ?_)
    dsimp only
    rw [State.role_congr hu.anc, if_neg (by omega), State.installSak_fresh hk, State.treeNbr_congr hu.anc]
    rfl
  · intro h n k a s u hu hfwd hk ha
    refine congrArg Host.Outcome.next ((hu.recv _).trans ?_)
    dsimp only
    rw [State.role_congr hu.anc, if_neg (by omega), State.installSak_later hk ha]
    rfl
  · intro n a s ha
    refine congrArg Host.Outcome.next ?_
    rw [State.modAssoc, ha]
    rfl
  · intro n a b u s hup hr hm hc ha hd
    have hf := State.mssDraw_frame hd
    have hua : u.assocOf n = some a := by rw [State.assocOf, hf.same .trs (by decide)]; exact ha
    refine ⟨_, _, execSakRollover_one hup hr hm hc ha hd, rfl, ?_, ?_⟩
    · rw [State.rollSak_taken (by simp) hua, State.assocOf_setAssoc_same, State.member_congr (hf.same .anc (by decide))]
    · rw [State.rollSak_taken (by simp) hua]
      exact (hf.mono (by decide)).trans (((State.send_frame ..).mono (by decide)).trans ((State.setAssoc_frame ..).mono (by decide)))
  · intro s hs
    refine if_pos ?_
    rcases hs with h | h <;> simp [h]

end Sys2Proof.Machine
end

section
/-! PROOFS. What sending messages to neighbours leaves of the module (10_cluster.md R415 to R418). -/

namespace Sys2Proof.Machine

/-! ## Entries of a table that is written -/

/-- An entry stays listed when an index is written, unless it is that index's own. -/
theorem mem_tblSet {α : Type} [DecidableEq α] {d : α} {k j : Nat} {v w : α} {t : Tbl α} (hw : w ≠ d) (h : (j, v) ∈ t) :
    (j, v) ∈ tblSet d k w t ∨ (j = k ∧ v = tblGet d t k) := by
  induction t with
  | nil => cases h
  | cons e t ih =>
    obtain ⟨a, x⟩ := e
    simp only [tblSet, tblCons, if_neg hw, tblGet]
    split
    · exact .inl (List.mem_cons_of_mem _ h)
    · split
      · rename_i he
        subst he
        rcases List.mem_cons.1 h with h | h
        · cases h
          exact .inr ⟨rfl, by simp⟩
        · exact .inl (List.mem_cons_of_mem _ h)
      · rename_i he
        rcases List.mem_cons.1 h with h | h
        · exact .inl (h ▸ List.mem_cons_self ..)
        · refine (ih h).imp (List.mem_cons_of_mem _) fun ⟨hj, hv⟩ => ⟨hj, hv⟩

/-! ## Sending (R415, R417) -/

/-- From `s` to `t` messages are sent: associations number and hold them or note what was received, what was sent before stays sent, and
the neighbours and what is known of their loss are the same. -/
structure Sent (s t : State) : Prop where
  frame : Frame [.trs, .out] s t
  trs : t.trs = { s.trs with assoc := t.trs.assoc }
  sent : s.out <+: t.out
  neighbours : ∀ n ∈ s.neighbours, n ∈ t.neighbours
  lost : ∀ n, (t.assocOf n).map Assoc.lostAt = (s.assocOf n).map Assoc.lostAt

namespace Sent

variable {s t u : State}

theorem refl (s : State) : Sent s s := ⟨.refl _ s, rfl, List.prefix_refl _, fun _ h => h, fun _ => rfl⟩

theorem trans (h : Sent s t) (k : Sent t u) : Sent s u where
  frame := h.frame.trans k.frame
  trs := by rw [k.trs, h.trs]
  sent := h.sent.trans k.sent
  neighbours := fun n hn => k.neighbours n (h.neighbours n hn)
  lost := fun n => (k.lost n).trans (h.lost n)

theorem ite {c : Prop} [Decidable c] (ht : Sent s t) (hu : Sent s u) : Sent s (if c then t else u) := by
  split
  · exact ht
  · exact hu

theorem foldl {α : Type} (f : State → α → State) (h : ∀ (s : State) (a : α), Sent s (f s a)) (xs : List α) (s : State) :
    Sent s (xs.foldl f s) := by
  induction xs generalizing s with
  | nil => exact refl s
  | cons x xs ih => exact (h s x).trans (ih (f s x))

/-- An association is written that stays one of the tree and as lost as it was, and messages are put on the ports. -/
theorem of_assoc {n : Nat} {a b : Assoc} (l : List Out) (ha : s.assocOf n = some a) (ht : b.tree = a.tree)
    (hl : b.lostAt = a.lostAt) : Sent s { s with trs.assoc := tblSet none n (some b) s.trs.assoc, out := s.out ++ l } where
  frame := by simp [Frame]
  trs := rfl
  sent := List.prefix_append ..
  neighbours := by
    intro m hm
    obtain ⟨⟨j, x⟩, hx, hj⟩ := List.mem_filterMap.1 hm
    refine List.mem_filterMap.2 ?_
    rcases mem_tblSet (d := none) (k := n) (w := some b) (by simp) hx with hx | ⟨rfl, rfl⟩
    · exact ⟨_, hx, hj⟩
    · rw [show tblGet none s.trs.assoc j = some a from ha] at hj
      refine ⟨(j, some b), mem_of_tblGet (tblGet_tblSet_listed none j (some b) _ (by simp)) (by simp), ?_⟩
      dsimp only at hj ⊢
      rwa [ht]
  lost := by
    intro m
    by_cases hm : n = m
    · subst hm
      rw [ha, State.assocOf, tblGet_tblSet_listed none n (some b) _ (by simp), Option.map_some, Option.map_some, hl]
    · exact congrArg _ (tblGet_tblSet_elsewhere none n m (some b) s.trs.assoc hm)

theorem send (n tenant : Nat) (m : Msg) (s : State) : Sent s (s.send n tenant m) := by
  cases ha : s.assocOf n with
  | none => rw [State.send, ha]; exact refl s
  | some a =>
    cases hp : a.port with
    | some p => rw [State.send_carried ha hp]; exact of_assoc _ ha rfl rfl
    | none =>
      have hport : Assoc.port { a with sent := a.sent + 1, unacked := a.unacked ++ [(a.sent + 1, tenant, m)] } = none := hp
      rw [State.send, ha]
      dsimp only
      rw [State.transmit, State.assocOf_setAssoc_same]
      dsimp only
      rw [hport]
      simpa [State.setAssoc] using of_assoc (b := { a with sent := a.sent + 1, unacked := a.unacked ++ [(a.sent + 1, tenant, m)] })
        [] ha rfl rfl

theorem sendUp (tenant : Nat) (m : Msg) (s : State) : Sent s (s.sendUp tenant m) := send ..

theorem sendDown (tenant : Nat) (m : Msg) (s : State) : Sent s (s.sendDown tenant m) :=
  foldl _ (fun t n => send n tenant m t) _ s

theorem sendResync (m : Nat) (ts : List Nat) (s : State) : Sent s (s.sendResync m ts) := foldl _ (fun _ _ => send ..) ts s

theorem heard {h : Hdr} (hu : Heard h s u) : Sent s u := by
  obtain ⟨a, -, -, ha, -, -, rfl⟩ := hu
  exact of_assoc _ ha rfl rfl

section
variable (h : Sent s t)
include h

theorem anc : t.anc = s.anc := h.frame.same .anc (by decide)

theorem mss : t.mss = s.mss := h.frame.same .mss (by decide)

theorem pwr : t.pwr = s.pwr := h.frame.same .pwr (by decide)

theorem now : t.now = s.now := (h.frame.same .time (by decide)).1

theorem pylons : t.pylons = s.pylons := by rw [State.pylons, h.trs, State.member_congr h.anc]; rfl

theorem pylonCount : t.pylonCount = s.pylonCount := by rw [State.pylonCount, h.pylons, State.role_congr h.anc]; rfl

theorem children : ∀ n ∈ s.children, n ∈ t.children := by
  intro n hn
  simp only [State.children, List.mem_filter] at hn ⊢
  rw [State.role_congr h.anc, State.parentNo_congr h.anc]
  exact ⟨h.neighbours n hn.1, hn.2⟩

/-- A neighbour is as reachable as before. -/
theorem unreachable (n : Nat) : t.unreachable n = s.unreachable n := by
  have hl := h.lost n
  have hc : t.clTimeout = s.clTimeout := by rw [State.clTimeout, h.trs]; rfl
  simp only [State.unreachable, h.now, hc]
  cases hs : s.assocOf n <;> cases ht : t.assocOf n <;> simp_all

end

end Sent

/-- A message to all children goes out on the port of each that has one. -/
theorem State.sendDown_frame_mem {c : Nat} {a : Assoc} {p : Port} {s : State} (tenant : Nat) (m : Msg) (hc : c ∈ s.children)
    (ha : s.assocOf c = some a) (hp : a.port = some p) :
    .frame ⟨p, m.srcOf s.member, m.dstOf c, a.sent + 1, a.got, s.term, tenant, !a.failed p⟩ m ∈ (s.sendDown tenant m).out := by
  have key : ∀ (l : List Nat) (t : State), c ∈ l → t.anc = s.anc → t.assocOf c = some a →
      .frame ⟨p, m.srcOf s.member, m.dstOf c, a.sent + 1, a.got, s.term, tenant, !a.failed p⟩ m ∈
        (l.foldl (fun (s : State) n => s.send n tenant m) t).out := by
    intro l
    induction l with
    | nil => intro t h; cases h
    | cons n l ih =>
      intro t hm hanc hta
      rw [List.foldl_cons]
      by_cases hn : n = c
      · subst hn
        refine (Sent.foldl _ (fun t n => Sent.send n tenant m t) l _).sent.subset ?_
        rw [State.send_carried hta hp, State.member_congr hanc, State.term_congr hanc]
        exact List.mem_append_right _ (List.mem_singleton_self _)
      · refine ih _ ((List.mem_cons.1 hm).resolve_left (Ne.symm hn)) ((Sent.send n tenant m t).anc.trans hanc) ?_
        rw [← hta]
        cases hna : t.assocOf n with
        | none => rw [State.send, hna]
        | some b =>
          rw [State.assocOf, State.send_trs tenant m hna]
          exact tblGet_tblSet_elsewhere none n c _ _ hn
  exact key _ s hc rfl ha

end Sys2Proof.Machine
end

section
/-! PROOFS. Enrolment, rejoin and removal (10_cluster.md R408, R416, R421 to R427; that enrolment needs a good Keystone is the model's
choice of log 72). -/

namespace Sys2Proof.Machine

/-! ## Unprotected messages (R416) -/

theorem State.sendEnrol_linked {dst : Nat} {m : Msg} {s : State} (hl : s.trs.linkA = true) :
    s.sendEnrol dst m = s.emit (.frame ⟨.a, s.member, dst, 0, 0, s.term, 0xFFFF, false⟩ m) := if_pos hl

theorem State.sendEnrol_unlinked {dst : Nat} {m : Msg} {s : State} (ha : s.trs.linkA = false) (hb : s.trs.linkB = false) :
    s.sendEnrol dst m = s := (if_neg (by simp [ha])).trans (if_neg (by simp [hb]))

theorem State.sendEnrol_frame (dst : Nat) (m : Msg) (s : State) : Frame [.out] s (s.sendEnrol dst m) := by simp [Frame]

/-! ## What depends on the anchor words alone -/

section
variable {s u : State} (h : u.anc = s.anc)
include h

theorem State.enrolled_congr : u.enrolled = s.enrolled := by rw [State.enrolled, State.member_congr h]; rfl

theorem State.crkEpoch_congr : u.crkEpoch = s.crkEpoch := by rw [State.crkEpoch, State.ancGet_congr h]; rfl

theorem State.ckseqs_congr : u.ckseqs = s.ckseqs := by simp only [State.ckseqs, State.ancGet_congr h]

end

/-- The enrolment that the abutment awaits or serves. -/
def State.setEnrol (e : Option Enrol) (s : State) : State := { s with trs.enrol := e }

/-- The abutment's records of the members. -/
def State.setMembers (l : Tbl (Option Member)) (s : State) : State := { s with trs.members := l }

theorem State.setEnrol_frame (e : Option Enrol) (s : State) : Frame [.trs] s (s.setEnrol e) := by simp [State.setEnrol, Frame]

theorem State.setMembers_frame (l : Tbl (Option Member)) (s : State) : Frame [.trs] s (s.setMembers l) := by
  simp [State.setMembers, Frame]

/-! ## Challenge and response (R421, R422) -/

/-- The abutment that has challenged a joiner: the enrolment holds the nonce and the ephemeral key that were drawn, and the report goes
out with them. -/
def State.challenged (e : Enrol) (dst : Nat) (b : Bytes) (u : State) : State :=
  let pub := (ephemeral (sub b 32 56)).2
  ({ u with
    mss.reports := u.mss.reports + 1
    trs.enrol := some { e with nonce := sub b 0 32, priv := (ephemeral (sub b 32 56)).1, pub := pub } } : State).sendEnrol dst
      (.enrolChallenge (sub b 0 32) (u.report 2 0xFFFF (sub b 0 32) (sha384B pub) (sub b 88 56)).1 (fit 224 Config.dikCert) pub)

theorem State.challenge_drawn {e : Enrol} {dst : Nat} {b : Bytes} {s u : State} (hd : s.mssDraw 144 = .ok b u) :
    s.challenge e dst = u.challenged e dst b := by
  have hn : s.mssDraw (32 + 2 * scalarDraw) = .ok b u := hd
  rw [State.challenge, hn]
  rfl

theorem execEnrolHello_challenge {h : Hdr} {serial iv : DWord} {e : Enrol} {b : Bytes} {s u : State} (hup : s.trsUp = true)
    (hk : s.ks.checkOk = true) (hr : s.role = 1) (hdec : s.trs.deciding = true) (he : s.trs.enrol = some e)
    (hs : e.serial = serial) (hd : s.mssDraw 144 = .ok b u) :
    exec (.enrolHello h serial false iv) s = .next (u.challenged e h.src b) := by
  simp [exec, execEnrolHello, hup, hk, hr, hdec, State.enrolFor, he, hs, State.challenge_drawn hd]

/-- The joiner that has answered a challenge: it holds the nonce and the keys, is enrolling or rejoining, and its report goes out. -/
def State.joining (h : Hdr) (nonce pub b : Bytes) (u : State) : State :=
  let v : State := { u with
    mss.reports := u.mss.reports + 1
    trs.join := some ⟨nonce, (ephemeral (sub b 0 56)).1, (ephemeral (sub b 0 56)).2, pub, u.enrolled⟩
    trs.cstate := if u.enrolled then 2 else 1 }
  v.sendEnrol h.src (.enrolResponse (u.report 2 0xFFFF nonce (sha384B (ephemeral (sub b 0 56)).2) (sub b 56 56)).1
    (fit 224 Config.dikCert) (ephemeral (sub b 0 56)).2 (if u.enrolled then u.ckseqs else []))

/-- A standalone module answers a challenge that verifies, if it may join, and no other. -/
theorem execEnrolChallenge_standalone {h : Hdr} {nonce rep cert pub b : Bytes} {s u : State} (hup : s.trsUp = true) (hr : s.role = 0)
    (hd : s.mssDraw 112 = .ok b u) : exec (.enrolChallenge h nonce rep cert pub) s =
      .next (if s.mayJoin = true ∧ reportOk rep cert nonce pub = true ∧ ecB384.check pub = 0 then u.joining h nonce pub b else s) := by
  have hn : s.mssDraw (2 * scalarDraw) = .ok b u := hd
  simp only [exec, execEnrolChallenge]
  rw [if_neg (by simp [hup]), if_neg (by omega), hn]
  by_cases hgo : s.mayJoin = true ∧ reportOk rep cert nonce pub = true ∧ ecB384.check pub = 0
  · obtain ⟨hj, hrep, hck⟩ := hgo
    rw [if_neg (by simp [hj, hr, hrep, hck]), if_pos ⟨hj, hrep, hck⟩]
    rfl
  · rw [if_neg hgo, if_pos]
    simp only [Bool.or_eq_true, Bool.not_eq_true', bne_iff_ne, ne_eq]
    by_contra hno
    simp only [not_or, Bool.not_eq_false, not_not] at hno
    exact hgo ⟨hno.1.1.1, hno.1.2, hno.2⟩

/-! ## Grant (R422, R423) -/

/-- The grant of an enrolment, with the CRK's key material (R423). -/
def State.grantOf (e : Enrol) (k : Sak) (crk : Bytes) (s : State) : EnrolGrant :=
  ⟨e.member, e.role, e.parent, e.standby, s.term, s.clTimeout, BitVec.ofNat 256 (beNat crk), BitVec.ofNat 32 s.crkEpoch, k⟩

/-- The abutment that has granted membership: the channel keys of the joiner's link are with its parent, and the grant goes out. -/
def State.granted (h : Hdr) (e : Enrol) (cks : List (Nat × Word)) (k : Sak) (u : State) : State :=
  let v := u.setEnrol (some { e with ckseqs := cks })
  let w := if e.parent = v.member then v.installSak e.member k else v.send e.parent 0xFFFF (.sakSet e.member k)
  w.sendEnrol h.src (.enrolGrant (w.grantOf e k (((tblGet none u.keys.t1 0).map (fun (x : Slot) => x.mat)).getD [])))

theorem execEnrolResponse_judged {h : Hdr} {rep cert pub b : Bytes} {cks : List (Nat × Word)} {e : Enrol} {s u v : State}
    (hup : s.trsUp = true) (hr : s.role = 1) (he : s.trs.enrol = some e) (hn : e.nonce ≠ [])
    (hl : s.loadCrk = some v) (hd : v.mssDraw 44 = .ok b u) : exec (.enrolResponse h rep cert pub cks) s =
      .next (if reportOk rep cert e.nonce pub = true ∧ ecB384.check pub = 0 ∧ joinerOk e rep = true then
        u.granted h e cks ⟨0, BitVec.ofNat 256 (beNat (sub b 0 32)), BitVec.ofNat 96 (beNat (sub b 32 12))⟩ else s) := by
  simp only [exec, execEnrolResponse]
  rw [if_neg (by simp [hup]), if_neg (by omega), he]
  dsimp only
  rw [hl]
  dsimp only
  by_cases hgo : reportOk rep cert e.nonce pub = true ∧ ecB384.check pub = 0 ∧ joinerOk e rep = true
  · obtain ⟨hrep, hck, hj⟩ := hgo
    rw [if_neg (by simp [hr, hn, hrep, hck, hj]), if_pos ⟨hrep, hck, hj⟩, State.drawSak_drawn hd]
    rfl
  · rw [if_neg hgo, if_pos]
    by_contra hno
    simp only [not_or, not_not, Bool.not_eq_true', Bool.not_eq_false] at hno
    exact hgo ⟨hno.2.2.1, hno.2.2.2.1, hno.2.2.2.2⟩

/-- The abutment's own child gets a fresh channel with it. -/
theorem State.granted_child {h : Hdr} {e : Enrol} {cks : List (Nat × Word)} {k : Sak} {u : State} (hk : k.an = 0)
    (hp : e.parent = u.member) (hl : u.trs.linkA = true) : u.granted h e cks k =
      let v := (u.setEnrol (some { e with ckseqs := cks })).setAssoc e.member
        ⟨u.treeNbr e.member, 0, 0, [], k, none, false, false, none⟩
      v.emit (.frame ⟨.a, u.member, h.src, 0, 0, u.term, 0xFFFF, false⟩
        (.enrolGrant (u.grantOf e k (((tblGet none u.keys.t1 0).map (fun (x : Slot) => x.mat)).getD [])))) := by
  unfold State.granted
  extract_lets v w
  have hw : w = v.setAssoc e.member ⟨u.treeNbr e.member, 0, 0, [], k, none, false, false, none⟩ :=
    (if_pos hp).trans (State.installSak_fresh (.inl hk))
  rw [hw]
  exact State.sendEnrol_linked hl

/-! ## The joiner's release and the end of an enrolment (R422 to R425) -/

theorem State.crkWords_frame (ep : Nat) (crk : Bytes) (s : State) : Frame (reports [.keys, .anc]) s (s.crkWords ep crk).2 :=
  s.nextIv_frame

/-- A release that begins in one state begins in every state with the same releases, anchors and power. -/
theorem ReleaseBegins.of_same {ws : List AncW} {reply : Option (Path × Word × Nat × Bytes)}
    {act : Option (Nat × BitVec 64 × Word × Nat)} {eff : MssEff} {s s' t : State} (h : ReleaseBegins ws reply act eff s t)
    (hp : s.pwr = s'.pwr) (hm : s.mss = s'.mss) (ha : s.anc = s'.anc) : ReleaseBegins ws reply act eff s' t := by
  unfold ReleaseBegins at h ⊢
  rwa [hp, hm, ha] at h

theorem State.originate_begun {r : ReplRec} {ws : List AncW} {reply : Option (Path × Word × Nat × Bytes)}
    {act : Option (Nat × BitVec 64 × Word × Nat)} {s : State}
    (h : s.mssVerdict (ws ++ [(0x0F, [w64 ((s.ancLatest 0x0F).toNat + 1)])]) = 0) :
    (s.originate r ws reply act).2 =
      s.relBegun (ws ++ [(0x0F, [w64 ((s.ancLatest 0x0F).toNat + 1)])]) reply act (.repl ((s.ancLatest 0x0F).toNat + 1) r) := by
  rw [State.originate, State.mssBegin_admitted _ _ _ _ h]

/-- The records that a parent keeps go to its new child. -/
def State.replayLog (member : Nat) (s : State) : State :=
  s.trs.replLog.foldl (fun (s : State) x => s.send member 0xFFFF (.repl x.1 x.2)) s

/-- The tenants whose key state the member of an enrolment lacks (R422, R425). -/
def State.lackedBy (e : Enrol) (s : State) : List Nat :=
  (List.range 1025).filter (fun t =>
    let mine := (s.ancGet (0x400 + t)).toNat / 2 ^ 32
    let theirs := ((e.ckseqs.find? (fun x => x.1 == t)).map (fun x => x.2.toNat)).getD 0
    if e.rejoin then mine != theirs else (s.tnOf t).state.toNat != 0)

/-- The member of an enrolment is sent the key state that it lacks, and the end of it. -/
def State.bringUp (e : Enrol) (s : State) : State :=
  (s.sendResync e.member (s.lackedBy e)).send (s.hopTo e.member) 0xFFFF (.resyncData e.member resyncEnd)

theorem Sent.bringUp (e : Enrol) (s : State) : Sent s (s.bringUp e) := by
  unfold State.bringUp
  exact Sent.trans (Sent.sendResync e.member (s.lackedBy e) s) (Sent.send ..)

/-- The abutment records a member that is new (R427). -/
def State.recordMember (e : Enrol) (s : State) : State :=
  let t := s.setMembers (tblSet none e.member (some ⟨e.role, e.parent, e.serial⟩) s.trs.members)
  let t := if e.standby then (t.pylons.foldl (fun (s : State) p => s.linkStandby e.member p) t) else t
  (t.originate (.memberAdd e.member e.role e.parent) [] none none).2

theorem State.recordMember_alone {e : Enrol} {s : State} (h : e.standby = false) : s.recordMember e =
    ((s.setMembers (tblSet none e.member (some ⟨e.role, e.parent, e.serial⟩) s.trs.members)).originate
      (.memberAdd e.member e.role e.parent) [] none none).2 := by
  simp [State.recordMember, h]

/-- The abutment's enrolment is over once the member has been brought up; a new one is recorded. -/
theorem execEnrolDone_abutment {h : Hdr} {e : Enrol} {s u : State} (hu : Heard h s u) (hr : s.role = 1)
    (he : s.trs.enrol = some e) : ∃ v : State, Sent s v ∧ exec (.enrolDone h e.member) s =
      .next (if e.rejoin then (v.setEnrol none).bringUp e else ((v.setEnrol none).bringUp e).recordMember e) := by
  have hv : Sent s (if h.src = e.member then u.replayLog e.member else u) :=
    (Sent.heard hu).trans (.ite (.foldl _ (fun _ _ => .send ..) _ u) (.refl u))
  have hrole := (State.role_congr hv.anc).trans hr
  have hen : (if h.src = e.member then u.replayLog e.member else u).trs.enrol = some e := by rw [hv.trs]; exact he
  refine ⟨_, hv, congrArg Host.Outcome.next ((hu.recv _).trans ?_)⟩
  dsimp only
  rw [← State.replayLog]
  generalize (if h.src = e.member then u.replayLog e.member else u) = v at hrole hen ⊢
  rw [hrole, if_neg (by decide), hen]
  dsimp only
  rw [if_neg (by simp)]
  unfold State.bringUp State.recordMember State.lackedBy
  generalize List.range 1025 = ts
  rfl

/-- Settles O41: what each message of an enrolment leaves is written out once above; the releases of the joiner, of the abutment's
record and of a removal are begun by `State.relBegun`. -/
theorem enrolmentAndRemoval : Obligations.EnrolmentAndRemoval := by
  unfold Obligations.EnrolmentAndRemoval
  refine ⟨?_, ?_, ?_, ?_, ?_, ?_, ?_, ?_, ?_, ?_, ?_, ?_, ?_, ?_, ?_⟩
  · intro s hup hk he hl
    have hm : s.member = 0 := by simpa [State.enrolled] using he
    simp only [exec, execEnrolHelloTimer, he]
    rw [if_neg (by simp [hup, hk]), State.sendEnrol_linked hl, hm]
    rfl
  · intro s hs
    simp only [exec, execEnrolHelloTimer]
    split
    · rfl
    · rename_i hgo
      simp only [Bool.or_eq_true, Bool.not_eq_true', not_or, Bool.not_eq_false] at hgo
      rcases hs with h | h | ⟨ha, hb⟩
      · simp [h] at hgo
      · simp [h] at hgo
      · rw [State.sendEnrol_unlinked ha hb]
  · intro h serial iv rejoin s hup hk hr hl
    simp only [exec, execEnrolHello]
    rw [if_neg (by simp [hup, hk]), if_pos hr, State.sendEnrol_linked hl]
    rfl
  · intro h serial iv e b u s hup hk hr hdec he hs hd hl
    have hf := State.mssDraw_frame hd
    have htrs : u.trs = s.trs := hf.same .trs (by decide)
    have hanc : u.anc = s.anc := hf.same .anc (by decide)
    have hmss : u.mss = s.mss := hf.same .mss (by decide)
    refine ⟨u.challenged e h.src b, _, _, execEnrolHello_challenge hup hk hr hdec he hs hd, rfl, ?_, rfl, ?_, ?_, ?_⟩
    · simp [State.challenged]
    · rw [State.challenged, State.sendEnrol_linked (by simpa [htrs] using hl), ← State.member_congr hanc, ← State.term_congr hanc]
      exact List.mem_append_right _ (List.mem_singleton_self _)
    · simp [State.challenged, hmss]
    · exact (hf.mono (by decide)).trans (Frame.trans (by simp [Frame]) ((State.sendEnrol_frame ..).mono (by decide)))
  · intro h serial iv s hr he
    simp only [exec, execEnrolHello]
    split
    · rfl
    · rw [if_neg (by omega)]
      simp [State.enrolFor, he]
  · intro h nonce rep cert pub b u s hup hr hd hl
    have hf := State.mssDraw_frame hd
    have htrs : u.trs = s.trs := hf.same .trs (by decide)
    have hanc : u.anc = s.anc := hf.same .anc (by decide)
    refine ⟨_, execEnrolChallenge_standalone hup hr hd, ?_⟩
    split
    · refine ⟨?_, ?_,
        ⟨(u.report 2 0xFFFF nonce (sha384B (ephemeral (sub b 0 56)).2) (sub b 56 56)).1, ?_⟩, ?_⟩
      · simp [State.joining, State.enrolled_congr hanc]
      · simp [State.joining, State.enrolled_congr hanc]
      · rw [State.joining, State.sendEnrol_linked (by simpa [htrs] using hl), ← State.member_congr hanc, ← State.term_congr hanc,
          ← State.enrolled_congr hanc, ← State.ckseqs_congr hanc]
        exact List.mem_append_right _ (List.mem_singleton_self _)
      · exact (hf.mono (by decide)).trans (Frame.trans (by simp [Frame]) ((State.sendEnrol_frame ..).mono (by decide)))
    · rfl
  · intro h rep cert pub cks s hup hr
    exact (if_neg (by simp [hup])).trans (if_pos hr)
  · intro h rep cert pub b cks e u v s hup hr he hn hp hl hd hlink
    have hf : Frame [.keys, .rng, .trs, .mi, .out] s u :=
      ((State.loadCrk_frame hl).mono (by decide)).trans ((State.mssDraw_frame hd).mono (by decide))
    have htrs : u.trs = s.trs :=
      Eq.trans ((State.mssDraw_frame hd).same .trs (by decide)) ((State.loadCrk_frame hl).same .trs (by decide))
    have hanc : u.anc = s.anc := hf.same .anc (by decide)
    refine ⟨_, _, execEnrolResponse_judged hup hr he hn hl hd, rfl, ?_⟩
    split
    · have hlinku : u.trs.linkA = true := by rw [htrs]; exact hlink
      have htime : u.clTimeout = s.clTimeout := by rw [State.clTimeout, htrs]; rfl
      rw [State.granted_child rfl (hp.trans (State.member_congr hanc).symm) hlinku]
      refine ⟨rfl, ?_, ⟨u.grantOf e ⟨0, BitVec.ofNat 256 (beNat (sub b 0 32)), BitVec.ofNat 96 (beNat (sub b 32 12))⟩
        (((tblGet none u.keys.t1 0).map (fun (x : Slot) => x.mat)).getD []), ?_⟩, ?_⟩
      · rw [← State.treeNbr_congr hanc]
        exact State.assocOf_setAssoc_same ..
      · rw [← State.member_congr hanc, ← State.term_congr hanc]
        refine ⟨List.mem_append_right _ (List.mem_singleton_self _), rfl, rfl, rfl, rfl, rfl, htime, ?_, rfl⟩
        rw [State.grantOf, BitVec.toNat_ofNat, ← State.crkEpoch_congr hanc]
        exact Nat.mod_eq_of_lt (Nat.mod_lt _ (Nat.two_pow_pos 32))
      · exact hf.trans (by simp [Frame, State.setEnrol])
    · rfl
  · intro h g j ws s hup hr hj hws hv
    refine ⟨(s.crkWords g.crkEpoch.toNat (natBe 32 g.crk.toNat)).2.relBegun ws none none (.enrolled g), ?_, State.relBegun_begins ..,
      ((State.crkWords_frame ..).mono (by decide)).trans ((State.relBegun_frame ..).mono (by decide))⟩
    simp only [exec, execEnrolGrant]
    rw [if_neg (by simp [hup]), if_neg (by tauto), hj]
    dsimp only
    rw [if_neg (by simp), ← hws, State.mssBegin_admitted _ _ _ _ hv]
  · intro h g s hr
    simp only [exec, execEnrolGrant]
    split
    · rfl
    · rw [if_neg (by tauto)]
      split <;> rfl
  · intro h m s u hu hr hm
    refine congrArg Host.Outcome.next ((hu.recv _).trans ?_)
    dsimp only
    rw [if_neg hm, State.role_congr hu.anc, if_pos hr]
  · intro h e s u hu hr he hre hsb hv
    obtain ⟨v, hsv, hx⟩ := execEnrolDone_abutment hu hr he
    have hw := Sent.bringUp e (v.setEnrol none)
    have hf : Frame [.trs, .out] s (((v.setEnrol none).bringUp e).setMembers (tblSet none e.member
        (some ⟨e.role, e.parent, e.serial⟩) ((v.setEnrol none).bringUp e).trs.members)) :=
      (hsv.frame.trans ((State.setEnrol_frame ..).mono (by decide))).trans
        (hw.frame.trans ((State.setMembers_frame ..).mono (by decide)))
    have hanc := hf.same .anc (by decide)
    have hpwr := hf.same .pwr (by decide)
    have hbegin := State.originate_begun (r := .memberAdd e.member e.role e.parent) (ws := []) (reply := none) (act := none)
      (by rw [State.ancLatest_congr hanc, List.nil_append, State.mssVerdict_congr hanc hpwr]; exact hv)
    rw [State.ancLatest_congr hanc, List.nil_append] at hbegin
    rw [if_neg (by simp [hre]), State.recordMember_alone hsb, hbegin] at hx
    have ht : ∀ t : State, (t.relBegun [(0x0F, [w64 ((s.ancLatest 0x0F).toNat + 1)])] none none
        (.repl ((s.ancLatest 0x0F).toNat + 1) (.memberAdd e.member e.role e.parent))).trs = t.trs :=
      fun t => (State.relBegun_frame ..).same .trs (by decide)
    refine ⟨_, hx, ?_, ?_, (State.relBegun_begins ..).of_same hpwr (hf.same .mss (by decide)) hanc,
      (hf.mono (by decide)).trans ((State.relBegun_frame ..).mono (by decide))⟩
    · rw [ht, State.setMembers, hw.trs]
      rfl
    · rw [ht, State.setMembers, hw.trs, State.setEnrol, hsv.trs]
  · intro h e s u hu hr he hre
    obtain ⟨v, hsv, hx⟩ := execEnrolDone_abutment hu hr he
    have hw := Sent.bringUp e (v.setEnrol none)
    rw [if_pos hre] at hx
    refine ⟨_, hx, ?_, ?_, (hsv.frame.trans ((State.setEnrol_frame ..).mono (by decide))).trans hw.frame⟩
    · rw [hw.trs]
      rfl
    · rw [hw.trs, State.setEnrol, hsv.trs]
  · intro h m s u hu hr hm
    refine congrArg Host.Outcome.next ((hu.recv _).trans ?_)
    dsimp only
    rw [State.member_congr hu.anc, if_pos hm, State.role_congr hu.anc, if_pos hr]
  · intro h ws s u hu hws hv
    refine ⟨u.relBegun ws none none .removed, congrArg Host.Outcome.next ((hu.recv _).trans ?_), State.relBegun_begins ..,
      State.relBegun_frame ..⟩
    rw [← State.mssVerdict_congr hu.anc hu.pwr] at hv
    dsimp only
    rw [State.member_congr hu.anc, if_neg (by simp)]
    simp only [State.ancGet_congr hu.anc]
    rw [← hws, State.mssBegin_admitted _ _ _ _ hv]

end Sys2Proof.Machine
end

section
/-! PROOFS. Proposals, verdicts and decisions (10_cluster.md R429 to R435, R437; that a pylon answers no for itself while it is
quarantined is the model's choice of log 70). -/

namespace Sys2Proof.Machine

theorem Sent.quarantinedFor {s t : State} (h : Sent s t) (n : Nat) : t.quarantinedFor n = s.quarantinedFor n := by
  rw [State.quarantinedFor, State.quarMarked, State.enrolled_congr h.anc, State.ancGet_congr h.anc, h.trs]
  rfl

theorem Sent.deck {s t : State} (h : Sent s t) : t.deck = s.deck := h.frame.same .deck (by decide)

/-! ## Proposals at a pylon (R431) -/

/-- The proposals that a pylon holds. -/
def State.setFwd (l : List Fwd) (s : State) : State := { s with trs.fwd := l }

theorem State.setFwd_frame (l : List Fwd) (s : State) : Frame [.trs] s (s.setFwd l) := by simp [State.setFwd, Frame]

theorem State.noSpans_setFwd (l : List Fwd) (x : Fwd) (s : State) : (s.setFwd l).noSpans x = s.noSpans x := rfl

theorem State.pylonVerdict_eq (x : Fwd) (s : State) : s.pylonVerdict x =
    (s.setFwd (s.trs.fwd.filter (fun y => y.pid != x.pid))).sendUp x.tenant (.verdict x.pid x.own (s.noSpans x)) := rfl

theorem State.pylonVerdict_only {x : Fwd} {s : State} (h : s.trs.fwd = [x]) : s.pylonVerdict x =
    (s.setFwd []).sendUp x.tenant (.verdict x.pid x.own (s.noSpans x)) := by
  rw [State.pylonVerdict_eq, h]
  simp

/-- A pylon waits for a reachable span that has not answered. -/
theorem State.pylonCheck_waits {pid : BitVec 64} {x : Fwd} {c : Nat} {s : State}
    (hx : s.trs.fwd.find? (fun y => y.pid == pid) = some x) (hc : c ∈ s.children) (hu : s.unreachable c = false)
    (ha : x.answers.any (fun a => a.1 == c) = false) : s.pylonCheck pid = s := by
  rw [State.pylonCheck, hx]
  refine if_neg fun hall => ?_
  have := List.all_eq_true.1 hall c hc
  simp [hu, ha] at this

/-- A pylon sends its VERDICT once every span has answered. -/
theorem State.pylonCheck_answered {pid : BitVec 64} {x : Fwd} {s : State}
    (hx : s.trs.fwd.find? (fun y => y.pid == pid) = some x)
    (ha : ∀ n ∈ s.children, x.answers.any (fun a => a.1 == n) = true) : s.pylonCheck pid = s.pylonVerdict x := by
  rw [State.pylonCheck, hx]
  exact if_pos (List.all_eq_true.2 fun n hn => by rw [ha n hn, Bool.true_or])

/-- The first entry of a list with a fresh entry at its end that matches is that entry, when no other does. -/
theorem find?_append_fresh {α : Type} {p : α → Bool} {l : List α} {x : α} (hl : ∀ y ∈ l, p y = false) (hx : p x = true) :
    (l ++ [x]).find? p = some x := by
  rw [List.find?_append, List.find?_eq_none.2 fun y hy => by simp [hl y hy]]
  simp [hx]

/-! ## Proposals at the abutment (R430, R432, R435) -/

/-- The proposals that the abutment holds. -/
def State.setProps (l : List Held) (s : State) : State := { s with trs.props := l }

theorem State.setProps_frame (l : List Held) (s : State) : Frame [.trs] s (s.setProps l) := by simp [State.setProps, Frame]

theorem State.setProps_props (l : List Held) (s : State) : (s.setProps l).trs.props = l := rfl

theorem State.pylons_setProps (l : List Held) (s : State) : (s.setProps l).pylons = s.pylons := rfl

theorem State.reserveProp_eq (x : Held) (own : Bool) (s : State) : s.reserveProp x own =
    let y := { x with reserved := true, own := own }
    let t := (s.setProps (s.trs.props.map (fun z => if z.p.pid = x.p.pid then y else z))).sendDown x.p.tenant (.propose x.p)
    if t.pylons.isEmpty then t.decideProp y false else t := rfl

/-- With an enrolled pylon, a reserved proposal waits for its VERDICT. -/
theorem State.reserveProp_waits {x : Held} {own : Bool} {s : State} (h : s.pylons ≠ []) : s.reserveProp x own =
    (s.setProps (s.trs.props.map (fun z => if z.p.pid = x.p.pid then { x with reserved := true, own := own } else z))).sendDown
      x.p.tenant (.propose x.p) := by
  rw [State.reserveProp_eq]
  dsimp only
  rw [Sent.pylons (Sent.sendDown ..), State.pylons_setProps, if_neg (by simpa using h)]

/-- The state in which the abutment has received a proposal: it is reserved for, and sent down, unless another holds its key. -/
def State.proposed (x : Held) (busy : Bool) (s : State) : State :=
  let t := s.setProps (s.trs.props ++ [{ x with reserved := !busy }])
  if busy then t else t.sendDown x.p.tenant (.propose x.p)

theorem State.proposed_frame (x : Held) (busy : Bool) (s : State) : Frame [.trs, .out] s (s.proposed x busy) :=
  ((State.setProps_frame ..).mono (by decide)).trans (Sent.ite (.refl _) (Sent.sendDown ..)).frame

theorem State.proposed_props (x : Held) (busy : Bool) (s : State) :
    (s.proposed x busy).trs.props = s.trs.props ++ [{ x with reserved := !busy }] := by
  have h : Sent (s.setProps (s.trs.props ++ [{ x with reserved := !busy }])) (s.proposed x busy) :=
    Sent.ite (.refl _) (Sent.sendDown ..)
  rw [h.trs]
  rfl

theorem State.abutPropose_eq (p : Proposal) (own : Bool) (s : State) : s.abutPropose p own =
    if !s.trs.deciding then s
    else if s.trs.props.any (fun y => y.p.tenant == p.tenant && y.p.keyId == p.keyId) then
      s.setProps (s.trs.props ++ [⟨p, s.now, false, false, own, []⟩])
    else (s.setProps (s.trs.props ++ [⟨p, s.now, false, false, own, []⟩])).reserveProp ⟨p, s.now, false, false, own, []⟩ own := rfl

/-- Among proposals of which none is the fresh one's, writing the fresh one's writes the last. -/
theorem map_append_fresh {l : List Held} {x y : Held} (hf : ∀ z ∈ l, z.p.pid ≠ x.p.pid) :
    (l ++ [x]).map (fun z => if z.p.pid = x.p.pid then y else z) = l ++ [y] := by
  rw [List.map_append, List.map_singleton, if_pos rfl]
  refine congrArg (· ++ [y]) ((List.map_congr_left fun z hz => ?_).trans (List.map_id l))
  exact if_neg (hf z hz)

/-- A proposal that reaches the abutment is held: reserved, or queued behind another on its key. -/
theorem State.abutPropose_held {p : Proposal} {own : Bool} {s : State} (hd : s.trs.deciding = true) (hp : s.pylons ≠ [])
    (hf : ∀ y ∈ s.trs.props, y.p.pid ≠ p.pid) : s.abutPropose p own =
      s.proposed ⟨p, s.now, false, false, own, []⟩ (s.trs.props.any (fun y => y.p.tenant == p.tenant && y.p.keyId == p.keyId)) := by
  rw [State.abutPropose_eq, if_neg (by simp [hd])]
  cases s.trs.props.any (fun y => y.p.tenant == p.tenant && y.p.keyId == p.keyId) with
  | true => rfl
  | false =>
    rw [if_neg (by simp), State.reserveProp_waits (by rwa [State.pylons_setProps]), State.setProps_props, map_append_fresh hf]
    rfl

/-! ## Decisions (R432) -/

theorem State.decideProp_eq (x : Held) (flip : Bool) (s : State) : s.decideProp x flip =
    (s.setProps (s.trs.props.map (fun y => if y.p.pid = x.p.pid then { y with decided := true } else y))).sendDecision x.p
      (!flip && s.pylons.all (fun n => x.answers.any (fun a => a.1 == n)))
      (if !flip && s.pylons.all (fun n => x.answers.any (fun a => a.1 == n)) then
        (if x.own then [] else [s.member]) ++ x.answers.flatMap excludedBy else []) := rfl

/-- Settles O42: what a member does with each message is said once above for the pylon and the abutment; a frame heard in order leaves
the proposals, the spans and the quarantine as they were. -/
theorem proposalsAndDecisions : Obligations.ProposalsAndDecisions := by
  unfold Obligations.ProposalsAndDecisions
  refine ⟨?_, ?_, ?_, ?_, ?_, ?_, ?_, ?_, ?_, ?_, ?_, ?_, ?_, ?_, ?_, ?_, ?_⟩
  · intro h p l s u hu h1 h2
    refine congrArg Host.Outcome.next ((hu.recv _).trans ?_)
    dsimp only
    rw [State.role_congr hu.anc, if_neg h1, if_neg h2, (Sent.heard hu).quarantinedFor]
    split
    · rfl
    · rename_i hq
      rw [Bool.eq_false_iff.2 hq, Bool.not_false, Bool.true_and]
  · intro h p l s u hu hr hp
    refine congrArg Host.Outcome.next ((hu.recv _).trans ?_)
    dsimp only
    rw [State.role_congr hu.anc, if_neg (by omega), if_pos hr, hu.nbrOf, State.parentNo_congr hu.anc, if_pos hp]
  · intro h p l c s u hu hr hp hc hun hf _
    have hd := (Sent.heard hu).trans (Sent.sendDown p.tenant (.propose p) u)
    have hfwd : (u.sendDown p.tenant (.propose p)).trs.fwd = s.trs.fwd := by rw [hd.trs]
    refine ⟨(u.sendDown p.tenant (.propose p)).setFwd (s.trs.fwd ++ [⟨p.pid, p.tenant, s.now,
        !s.quarantinedFor p.tenant && u.verifyProp p l, []⟩]), _, congrArg Host.Outcome.next ((hu.recv _).trans ?_), rfl, rfl,
      hd.frame.trans ((State.setFwd_frame ..).mono (by decide))⟩
    dsimp only
    rw [State.role_congr hu.anc, if_neg (by omega), if_pos hr, hu.nbrOf, State.parentNo_congr hu.anc, if_neg (by simp [hp]),
      (Sent.heard hu).quarantinedFor]
    show ((u.sendDown p.tenant (.propose p)).setFwd ((u.sendDown p.tenant (.propose p)).trs.fwd ++ [⟨p.pid, p.tenant,
      (u.sendDown p.tenant (.propose p)).now, !s.quarantinedFor p.tenant && u.verifyProp p l, []⟩])).pylonCheck p.pid = _
    rw [hfwd, hd.now]
    refine State.pylonCheck_waits (find?_append_fresh (fun y hy => ?_) ?_) (hd.children c hc) ((hd.unreachable c).trans hun) ?_
    · simpa using hf y hy
    · simp
    · rfl
  · intro h p l s u hu hr hd hf hp
    have hs := Sent.heard hu
    have hprops : u.trs.props = s.trs.props := by rw [hs.trs]
    refine ⟨u.proposed ⟨p, s.now, false, false, !s.quarantinedFor p.tenant && u.verifyProp p l, []⟩
        (s.trs.props.any (fun y => y.p.tenant == p.tenant && y.p.keyId == p.keyId)), _,
      congrArg Host.Outcome.next ((hu.recv _).trans ?_), rfl, ?_, ?_, hs.frame.trans (State.proposed_frame ..)⟩
    · dsimp only
      rw [State.role_congr hu.anc, if_pos hr, State.abutPropose_held (by rw [hs.trs]; exact hd) (by rwa [hs.pylons])
        (by rwa [hprops]), hprops, hs.now, hs.quarantinedFor]
    · rw [State.proposed_props, hprops]
    · exact (hs.frame.trans (State.proposed_frame ..)).same .deck (by decide)
  · intro h p l s u hu hr hd
    refine congrArg Host.Outcome.next ((hu.recv _).trans ?_)
    dsimp only
    rw [State.role_congr hu.anc, if_pos hr]
    exact if_pos (by rw [(Sent.heard hu).trs]; simp [hd])
  · intro h pid yes b x y s u hu hr hx hpid hy ha
    have hfwd : u.trs.fwd = [x] := by rw [(Sent.heard hu).trs]; exact hx
    have hyp : y.pid = pid := by rw [hy]; exact hpid
    refine congrArg Host.Outcome.next ((hu.recv _).trans ?_)
    dsimp only
    rw [State.role_congr hu.anc, if_pos hr, hfwd, List.map_singleton, if_pos hpid, ← hy]
    refine (State.pylonCheck_answered (s := u.setFwd [y]) (by simp [State.setFwd, hyp]) ha).trans ?_
    rw [State.pylonVerdict_only rfl, State.noSpans_setFwd, hyp, hy]
    rfl
  · intro h pid yes b x s u hu hr hx hpid hres hdec hp ha
    have hprops : u.trs.props = [x] := by rw [(Sent.heard hu).trs]; exact hx
    refine ⟨_, congrArg Host.Outcome.next ((hu.recv _).trans ?_), rfl⟩
    have hfind : [x].find? (fun (x : Held) => x.p.pid == pid && x.reserved && !x.decided) = some x := by simp [hpid, hres, hdec]
    dsimp only
    rw [State.role_congr hu.anc, if_neg (by omega), hprops, hfind]
    dsimp only
    rw [List.map_singleton, if_pos hpid, ha]
    have hpy : (u.setProps [{ x with answers := [(h.src, yes, b)] }]).pylons = [h.src] := (Sent.heard hu).pylons.trans hp
    refine (if_pos ?_).trans ((State.decideProp_eq _ false (u.setProps [{ x with answers := [(h.src, yes, b)] }])).trans ?_)
    · exact (congrArg (fun l : List Nat => l.all _) hpy).trans (by simp)
    · have hmem : (u.setProps [{ x with answers := [(h.src, yes, b)] }]).member = s.member := State.member_congr hu.anc
      rw [hpy, State.setProps_props, hmem]
      simp [State.setProps]
  · intro pid x s hx hup
    have hpid : x.pid = pid := by simpa using List.find?_some hx
    have hadv := s.advance_frame (x.at_ + 1000 * (s.clTimeout - 20))
    have htrs : (s.advance (x.at_ + 1000 * (s.clTimeout - 20))).trs = s.trs := hadv.same .trs (by decide)
    have hanc : (s.advance (x.at_ + 1000 * (s.clTimeout - 20))).anc = s.anc := hadv.same .anc (by decide)
    have hsent := Sent.sendUp x.tenant (.verdict x.pid x.own ((s.advance (x.at_ + 1000 * (s.clTimeout - 20))).noSpans x))
      ((s.advance (x.at_ + 1000 * (s.clTimeout - 20))).setFwd (s.trs.fwd.filter (fun y => y.pid != x.pid)))
    refine ⟨(s.advance (x.at_ + 1000 * (s.clTimeout - 20))).pylonVerdict x, ?_, ?_, ?_, ?_, ?_⟩
    · simp [exec, execVerdictDeadline, hx, hup]
    · rw [State.pylonVerdict_eq, htrs, hsent.now]
      exact s.advance_now _
    · rw [State.pylonVerdict_eq, htrs, hsent.trs, hpid]
      intro y hy
      simpa using (List.mem_filter.1 hy).2
    · rw [State.pylonVerdict_eq, htrs]
      exact (hadv.mono (by decide)).trans (((State.setFwd_frame ..).mono (by decide)).trans (hsent.frame.mono (by decide)))
    · intro a p ha hp
      have hw : ((s.advance (x.at_ + 1000 * (s.clTimeout - 20))).setFwd (s.trs.fwd.filter (fun y => y.pid != x.pid))).anc = s.anc :=
        hanc
      rw [State.pylonVerdict_eq, htrs, State.sendUp, State.parentNo_congr hw,
        State.send_carried (a := a) (p := p) (by rw [← ha, State.assocOf, State.setFwd, htrs]; rfl) hp,
        State.member_congr hw, State.term_congr hw, hpid]
      exact List.mem_append_right _ (List.mem_singleton_self _)
  · intro pid flip x s hx hup hdec hd hres
    have hpid : x.p.pid = pid := by simpa using List.find?_some hx
    have hadv := s.advance_frame (x.at_ + 1000 * (s.clTimeout - 10))
    have htrs : (s.advance (x.at_ + 1000 * (s.clTimeout - 10))).trs = s.trs := hadv.same .trs (by decide)
    have hanc : (s.advance (x.at_ + 1000 * (s.clTimeout - 10))).anc = s.anc := hadv.same .anc (by decide)
    have hpy : (s.advance (x.at_ + 1000 * (s.clTimeout - 10))).pylons = s.pylons := by
      rw [State.pylons, htrs, State.member_congr hanc]
      rfl
    refine ⟨(s.advance (x.at_ + 1000 * (s.clTimeout - 10))).setProps
      (s.trs.props.map (fun y => if y.p.pid = x.p.pid then { y with decided := true } else y)), _, ?_, rfl, s.advance_now _, ?_,
      (hadv.mono (by decide)).trans ((State.setProps_frame ..).mono (by decide))⟩
    · simp only [exec, execDecisionDeadline, hx]
      rw [if_neg (by simp [hup, hdec, hd]), if_pos hres, State.decideProp_eq, htrs, hpy, State.member_congr hanc]
    · intro y hy hyp
      obtain ⟨z, -, rfl⟩ := List.mem_map.1 hy
      split
      · rfl
      · rename_i hz
        rw [if_neg hz] at hyp
        exact absurd (hyp.trans hpid.symm) hz
  · intro pid flip x s hx hup hdec hd hres
    have hadv := s.advance_frame (x.at_ + 1000 * (s.clTimeout - 10))
    have htrs : (s.advance (x.at_ + 1000 * (s.clTimeout - 10))).trs = s.trs := hadv.same .trs (by decide)
    refine ⟨(s.advance (x.at_ + 1000 * (s.clTimeout - 10))).setProps
        ((s.advance (x.at_ + 1000 * (s.clTimeout - 10))).trs.props.filter (fun y => y.p.pid != pid)), ?_,
      congrArg (fun t : Trs => t.props.filter _) htrs, (hadv.mono (by decide)).trans ((State.setProps_frame ..).mono (by decide))⟩
    simp only [exec, execDecisionDeadline, hx]
    rw [if_neg (by simp [hup, hdec, hd]), if_neg (by simp [hres])]
    rfl
  · intro h pid go l d e s u hu ho hx
    refine congrArg Host.Outcome.next ((hu.recv _).trans ?_)
    rw [State.member_congr hu.anc, if_pos ho, State.gotDecision, State.held, (Sent.heard hu).deck, ← State.held, hx]
  · intro h pid go l s u hu ho hx
    have hnone : s.held.find? (fun x => x.2.pid == pid && x.2.confirm == some none) = none :=
      List.find?_eq_none.2 fun x hm => by simp [hx x hm]
    refine congrArg Host.Outcome.next ((hu.recv _).trans ?_)
    rw [State.member_congr hu.anc, if_pos ho, State.gotDecision, State.held, (Sent.heard hu).deck, ← State.held, hnone]
  · intro h pid go l s u hu ho hr
    refine congrArg Host.Outcome.next ((hu.recv _).trans ?_)
    rw [State.member_congr hu.anc, if_neg ho, State.role_congr hu.anc, if_pos hr]
  · intro d e s he hst hc
    simp only [exec, execClTimeoutExpiry, he]
    exact if_pos ⟨hst, hc⟩
  · intro d e s he hno
    simp only [exec, execClTimeoutExpiry, he]
    exact if_neg (by tauto)
  · intro h pid x s u hu hr hx hpid
    have hprops : u.trs.props = [x] := by rw [(Sent.heard hu).trs]; exact hx
    have hend : u.endReservation pid = u.setProps [] := by
      rw [State.endReservation, hprops, List.find?_singleton, if_pos (by simp [hpid])]
      simp [hpid, State.setProps]
    have hs := Sent.sendDown 0xFFFF (.withdraw pid) (u.setProps [])
    refine ⟨(u.setProps []).sendDown 0xFFFF (.withdraw pid), congrArg Host.Outcome.next ((hu.recv _).trans ?_), ?_,
      hu.frame.trans (((State.setProps_frame ..).mono (by decide)).trans hs.frame)⟩
    · dsimp only
      rw [State.role_congr hu.anc, if_pos hr, hend]
    · rw [hs.trs]
      rfl
  · intro h pid s u hu hr hp
    refine congrArg Host.Outcome.next ((hu.recv _).trans ?_)
    dsimp only
    rw [State.role_congr hu.anc, if_neg (by omega), if_pos hr, hu.nbrOf, State.parentNo_congr hu.anc, if_pos hp]

end Sys2Proof.Machine
end

section
/-! PROOFS. The loss of the abutment, the standby's takeover and the change of the cluster root key (10_cluster.md R439 to R444). -/

namespace Sys2Proof.Machine

/-! ## What is recorded and written beside the cluster's state (R541, R547 to R549, R614, R618)

A state in which messages have been sent records events and writes anchor words as the state before does: neither reads the cluster's
state or what has been sent. -/

/-- The state with the cluster's state `x` and with `l` sent before what it has sent. -/
def State.besides (x : Trs) (l : List Out) (s : State) : State := { s with trs := x, out := l ++ s.out }

section
variable (x : Trs) (l : List Out) (s : State)

theorem State.besides_msix (fn vec : Nat) : (s.besides x l).msix fn vec = (s.msix fn vec).besides x l := by
  unfold State.msix
  dsimp only [State.besides]
  split
  · rfl
  · simp [State.emit]

theorem State.besides_signal (src : Nat) : (s.besides x l).signal src = (s.signal src).besides x l := rfl

theorem State.besides_evrEvent (bits : BitVec 5) : (s.besides x l).evrEvent bits = (s.evrEvent bits).besides x l := by
  show (if s.evr.evt ||| bits = s.evr.evt then ({ s with evr.evt := s.evr.evt ||| bits } : State).besides x l
    else ((({ s with evr.evt := s.evr.evt ||| bits } : State).besides x l).msix 0 0).signal 1144) = _
  rw [State.besides_msix, State.besides_signal]
  exact (apply_ite (State.besides x l) ..).symm

theorem State.besides_evrDrop : (s.besides x l).evrDrop = s.evrDrop.besides x l :=
  State.besides_evrEvent x l { s with evr.dropped := s.evr.dropped + 1, evr.cntDropped := s.evr.cntDropped + 1 } 4

theorem State.besides_offer (o : Offer) : (s.besides x l).offer o = (s.offer o).besides x l := by
  unfold State.offer
  dsimp only [State.besides]
  split
  · rfl
  · split
    · split
      · exact State.besides_evrEvent x l { s with evr := _ } 2
      · exact State.besides_evrDrop x l { s with evr := _ }
    · split
      · rfl
      · exact State.besides_evrDrop x l { s with evr := _ }

theorem State.besides_event (src code p0 p1 p2 p3 : Nat) :
    (s.besides x l).event src code p0 p1 p2 p3 = (s.event src code p0 p1 p2 p3).besides x l := State.besides_offer ..

theorem State.besides_nrgEvent (bits : BitVec 4) : (s.besides x l).nrgEvent bits = (s.nrgEvent bits).besides x l := by
  show (if s.pwr.evt ||| bits = s.pwr.evt then ({ s with pwr.evt := s.pwr.evt ||| bits } : State).besides x l
    else ((({ s with pwr.evt := s.pwr.evt ||| bits } : State).besides x l).msix 0 0).signal 1145) = _
  rw [State.besides_msix, State.besides_signal]
  exact (apply_ite (State.besides x l) ..).symm

theorem State.besides_refuse (c : Nat) : (s.besides x l).refuse c = (s.refuse c).besides x l := by
  have h := State.besides_nrgEvent x l { s with pwr.cntRefused := s.pwr.cntRefused + 1 } 8
  show (fun t : State => t.event 1145 0x0505 c (t.pwr.charge / 1000) t.pwr.outstanding 0)
    ((({ s with pwr.cntRefused := s.pwr.cntRefused + 1 } : State).besides x l).nrgEvent 8) = _
  rw [h]
  exact State.besides_event ..

theorem State.besides_ancError (bits : BitVec 3) (w : Nat) : (s.besides x l).ancError bits w = (s.ancError bits w).besides x l := by
  show (if s.anc.err ||| bits = s.anc.err then
      ({ s with anc.err := s.anc.err ||| bits, anc.errWord := BitVec.ofNat 13 w } : State).besides x l
    else (({ s with anc.err := s.anc.err ||| bits, anc.errWord := BitVec.ofNat 13 w } : State).signal 1146).besides x l) = _
  exact (apply_ite (State.besides x l) ..).symm

theorem State.besides_ancRefuse (w cause : Nat) : (s.besides x l).ancRefuse w cause = (s.ancRefuse w cause).besides x l := by
  have h := State.besides_ancError x l { s with anc.cntRefused := s.anc.cntRefused + 1 } (if cause = 1 then 1 else 2) w
  exact (congrArg (State.event 1146 0x0A07 w cause 0 0) h).trans (State.besides_event ..)

theorem State.besides_ancWrite (w : Nat) (vs : List DWord) (e : Eff) :
    ((s.besides x l).ancWrite w vs e).1 = (s.ancWrite w vs e).1.besides x l := by
  have hv : (s.besides x l).ancVerdict w vs.length = s.ancVerdict w vs.length := rfl
  unfold State.ancWrite
  rw [hv]
  dsimp only
  split
  · rfl
  · rw [State.besides_refuse, State.besides_ancRefuse]
  · exact State.besides_ancRefuse ..

theorem State.besides_nextIv : (s.besides x l).nextIv = (s.nextIv.1, s.nextIv.2.besides x l) := by
  have hw := State.besides_ancWrite x l { s with keys.ivCount := s.keys.ivCount + 1 } 7 [s.ancGet 7 + 1] .none
  refine Prod.ext rfl ?_
  show (if s.keys.ivCount + 1 = 0 then
      ((({ s with keys.ivCount := s.keys.ivCount + 1 } : State).besides x l).ancWrite 7 [s.ancGet 7 + 1] .none).1
    else ({ s with keys.ivCount := s.keys.ivCount + 1 } : State).besides x l) = _
  rw [hw]
  exact (apply_ite (State.besides x l) ..).symm

theorem State.besides_crkWords (ep : Nat) (crk : Bytes) :
    (s.besides x l).crkWords ep crk = ((s.crkWords ep crk).1, (s.crkWords ep crk).2.besides x l) := by
  unfold State.crkWords
  rw [State.besides_nextIv]
  rfl

end

/-- A state with the same parts but for the cluster's state and what was sent is another so amid them. -/
theorem Frame.eq_besides {s t : State} (h : Frame [.trs, .out] s t) : t = ({ s with out := [] } : State).besides t.trs t.out := by
  simp only [Frame, List.mem_cons, List.not_mem_nil, or_false, reduceCtorEq, or_self, false_or] at h
  cases s
  cases t
  simp_all [State.besides]

/-- Messages that were sent change neither the new CRK's blob nor what the IV counter's anchor write leaves, and stay sent. -/
theorem State.crkWords_sent {s t : State} (h : Frame [.trs, .out] s t) (ep : Nat) (crk : Bytes) :
    (t.crkWords ep crk).1 = (s.crkWords ep crk).1 ∧ (t.crkWords ep crk).2.pwr = (s.crkWords ep crk).2.pwr ∧
      (t.crkWords ep crk).2.mss = (s.crkWords ep crk).2.mss ∧ (t.crkWords ep crk).2.anc = (s.crkWords ep crk).2.anc ∧
      t.out <+: (t.crkWords ep crk).2.out := by
  have ht := State.besides_crkWords t.trs t.out { s with out := [] } ep crk
  have hs := State.besides_crkWords s.trs s.out { s with out := [] } ep crk
  rw [← h.eq_besides] at ht
  rw [← (Frame.refl [.trs, .out] s).eq_besides] at hs
  rw [ht, hs]
  exact ⟨rfl, rfl, rfl, rfl, List.prefix_append ..⟩

/-! ## Takeover (R440, R441) -/

theorem State.takeOver_begun {n : Nat} {votes : List Nat} {ws : List AncW} {s : State} (h : s.pylonCount < 2 * (votes.length + 1))
    (hws : ws = [(0x0D, [memberWord s.member 1 0 false]), (0x0E, [w64 n])]) (hv : s.mssVerdict ws = 0) :
    s.takeOver n votes = ({ s with trs.call := none } : State).relBegun ws none none (.takeover n) := by
  rw [State.takeOver, if_neg (by omega)]
  subst hws
  exact congrArg Prod.snd (State.mssBegin_admitted _ none none (.takeover n) (s := { s with trs.call := none }) hv)

/-- A vote that counts joins those that the standby has. -/
theorem execVote_counted {h : Hdr} {n q ms : Nat} {votes : List Nat} {s u : State} (hu : Heard h s u)
    (hc : s.trs.call = some (n, votes)) (hms : 2000 ≤ ms) (hnew : h.src ∉ votes) (hq : q ≤ (s.ancGet 0x0F).toNat) :
    exec (.vote h n q ms) s = .next (({ u with trs.call := some (n, votes ++ [h.src]) } : State).takeOver n (votes ++ [h.src])) := by
  have hcall : u.trs.call = some (n, votes) := by rw [(Sent.heard hu).trs]; exact hc
  refine congrArg Host.Outcome.next ((hu.recv _).trans ?_)
  rw [hcall]
  dsimp only
  rw [if_neg (by simp [hnew]; omega), if_neg (by rw [State.ancGet_congr hu.anc]; omega)]

/-- The standby has called a takeover. -/
def State.called (n : Nat) (s : State) : State := { s with trs.call := some (n, []), trs.cstate := 5 }

theorem State.called_frame (n : Nat) (s : State) : Frame [.trs] s (s.called n) := by simp [State.called, Frame]

theorem State.called_anc (n : Nat) (s : State) : (s.called n).anc = s.anc := rfl

theorem State.called_now (n : Nat) (s : State) : (s.called n).now = s.now := rfl

theorem State.called_pylons (n : Nat) (s : State) : (s.called n).pylons = s.pylons := rfl

/-- The call goes to the pylons outside the tree. -/
def State.sendCalls (n : Nat) (s : State) : State :=
  s.trs.assoc.foldl (fun (s : State) x => match x.2 with
    | some a => if a.tree then s else s.send x.1 0xFFFF (.takeoverCall n)
    | none => s) s

theorem Sent.sendCalls (n : Nat) (s : State) : Sent s (s.sendCalls n) :=
  Sent.foldl _ (fun t x => by
    rcases x.2 with _ | a
    · exact .refl t
    · exact .ite (.refl t) (.send ..)) _ _

/-- The votes of the standby alone are no majority where another pylon is enrolled. -/
theorem State.takeOver_alone {n : Nat} {s : State} (hr : s.role = 2) (hp : s.pylons ≠ []) : s.takeOver n [] = s := by
  have := List.length_pos_iff.2 hp
  refine if_pos ?_
  rw [State.pylonCount, hr]
  simp [b2n]
  omega


/-- ABUTMENT_LOSS_TIMER in these terms. -/
theorem execAbutmentLossTimer_eq (s : State) : execAbutmentLossTimer s = match s.trs.abutLostAt with
    | none => .next s
    | some t =>
      if !s.trsUp || s.role != 2 || !s.isStandby || s.trs.call.isSome then .next s
      else
        let v := s.advance (t + 2000000)
        .next (((v.called (v.term + 1)).sendCalls (v.term + 1)).takeOver (v.term + 1) []) := rfl

theorem execAbutmentLossTimer_calls {at_ : Nat} {s : State} (hl : s.trs.abutLostAt = some at_) (hup : s.trsUp = true)
    (hr : s.role = 2) (hs : s.isStandby = true) (hc : s.trs.call = none) (hp : s.pylons ≠ []) :
    exec .abutmentLossTimer s = .next (((s.advance (at_ + 2000000)).called (s.term + 1)).sendCalls (s.term + 1)) := by
  have hanc : (s.advance (at_ + 2000000)).anc = s.anc := (s.advance_frame _).same .anc (by decide)
  have htrs : (s.advance (at_ + 2000000)).trs = s.trs := (s.advance_frame _).same .trs (by decide)
  have hpy : (s.advance (at_ + 2000000)).pylons = s.pylons := by rw [State.pylons, htrs, State.member_congr hanc]; rfl
  have hsent := Sent.sendCalls (s.term + 1) ((s.advance (at_ + 2000000)).called (s.term + 1))
  have hall : (((s.advance (at_ + 2000000)).called (s.term + 1)).sendCalls (s.term + 1)).anc = s.anc := by
    rw [hsent.anc, State.called_anc, hanc]
  refine (execAbutmentLossTimer_eq s).trans ?_
  rw [hl]
  dsimp only
  rw [if_neg (by simp [hup, hr, hs, hc]), State.term_congr hanc, State.takeOver_alone]
  · exact (State.role_congr hall).trans hr
  · rwa [hsent.pylons, State.called_pylons, hpy]

/-! ## The change of the CRK (R442, R443) -/

theorem State.ancBlob_congr {s u : State} (h : u.anc = s.anc) (w : Nat) : u.ancBlob w = s.ancBlob w := by
  simp only [State.ancBlob, State.ancGet_congr h]

theorem Heard.blobsReady {h : Hdr} {s u : State} (hu : Heard h s u) (l : List (Nat × Bytes)) : u.blobsReady l = s.blobsReady l := by
  have hhiu : u.hiu = s.hiu := hu.frame.same .hiu (by decide)
  simp only [State.blobsReady, State.crkEpoch_congr hu.anc, hhiu]

/-- The change of the CRK that the abutment has under way. -/
def State.setCrk (c : Option (BitVec 32 × BitVec 256 × List Nat)) (s : State) : State := { s with trs.crk := c }

theorem State.setCrk_frame (c : Option (BitVec 32 × BitVec 256 × List Nat)) (s : State) : Frame [.trs] s (s.setCrk c) := by
  simp [State.setCrk, Frame]

/-- The last yes that was awaited commits the change. -/
theorem State.crkAnswer_last {m : Nat} {ep : BitVec 32} {crk : BitVec 256} {got : List Nat} {s : State}
    (hc : s.trs.crk = some (ep, crk, got)) (hm : m ∉ got) (hs : s.member ∈ got)
    (hall : ∀ x ∈ s.trs.members, x.2.isSome = true → x.1 = m ∨ x.1 ∈ got) :
    s.crkAnswer m true = ((s.setCrk none).sendDown 0xFFFF .crkCommit).applyCrk := by
  have hgot : (if got.contains m then got else got ++ [m]) = got ++ [m] := if_neg (by simpa using hm)
  rw [State.crkAnswer, hc]
  dsimp only
  rw [if_neg (by simp), hgot]
  refine if_pos ?_
  simp only [Bool.and_eq_true, List.all_eq_true, List.contains_eq_mem, List.mem_append, List.mem_singleton, decide_eq_true_eq]
  refine ⟨fun n hn => ?_, .inl hs⟩
  obtain ⟨x, hx, hxn⟩ := List.mem_filterMap.1 hn
  split at hxn
  · rename_i hsome
    exact Option.some.inj hxn ▸ (hall x hx hsome).symm
  · cases hxn

/-- A member that holds a prepared CRK begins its release, whatever messages it has sent since. -/
theorem State.applyCrk_begun {ep : BitVec 32} {crk : BitVec 256} {l : List (Nat × Bytes)} {ws : List AncW} {s t : State}
    (hf : Frame [.trs, .out] s t) (hn : t.trs.crkNext = some (ep, crk, l))
    (hws : ws = [(0x1F4, blobWords (s.ancBlob 0x1E0)), (0x1E0, (s.crkWords ep.toNat (natBe 32 crk.toNat)).1), (0x0C, [w64 ep.toNat])])
    (hv : (s.crkWords ep.toNat (natBe 32 crk.toNat)).2.mssVerdict ws = 0) :
    t.applyCrk = (t.crkWords ep.toNat (natBe 32 crk.toNat)).2.relBegun ws none none (.crkCommitted crk) := by
  obtain ⟨hwords, hpwr, -, hanc, -⟩ := State.crkWords_sent hf ep.toNat (natBe 32 crk.toNat)
  rw [State.applyCrk, hn]
  dsimp only
  rw [hwords, State.ancBlob_congr (hf.same .anc (by decide)), ← hws,
    State.mssBegin_admitted _ _ _ _ ((State.mssVerdict_congr hanc hpwr ws).trans hv)]

/-- Settles O44: the timer, the vote and the release of the new CRK are each said once above; what is recorded and written for the CRK's
IV does not depend on the messages that were sent. -/
theorem takeoverAndCrkChange : Obligations.TakeoverAndCrkChange := by
  unfold Obligations.TakeoverAndCrkChange
  refine ⟨?_, ?_, ?_, ?_, ?_, ?_, ?_, ?_, ?_, ?_, ?_, ?_, ?_, ?_, ?_, ?_⟩
  · intro at_ s hl hup hr hs hc hp
    have hsent := Sent.sendCalls (s.term + 1) ((s.advance (at_ + 2000000)).called (s.term + 1))
    have hf : Frame [.trs, .time, .out] s (((s.advance (at_ + 2000000)).called (s.term + 1)).sendCalls (s.term + 1)) :=
      ((s.advance_frame _).mono (by decide)).trans (((State.called_frame ..).mono (by decide)).trans
        (hsent.frame.mono (by decide)))
    refine ⟨_, execAbutmentLossTimer_calls hl hup hr hs hc hp, ?_, ?_, ?_, hf.same .anc (by decide), hf⟩
    · rw [hsent.trs, State.called]
    · rw [hsent.trs, State.called]
    · rw [hsent.now, State.called_now, State.advance_now]
  · intro s hs
    refine (execAbutmentLossTimer_eq s).trans ?_
    split
    · rfl
    · rename_i t ht
      have hs := hs.resolve_left (by simp [ht])
      refine if_pos ?_
      simp only [Bool.or_eq_true, Bool.not_eq_true', bne_iff_ne, ne_eq]
      tauto
  · intro h n at_ s u hu hl hr hn ht
    have hla : u.trs.abutLostAt = some at_ := by rw [(Sent.heard hu).trs]; exact hl
    refine congrArg Host.Outcome.next ((hu.recv _).trans ?_)
    rw [hla]
    dsimp only
    rw [State.role_congr hu.anc, State.term_congr hu.anc, (Sent.heard hu).now, if_pos ⟨hr, hn, ht⟩, State.ancGet_congr hu.anc]
  · intro h n s u hu hs
    have hla : u.trs.abutLostAt = s.trs.abutLostAt := by rw [(Sent.heard hu).trs]
    refine congrArg Host.Outcome.next ((hu.recv _).trans ?_)
    rw [hla]
    split
    · rename_i t ht
      refine if_neg ?_
      rw [State.role_congr hu.anc, State.term_congr hu.anc]
      rintro ⟨hr, hn, -⟩
      rcases hs with h | h | h
      · simp [ht] at h
      · exact h hr
      · omega
    · rfl
  · intro h n q ms votes s u hu hc hms hnew hq hp
    rw [execVote_counted hu hc hms hnew hq]
    refine congrArg Host.Outcome.next (if_pos ?_)
    show _ ≤ u.pylonCount
    rw [(Sent.heard hu).pylonCount, List.length_append]
    exact hp
  · intro h n q ms votes ws s u hu hc hms hnew hq hp hws hv
    have hb : State.takeOver n (votes ++ [h.src]) { u with trs.call := some (n, votes ++ [h.src]) } =
        ({ u with trs.call := none } : State).relBegun ws none none (.takeover n) := by
      refine State.takeOver_begun ?_ ?_ ?_
      · show u.pylonCount < _
        rw [(Sent.heard hu).pylonCount, List.length_append]
        exact hp
      · rw [hws, ← State.member_congr hu.anc]
        rfl
      · exact (State.mssVerdict_congr hu.anc hu.pwr ws).trans hv
    refine ⟨_, (execVote_counted hu hc hms hnew hq).trans (congrArg _ hb), (State.relBegun_begins ..).of_same rfl rfl rfl, ?_,
      Frame.trans (by simp [Frame]) ((State.relBegun_frame ..).mono (by decide))⟩
    exact congrArg Trs.call ((State.relBegun_frame ..).same .trs (by decide))
  · intro h n q ms s u hu hs
    have hcall : u.trs.call = s.trs.call := by rw [(Sent.heard hu).trs]
    refine congrArg Host.Outcome.next ((hu.recv _).trans ?_)
    rw [hcall]
    split
    · rename_i c votes hc
      exact if_pos (.inr (.inl (hs.resolve_left (by simp [hc]))))
    · rfl
  · intro h n m s u hu hn
    refine congrArg Host.Outcome.next ((hu.recv _).trans ?_)
    exact if_pos (by rwa [State.term_congr hu.anc])
  · intro h n m ws s u hu hn hws hv
    refine ⟨u.relBegun ws none none (.newTerm n m), congrArg Host.Outcome.next ((hu.recv _).trans ?_), State.relBegun_begins ..,
      State.relBegun_frame ..⟩
    have hown : (if u.role = 2 then [(0x0D, [memberWord u.member 2 m u.isStandby])] else []) ++ [(0x0E, [w64 n])] = ws := by
      rw [hws, State.role_congr hu.anc, State.member_congr hu.anc, State.isStandby_congr hu.anc]
      split <;> rfl
    dsimp only
    rw [if_neg (by rw [State.term_congr hu.anc]; omega), hown,
      State.mssBegin_admitted _ _ _ _ ((State.mssVerdict_congr hu.anc hu.pwr ws).trans hv)]
  · intro h ep crk l yes s u hu hr hyes
    simp only [exec, execCrkPrepare]
    rw [if_neg (by omega)]
    refine congrArg Host.Outcome.next ((hu.recv _).trans ?_)
    have hr2 : u.role ≠ 2 := by rw [State.role_congr hu.anc]; omega
    rw [if_neg hr2, State.crkEpoch_congr hu.anc, hu.blobsReady, ← hyes, ← State.member_congr hu.anc]
    cases yes <;> rfl
  · intro h m yes s u hu hr
    refine congrArg Host.Outcome.next ((hu.recv _).trans ?_)
    rw [State.role_congr hu.anc, if_neg hr]
  · intro h m s u hu hr hcrk
    have hc : u.trs.crk.isSome = true := by rw [(Sent.heard hu).trs]; exact hcrk
    obtain ⟨⟨ep, crk, got⟩, hc⟩ := Option.isSome_iff_exists.1 hc
    have hf := State.event06_frame { u with trs.crk := none, trs.crkNext := none }
    have htrs := hf.same .trs (by decide)
    refine ⟨State.event06 { u with trs.crk := none, trs.crkNext := none }, congrArg Host.Outcome.next ((hu.recv _).trans ?_),
      congrArg Trs.crk htrs, congrArg Trs.crkNext htrs, Eq.trans (hf.same .anc (by decide)) hu.anc,
      Eq.trans (hf.same .keys (by decide)) hu.keys,
      (hu.frame.mono (by decide)).trans (Frame.trans (by simp [Frame, reports]) (hf.mono (by decide)))⟩
    rw [State.role_congr hu.anc, if_pos hr, State.crkAnswer, hc]
    rfl
  · intro h m ep crk got s u hu hr hcrk hm hs hne
    have hc : u.trs.crk = some (ep, crk, got) := by rw [(Sent.heard hu).trs]; exact hcrk
    refine congrArg Host.Outcome.next ((hu.recv _).trans ?_)
    rw [State.role_congr hu.anc, if_pos hr, State.crkAnswer, hc]
    simp [hm, hs, hne.symm, State.member_congr hu.anc]
  · intro h m ep crk got l ws s u hu hr hcrk hm hs hall hn hws hv
    have hcu : u.trs.crk = some (ep, crk, got) := by rw [(Sent.heard hu).trs]; exact hcrk
    have hmembers : u.trs.members = s.trs.members := by rw [(Sent.heard hu).trs]
    have hd := Sent.sendDown 0xFFFF .crkCommit (u.setCrk none)
    have hf : Frame [.trs, .out] s ((u.setCrk none).sendDown 0xFFFF .crkCommit) :=
      hu.frame.trans (((State.setCrk_frame ..).mono (by decide)).trans hd.frame)
    have hfu : Frame [.trs, .out] u ((u.setCrk none).sendDown 0xFFFF .crkCommit) :=
      ((State.setCrk_frame ..).mono (by decide)).trans hd.frame
    have hnext : ((u.setCrk none).sendDown 0xFFFF .crkCommit).trs.crkNext = some (ep, crk, l) := by
      rw [hd.trs, State.setCrk, (Sent.heard hu).trs]
      exact hn
    have hnone : ((u.setCrk none).sendDown 0xFFFF .crkCommit).trs.crk = none := by rw [hd.trs, State.setCrk]
    have hmem : ∀ (c : Nat) (a : Assoc) (p : Port), s.children = [c] → u.assocOf c = some a → a.port = some p →
        .frame ⟨p, s.member, c, a.sent + 1, a.got, s.term, 0xFFFF, !a.failed p⟩ .crkCommit ∈
          ((u.setCrk none).sendDown 0xFFFF .crkCommit).out := by
      intro c a p hc ha hp
      have hcu : c ∈ u.children := (Sent.heard hu).children c (hc ▸ List.mem_singleton_self c)
      rw [← State.member_congr hu.anc, ← State.term_congr hu.anc]
      exact State.sendDown_frame_mem (s := u.setCrk none) 0xFFFF .crkCommit hcu ha hp
    have hbegun := State.applyCrk_begun hf hnext hws hv
    have hx : exec (.crkReady h m true) s = .next ((u.setCrk none).sendDown 0xFFFF .crkCommit).applyCrk := by
      refine congrArg Host.Outcome.next ((hu.recv _).trans ?_)
      rw [State.role_congr hu.anc, if_pos hr]
      exact State.crkAnswer_last hcu hm (by rwa [State.member_congr hu.anc]) (by rwa [hmembers])
    generalize (u.setCrk none).sendDown 0xFFFF .crkCommit = w at hf hfu hnext hnone hmem hbegun hx
    obtain ⟨-, hpwr, hmss, hanc, hout⟩ := State.crkWords_sent hfu ep.toNat (natBe 32 crk.toNat)
    have hwords := w.crkWords_frame ep.toNat (natBe 32 crk.toNat)
    have hrel := State.relBegun_frame ws none none (.crkCommitted crk) (w.crkWords ep.toNat (natBe 32 crk.toNat)).2
    rw [hbegun] at hx
    refine ⟨_, hx, ?_, (State.relBegun_begins ..).of_same hpwr hmss hanc, ?_⟩
    · exact (congrArg Trs.crk (Eq.trans (hrel.same .trs (by decide)) (hwords.same .trs (by decide)))).trans hnone
    · intro c a p hc ha hp
      rw [show _ = _ from hrel.same .out (by decide)]
      exact hout.subset (hmem c a p hc ha hp)
  · intro h s u hu hr hn
    refine congrArg Host.Outcome.next ((hu.recv _).trans ?_)
    rw [State.role_congr hu.anc, if_neg (by omega), State.applyCrk, (Sent.heard hu).trs]
    simp [hn]
  · intro h ep crk l ws s u hu hr hn hws hv
    have hnu : u.trs.crkNext = some (ep, crk, l) := by rw [(Sent.heard hu).trs]; exact hn
    refine ⟨_, congrArg Host.Outcome.next ((hu.recv _).trans ?_), State.relBegun_begins ..,
      ((State.crkWords_frame ..).mono (by decide)).trans ((State.relBegun_frame ..).mono (by decide))⟩
    rw [State.role_congr hu.anc, if_neg (by omega)]
    exact State.applyCrk_begun hu.frame hnu hws hv

end Sys2Proof.Machine
end

section
/-! PROOFS. The nonce of a ticket that passes (15_management_and_officers.md R576, R579): the model executes an accepted action on the
state before the request is taken up, so the nonce of its ticket does not lapse. The witness is a RECORDER_CLEAR on a module without a
key, with a ticket whose one signature verifies. -/

namespace Sys2Proof.Machine

/-! ## An action whose precondition fails (R575, R579) -/

theorem State.reply_nonces (p : Path) (typ : Nat) (tag : Word) (st : Nat) (body : Bytes) (s : State) :
    (s.reply p typ tag st body).mss.nonces = s.mss.nonces := by
  cases p with
  | pf =>
    simp only [State.reply]
    split <;> simp
  | service => rfl
  | vf n =>
    simp only [State.reply]
    split <;> rfl

theorem State.event_actionPre (code src ev p0 p1 p2 p3 : Nat) (s : State) :
    (s.event src ev p0 p1 p2 p3).actionPre code = s.actionPre code := by
  have hanc : (s.event src ev p0 p1 p2 p3).anc = s.anc := (State.event_reported ..).frame.same .anc (by decide)
  simp [State.actionPre, State.enrolled_congr hanc, State.role_congr hanc]

/-- An accepted action whose general precondition fails answers from the state in which the request arrived: every nonce is kept, that
of its ticket too. -/
theorem State.action_refused_nonces {r : ActionReq} {a : Action} {t : Nat} {s : State} (h : TakenUp r s) (hl : a.layout = 0)
    (ht : r.ticket ≠ []) (hf : r.flip = false) (hv : s.ticketVerdict a.tab a.m a.code r.body r.ticket = 0)
    (hp : s.actionPre a.code ≠ 0) : (s.action r a t).mss.nonces = s.mss.nonces := by
  obtain ⟨htaken, hpath, hrom⟩ := h
  unfold State.action
  rw [if_neg (by simp [htaken])]
  extract_lets u vf v w id
  have hvf : vf = false := by
    rcases hpath with h | h
    all_goals
      simp only [vf, h]
  rw [if_neg (by simp [hvf, hrom]), if_neg (by simp [hl]), if_neg ht, if_neg (by simp [hf]), if_neg (by simp [v, hv]), State.actAccepted]
  rw [State.event_actionPre, if_pos hp, if_pos hp, State.reply_nonces]
  exact congrArg Mss.nonces ((State.event_reported ..).frame.same .mss (by decide))

/-- A ticket that passes names a live nonce. -/
theorem State.ticketVerdict_live {tab : OffTab} {m act : Nat} {body t : Bytes} {s : State} (h : s.ticketVerdict tab m act body t = 0) :
    ∃ x ∈ s.mss.nonces, x.1 = sub t 24 32 := by
  have hform : s.ticketForm act body t = true := by
    by_contra hno
    rw [State.ticketVerdict, if_pos (by simpa using hno)] at h
    cases h
  simp only [State.ticketForm, Bool.and_eq_true, List.any_eq_true, beq_iff_eq] at hform
  exact hform.1.2

/-- An action that keeps every nonce is not judged as a ticket that passes and a precondition that fails want it. -/
theorem not_judged_of_nonces {r : ActionReq} {code layout m pre : Nat} {tab : OffTab} {s t : State} {P : State → Prop} (hl : layout = 0)
    (ht : r.ticket ≠ []) (hf : r.flip = false) (hv : s.ticketVerdict tab m code r.body r.ticket = 0) (hp : pre ≠ 0)
    (hn : t.mss.nonces = s.mss.nonces) : ¬ Judged r code layout tab m pre s t P := by
  unfold Judged
  rw [if_neg (not_not_intro hl), if_neg ht, if_neg (by simp [hf, hv]), if_pos hp]
  rintro ⟨-, -, -, hlapsed⟩
  obtain ⟨x, hx, hxn⟩ := State.ticketVerdict_live hv
  rw [← hn, hlapsed] at hx
  simpa [hxn] using (List.mem_filter.1 hx).2

/-- So is no RECORDER_CLEAR. -/
theorem not_judged_recorderClear {r : ActionReq} {s t : State} {P : State → Prop} (h : TakenUp r s) (hb : r.body = [])
    (ht : r.ticket ≠ []) (hf : r.flip = false)
    (hv : s.ticketVerdict s.offTab (s.quorumM 0x0A) 0x0A r.body r.ticket = 0) (hp : s.actionPre 0x0A ≠ 0)
    (hx : exec (.recorderClear r) s = .next t) :
    ¬ Judged r 0x0A (if r.body = [] then 0 else 0x1002) s.offTab (s.quorumM 0x0A) (s.actionPre 0x0A) s t P := by
  refine not_judged_of_nonces (if_pos hb) ht hf hv hp ?_
  cases hx
  exact State.action_refused_nonces h (if_pos hb) ht hf hv hp

/-- One RECORDER_CLEAR whose ticket passes and whose precondition fails is enough to refute the statement. -/
theorem not_otherActions_of_recorderClear {r : ActionReq} {s : State} (h : TakenUp r s) (hb : r.body = []) (ht : r.ticket ≠ [])
    (hf : r.flip = false) (hv : s.ticketVerdict s.offTab (s.quorumM 0x0A) 0x0A r.body r.ticket = 0)
    (hp : s.actionPre 0x0A ≠ 0) : ¬ Obligations.OtherActions := by
  unfold Obligations.OtherActions
  rintro ⟨-, -, hclear, -⟩
  obtain ⟨t, hx, hj⟩ := hclear r s h
  exact not_judged_recorderClear h hb ht hf hv hp hx hj

/-! ## A ticket that passes (R576, R577)

With the signature's `r` and `s` both the digest's integer, verification adds the base point and the officer's key; the key below is
chosen so that the sum has that integer as its x coordinate. -/

/-- A ticket for RECORDER_CLEAR, with TICKET_ID 4, the nonce of zeros, a window of 1 s and one record, of officer 0. -/
def clearTicket : Bytes :=
  [0x47, 0x58, 0x51, 0x54, 1, 0x0A, 0, 0] ++ natLe 8 4 ++ zeros 40 ++ natLe 4 1 ++ zeros 4 ++ sha384B [] ++ zeros 16 ++ natLe 4 1 ++
    zeros 4 ++
    hexB 48 0x3F4F61B1C0C84A2317A2C16F9BB7FDAB05FB3CBF2721FBE62B083E5ADF2A2F86A487DBBE09BF0C0C109F3A623BC5507C ++
    hexB 48 0x3F4F61B1C0C84A2317A2C16F9BB7FDAB05FB3CBF2721FBE62B083E5ADF2A2F86A487DBBE09BF0C0C109F3A623BC5507C

/-- A module without a key that has booted, whose service port is enabled: officer 0 may sign RECORDER_CLEAR, and one nonce is live. -/
def clearState : State := {
  boot := { booting := false, enItem := 4 }
  mss := { nonces := [(zeros 32, 0)] }
  anc := { words := [(0x20, 0x10400), (0x40, 0xE700FE09FF8E7C04), (0x41, 0xD126D09E7C926DA3), (0x42, 0xC10EE6E8023F8302),
    (0x43, 0x56D633A62BAAB0D5), (0x44, 0x7BE77DC54B1F6522), (0x45, 0x0C9BF83B0B78A1D5), (0x46, 0x349A4129EB2C6F10),
    (0x47, 0x9F0BFF9CF3240028), (0x48, 0xB91ABEA53720820C), (0x49, 0x8B74255857F525CF), (0x4A, 0x8E390FD9A61792E5),
    (0x4B, 0xAD57F445DE30D103), (0x4C, 0x94)] } }

/-- The request with that ticket, at the service port. -/
def clearReq : ActionReq := ⟨.service, 0, [], clearTicket, false⟩

theorem clearReq_takenUp : TakenUp clearReq clearState := ⟨by decide +kernel, .inr rfl, rfl⟩

theorem clearReq_ticket : clearReq.ticket ≠ [] := List.cons_ne_nil _ _

theorem clearTicket_form : clearState.ticketForm 0x0A [] clearTicket = true := by decide +kernel

theorem clearTicket_officers : ticketOfficers clearState.offTab (clearState.quorumM 0x0A) 0x0A clearTicket = true := by decide +kernel

theorem clearTicket_window : clearState.ticketWindow clearTicket = true := by decide +kernel

theorem clearTicket_passes :
    clearState.ticketVerdict clearState.offTab (clearState.quorumM 0x0A) 0x0A clearReq.body clearReq.ticket = 0 := by
  rw [State.ticketVerdict]
  simp only [clearReq, clearTicket_form, clearTicket_officers, clearTicket_window, Bool.not_true, Bool.false_eq_true, if_false]

/-- Without a key in the Keystone RECORDER_CLEAR is refused. -/
theorem clearState_actionPre : clearState.actionPre 0x0A ≠ 0 := by decide +kernel

/-- Refutes O56: `clearReq`, a RECORDER_CLEAR whose ticket passes and whose precondition fails, keeps the nonce of its ticket, which the
statement has lapse. -/
theorem not_otherActions : ¬ Obligations.OtherActions :=
  not_otherActions_of_recorderClear clearReq_takenUp rfl clearReq_ticket rfl clearTicket_passes clearState_actionPre

end Sys2Proof.Machine
end
